-- ==== Sys2Proof/Word.lean ====
section
/-! DEFINITION. The byte of the drive bus and the plainest arithmetic of the manual
(00_scope.md, "Arithmetic"). -/

namespace Sys2Proof

/-- One byte of the drive bus. -/
abbrev Byte := BitVec 8

/-- A saturating counter: it stops at its largest value `top`. -/
def satAdd (top x n : Nat) : Nat := min top (x + n)

end Sys2Proof
end

