-- ==== Sys2Proof/Config.lean ====
section
/-! DEFINITION. The constants the manual fixes for every part, and two free values, where two rules give one
event two outcomes. Nothing constrains a free value: what is proved holds for either outcome. -/

namespace Sys2Proof.Config

/-- P_nom, the nominal revolution period in ticks (00_scope.md, "Time"). -/
def pNom : Nat := 16667
/-- Largest last period, 2^20 - 1 (R33). -/
def periodTop : Nat := 1048575
/-- Wedges in a revolution (R58). -/
def wedges : Nat := 64
/-- Lock window, P_nom - 83 to P_nom + 83 (R38). -/
def lockLow : Nat := 16584
def lockHigh : Nat := 16750
/-- Consecutive periods in the lock window that lock the spindle (R38). -/
def lockTarget : Nat := 8
/-- Range window, P_nom - 333 to P_nom + 333 (R42). -/
def rangeLow : Nat := 16334
def rangeHigh : Nat := 17000
/-- First-index watch (R37). -/
def firstIndexTicks : Nat := 2000000
/-- Lost-index watch, 2 P_nom (R43). -/
def lostIndexTicks : Nat := 33334
/-- End of the REVERSE brake phase, 4 P_nom (R47). -/
def reverseEnd : Nat := 66668
/-- Ticks of a second (spin-up timeout, R39), of a quarter-second (stop window, R48) and of the
standby unit of 10 seconds (R53). -/
def second : Nat := 1000000
def quarterSecond : Nat := 250000
def standbyUnit : Nat := 10000000
/-- Unload watch, 2 P_nom (R74), and retract window, P_nom (R75). -/
def unloadWatchTicks : Nat := 33334
def retractTicks : Nat := 16667
/-- Wedge windows of the load timeout (R64). -/
def loadWindowLimit : Nat := 128
/-- Ejector pulse and eject window in ticks (R137). -/
def ejectorTicks : Nat := 200000
def ejectWindowTicks : Nat := 2000000
/-- Fixed drives of LOADING, UNLOADING and RETRACTING (R56). -/
def loadDrive : Int := 400
def rampDrive : Int := -500
def retractDrive : Int := -2047
/-- Recovery watch length in boundaries (R152). -/
def recoveryBoundaries : Nat := 64
/-- Sectors and bytes of the stored record (R2). -/
def recordSectors : Nat := 22
def sectorBytes : Nat := 512
/-- Highest data cylinder + 1 (R1). -/
def dataCylinders : Nat := 1224
/-- First alternate cylinder (R20). -/
def alternateBase : Nat := 1228
/-- Format mark of this record format (R3). -/
def formatMark : Nat := 412
/-- Queue length (R95), waiting EJECT tags (R120), sector-buffer slots (R104). -/
def queueMax : Nat := 4
def ejectTagMax : Nat := 4
def slotCount : Nat := 8
/-- Packets and reserved places at which the reply queue is full (R180). -/
def replyFull : Nat := 15
/-- Largest value of the six counters and of a slip tally (R169, R100). -/
def counterTop : Nat := 65535

/-! ## Free values -/

/-- The code of a FLUSH RECORD whose work of SPIN UP fails: that of the work (R99), or RECORD_WRITE_FAILED
(R9, R11). Free (assumption log 15). -/
opaque flushTakesWorkCode : Bool

/-- Whether READ FAULTS and CLEAR FAULTS are answered between a supply-low and the power-on reset, as R154
says of the SUPPLY_LOW record, or no byte moves there (R184). Free (assumption log 58). -/
opaque faultListReadable : Bool

end Sys2Proof.Config
end

