-- ==== Sys2Proof/Syntax.lean ====
section
/-! DEFINITION. The commands of the block: one constructor for each row of
spec/opcode_table.json. The rows name no operands; an operand here is what the row's rule reads from
outside the part at that event (assumption log 5 and 12). -/

namespace Sys2Proof

/-- The thirteen fault kinds, in the order of R141. -/
inductive FaultKind where
  | noRotation | spinUpTimeout | speedOutOfRange | lostIndex | spindleOvercurrent
  | actuatorSaturation | servoLost | seekTimeout | unloadFailed | overTempWarn
  | supplyLow | overTempShutdown | doorForced
  deriving DecidableEq, Repr

/-- Which byte of an inbound packet arrived with a parity error (R179). A length byte follows the
kind and tag bytes of its header, which arrived good. `lead` is one of the first payload bytes, which
follows the header and the payload bytes `good`; `payload` is a payload byte of a packet whose header and
first payload bytes have been taken. -/
inductive ParityPlace where
  | kindOrTag
  | length (kind tag : Byte)
  | lead (kind tag : Byte) (length : BitVec 16) (good : List Byte)
  | payload
  deriving DecidableEq, Repr

/-- The bytes of a header that had been taken when the host negated TURN in the middle of it
(R176). -/
inductive HeaderPart where
  | nothing
  | kindByte
  | kindAndTag (tag : Byte)
  deriving DecidableEq, Repr

/-- An extent as a COMMAND packet carries it: start LBA and count (R187). -/
structure RawExtent where
  start : BitVec 32
  count : BitVec 16
  deriving DecidableEq, Repr

/-- The commands. -/
inductive Instr where
  -- resets and comparators
  | powerOnReset (cartridgePresent writeProtect parkOnRamp : Bool)
  | supplyLow
  | overTempShutdown
  | overTempShutdownCeases
  | busReset
  | busResetRelease
  -- spindle; `timer` is the revolution timer's reading at the index (R33)
  | indexArrival (timer : Nat) (warning : Bool)
  | stoppedRevolutionBoundary (warning : Bool)
  | purgeComplete
  | wedgeTime (overCurrent : Bool)
  -- servo
  | servoSample (valid : Bool) (cylinder head : Nat) (pes : Int)
  -- timers of the spindle and the positioner
  | firstIndexWatchExpiry
  | spinUpTimerExpiry
  | lostIndexWatchExpiry
  | reversePhaseTimeout
  | stopWindowExpiry
  | standbyExpiry
  | loadTimeout
  | unloadWatchExpiry
  | parkSensorOnRamp
  | retractWindowExpiry
  | seekTimerExpiry
  | retryDelayExpiry (kind : FaultKind)
  | recoveryWatchEnd (kind : FaultKind)
  -- cartridge
  | cartridgeSensorPresent (writeProtect : Bool)
  | cartridgeSensorAbsent
  | ejectButtonPress
  | ejectorPulseEnd
  | ejectWindowExpiry
  -- read channel
  | sectorArrival (sector : Nat)
  | sectorEnd (good : Bool) (data : List Byte)
  -- drive bus; `b4 b5 b6` are the payload bytes at offsets 4, 5 and 6 (R178, R187)
  | inboundPacketHeader (kind tag : Byte) (length : BitVec 16) (b4 b5 b6 : Byte)
  | inboundParityError (place : ParityPlace)
  | turnNegated (cut : HeaderPart)
  | turnAsserted
  | outboundPacketAcked
  | dataPacketIndex (tag : Byte) (index : BitVec 16)
  | dataPacketEnd (data : List Byte)
  -- medium commands
  | read (tag flags : Byte) (extents : List RawExtent)
  | write (tag flags : Byte) (extents : List RawExtent)
  | verify (tag flags : Byte) (extents : List RawExtent)
  | seek (tag : Byte) (cylinder : BitVec 16)
  | spinUp (tag : Byte)
  | spinDown (tag : Byte)
  | flushRecord (tag : Byte)
  | reassignBlock (tag : Byte) (lba : BitVec 32)
  -- immediate commands
  | abort (tag target mode : Byte)
  | eject (tag mode force : Byte)
  | holdEject (tag : Byte)
  | releaseEject (tag : Byte)
  | clearFaults (tag : Byte)
  | readFaults (tag : Byte)
  | loadTable (tag selector : Byte) (body : List Byte)
  | readTable (tag selector copy : Byte) (first : BitVec 16)
  | tableHold (tag value : Byte)
  | latch (tag groups clear : Byte)
  | readLatched (tag : Byte)
  | status (tag : Byte)
  | attentionAck (tag : Byte)
  | endAttention (tag source : Byte)
  | setAttentionMask (tag : Byte) (mask : BitVec 16)
  | discardedPacketEnd
  deriving DecidableEq, Repr

end Sys2Proof
end

