-- ==== Sys2Proof/Machine/State.lean ====
section
/-! DEFINITION. The state of the part, as plain data: every register, count, timer, queue, buffer,
table, flag and line that the manual names, and the state right after a power-on reset
(R15, R55, R77, R94, R119, R140, R159, R173, R184, R194). Values that the manual defines as a function
of others (zone bases, capacity, spindle outputs, level requests, the ATN line, reserved places) are
computed, not stored (assumption log 29). -/

namespace Sys2Proof.Machine

/-! ## Status codes -/

/-- The status codes of the status table of chapter 10, in the order of their numbers. -/
inductive Status where
  | ok | okClamped | queued | badPacket | busParity | queueFull | tagInUse | badAddress | badExtents
  | noCartridge | notReady | writeProtected | ejectPending | ejectHeld | ejectInProgress | holdLimit
  | notHeld | noSuchTag | notYet | noSlot | dataOrder | tableInvalid | faulted | aborted
  | ejectAborted | mediumError | seekFailed | recordUnreadable | recordWriteFailed | reassignFull
  | ejectFailed
  deriving DecidableEq, Repr

/-! ## Spindle -/

/-- R32. -/
inductive SpindleState where
  | stopped | starting | accelerating | purging | atSpeed | coasting | braking
  deriving DecidableEq, Repr

/-- The stop demand (R45). -/
inductive StopDemand where
  | none | reverse | dynamic | coast
  deriving DecidableEq, Repr

/-- The brake mode in force (R47), also the brake mode field of DRIVE PARAMETERS (R163). -/
inductive BrakeMode where
  | dynamic | reverse
  deriving DecidableEq, Repr

/-- A running timer: the ticks or boundaries counted since it was started, and its length. -/
structure Timer where
  elapsed : Nat
  length : Nat
  deriving DecidableEq, Repr

/-- The Spindle Controller (chapter 3). -/
structure Spindle where
  state : SpindleState
  driveAtLimit : Bool
  brakeMode : BrakeMode
  demand : StopDemand
  brakePending : Bool
  startByWork : Bool
  revTimer : Nat
  lastPeriod : Nat
  revCount : BitVec 32
  indexSeen : Bool
  lockCount : Nat
  purgeCount : Nat
  excursionCount : Nat
  overcurrentCount : Nat
  noRotationCount : Nat
  spinUpTimeoutCount : Nat
  lostIndexCount : Nat
  firstIndexWatch : Option Timer
  spinUpTimer : Option Timer
  lostIndexWatch : Option Timer
  stopWindow : Option Timer
  boundaryTicks : Nat
  wedgeWait : Nat
  standbyElapsed : Nat
  deriving DecidableEq, Repr

/-! ## Works of SPIN UP and SPIN DOWN -/

/-- The step that a work of SPIN UP has reached (R49). -/
inductive WorkStep where
  | cartridge | spindle | heads | record
  deriving DecidableEq, Repr

/-- Who waits for a work of SPIN UP or for a write-back: the head entry, the standby spin-down, a SPIN
DOWN left running by a bus reset, the FLUSHING phase of an eject, or nobody any more. -/
inductive Who where
  | cmd | standby | orphan | eject | lost
  deriving DecidableEq, Repr

/-- The one work of SPIN UP in flight, which later ones join (R49). `cut` is an ending that waits for
a record read in flight (R101). -/
structure SpinUpWork where
  step : WorkStep
  forCmd : Bool
  forStandby : Bool
  forOrphan : Bool
  forEject : Bool
  forLost : Bool
  cut : Option Status
  deriving DecidableEq, Repr

/-- The step that a work of SPIN DOWN has reached (R51); `point` is the write-back point, `work` the
work of SPIN UP run for it, `writeBack` the write-back itself, `ask` the unload request about to be
made, `unload` the wait for UNLOADED. -/
inductive DownStep where
  | point | work | writeBack | ask | unload | stop
  deriving DecidableEq, Repr

/-- The works of SPIN DOWN in flight: the head entry's (R51), the standby timer's (R54), and one left
running by a bus reset (R52). `standbyLeft`: an eject request has ended the internal spin-down of standby,
and its work runs on (R54, R132; assumption log 30). -/
structure Downs where
  cmd : Option DownStep
  standby : Option DownStep
  orphan : Option DownStep
  standbyLeft : Bool
  deriving DecidableEq, Repr

/-! ## Positioner -/

/-- R56. -/
inductive PosState where
  | unloaded | loading | settling | tracking | seeking | unloading | retracting
  deriving DecidableEq, Repr

/-- The phases of UNLOADING (R73, R74). -/
inductive UnloadPhase where
  | toCylinder0 | toRamp
  deriving DecidableEq, Repr

/-- The record of position, whose fields are present and absent together (R57). -/
structure Fix where
  cylinder : Nat
  pes : Int
  position : Int
  previous : Int
  velocity : Int
  since : Nat
  deriving DecidableEq, Repr

/-- The wedge window (R58). -/
inductive Window where
  | closed | waiting | taken
  deriving DecidableEq, Repr

/-- The requester of a seek (R78). -/
inductive Requester where
  | none | seekCommand | engine
  deriving DecidableEq, Repr

/-- The Positioner (chapters 4 and 5). `restartLoad`: the load in progress was asked for by a restart,
whether or not that restart is still outstanding (R5, R151). -/
structure Positioner where
  state : PosState
  phase : UnloadPhase
  fix : Option Fix
  head : Nat
  target : Option Nat
  settleCount : Nat
  dropCount : Nat
  current : Int
  parkUnconfirmed : Bool
  hold : Bool
  parkSensor : Bool
  loadByWork : Bool
  restartLoad : Bool
  window : Window
  loadWindows : Nat
  unloadWatch : Option Timer
  unloadFailedCount : Nat
  retractWindow : Option Timer
  causing : Option FaultKind
  requester : Requester
  timerOn : Bool
  timerLength : Nat
  timerCount : Nat
  clampCount : Nat
  seekTimeoutCount : Nat
  deriving DecidableEq, Repr

/-! ## Loadable tables -/

/-- A row of the SEEK PROFILE (R161). -/
structure ProfileRow where
  dist : Nat
  speed : Nat
  deriving DecidableEq, Repr

/-- R161. -/
structure SeekProfile where
  rows : List ProfileRow
  kv : Nat
  kp : Nat
  ilim : Nat
  deriving DecidableEq, Repr

/-- R162. -/
inductive FaultMode where
  | off | report | retry | latch
  deriving DecidableEq, Repr

/-- R162. -/
inductive SpindleAction where
  | none | coast | dynamic | reverse
  deriving DecidableEq, Repr

/-- R162. -/
inductive PosAction where
  | none | hold | unload | retract
  deriving DecidableEq, Repr

/-- A row of FAULT ACTIONS (R162). -/
structure FaultRow where
  mode : FaultMode
  spindle : SpindleAction
  positioner : PosAction
  deglitch : Nat
  budget : Nat
  delay : Nat
  deriving DecidableEq, Repr

/-- FAULT ACTIONS: one row for each of the ten configurable kinds (R162). -/
structure FaultActions where
  noRotation : FaultRow
  spinUpTimeout : FaultRow
  speedOutOfRange : FaultRow
  lostIndex : FaultRow
  spindleOvercurrent : FaultRow
  actuatorSaturation : FaultRow
  servoLost : FaultRow
  seekTimeout : FaultRow
  unloadFailed : FaultRow
  overTempWarn : FaultRow
  deriving DecidableEq, Repr

/-- The mode of an eject (R120), also the button eject mode field (R163). -/
inductive EjectMode where
  | drain | cut
  deriving DecidableEq, Repr

/-- R163. -/
structure DriveParams where
  purgeRevs : Nat
  spinUpTimeout : Nat
  stopWindow : Nat
  standby : Nat
  brakeMode : BrakeMode
  readRetries : Nat
  writeRetries : Nat
  settleWindow : Nat
  settleCount : Nat
  offTrack : Nat
  seekTimeout : Nat
  autoSpin : Bool
  buttonMode : EjectMode
  autoEnd : Bool
  deriving DecidableEq, Repr

/-- A complete copy of one table. -/
inductive LoadedTable where
  | profile (t : SeekProfile)
  | actions (t : FaultActions)
  | params (t : DriveParams)
  deriving DecidableEq, Repr

/-- The default SEEK PROFILE (R161). -/
def SeekProfile.defaults : SeekProfile :=
  ⟨[⟨0, 0⟩, ⟨1, 24⟩, ⟨4, 64⟩, ⟨16, 160⟩, ⟨64, 320⟩, ⟨256, 512⟩], 40, 48, 1600⟩

/-- The default FAULT ACTIONS (R141). -/
def FaultActions.defaults : FaultActions where
  noRotation := ⟨.retry, .coast, .none, 1, 2, 120⟩
  spinUpTimeout := ⟨.latch, .coast, .none, 1, 1, 60⟩
  speedOutOfRange := ⟨.retry, .dynamic, .unload, 4, 3, 60⟩
  lostIndex := ⟨.latch, .coast, .retract, 1, 1, 60⟩
  spindleOvercurrent := ⟨.latch, .coast, .retract, 3, 1, 60⟩
  actuatorSaturation := ⟨.retry, .none, .hold, 32, 3, 2⟩
  servoLost := ⟨.retry, .none, .retract, 4, 2, 30⟩
  seekTimeout := ⟨.retry, .none, .hold, 1, 3, 1⟩
  unloadFailed := ⟨.latch, .none, .retract, 1, 1, 60⟩
  overTempWarn := ⟨.report, .none, .none, 8, 1, 60⟩

/-- The default DRIVE PARAMETERS (R163). -/
def DriveParams.defaults : DriveParams where
  purgeRevs := 300
  spinUpTimeout := 20
  stopWindow := 4
  standby := 30
  brakeMode := .dynamic
  readRetries := 8
  writeRetries := 4
  settleWindow := 16
  settleCount := 4
  offTrack := 24
  seekTimeout := 30
  autoSpin := true
  buttonMode := .drain
  autoEnd := false

/-! ## Cartridge and record -/

/-- R120. -/
inductive CartState where
  | absent | seated | latched | stopCheck | ejectPending | ejecting
  deriving DecidableEq, Repr

/-- R120. -/
inductive EjectPhase where
  | draining | flushing | unloading | stopping
  deriving DecidableEq, Repr

/-- The point that the FLUSHING phase has reached (R134): nothing begun, its work of SPIN UP, its
write-back. -/
inductive FlushPoint where
  | undecided | work | writeBack
  deriving DecidableEq, Repr

/-- The eject record (R120). The phase is absent in EJECTING. -/
structure EjectRecord where
  phase : Option EjectPhase
  mode : EjectMode
  force : Bool
  tags : List Byte
  flush : FlushPoint
  deriving DecidableEq, Repr

/-- The Cartridge Control Unit (chapter 7). -/
structure Cartridge where
  state : CartState
  latch : Bool
  releasePending : Bool
  ejector : Bool
  eject : Option EjectRecord
  ejectWindow : Option Timer
  holdCount : Nat
  buttonRefused : Bool
  mediaChange : Nat
  protect : Bool
  present : Bool
  deriving DecidableEq, Repr

/-- A zone of the zone table (R3). -/
structure Zone where
  first : Nat
  spt : Nat
  sp : Nat
  deriving DecidableEq, Repr

/-- An entry of the slip list (R3). -/
structure SlipEntry where
  cylinder : Nat
  slot : Nat
  deriving DecidableEq, Repr

/-- An entry of the reassign table (R3). -/
structure Reassign where
  lba : Nat
  alternate : Nat
  deriving DecidableEq, Repr

/-- The fields of a cartridge record (R3) but the record check word, which the record unit holds; the
counts are the lengths of the lists. -/
structure Image where
  formatMark : Nat
  generation : Nat
  serial : Nat
  zones : List Zone
  slips : List SlipEntry
  reassigns : List Reassign
  nextAlternate : Nat
  deriving DecidableEq, Repr

/-- R4. -/
inductive RecordState where
  | notRead | valid | dirty | unreadable
  deriving DecidableEq, Repr

/-- R4. -/
inductive UnreadableReason where
  | check | format
  deriving DecidableEq, Repr

/-- A record read in flight (R5): the sectors read, and the retry count of each sector. -/
structure RecordRead where
  got : List (Option (List Byte))
  retries : List Nat
  deriving DecidableEq, Repr

/-- A write-back in flight (R10): who started it, the outgoing sectors, the new generation, the next
sector, the deferrals of that sector, the slot that holds it, and whether the heads have reached
physical cylinder 0, head 0, since it started. -/
structure WriteBack where
  owner : Who
  sectors : List (List Byte)
  generation : Nat
  next : Nat
  deferrals : Nat
  slot : Option Nat
  reached : Bool
  deriving DecidableEq, Repr

/-- The record operation in flight. -/
inductive RecordOp where
  | idle
  | reading (r : RecordRead)
  | writing (w : WriteBack)
  deriving DecidableEq, Repr

/-- The record image with its record check word (R3), its state and the record operation
(chapter 1). -/
structure RecordUnit where
  state : RecordState
  reason : Option UnreadableReason
  image : Option Image
  check : Option (BitVec 16)
  op : RecordOp
  readWanted : Bool
  deriving DecidableEq, Repr

/-! ## Command Queue and Transfer Engine -/

/-- An extent of a queue entry (R95). -/
structure Extent where
  start : Nat
  count : Nat
  deriving DecidableEq, Repr

/-- The three transfer commands. -/
inductive XferKind where
  | read | write | verify
  deriving DecidableEq, Repr

/-- The command of a queue entry with its operands (R95). -/
inductive MediumCmd where
  | xfer (kind : XferKind) (goOn : Bool) (extents : List Extent)
  | seek (cylinder : Nat)
  | spinUp
  | spinDown
  | flush
  | reassign (lba : Nat)
  deriving DecidableEq, Repr

/-- An entry of the Command Queue (R95). -/
structure Entry where
  tag : Byte
  cmd : MediumCmd
  executing : Bool
  deriving DecidableEq, Repr

/-- What the EXECUTING head entry is doing: running the work of SPIN UP; about to do its own work;
waiting for the engine; transferring; a READ sending its last DATA packets before it completes with a
status; seeking; running its work of SPIN DOWN; writing the record back. -/
inductive Job where
  | idle | work | ready | waitEngine | transfer | drain (st : Status) | seeking | down | flush
  deriving DecidableEq, Repr

/-- R102. -/
inductive EngineState where
  | idle | seekWait | rotateWait | transferring | retryWait
  deriving DecidableEq, Repr

/-- A translation result (R17). -/
structure Placement where
  alternate : Bool
  cylinder : Nat
  head : Nat
  sector : Nat
  dataCylinder : Option Nat
  zone : Option Nat
  alternateSlot : Option Nat
  deriving DecidableEq, Repr

/-- What the sector passing under the head is for. -/
inductive FlightKind where
  | read | write | verify
  | recordRead (sector : Nat)
  | recordWrite
  deriving DecidableEq, Repr

/-- The sector in flight. `spoiled`: the heads left the track during it (R107). `orphan`: its command
has left the queue (R118). -/
structure Flight where
  kind : FlightKind
  slot : Option Nat
  spoiled : Bool
  orphan : Bool
  deriving DecidableEq, Repr

/-- The Transfer Engine (R102, R103): state, cursor, the block at the cursor, the command's tallies, the
next expected DATA index of the WRITE, and the sector in flight. -/
structure Engine where
  state : EngineState
  extent : Nat
  block : Nat
  seq : Nat
  place : Option Placement
  retry : Nat
  completed : Nat
  errors : Nat
  slips : Nat
  firstError : Option Nat
  damaged : Option Nat
  nextIndex : Nat
  flight : Option Flight
  deriving DecidableEq, Repr

/-- R104. -/
inductive SlotState where
  | empty | filling | full | draining
  deriving DecidableEq, Repr

/-- A sector-buffer slot (R104). -/
structure Slot where
  state : SlotState
  tag : Option Byte
  seq : Nat
  lba : Nat
  retry : Nat
  data : List Byte
  deriving DecidableEq, Repr

/-- An EMPTY slot. -/
def Slot.none : Slot := ⟨.empty, .none, 0, 0, 0, []⟩

/-- The engine with no transfer. -/
def Engine.none : Engine :=
  ⟨.idle, 0, 0, 0, .none, 0, 0, 0, 0, .none, .none, 0, .none⟩

/-! ## Fault Supervisor -/

/-- R144. -/
inductive FaultState where
  | reported | retrying | latched | recovered
  deriving DecidableEq, Repr

/-- R144. -/
inductive SubCause where
  | load | retractUnconfirmed
  deriving DecidableEq, Repr

/-- A fault record (R144). -/
structure FaultRecord where
  kind : FaultKind
  state : FaultState
  sub : Option SubCause
  occurrences : Nat
  first : BitVec 32
  last : BitVec 32
  cylinder : Option Nat
  spindle : SpindleState
  positioner : PosState
  retries : Nat
  kept : Option FaultRow
  deriving DecidableEq, Repr

/-- What the FSV keeps for each kind beside its record (R141): whether its condition is present, its
retry delay, whether a restart is outstanding, the start and load requests of that restart, and its
recovery watch. -/
structure KindStatus where
  present : Bool
  delay : Option Timer
  restarting : Bool
  wantsStart : Bool
  wantsLoad : Bool
  watch : Option Nat
  deriving DecidableEq, Repr

/-- One value for each fault kind. -/
structure PerKind (α : Type) where
  noRotation : α
  spinUpTimeout : α
  speedOutOfRange : α
  lostIndex : α
  spindleOvercurrent : α
  actuatorSaturation : α
  servoLost : α
  seekTimeout : α
  unloadFailed : α
  overTempWarn : α
  supplyLow : α
  overTempShutdown : α
  doorForced : α
  deriving DecidableEq, Repr

/-- The value of a kind. -/
def PerKind.get {α : Type} (m : PerKind α) : FaultKind → α
  | .noRotation => m.noRotation
  | .spinUpTimeout => m.spinUpTimeout
  | .speedOutOfRange => m.speedOutOfRange
  | .lostIndex => m.lostIndex
  | .spindleOvercurrent => m.spindleOvercurrent
  | .actuatorSaturation => m.actuatorSaturation
  | .servoLost => m.servoLost
  | .seekTimeout => m.seekTimeout
  | .unloadFailed => m.unloadFailed
  | .overTempWarn => m.overTempWarn
  | .supplyLow => m.supplyLow
  | .overTempShutdown => m.overTempShutdown
  | .doorForced => m.doorForced

/-- The values with one kind's replaced. -/
def PerKind.set {α : Type} (m : PerKind α) (k : FaultKind) (v : α) : PerKind α :=
  match k with
  | .noRotation => { m with noRotation := v }
  | .spinUpTimeout => { m with spinUpTimeout := v }
  | .speedOutOfRange => { m with speedOutOfRange := v }
  | .lostIndex => { m with lostIndex := v }
  | .spindleOvercurrent => { m with spindleOvercurrent := v }
  | .actuatorSaturation => { m with actuatorSaturation := v }
  | .servoLost => { m with servoLost := v }
  | .seekTimeout => { m with seekTimeout := v }
  | .unloadFailed => { m with unloadFailed := v }
  | .overTempWarn => { m with overTempWarn := v }
  | .supplyLow => { m with supplyLow := v }
  | .overTempShutdown => { m with overTempShutdown := v }
  | .doorForced => { m with doorForced := v }

/-- The same change for every kind. -/
def PerKind.map {α β : Type} (f : α → β) (m : PerKind α) : PerKind β :=
  ⟨f m.noRotation, f m.spinUpTimeout, f m.speedOutOfRange, f m.lostIndex, f m.spindleOvercurrent,
   f m.actuatorSaturation, f m.servoLost, f m.seekTimeout, f m.unloadFailed, f m.overTempWarn,
   f m.supplyLow, f m.overTempShutdown, f m.doorForced⟩

/-- The same value for every kind. -/
def PerKind.fill {α : Type} (v : α) : PerKind α := ⟨v, v, v, v, v, v, v, v, v, v, v, v, v⟩

/-- The thirteen kinds, in the order of R141. -/
def FaultKind.all : List FaultKind :=
  [.noRotation, .spinUpTimeout, .speedOutOfRange, .lostIndex, .spindleOvercurrent,
   .actuatorSaturation, .servoLost, .seekTimeout, .unloadFailed, .overTempWarn,
   .supplyLow, .overTempShutdown, .doorForced]

/-- Whether a kind's status satisfies a test for some kind. -/
def PerKind.any {α : Type} (p : α → Bool) (m : PerKind α) : Bool :=
  FaultKind.all.any fun k => p (m.get k)

/-- The Fault Supervisor (chapter 8). -/
structure Supervisor where
  records : List FaultRecord
  kinds : PerKind KindStatus
  otwCount : Nat
  deriving DecidableEq, Repr

/-! ## Attention -/

/-- The twelve attention sources, in the order of their codes (R189). -/
inductive Source where
  | faultLatched | faultReported | partReset | commandDone | dataReady | dataWanted
  | cartridgeInserted | ejectButton | cartridgeRemoved | spindleReady | tablesTaken | ejectFailed
  deriving DecidableEq, Repr

/-- The twelve sources in the order of their codes. -/
def Source.all : List Source :=
  [.faultLatched, .faultReported, .partReset, .commandDone, .dataReady, .dataWanted,
   .cartridgeInserted, .ejectButton, .cartridgeRemoved, .spindleReady, .tablesTaken, .ejectFailed]

/-- The Attention Controller (chapter 11): the edge requests, the in-service set and the mask set, each
held in the order of the codes. The level requests are computed (R189). -/
structure Attention where
  requests : List Source
  inService : List Source
  mask : List Source
  deriving DecidableEq, Repr

/-! ## Table Store and snapshots -/

/-- The six counters (R169). -/
structure Counters where
  revolutionSlips : Nat
  readRetries : Nat
  writeDeferrals : Nat
  sampleDrops : Nat
  trackSlips : Nat
  seeksCompleted : Nat
  deriving DecidableEq, Repr

/-- The counters at 0. -/
def Counters.zero : Counters := ⟨0, 0, 0, 0, 0, 0⟩

/-- The SPINDLE snapshot group (R169). -/
structure SpindleSnap where
  state : SpindleState
  lastPeriod : Nat
  revCount : BitVec 32
  deriving DecidableEq, Repr

/-- The POSITION snapshot group (R169), with the target of a seek in flight (R78). -/
structure PositionSnap where
  state : PosState
  cylinder : Option Nat
  head : Nat
  pes : Option Int
  current : Int
  target : Option Nat
  deriving DecidableEq, Repr

/-- R172. -/
inductive ResetCause where
  | powerOn | supplyLow | busReset
  deriving DecidableEq, Repr

/-- The Table Store (chapter 9): active and staged tables, table-hold flag, snapshot latches, last
reset cause. -/
structure TableStore where
  profile : SeekProfile
  actions : FaultActions
  params : DriveParams
  stagedProfile : Option SeekProfile
  stagedActions : Option FaultActions
  stagedParams : Option DriveParams
  hold : Bool
  snapSpindle : Option SpindleSnap
  snapPosition : Option PositionSnap
  snapCounters : Option Counters
  resetCause : ResetCause
  deriving DecidableEq, Repr

/-! ## Drive Bus Interface -/

/-- The values of a STATUS reply (R172). -/
structure StatusReport where
  cartridge : CartState
  phase : Option EjectPhase
  record : RecordState
  reason : Option UnreadableReason
  protect : Bool
  holdCount : Nat
  buttonRefused : Bool
  spindle : SpindleState
  positioner : PosState
  cylinder : Option Nat
  head : Nat
  depth : Nat
  executing : Option Byte
  latchedKinds : List FaultKind
  source : Option Source
  mediaChange : Nat
  cause : ResetCause
  target : Option Nat
  deriving DecidableEq, Repr

/-- A set of snapshot groups (R170). -/
structure Groups where
  spindle : Bool
  position : Bool
  counters : Bool
  deriving DecidableEq, Repr

/-- What a REPLY carries after its status. -/
inductive ReplyBody where
  | empty
  | dataIndex (index : Nat)
  | clamped (n : Nat)
  | cleared (removed remaining : Nat)
  | faults (l : List FaultRecord)
  | table (t : LoadedTable)
  | staged (t : Option LoadedTable)
  | zones (img : Image)
  | reassigns (img : Image)
  | slips (img : Image) (first : Nat)
  | latched (captured already : Groups)
  | snapshots (sp : Option SpindleSnap) (po : Option PositionSnap) (co : Option Counters)
  | status (r : StatusReport)
  | source (s : Option Source)
  deriving DecidableEq, Repr

/-- A packet of the reply queue: a REPLY, or a DONE with the fields of R100. -/
inductive Packet where
  | reply (tag : Byte) (st : Status) (body : ReplyBody)
  | done (tag : Byte) (st : Status) (completed errors slips : Nat) (firstError damaged : Option Nat)
  deriving DecidableEq, Repr

/-- The header of an inbound packet with the payload bytes that decide its framing, as many of the
first three as the payload has (R177, R178). -/
structure Header where
  kind : Byte
  tag : Byte
  length : Nat
  lead : List Byte
  deriving DecidableEq, Repr

/-- The inbound assembly (R177 to R180): nothing; the first byte of a packet waiting unacknowledged; the
payload of a packet arriving; a DATA packet filling a slot; the rest of a refused packet being
discarded, to its end or until TURN is negated. -/
inductive Inbound where
  | idle
  | waiting (h : Header)
  | payload (h : Header)
  | data (tag : Byte) (index : Nat) (slot : Nat)
  | discard
  | discardTurn
  deriving DecidableEq, Repr

/-- The outbound packet in flight (R181): the oldest packet of the reply queue, or the DATA packet of a
slot with the tag in its header, which is `live` while its command has not been ended. -/
inductive Outbound where
  | none
  | queued
  | data (slot : Nat) (tag : Byte) (live : Bool)
  deriving DecidableEq, Repr

/-- The Drive Bus Interface (chapter 10). `answers` is how many packets at the front of the reply queue answer
a READ FAULTS or CLEAR FAULTS taken after a supply-low (R154, R184; assumption log 58). -/
structure Bus where
  inb : Inbound
  out : Outbound
  replies : List Packet
  answers : Nat
  turn : Bool
  busReset : Bool
  stb : Bool
  ack : Bool
  deriving DecidableEq, Repr

/-! ## The whole part -/

/-- The state of the part and the commands waiting for it. -/
structure State where
  pending : List Instr
  dbi : Bus
  queue : List Entry
  job : Job
  endWith : Option Status
  eng : Engine
  slots : List Slot
  spc : Spindle
  work : Option SpinUpWork
  downs : Downs
  pos : Positioner
  ccu : Cartridge
  record : RecordUnit
  fsv : Supervisor
  tbs : TableStore
  counters : Counters
  atc : Attention
  supplyLow : Bool
  deriving DecidableEq, Repr

/-- Why the machine stops with a fault: never. Every event has an effect that the manual gives, or
none; the drive's own faults are state (chapter 8). Safe (assumption log 37). -/
inductive Fault where
  deriving DecidableEq, Repr

/-- Why a command is not run. -/
inductive Refusal where
  /-- Raised by `exec` for a row that has no meaning yet; no row is left so. Safe. -/
  | notModelled (mnemonic : String)
  deriving DecidableEq, Repr

/-- Nothing kept for a kind. -/
def KindStatus.none : KindStatus := ⟨false, .none, false, false, false, .none⟩

/-- The state right after a power-on reset (R15, R55, R77, R94, R119, R125, R140, R159, R173, R184,
R194), for the levels that the reset finds on the input lines and the cause the reset logic reports.
`turn` and `bus` are the levels of TURN and BUS_RESET, `waiting` the commands waiting outside. The
phase field, which the manual gives a value in UNLOADING only, holds `toRamp` (assumption log 47). -/
def State.powerOn (cause : ResetCause) (present protect park turn bus : Bool)
    (waiting : List Instr) : State where
  pending := waiting
  dbi := ⟨.idle, .none, [], 0, turn, bus, false, false⟩
  queue := []
  job := .idle
  endWith := .none
  eng := Engine.none
  slots := List.replicate Config.slotCount Slot.none
  spc :=
    { state := .coasting, driveAtLimit := false, brakeMode := .dynamic, demand := .coast,
      brakePending := false, startByWork := false, revTimer := 0, lastPeriod := 0, revCount := 0,
      indexSeen := false, lockCount := 0, purgeCount := 0, excursionCount := 0,
      overcurrentCount := 0, noRotationCount := 0, spinUpTimeoutCount := 0, lostIndexCount := 0,
      firstIndexWatch := .none, spinUpTimer := .none, lostIndexWatch := .none,
      stopWindow := .some ⟨0, DriveParams.defaults.stopWindow * Config.quarterSecond⟩,
      boundaryTicks := 0, wedgeWait := Config.pNom / Config.wedges, standbyElapsed := 0 }
  work := .none
  downs := ⟨.none, .none, .none, false⟩
  pos :=
    { state := if park then .unloaded else .retracting, phase := .toRamp, fix := .none, head := 0,
      target := .none, settleCount := 0, dropCount := 0,
      current := if park then 0 else -(SeekProfile.defaults.ilim : Int),
      parkUnconfirmed := false, hold := false, parkSensor := park, loadByWork := false,
      restartLoad := false, window := .closed, loadWindows := 0, unloadWatch := .none, unloadFailedCount := 0,
      retractWindow := if park then .none else .some ⟨0, Config.retractTicks⟩,
      causing := .none, requester := .none, timerOn := false, timerLength := 0, timerCount := 0,
      clampCount := 0, seekTimeoutCount := 0 }
  ccu :=
    { state := if present then .stopCheck else .absent, latch := true, releasePending := !present,
      ejector := false, eject := .none, ejectWindow := .none, holdCount := 0,
      buttonRefused := false, mediaChange := 0, protect := present && protect, present := present }
  record := ⟨.notRead, .none, .none, .none, .idle, false⟩
  fsv := ⟨[], PerKind.fill KindStatus.none, 0⟩
  tbs :=
    { profile := SeekProfile.defaults, actions := FaultActions.defaults,
      params := DriveParams.defaults, stagedProfile := .none, stagedActions := .none,
      stagedParams := .none, hold := false, snapSpindle := .none, snapPosition := .none,
      snapCounters := .none, resetCause := cause }
  counters := Counters.zero
  atc := ⟨[.partReset], [], []⟩
  supplyLow := false

/-- The machine right after reset: power applied to a drive with no cartridge, the heads on the ramp,
the host holding the turn and BUS_RESET negated (the levels of the input lines are assumption log 1). -/
def State.reset : State := State.powerOn .powerOn false false true true false []

end Sys2Proof.Machine
end

