-- ==== Sys2Proof/Machine/Translate.lean ====
section
/-! DEFINITION. The Address Translator: the values derived from the zone table (R16) and the
translation of a logical block address (R17 to R23). -/

namespace Sys2Proof.Machine

/-- C_z, the cylinders of a zone that the zones of `rest` follow (R16). -/
def zoneCylinders (z : Zone) : List Zone → Nat
  | [] => Config.dataCylinders - z.first
  | y :: _ => y.first - z.first

/-- LPC_z (R16). -/
def Zone.lpc (z : Zone) : Nat := 2 * z.spt - z.sp

/-- The zones with their bases, from base `b` on (R16). -/
def zoneBases (b : Nat) : List Zone → List (Zone × Nat)
  | [] => []
  | z :: rest => (z, b) :: zoneBases (b + zoneCylinders z rest * z.lpc) rest

/-- The base one past the last zone (R16). -/
def capacityFrom (b : Nat) : List Zone → Nat
  | [] => b
  | z :: rest => capacityFrom (b + zoneCylinders z rest * z.lpc) rest

/-- The capacity of a zone table (R16). -/
def capacityOf (zones : List Zone) : Nat := capacityFrom 0 zones

/-- SPT of the last zone (R20). -/
def lastSpt (zones : List Zone) : Nat := (zones.getLast?.map Zone.spt).getD 0

/-- The alternate slot count, 4 × A with A = 2 × SPT of the last zone (R16). -/
def alternateCount (zones : List Zone) : Nat := 4 * (2 * lastSpt zones)

/-- The zone of a physical data cylinder's number d: the last one whose first cylinder is at or
below d. -/
def zoneOfCylinder (zones : List Zone) (d : Nat) : Option Zone :=
  (zones.filter fun z => decide (z.first ≤ d)).getLast?

/-- The zone stage (R21): the largest zone number with B_z ≤ L, that zone and its base. `n` is the
number of the first zone of the list. -/
def zoneStage (n : Nat) (l : Nat) : List (Zone × Nat) → Option (Nat × Zone × Nat)
  | [] => none
  | (z, b) :: rest =>
    match zoneStage (n + 1) l rest with
    | some r => some r
    | none => if b ≤ l then some (n, z, b) else none

/-- The slip stage (R23): from logical position k to the slot of the cylinder. -/
def slipStage (slips : List SlipEntry) (d k : Nat) : Nat :=
  (slips.filter fun e => e.cylinder == d).foldl (fun s e => if e.slot ≤ s then s + 1 else s) k

/-- The alternate layout (R20). -/
def alternatePlace (img : Image) (a : Nat) : Placement :=
  let spt := lastSpt img.zones
  let q := a % (2 * spt)
  { alternate := true, cylinder := Config.alternateBase + a / (2 * spt), head := q / spt,
    sector := q % spt, dataCylinder := none, zone := none, alternateSlot := some a }

/-- The zone, cylinder and slip stages (R21 to R23). -/
def dataPlace (img : Image) (l : Nat) : Option Placement :=
  match zoneStage 0 l (zoneBases 0 img.zones) with
  | none => none
  | some (n, z, b) =>
    let d := z.first + (l - b) / z.lpc
    let s := slipStage img.slips d ((l - b) % z.lpc)
    some { alternate := false, cylinder := d + 4, head := s / z.spt, sector := s % z.spt,
           dataCylinder := some d, zone := some n, alternateSlot := none }

/-- The translation (R17): the reassign stage first (R19), then the data stages. -/
def translation (img : Image) (l : Nat) : Option Placement :=
  match img.reassigns.find? fun e => e.lba == l with
  | some e => some (alternatePlace img e.alternate)
  | none => dataPlace img l

/-- The insertion of a reassign entry that keeps the table in ascending LBA order, or the replacement
of the entry the address has (R29). -/
def insertReassign (l a : Nat) : List Reassign → List Reassign
  | [] => [⟨l, a⟩]
  | e :: rest =>
    if e.lba == l then ⟨l, a⟩ :: rest
    else if l < e.lba then ⟨l, a⟩ :: e :: rest
    else e :: insertReassign l a rest

end Sys2Proof.Machine
end

