-- ==== Sys2Proof/Machine/Flags.lean ====
section
/-! DEFINITION. What the manual computes from the state and does not store: the output lines, the
counts, the gates, the level requests and the pending source (assumption log 29). -/

namespace Sys2Proof.Machine

/-! ## Spindle and Positioner -/

/-- The states with the drive on (R32). -/
def SpindleState.powered : SpindleState → Bool
  | .starting | .accelerating | .purging | .atSpeed => true
  | _ => false

/-- STOPPED, COASTING or BRAKING (R166). -/
def SpindleState.idle : SpindleState → Bool
  | .stopped | .coasting | .braking => true
  | _ => false

/-- PURGING or AT_SPEED, in which the speed is supervised (R42 to R44). -/
def SpindleState.supervised : SpindleState → Bool
  | .purging | .atSpeed => true
  | _ => false

/-- SETTLING, TRACKING or SEEKING. -/
def PosState.flying : PosState → Bool
  | .settling | .tracking | .seeking => true
  | _ => false

/-- The spindle outputs of R32: drive, dynamic brake, reverse drive. -/
def State.drive (s : State) : Bool := s.spc.state.powered
def State.dynamicBrake (s : State) : Bool :=
  s.spc.state == .braking && s.spc.brakeMode == .dynamic
def State.reverseDrive (s : State) : Bool :=
  s.spc.state == .braking && s.spc.brakeMode == .reverse

/-- The spindle is ready (R99). -/
def State.spindleReady (s : State) : Bool := s.spc.state == .atSpeed && s.pos.state.flying

/-- The spindle STOPPED and the positioner UNLOADED (R126). -/
def State.atRest (s : State) : Bool := s.spc.state == .stopped && s.pos.state == .unloaded

/-- The pending start (R35). -/
def State.pendingStart (s : State) : Bool :=
  s.spc.startByWork || s.fsv.kinds.any KindStatus.wantsStart

/-- The pending load (R62). -/
def State.pendingLoad (s : State) : Bool :=
  s.pos.loadByWork || s.fsv.kinds.any KindStatus.wantsLoad

/-- The Positioner takes samples (R58). -/
def State.takesSamples (s : State) : Bool :=
  match s.pos.state with
  | .loading | .settling | .tracking | .seeking => true
  | .unloading => s.pos.phase == .toCylinder0
  | _ => false

/-- The Positioner is TRACKING on a cylinder and head. -/
def State.trackingOn (s : State) (cylinder head : Nat) : Bool :=
  s.pos.state == .tracking && s.pos.target == some cylinder && s.pos.head == head

/-- The Positioner's write verdict (R69). -/
def State.writePermit (s : State) : Bool :=
  s.pos.state == .tracking && !s.pos.hold &&
  match s.pos.fix with
  | none => false
  | some f => s.pos.target == some f.cylinder && decide (f.pes.natAbs ≤ s.tbs.params.offTrack)

/-- The whole write gate (R69). -/
def State.writeGate (s : State) : Bool :=
  s.writePermit && s.spc.state == .atSpeed && !s.ccu.protect &&
  (s.ccu.state == .latched || s.ccu.state == .ejectPending)

/-! ## Faults -/

/-- The record of a kind (R144). -/
def State.recordOf (s : State) (k : FaultKind) : Option FaultRecord :=
  s.fsv.records.find? fun r => r.kind == k

/-- At least one record is LATCHED (R144). -/
def State.anyLatched (s : State) : Bool := s.fsv.records.any fun r => r.state == .latched

/-- A retry recovery wait is in progress (R150). -/
def State.retryWait (s : State) : Bool := s.fsv.kinds.any fun k => k.delay.isSome

/-- The spindle kinds (R141). -/
def isSpindleKind : FaultKind → Bool
  | .noRotation | .spinUpTimeout | .speedOutOfRange | .lostIndex | .spindleOvercurrent => true
  | _ => false

/-- The row of a configurable kind in FAULT ACTIONS (R162). -/
def FaultActions.row (t : FaultActions) : FaultKind → Option FaultRow
  | .noRotation => some t.noRotation
  | .spinUpTimeout => some t.spinUpTimeout
  | .speedOutOfRange => some t.speedOutOfRange
  | .lostIndex => some t.lostIndex
  | .spindleOvercurrent => some t.spindleOvercurrent
  | .actuatorSaturation => some t.actuatorSaturation
  | .servoLost => some t.servoLost
  | .seekTimeout => some t.seekTimeout
  | .unloadFailed => some t.unloadFailed
  | .overTempWarn => some t.overTempWarn
  | _ => none

/-- The handling of the fixed kinds as a row (R141, R154 to R156). -/
def fixedRow : FaultKind → FaultRow
  | .overTempShutdown => ⟨.latch, .dynamic, .unload, 1, 1, 60⟩
  | _ => ⟨.latch, .coast, .retract, 1, 1, 60⟩

/-- The row that a recognition of a kind without a kept row takes (R145). -/
def State.activeRow (s : State) (k : FaultKind) : FaultRow :=
  (s.tbs.actions.row k).getD (fixedRow k)

/-- The active deglitch count of a kind (R34, R146). -/
def State.deglitch (s : State) (k : FaultKind) : Nat := (s.activeRow k).deglitch

/-- A row whose action reaches the spindle or the positioner (R49, R101). -/
def FaultRow.reaches (r : FaultRow) : Bool := r.spindle != .none || r.positioner != .none

/-! ## Queue and Transfer Engine -/

/-- The internal spin-down of standby is in flight and holds the head entry (R54, R98); an eject request has
not ended it (R54; assumption log 30). -/
def State.standbyHolds (s : State) : Bool := s.downs.standby.isSome && !s.downs.standbyLeft

/-- An eject with mode CUT is stopping the queue's entries (R117, R182). -/
def State.cutByEject (s : State) : Bool :=
  s.ccu.state == .ejectPending && s.ccu.eject.any fun e => e.mode == .cut

/-- The EXECUTING entry (R95). -/
def State.executing (s : State) : Option Entry :=
  match s.queue.head? with
  | some e => if e.executing then some e else none
  | none => none

/-- The number of blocks of an extent list (R97). -/
def blocksOf (l : List Extent) : Nat := (l.map Extent.count).sum

/-- The LBA of a block sequence number in an extent list (R97). -/
def lbaAt : List Extent → Nat → Option Nat
  | [], _ => none
  | e :: rest, n => if n < e.count then some (e.start + n) else lbaAt rest (n - e.count)

/-- An extent list that reaches past a capacity (R18). -/
def pastCapacity (capacity : Nat) (l : List Extent) : Bool :=
  l.any fun e => decide (capacity < e.start + e.count)

/-- The lowest EMPTY slot (R104). -/
def State.emptySlot (s : State) : Option Nat := s.slots.findIdx? fun x => x.state == .empty

/-- The slot of a command's block (R104). -/
def State.slotOf (s : State) (t : Byte) (seq : Nat) (st : SlotState) : Option Nat :=
  s.slots.findIdx? fun x => x.state == st && x.tag == some t && x.seq == seq

/-- The engine can start a transfer or a record operation (R102). -/
def State.engineFree (s : State) : Bool :=
  s.eng.state == .idle && s.eng.flight == none && s.record.op == .idle

/-- A DIRTY record on an unprotected cartridge (R9). -/
def State.needsWriteBack (s : State) : Bool := s.record.state == .dirty && !s.ccu.protect

/-! ## Reply queue -/

/-- The reserved places (R180). -/
def State.reserved (s : State) : Nat :=
  s.queue.length + ((s.ccu.eject.map fun e => e.tags.length).getD 0)

/-- The reply queue is full (R180). -/
def State.replyFull (s : State) : Bool :=
  decide (Config.replyFull ≤ s.dbi.replies.length + s.reserved)

/-! ## Attention -/

/-- The source code, which is also its priority (R189). -/
def Source.code : Source → Nat
  | .faultLatched => 0
  | .faultReported => 1
  | .partReset => 2
  | .commandDone => 3
  | .dataReady => 4
  | .dataWanted => 5
  | .cartridgeInserted => 6
  | .ejectButton => 7
  | .cartridgeRemoved => 8
  | .spindleReady => 9
  | .tablesTaken => 10
  | .ejectFailed => 11

/-- The DATA_READY condition (R104). -/
def State.dataReady (s : State) : Bool :=
  match s.executing with
  | some ⟨t, .xfer .read _ _, _⟩ => s.slots.any fun x => x.state == .full && x.tag == some t
  | _ => false

/-- The DATA_WANTED condition (R104). -/
def State.dataWanted (s : State) : Bool :=
  match s.executing with
  | some ⟨_, .xfer .write _ l, _⟩ => s.emptySlot.isSome && decide (s.eng.nextIndex < blocksOf l)
  | _ => false

/-- The request of a source is set (R189). -/
def State.requested (s : State) : Source → Bool
  | .faultLatched => s.anyLatched
  | .dataReady => s.dataReady
  | .dataWanted => s.dataWanted
  | x => s.atc.requests.contains x

/-- A source outranks every in-service source (R191). -/
def State.outranks (s : State) (x : Source) : Bool :=
  s.atc.inService.all fun y => decide (x.code < y.code)

/-- The pending source (R192). -/
def State.pendingSource (s : State) : Option Source :=
  Source.all.find? fun x => s.requested x && !s.atc.mask.contains x && s.outranks x

/-- The ATN line (R191). -/
def State.atn (s : State) : Bool := s.pendingSource.isSome

end Sys2Proof.Machine
end

