-- ==== Sys2Proof/WellFormed.lean ====
section
/-! DEFINITION. What an operand of a command can be: the ranges the manual gives the values that
arrive from outside. -/

namespace Sys2Proof

/-- A servo sample's cylinder ID, head and PES (R57, "Servo samples"). -/
def sampleOk (cylinder head : Nat) (pes : Int) : Bool :=
  decide (cylinder ≤ 1231) && decide (head ≤ 1) && decide (-128 ≤ pes) && decide (pes ≤ 127)

/-- A sector's data, 512 bytes (00_scope.md, "Cylinders, heads and sectors"). -/
def sectorOk (data : List Byte) : Bool := data.length == Config.sectorBytes

/-- A sector number: SPT is at most 48 (R3). -/
def sectorNumberOk (sector : Nat) : Bool := decide (sector ≤ 47)

/-- The extent count is one byte (R187). -/
def extentsOk (l : List RawExtent) : Bool := decide (l.length ≤ 255)

/-- The body of a LOAD TABLE: its packet's length is a two-byte field (R186). -/
def bodyOk (body : List Byte) : Bool := decide (body.length + 2 < 65536)

/-- The first three payload bytes decide the framing (R178, R187): one of them in error follows the good
ones before it, within the payload. -/
def parityPlaceOk : ParityPlace → Bool
  | .lead _ _ n good => decide (good.length ≤ 2) && decide (good.length < n.toNat)
  | _ => true

/-- The operands of a command are values the outside can present. -/
def Instr.wf : Instr → Bool
  | .servoSample _ c h p => sampleOk c h p
  | .sectorArrival n => sectorNumberOk n
  | .sectorEnd _ d => sectorOk d
  | .dataPacketEnd d => sectorOk d
  | .inboundParityError p => parityPlaceOk p
  | .read _ _ l => extentsOk l
  | .write _ _ l => extentsOk l
  | .verify _ _ l => extentsOk l
  | .loadTable _ _ b => bodyOk b
  | _ => true

end Sys2Proof
end

