-- ==== Sys2Proof/Decode.lean ====
section
/-! DEFINITION. The byte layouts of COMMAND payloads (R187 and the command summary of chapter 10), in
both directions, and `decodeTableWord`, which has no row to answer: opcode_table.json gives no row
any bits (assumption log 39). -/

namespace Sys2Proof

/-- A two-byte field, most significant byte first (00_scope.md, "Packets and fields"). -/
def be16 (x : BitVec 16) : List Byte := [x.extractLsb' 8 8, x.extractLsb' 0 8]

/-- A four-byte field, most significant byte first. -/
def be32 (x : BitVec 32) : List Byte :=
  [x.extractLsb' 24 8, x.extractLsb' 16 8, x.extractLsb' 8 8, x.extractLsb' 0 8]

/-- The value of a two-byte field. -/
def ofBe16 (a b : Byte) : BitVec 16 := a ++ b

/-- The value of a four-byte field. -/
def ofBe32 (a b c d : Byte) : BitVec 32 := (a ++ b) ++ (c ++ d)

/-- An extent's six bytes (R187). -/
def extentBytes (e : RawExtent) : List Byte := be32 e.start ++ be16 e.count

/-- The payload of a READ, WRITE or VERIFY (R187). -/
def transferPayload (code flags : Byte) (l : List RawExtent) : List Byte :=
  [code, flags, BitVec.ofNat 8 l.length] ++ l.flatMap extentBytes

/-- The tag and payload of the COMMAND packet that carries a command (R187, command summary); none
for a row that is no COMMAND packet. -/
def commandPayload : Instr → Option (Byte × List Byte)
  | .read t f l => some (t, transferPayload 0x20 f l)
  | .write t f l => some (t, transferPayload 0x21 f l)
  | .verify t f l => some (t, transferPayload 0x22 f l)
  | .seek t c => some (t, 0x23 :: be16 c)
  | .spinUp t => some (t, [0x24])
  | .spinDown t => some (t, [0x25])
  | .flushRecord t => some (t, [0x26])
  | .reassignBlock t a => some (t, 0x27 :: be32 a)
  | .abort t g m => some (t, [0x40, g, m])
  | .eject t m f => some (t, [0x41, m, f])
  | .holdEject t => some (t, [0x42])
  | .releaseEject t => some (t, [0x43])
  | .clearFaults t => some (t, [0x48])
  | .readFaults t => some (t, [0x49])
  | .loadTable t s b => some (t, 0x50 :: s :: b)
  | .readTable t s c n => some (t, 0x51 :: s :: c :: be16 n)
  | .tableHold t v => some (t, [0x52, v])
  | .latch t g c => some (t, [0x58, g, c])
  | .readLatched t => some (t, [0x59])
  | .status t => some (t, [0x5A])
  | .attentionAck t => some (t, [0x60])
  | .endAttention t s => some (t, [0x61, s])
  | .setAttentionMask t m => some (t, 0x62 :: be16 m)
  | _ => none

/-- The extents of a READ, WRITE or VERIFY payload, exactly `n` of them and nothing after. -/
def decodeExtents : Nat → List Byte → Option (List RawExtent)
  | 0, [] => some []
  | n + 1, a :: b :: c :: d :: e :: f :: rest =>
    (decodeExtents n rest).map (⟨ofBe32 a b c d, ofBe16 e f⟩ :: ·)
  | _, _ => none

/-- The operands of a READ, WRITE or VERIFY payload after the command code. -/
def decodeTransfer (mk : Byte → List RawExtent → Instr) : List Byte → Option Instr
  | flags :: count :: rest => (decodeExtents count.toNat rest).map (mk flags)
  | _ => none

/-- The command that a COMMAND packet of this tag and payload carries; none where the code is not in
the command summary or the length is not the code's. -/
def decodeCommand (t : Byte) : List Byte → Option Instr
  | [] => none
  | code :: ops =>
    match code.toNat, ops with
    | 0x20, ops => decodeTransfer (.read t) ops
    | 0x21, ops => decodeTransfer (.write t) ops
    | 0x22, ops => decodeTransfer (.verify t) ops
    | 0x23, [a, b] => some (.seek t (ofBe16 a b))
    | 0x24, [] => some (.spinUp t)
    | 0x25, [] => some (.spinDown t)
    | 0x26, [] => some (.flushRecord t)
    | 0x27, [a, b, c, d] => some (.reassignBlock t (ofBe32 a b c d))
    | 0x40, [g, m] => some (.abort t g m)
    | 0x41, [m, f] => some (.eject t m f)
    | 0x42, [] => some (.holdEject t)
    | 0x43, [] => some (.releaseEject t)
    | 0x48, [] => some (.clearFaults t)
    | 0x49, [] => some (.readFaults t)
    | 0x50, s :: b => some (.loadTable t s b)
    | 0x51, [s, c, a, b] => some (.readTable t s c (ofBe16 a b))
    | 0x52, [v] => some (.tableHold t v)
    | 0x58, [g, c] => some (.latch t g c)
    | 0x59, [] => some (.readLatched t)
    | 0x5A, [] => some (.status t)
    | 0x60, [] => some (.attentionAck t)
    | 0x61, [s] => some (.endAttention t s)
    | 0x62, [a, b] => some (.setAttentionMask t (ofBe16 a b))
    | _, _ => none

/-- The command that a word spells by the table's bits: no row of the table gives bits. -/
def decodeTableWord (_nbits _w : Nat) : Option Instr := none

end Sys2Proof
end

