-- ==== Sys2Proof/Machine/Operands.lean ====
section
/-! DEFINITION. The operand forms: framing checks of a header (R178), operand sets (R178, R187), extent
lists (R97), the table bodies of LOAD TABLE with their structural checks and clamps (R164, R165,
R187), the mask operand (R190). -/

namespace Sys2Proof.Machine

/-! ## Framing -/

/-- The exact length of a COMMAND payload from its first bytes (command summary of chapter 10); none
where the code is not in the summary or the byte that decides the length is missing. -/
def commandLength : List Byte → Option Nat
  | [] => none
  | code :: rest =>
    match code.toNat with
    | 0x20 | 0x21 | 0x22 => (rest[1]?).map fun n => 3 + 6 * n.toNat
    | 0x23 => some 3
    | 0x24 | 0x25 | 0x26 => some 1
    | 0x27 => some 5
    | 0x40 | 0x41 => some 3
    | 0x42 | 0x43 | 0x48 | 0x49 | 0x59 | 0x5A | 0x60 => some 1
    | 0x50 =>
      match (rest[0]?).map BitVec.toNat with
      | some 1 => (rest[1]?).map fun n => 7 + 4 * n.toNat
      | some 2 => some 62
      | some 3 => some 17
      | _ => none
    | 0x51 => some 5
    | 0x52 | 0x61 => some 2
    | 0x58 | 0x62 => some 3
    | _ => none

/-- A LOAD TABLE whose selector names none of the three tables is taken at any length (R178). -/
def freeLength : List Byte → Bool
  | code :: sel :: _ => code == 0x50 && !(sel == 1 || sel == 2 || sel == 3)
  | _ => false

/-- The framing checks 1 to 5 of R178 on a header and the first payload bytes: the packet is
refused. -/
def headerRefused (h : Header) : Bool :=
  if h.kind == 2 then h.tag == 0 || h.length != 514
  else if h.kind == 1 then
    h.tag == 0 || decide (256 < h.length) || h.length == 0 ||
    !(freeLength h.lead || commandLength h.lead == some h.length) ||
    (decide (64 < h.length) && h.lead.head? != some 0x50)
  else true

/-- The code is in the command summary of chapter 10: with operand bytes to follow it has a length. -/
def commandListed (code : Byte) : Bool := (commandLength [code, 1, 0]).isSome

/-- The framing checks 1 to 5 of R178, as far as a header and the payload bytes that have arrived decide
them (fewer than the first three). A length that fits no count is refused where the count would be read
(assumption log 76). -/
def leadRefused (h : Header) : Bool :=
  if h.kind == 2 then h.tag == 0 || h.length != 514
  else if h.kind == 1 then
    h.tag == 0 || decide (256 < h.length) || h.length == 0 ||
    h.lead.head?.any (fun c => !commandListed c || (decide (64 < h.length) && c != 0x50)) ||
    (commandLength h.lead).any (fun n => n != h.length)
  else true

/-- The header of a COMMAND packet. -/
def commandHeader (tag : Byte) (payload : List Byte) : Header :=
  ⟨1, tag, payload.length, payload.take 3⟩

/-! ## Operand sets -/

/-- A byte with two listed values, 0 and 1. -/
def twoWay (b : Byte) : Option Bool :=
  match b.toNat with
  | 0 => some false
  | 1 => some true
  | _ => none

/-- An EJECT mode (R187). -/
def ejectModeOf (b : Byte) : Option EjectMode :=
  (twoWay b).map fun x => if x then .cut else .drain

/-- The group set of LATCH (command summary): bits 0 to 2, other bits 0. -/
def groupsOf (b : Byte) : Option Groups :=
  if b.toNat < 8 then some ⟨b.getLsbD 0, b.getLsbD 1, b.getLsbD 2⟩ else none

/-- The source of a code (R189). -/
def sourceOf (n : Nat) : Option Source := Source.all[n]?

/-- The source byte of END ATTENTION (R193): a specific source, or none for the non-specific form. -/
def endSourceOf (b : Byte) : Option (Option Source) :=
  if b.toNat = 15 then some none else (sourceOf b.toNat).map some

/-- The mask set of a SET ATTENTION MASK operand (R190). -/
def maskOf (m : BitVec 16) : List Source := Source.all.filter fun x => m.getLsbD x.code

/-! ## Extents -/

/-- The extents of a packet as a queue entry holds them (R187). -/
def extentsOf (l : List RawExtent) : List Extent :=
  l.map fun e => ⟨e.start.toNat, e.count.toNat⟩

/-- The structural check of an extent list (R97). -/
def extentsBad (l : List Extent) : Bool :=
  l.isEmpty || decide (8 < l.length) ||
  l.any (fun e => e.count == 0 || decide (256 < e.count)) || decide (2048 < blocksOf l)

/-- The command of a READ, WRITE or VERIFY: bit 0 of the flags is continue past errors (R187). -/
def transferOf (k : XferKind) (flags : Byte) (l : List RawExtent) : MediumCmd :=
  .xfer k (flags.getLsbD 0) (extentsOf l)

/-! ## Tables -/

/-- A numeric scalar clamped into its range (R165). -/
def clampNat (lo hi v : Nat) : Nat := max lo (min hi v)

/-- Whether a clamp changed its field: 1 or 0. -/
def clampedBy (lo hi v : Nat) : Nat := if clampNat lo hi v = v then 0 else 1

/-- The rows of a SEEK PROFILE body. -/
def profileRows : Nat → List Byte → List ProfileRow
  | n + 1, a :: b :: c :: d :: rest =>
    ⟨(ofBe16 a b).toNat, (ofBe16 c d).toNat⟩ :: profileRows n rest
  | _, _ => []

/-- Distances that strictly increase and speeds that do not decrease (R164). -/
def rowsRise : List ProfileRow → Bool
  | r :: q :: rest => decide (r.dist < q.dist) && decide (r.speed ≤ q.speed) && rowsRise (q :: rest)
  | _ => true

/-- The structural checks of a SEEK PROFILE (R164). -/
def profileOk (rows : List ProfileRow) : Bool :=
  decide (2 ≤ rows.length) && decide (rows.length ≤ 16) && rows.head? == some ⟨0, 0⟩ &&
  rows.all (fun r => decide (r.dist ≤ 1231) && decide (r.speed ≤ 4095)) && rowsRise rows

/-- A SEEK PROFILE body, clamped, with the number of fields clamped (R164, R165). -/
def profileOf : List Byte → Option (SeekProfile × Nat)
  | [] => none
  | n :: rest =>
    let rows := profileRows n.toNat rest
    match rest.drop (4 * n.toNat) with
    | [kv, kp, a, b] =>
      let i := (ofBe16 a b).toNat
      if rows.length == n.toNat && profileOk rows then
        some (⟨rows, clampNat 1 255 kv.toNat, clampNat 1 255 kp.toNat, clampNat 1 2047 i⟩,
              clampedBy 1 255 kv.toNat + clampedBy 1 255 kp.toNat + clampedBy 1 2047 i)
      else none
    | _ => none

/-- Enumerated fields of a FAULT ACTIONS row, in the order R162 lists them. -/
def faultModeOf (b : Byte) : Option FaultMode :=
  match b.toNat with
  | 0 => some .off
  | 1 => some .report
  | 2 => some .retry
  | 3 => some .latch
  | _ => none

def spindleActionOf (b : Byte) : Option SpindleAction :=
  match b.toNat with
  | 0 => some .none
  | 1 => some .coast
  | 2 => some .dynamic
  | 3 => some .reverse
  | _ => none

def posActionOf (b : Byte) : Option PosAction :=
  match b.toNat with
  | 0 => some .none
  | 1 => some .hold
  | 2 => some .unload
  | 3 => some .retract
  | _ => none

/-- A FAULT ACTIONS row, clamped, with the number of fields clamped (R162, R164, R165). -/
def faultRowOf (m sp po dg bu de : Byte) : Option (FaultRow × Nat) :=
  match faultModeOf m, spindleActionOf sp, posActionOf po with
  | some m, some sp, some po =>
    some (⟨m, sp, po, clampNat 1 255 dg.toNat, clampNat 1 7 bu.toNat, clampNat 1 255 de.toNat⟩,
          clampedBy 1 255 dg.toNat + clampedBy 1 7 bu.toNat + clampedBy 1 255 de.toNat)
  | _, _, _ => none

/-- The rows of a FAULT ACTIONS body. -/
def faultRows : List Byte → Option (List FaultRow × Nat)
  | [] => some ([], 0)
  | m :: sp :: po :: dg :: bu :: de :: rest =>
    match faultRowOf m sp po dg bu de, faultRows rest with
    | some (r, n), some (l, k) => some (r :: l, n + k)
    | _, _ => none
  | _ => none

/-- A mode that the rows of LOST_INDEX, SPINDLE_OVERCURRENT and UNLOAD_FAILED may hold (R162). -/
def FaultRow.retryOrLatch (r : FaultRow) : Bool := r.mode == .retry || r.mode == .latch

/-- A FAULT ACTIONS body (R162, R164). -/
def actionsOf (l : List Byte) : Option (FaultActions × Nat) :=
  match faultRows l with
  | some ([a, b, c, d, e, f, g, h, i, j], n) =>
    if d.retryOrLatch && e.retryOrLatch && i.retryOrLatch then
      some (⟨a, b, c, d, e, f, g, h, i, j⟩, n)
    else none
  | _ => none

/-- A DRIVE PARAMETERS body (R163 to R165). AUTO_SPIN and attention auto-end number their values as R163
lists them, yes before no (R187; assumption log 66). -/
def paramsOf : List Byte → Option (DriveParams × Nat)
  | [p1, p0, su, sw, sb, bm, rr, wr, w, n, o, t, a, e, x] =>
    let p := (ofBe16 p1 p0).toNat
    match twoWay bm, twoWay a, twoWay e, twoWay x with
    | some bm, some a, some e, some x =>
      some ({ purgeRevs := clampNat 0 1023 p, spinUpTimeout := clampNat 5 60 su.toNat,
              stopWindow := clampNat 1 16 sw.toNat, standby := clampNat 0 255 sb.toNat,
              brakeMode := if bm then .reverse else .dynamic,
              readRetries := clampNat 0 15 rr.toNat, writeRetries := clampNat 0 15 wr.toNat,
              settleWindow := clampNat 1 64 w.toNat, settleCount := clampNat 1 16 n.toNat,
              offTrack := clampNat 1 127 o.toNat, seekTimeout := clampNat 1 255 t.toNat,
              autoSpin := !a, buttonMode := if e then .cut else .drain, autoEnd := !x },
            clampedBy 0 1023 p + clampedBy 5 60 su.toNat + clampedBy 1 16 sw.toNat +
            clampedBy 0 255 sb.toNat + clampedBy 0 15 rr.toNat + clampedBy 0 15 wr.toNat +
            clampedBy 1 64 w.toNat + clampedBy 1 16 n.toNat + clampedBy 1 127 o.toNat +
            clampedBy 1 255 t.toNat)
    | _, _, _, _ => none
  | _ => none

/-- The table that a LOAD TABLE carries, clamped, with the number of fields clamped; none where R164
refuses it. -/
def tableOf (selector : Byte) (body : List Byte) : Option (LoadedTable × Nat) :=
  match selector.toNat with
  | 1 => (profileOf body).map fun x => (.profile x.1, x.2)
  | 2 => (actionsOf body).map fun x => (.actions x.1, x.2)
  | 3 => (paramsOf body).map fun x => (.params x.1, x.2)
  | _ => none

end Sys2Proof.Machine
end

