-- ==== Sys2Proof/Machine/Record.lean ====
section
/-! DEFINITION. The stored cartridge record: its arrangement of 11,264 bytes (R2, R3; assumption log
9), its check word and its checks (R6). -/

namespace Sys2Proof.Machine

/-- The value of a field, most significant byte first. -/
def fieldValue (l : List Byte) : Nat := l.foldl (fun v b => 256 * v + b.toNat) 0

/-- The low `n` bytes of a value, most significant first. -/
def fieldBytes : Nat → Nat → List Byte
  | 0, _ => []
  | n + 1, v => BitVec.ofNat 8 (v / 256 ^ n) :: fieldBytes n v

/-- `n` bytes of a list from an offset on. -/
def bytesAt (l : List Byte) (off n : Nat) : List Byte := (l.drop off).take n

/-- A list cut or padded with zero bytes to a length. -/
def fitTo (n : Nat) (l : List Byte) : List Byte := (l ++ List.replicate (n - l.length) 0).take n

/-- Offsets of the fields after the zone table, and of the check word (assumption log 9). -/
def slipOffset : Nat := 41
def reassignOffset : Nat := 6187
def nextAlternateOffset : Nat := 6572
def checkOffset : Nat := Config.recordSectors * Config.sectorBytes - 2

/-- The check word that a stored record holds (R2, R3). -/
def storedCheck (l : List Byte) : BitVec 16 := BitVec.ofNat 16 (fieldValue (bytesAt l checkOffset 2))

/-- One step of the cyclic check with polynomial x^16 + x^12 + x^5 + 1 (R6). -/
def checkBit (w : BitVec 16) (bit : Bool) : BitVec 16 :=
  if w.msb != bit then (w <<< 1) ^^^ 0x1021#16 else w <<< 1

/-- A byte, most significant bit first (R6). -/
def checkByte (w : BitVec 16) (b : Byte) : BitVec 16 :=
  [7, 6, 5, 4, 3, 2, 1, 0].foldl (fun v i => checkBit v (b.getLsbD i)) w

/-- The check word over a run of bytes: initial value all ones, no final inversion (R6)
(assumption log 40). -/
def checkWord (l : List Byte) : BitVec 16 := l.foldl checkByte 0xFFFF#16

/-- The bytes of the record before the check word (R2, R3). -/
def recordBody (img : Image) : List Byte :=
  let zone := fun (z : Zone) => fieldBytes 2 z.first ++ fieldBytes 1 z.spt ++ fieldBytes 1 z.sp
  let slip := fun (e : SlipEntry) => fieldBytes 2 e.cylinder ++ fieldBytes 1 e.slot
  let reassign := fun (e : Reassign) => fieldBytes 4 e.lba ++ fieldBytes 2 e.alternate
  fitTo checkOffset <|
    fieldBytes 2 img.formatMark ++ fieldBytes 2 img.generation ++ fieldBytes 4 img.serial ++
    fieldBytes 1 img.zones.length ++ fitTo 32 (img.zones.flatMap zone) ++
    fieldBytes 2 img.slips.length ++ fitTo 6144 (img.slips.flatMap slip) ++
    fieldBytes 1 img.reassigns.length ++ fitTo 384 (img.reassigns.flatMap reassign) ++
    fieldBytes 2 img.nextAlternate

/-- The stored record (R2). -/
def recordBytes (img : Image) : List Byte :=
  let body := recordBody img
  body ++ fieldBytes 2 (checkWord body).toNat

/-- A list cut into `n` sectors (R2). -/
def sectorsOf : Nat → List Byte → List (List Byte)
  | 0, _ => []
  | n + 1, l => l.take Config.sectorBytes :: sectorsOf n (l.drop Config.sectorBytes)

/-- Entries of the zone table, the slip list and the reassign table as stored. -/
def readZones : Nat → List Byte → List Zone
  | n + 1, a :: b :: c :: d :: rest =>
    ⟨fieldValue [a, b], c.toNat, d.toNat⟩ :: readZones n rest
  | _, _ => []

def readSlips : Nat → List Byte → List SlipEntry
  | n + 1, a :: b :: c :: rest => ⟨fieldValue [a, b], c.toNat⟩ :: readSlips n rest
  | _, _ => []

def readReassigns : Nat → List Byte → List Reassign
  | n + 1, a :: b :: c :: d :: e :: f :: rest =>
    ⟨fieldValue [a, b, c, d], fieldValue [e, f]⟩ :: readReassigns n rest
  | _, _ => []

/-- The counts that the record states: zones, slips, reassigns. -/
def recordCounts (l : List Byte) : Nat × Nat × Nat :=
  (fieldValue (bytesAt l 8 1), fieldValue (bytesAt l slipOffset 2),
   fieldValue (bytesAt l reassignOffset 1))

/-- The fields of an assembled record, with as many entries as its tables have room for. -/
def recordImage (l : List Byte) : Image :=
  let c := recordCounts l
  { formatMark := fieldValue (bytesAt l 0 2), generation := fieldValue (bytesAt l 2 2),
    serial := fieldValue (bytesAt l 4 4),
    zones := readZones (min c.1 8) (l.drop 9),
    slips := readSlips (min c.2.1 2048) (l.drop (slipOffset + 2)),
    reassigns := readReassigns (min c.2.2 64) (l.drop (reassignOffset + 1)),
    nextAlternate := fieldValue (bytesAt l nextAlternateOffset 2) }

/-- A list in which each element relates to the one after it. -/
def chainOk {α : Type} (r : α → α → Bool) : List α → Bool
  | a :: b :: rest => r a b && chainOk r (b :: rest)
  | _ => true

/-- A list without duplicates. -/
def noRepeats : List Nat → Bool
  | [] => true
  | a :: rest => !rest.contains a && noRepeats rest

/-- The zone table's part of stage 3 (R6). -/
def zonesOk (count : Nat) (zones : List Zone) : Bool :=
  decide (1 ≤ count) && decide (count ≤ 8) && (zones.head?.map Zone.first == some 0) &&
  chainOk (fun a b => decide (a.first < b.first)) zones &&
  zones.all fun z => decide (z.first < Config.dataCylinders) && decide (17 ≤ z.spt) &&
    decide (z.spt ≤ 48) && decide (z.sp ≤ 4)

/-- A slip entry's part of stage 3 (R6). -/
def slipOk (zones : List Zone) (slips : List SlipEntry) (e : SlipEntry) : Bool :=
  match zoneOfCylinder zones e.cylinder with
  | none => false
  | some z =>
    decide (e.cylinder < Config.dataCylinders) && decide (e.slot < 2 * z.spt) &&
    decide ((slips.filter fun f => f.cylinder == e.cylinder).length ≤ z.sp)

/-- Ascending order of cylinder and then slot, without duplicates (R6). -/
def slipBefore (a b : SlipEntry) : Bool :=
  decide (a.cylinder < b.cylinder) || (a.cylinder == b.cylinder && decide (a.slot < b.slot))

/-- The slip list's part of stage 3 (R6). -/
def slipsOk (count : Nat) (zones : List Zone) (slips : List SlipEntry) : Bool :=
  decide (count ≤ 2048) && chainOk slipBefore slips && slips.all (slipOk zones slips)

/-- The reassign table's part of stage 3 (R6). -/
def reassignsOk (count : Nat) (img : Image) : Bool :=
  decide (count ≤ 64) && chainOk (fun a b => decide (a.lba < b.lba)) img.reassigns &&
  noRepeats (img.reassigns.map Reassign.alternate) &&
  img.reassigns.all (fun e => decide (e.lba < capacityOf img.zones) &&
    decide (e.alternate < img.nextAlternate)) &&
  decide (img.nextAlternate ≤ alternateCount img.zones)

/-- The result of the checks of R6. -/
inductive Checked where
  | good (img : Image)
  | bad (reason : UnreadableReason)
  deriving DecidableEq, Repr

/-- The checks of an assembled record (R6). -/
def checkRecord (l : List Byte) : Checked :=
  let c := recordCounts l
  let img := recordImage l
  if (checkWord (l.take checkOffset)).toNat != fieldValue (bytesAt l checkOffset 2) then .bad .check
  else if img.formatMark != Config.formatMark then .bad .format
  else if zonesOk c.1 img.zones && slipsOk c.2.1 img.zones img.slips && reassignsOk c.2.2 img then
    .good img
  else .bad .format

end Sys2Proof.Machine
end

