-- ==== Sys2Proof/Machine/Layout.lean ====
section
/-! DEFINITION. The bytes that the part sends: the packet header, DATA packets, the payloads of REPLY and
DONE packets, and the parity line (R175, R185 to R188; assumption log 26). -/

namespace Sys2Proof.Machine

/-- A signed field, in two's complement (R185). -/
def signedBytes (n : Nat) (x : Int) : List Byte := fieldBytes n (x % (256 ^ n : Nat)).toNat

/-- A yes-or-no value (R185). -/
def yesByte (b : Bool) : List Byte := fieldBytes 1 b.toNat

/-- A field that may be absent, after its indication (R185). -/
def optBytes {α : Type} (f : α → List Byte) : Option α → List Byte
  | none => [0]
  | some x => 1 :: f x

/-! ## Numbers of the enumerated values (R185) -/

/-- The number of a status code (status table of chapter 10). -/
def Status.code : Status → Nat
  | .ok => 0
  | .okClamped => 1
  | .queued => 2
  | .badPacket => 3
  | .busParity => 4
  | .queueFull => 5
  | .tagInUse => 6
  | .badAddress => 7
  | .badExtents => 8
  | .noCartridge => 9
  | .notReady => 10
  | .writeProtected => 11
  | .ejectPending => 12
  | .ejectHeld => 13
  | .ejectInProgress => 14
  | .holdLimit => 15
  | .notHeld => 16
  | .noSuchTag => 17
  | .notYet => 18
  | .noSlot => 19
  | .dataOrder => 20
  | .tableInvalid => 21
  | .faulted => 22
  | .aborted => 23
  | .ejectAborted => 24
  | .mediumError => 25
  | .seekFailed => 26
  | .recordUnreadable => 27
  | .recordWriteFailed => 28
  | .reassignFull => 29
  | .ejectFailed => 30

/-- The number of an enumerated value: its place among the values its defining rule lists. -/
def placeIn {α : Type} [BEq α] (l : List α) (x : α) : Nat := l.idxOf x

/-- The cartridge states and eject phases (R120). -/
def CartState.code : CartState → Nat :=
  placeIn [.absent, .seated, .latched, .stopCheck, .ejectPending, .ejecting]
def EjectPhase.code : EjectPhase → Nat := placeIn [.draining, .flushing, .unloading, .stopping]

/-- The record states and UNREADABLE reasons (R4). -/
def RecordState.code : RecordState → Nat := placeIn [.notRead, .valid, .dirty, .unreadable]
def UnreadableReason.code : UnreadableReason → Nat := placeIn [.check, .format]

/-- The spindle states (R32) and the Positioner states (R56). -/
def SpindleState.code : SpindleState → Nat :=
  placeIn [.stopped, .starting, .accelerating, .purging, .atSpeed, .coasting, .braking]
def PosState.code : PosState → Nat :=
  placeIn [.unloaded, .loading, .settling, .tracking, .seeking, .unloading, .retracting]

/-- The fault kinds (R141), record states and sub-causes (R144). -/
def kindCode : FaultKind → Nat := placeIn FaultKind.all
def FaultState.code : FaultState → Nat := placeIn [.reported, .retrying, .latched, .recovered]
def SubCause.code : SubCause → Nat := placeIn [.load, .retractUnconfirmed]

/-- The reset causes (R172). -/
def ResetCause.code : ResetCause → Nat := placeIn [.powerOn, .supplyLow, .busReset]

/-- The enumerated fields of the tables (R162, R163, R187). -/
def FaultMode.code : FaultMode → Nat := placeIn [.off, .report, .retry, .latch]
def SpindleAction.code : SpindleAction → Nat := placeIn [.none, .coast, .dynamic, .reverse]
def PosAction.code : PosAction → Nat := placeIn [.none, .hold, .unload, .retract]
def BrakeMode.code : BrakeMode → Nat := placeIn [.dynamic, .reverse]
def EjectMode.code : EjectMode → Nat := placeIn [.drain, .cut]

/-- An attention source as its code, 15 for NONE (R185, R192). -/
def sourceByte (x : Option Source) : List Byte := fieldBytes 1 ((x.map Source.code).getD 15)

/-- A set of snapshot groups, with the bits of the LATCH operand (R185). -/
def groupBytes (g : Groups) : List Byte :=
  fieldBytes 1 (g.spindle.toNat + 2 * g.position.toNat + 4 * g.counters.toNat)

/-- A set of fault kinds as a two-byte mask (R185). -/
def kindMask (l : List FaultKind) : List Byte :=
  fieldBytes 2 ((FaultKind.all.filter fun k => l.contains k).map fun k => 2 ^ kindCode k).sum

/-! ## Tables (R187) -/

/-- The body of a SEEK PROFILE. -/
def profileBytes (t : SeekProfile) : List Byte :=
  fieldBytes 1 t.rows.length ++
  t.rows.flatMap (fun r => fieldBytes 2 r.dist ++ fieldBytes 2 r.speed) ++
  fieldBytes 1 t.kv ++ fieldBytes 1 t.kp ++ fieldBytes 2 t.ilim

/-- A FAULT ACTIONS row. -/
def rowBytes (r : FaultRow) : List Byte :=
  [r.mode.code, r.spindle.code, r.positioner.code, r.deglitch, r.budget, r.delay].flatMap
    (fieldBytes 1)

/-- The body of FAULT ACTIONS. -/
def actionsBytes (t : FaultActions) : List Byte :=
  (FaultKind.all.filterMap t.row).flatMap rowBytes

/-- A field that R163 lists as "yes, no", numbered as R187 numbers enumerated fields of a table
(assumption log 66). -/
def yesNoCode : Bool → Nat := placeIn [true, false]

/-- The body of DRIVE PARAMETERS. -/
def paramsBytes (t : DriveParams) : List Byte :=
  fieldBytes 2 t.purgeRevs ++
  [t.spinUpTimeout, t.stopWindow, t.standby, t.brakeMode.code, t.readRetries, t.writeRetries,
   t.settleWindow, t.settleCount, t.offTrack, t.seekTimeout, yesNoCode t.autoSpin, t.buttonMode.code,
   yesNoCode t.autoEnd].flatMap (fieldBytes 1)

/-- The body of a loadable table. -/
def tableBytes : LoadedTable → List Byte
  | .profile t => profileBytes t
  | .actions t => actionsBytes t
  | .params t => paramsBytes t

/-- The record values after a record-image table (R168). -/
def recordValues (img : Image) : List Byte :=
  fieldBytes 2 img.generation ++ fieldBytes 4 img.serial ++ fieldBytes 2 img.nextAlternate ++
  fieldBytes 3 (capacityOf img.zones) ++ fieldBytes 2 (alternateCount img.zones)

/-- ZONE TABLE (R168, R16). -/
def zoneBytes (img : Image) : List Byte :=
  fieldBytes 1 img.zones.length ++
  img.zones.flatMap (fun z => fieldBytes 2 z.first ++ fieldBytes 1 z.spt ++ fieldBytes 1 z.sp) ++
  (zoneBases 0 img.zones).flatMap (fun x => fieldBytes 3 x.2) ++
  img.zones.flatMap (fun z => fieldBytes 1 z.lpc) ++ recordValues img

/-- REASSIGN TABLE (R168). -/
def reassignBytes (img : Image) : List Byte :=
  fieldBytes 1 img.reassigns.length ++
  img.reassigns.flatMap (fun e => fieldBytes 4 e.lba ++ fieldBytes 2 e.alternate) ++ recordValues img

/-- The portion of the slip list from an index on, at most 128 entries (R168). -/
def slipPortion (img : Image) (first : Nat) : List SlipEntry := (img.slips.drop first).take 128

/-- SLIP LIST (R168). -/
def slipBytes (img : Image) (first : Nat) : List Byte :=
  fieldBytes 2 img.slips.length ++ fieldBytes 2 first ++
  fieldBytes 1 (slipPortion img first).length ++
  (slipPortion img first).flatMap (fun e => fieldBytes 2 e.cylinder ++ fieldBytes 1 e.slot) ++
  recordValues img

/-! ## Reply fields -/

/-- A fault record, every field of R144 but the kept row (R158). -/
def faultBytes (r : FaultRecord) : List Byte :=
  fieldBytes 1 (kindCode r.kind) ++ fieldBytes 1 r.state.code ++
  optBytes (fun (x : SubCause) => fieldBytes 1 x.code) r.sub ++ fieldBytes 1 r.occurrences ++
  be32 r.first ++ be32 r.last ++ optBytes (fieldBytes 2) r.cylinder ++
  fieldBytes 1 r.spindle.code ++ fieldBytes 1 r.positioner.code ++ fieldBytes 1 r.retries

/-- The SPINDLE group (R169). -/
def spindleSnapBytes (x : SpindleSnap) : List Byte :=
  fieldBytes 1 x.state.code ++ fieldBytes 3 x.lastPeriod ++ be32 x.revCount

/-- The POSITION group (R169), the target of a seek in flight last (R78; assumption log 57). -/
def positionSnapBytes (x : PositionSnap) : List Byte :=
  fieldBytes 1 x.state.code ++ optBytes (fieldBytes 2) x.cylinder ++ fieldBytes 1 x.head ++
  optBytes (signedBytes 1) x.pes ++ signedBytes 2 x.current ++ optBytes (fieldBytes 2) x.target

/-- The COUNTERS group (R169). -/
def counterBytes (x : Counters) : List Byte :=
  [x.revolutionSlips, x.readRetries, x.writeDeferrals, x.sampleDrops, x.trackSlips,
   x.seeksCompleted].flatMap (fieldBytes 2)

/-- The values of STATUS (R172), the target of a seek in flight last (R78; assumption log 57). -/
def reportBytes (x : StatusReport) : List Byte :=
  fieldBytes 1 x.cartridge.code ++ optBytes (fun (p : EjectPhase) => fieldBytes 1 p.code) x.phase ++
  fieldBytes 1 x.record.code ++
  optBytes (fun (p : UnreadableReason) => fieldBytes 1 p.code) x.reason ++
  yesByte x.protect ++ fieldBytes 1 x.holdCount ++ yesByte x.buttonRefused ++
  fieldBytes 1 x.spindle.code ++ fieldBytes 1 x.positioner.code ++
  optBytes (fieldBytes 2) x.cylinder ++ fieldBytes 1 x.head ++ fieldBytes 1 x.depth ++
  optBytes (fun (t : Byte) => [t]) x.executing ++ kindMask x.latchedKinds ++ sourceByte x.source ++
  fieldBytes 1 x.mediaChange ++ fieldBytes 1 x.cause.code ++ optBytes (fieldBytes 2) x.target

/-- The fields of a REPLY after its status byte (R185, R186). -/
def bodyBytes : ReplyBody → List Byte
  | .empty => []
  | .dataIndex n => fieldBytes 2 n
  | .clamped n => fieldBytes 1 n
  | .cleared removed remaining => fieldBytes 1 removed ++ fieldBytes 1 remaining
  | .faults l => fieldBytes 1 l.length ++ l.flatMap faultBytes
  | .table t => tableBytes t
  | .staged t => optBytes tableBytes t
  | .zones img => zoneBytes img
  | .reassigns img => reassignBytes img
  | .slips img first => slipBytes img first
  | .latched captured already => groupBytes captured ++ groupBytes already
  | .snapshots sp po co =>
    optBytes spindleSnapBytes sp ++ optBytes positionSnapBytes po ++ optBytes counterBytes co
  | .status r => reportBytes r
  | .source x => sourceByte x

/-! ## Packets -/

/-- A packet: the header and the payload (R186). -/
def framed (kind : Nat) (tag : Byte) (payload : List Byte) : List Byte :=
  fieldBytes 1 kind ++ [tag] ++ fieldBytes 2 payload.length ++ payload

/-- The payload of a DONE (R188). -/
def donePayload (st : Status) (completed errors slips : Nat) (first damaged : Option Nat) :
    List Byte :=
  fieldBytes 1 st.code ++ fieldBytes 1 (first.isSome.toNat + 2 * damaged.isSome.toNat) ++
  fieldBytes 2 completed ++ fieldBytes 2 errors ++ fieldBytes 2 slips ++
  (first.map (fieldBytes 4)).getD [] ++ (damaged.map (fieldBytes 4)).getD []

/-- The bytes of a packet of the reply queue (R185, R186, R188). -/
def packetBytes : Packet → List Byte
  | .reply tag st body => framed 0x81 tag (fieldBytes 1 st.code ++ bodyBytes body)
  | .done tag st completed errors slips first damaged =>
    framed 0x82 tag (donePayload st completed errors slips first damaged)

/-- The outbound DATA packet of a slot (R182, R186). -/
def dataBytes (tag : Byte) (x : Slot) : List Byte :=
  framed 0x83 tag (fieldBytes 2 x.seq ++ fieldBytes 4 x.lba ++ x.data)

/-- The bytes of the outbound packet in flight (R181, R182). A DATA packet keeps the tag that its header
began with, also when its command has left. -/
def State.outboundBytes (s : State) : Option (List Byte) :=
  match s.dbi.out with
  | .none => none
  | .queued => s.dbi.replies.head?.map packetBytes
  | .data i tag _ => (s.slots[i]?).map (dataBytes tag)

/-- The level of the parity line with a byte: odd parity over the nine lines (R175). -/
def parityBit (b : Byte) : Bool :=
  ((List.range 8).filter fun i => b.getLsbD i).length % 2 == 0

end Sys2Proof.Machine
end

