-- ==== Sys2Proof/Machine/SeekLaw.lean ====
section
/-! DEFINITION. The arithmetic of the Positioner: the clamp, the following law (R65) and the seek
computation (R80 to R84). "div" truncates toward zero (00_scope.md, "Arithmetic"). -/

namespace Sys2Proof.Machine

/-- A value clamped to ±m (00_scope.md, "Arithmetic"). -/
def clampTo (m : Nat) (x : Int) : Int :=
  if x > m then m else if x < -m then -m else x

/-- The position of a sample, p = cylinder × 256 + PES (R59). -/
def positionOf (cylinder : Nat) (pes : Int) : Int := cylinder * 256 + pes

/-- The distance to go, D = target × 256 − p (R80). -/
def distanceToGo (target : Nat) (p : Int) : Int := target * 256 - p

/-- |D| no greater than 128: within half a track of the target (R80). -/
def withinHalfTrack (target : Nat) (p : Int) : Bool :=
  decide ((distanceToGo target p).natAbs ≤ 128)

/-- The demand speed at a distance |D| = `d` (R81, R82): on the rows from the selected one on, the
interpolation to the next row, or the last row's speed (assumption log 43). -/
def demandSpeed : List ProfileRow → Nat → Nat
  | [], _ => 0
  | [r], _ => r.speed
  | r :: q :: rest, d =>
    if q.dist * 256 ≤ d then demandSpeed (q :: rest) d
    else r.speed + ((q.speed - r.speed) * (d - r.dist * 256)) / ((q.dist - r.dist) * 256)

/-- The velocity error e = s × V − v (R83). -/
def velocityError (t : SeekProfile) (target : Nat) (p v : Int) : Int :=
  (distanceToGo target p).sign * demandSpeed t.rows (distanceToGo target p).natAbs - v

/-- The unclamped seek current I_raw = (Kv × e) div 16 (R83). -/
def seekRaw (t : SeekProfile) (target : Nat) (p v : Int) : Int :=
  Int.tdiv (t.kv * velocityError t target p v) 16

/-- A computation whose I_raw lies outside ±Ilim is clamped (R84). -/
def isClamped (t : SeekProfile) (raw : Int) : Bool := decide (t.ilim < raw.natAbs)

/-- The following error E (R65). -/
def followError (target : Nat) (f : Fix) : Int :=
  if f.cylinder = target then f.pes else f.position - target * 256

/-- The following law, I = −(Kp × E) div 16 clamped to ±Ilim (R65). -/
def followCurrent (t : SeekProfile) (target : Nat) (f : Fix) : Int :=
  clampTo t.ilim (-Int.tdiv (t.kp * followError target f) 16)

/-- The record of position after a valid sample (R59). -/
def Fix.next (old : Option Fix) (cylinder : Nat) (pes : Int) : Fix :=
  let p := positionOf cylinder pes
  match old with
  | none => ⟨cylinder, pes, p, p, 0, 1⟩
  | some f => ⟨cylinder, pes, p, p, Int.tdiv (p - f.previous) f.since, 1⟩

/-- The record of position after a dropped sample (R60). -/
def Fix.drop (f : Fix) : Fix := { f with since := satAdd 255 f.since 1 }

end Sys2Proof.Machine
end

