-- ==== Sys2Proof/Machine/Ops.lean ====
section
/-! DEFINITION. The named operations of one block each: the change of one part of the state, packets
and attention requests, conditions, timers, the stop demand, the table take. No operation here asks
anything of another block. -/

namespace Sys2Proof.Machine

/-! ## Changing one part of the state -/

def State.onDbi (f : Bus → Bus) (s : State) : State := { s with dbi := f s.dbi }
def State.onEng (f : Engine → Engine) (s : State) : State := { s with eng := f s.eng }
def State.onSpc (f : Spindle → Spindle) (s : State) : State := { s with spc := f s.spc }
def State.onDowns (f : Downs → Downs) (s : State) : State := { s with downs := f s.downs }
def State.onPos (f : Positioner → Positioner) (s : State) : State := { s with pos := f s.pos }
def State.onCcu (f : Cartridge → Cartridge) (s : State) : State := { s with ccu := f s.ccu }
def State.onRec (f : RecordUnit → RecordUnit) (s : State) : State := { s with record := f s.record }
def State.onFsv (f : Supervisor → Supervisor) (s : State) : State := { s with fsv := f s.fsv }
def State.onTbs (f : TableStore → TableStore) (s : State) : State := { s with tbs := f s.tbs }
def State.onCounters (f : Counters → Counters) (s : State) : State :=
  { s with counters := f s.counters }
def State.onAtc (f : Attention → Attention) (s : State) : State := { s with atc := f s.atc }
def State.setQueue (q : List Entry) (s : State) : State := { s with queue := q }
def State.setJob (j : Job) (s : State) : State := { s with job := j }
def State.setEnd (st : Option Status) (s : State) : State := { s with endWith := st }
def State.setSlots (l : List Slot) (s : State) : State := { s with slots := l }
def State.setWork (w : Option SpinUpWork) (s : State) : State := { s with work := w }

/-- A change of one slot (R104). -/
def State.onSlot (i : Nat) (f : Slot → Slot) (s : State) : State :=
  s.setSlots (s.slots.modify i f)

/-- A slot returns to EMPTY (R104). -/
def State.emptySlotAt (i : Nat) (s : State) : State := s.onSlot i fun _ => Slot.none

/-! ## Packets, attention and counters -/

/-- A packet takes its place at the end of the reply queue (R180). -/
def State.place (p : Packet) (s : State) : State :=
  s.onDbi fun d => { d with replies := d.replies ++ [p] }

/-- A REPLY is placed (R177). -/
def State.reply (t : Byte) (st : Status) (b : ReplyBody) (s : State) : State :=
  s.place (.reply t st b)

/-- An edge request is set (R189). -/
def State.request (x : Source) (s : State) : State :=
  s.onAtc fun a => { a with requests := Source.all.filter fun y => a.requests.contains y || y == x }

/-- The counters of R169, 16 bits, saturating. -/
def bump (n : Nat) : Nat := satAdd Config.counterTop n 1

def State.countSlip (s : State) : State :=
  s.onCounters fun c => { c with revolutionSlips := bump c.revolutionSlips }
def State.countReadRetry (s : State) : State :=
  s.onCounters fun c => { c with readRetries := bump c.readRetries }
def State.countDeferral (s : State) : State :=
  s.onCounters fun c => { c with writeDeferrals := bump c.writeDeferrals }
def State.countDrop (s : State) : State :=
  s.onCounters fun c => { c with sampleDrops := bump c.sampleDrops }
def State.countTrackSlip (s : State) : State :=
  s.onCounters fun c => { c with trackSlips := bump c.trackSlips }
def State.countSeek (s : State) : State :=
  s.onCounters fun c => { c with seeksCompleted := bump c.seeksCompleted }

/-! ## What the Fault Supervisor keeps for each kind -/

/-- A change of what is kept for one kind. -/
def State.onKind (k : FaultKind) (f : KindStatus → KindStatus) (s : State) : State :=
  s.onFsv fun v => { v with kinds := v.kinds.set k (f (v.kinds.get k)) }

/-- A kind's condition becomes absent (R143). -/
def State.absent (k : FaultKind) (s : State) : State := s.onKind k fun x => { x with present := false }

/-- Conditions of several kinds become absent (R143). -/
def State.absents (l : List FaultKind) (s : State) : State := l.foldl (fun t k => t.absent k) s

/-- A kind's condition becomes present, and a recovery watch returns to count 0 (R143, R152). -/
def State.nowPresent (k : FaultKind) (s : State) : State :=
  s.onKind k fun x => { x with present := true, watch := x.watch.map fun _ => 0 }

/-- Every outstanding restart is cancelled: its pending start and load are withdrawn (R151), and so is a
load still pending for a restart that has reached AT_SPEED (assumption log 65). -/
def State.cancelRestarts (s : State) : State :=
  s.onFsv fun v => { v with kinds := v.kinds.map fun x =>
    { x with restarting := false, wantsStart := false, wantsLoad := false } }

/-- Pending loads are withdrawn (R62). -/
def State.withdrawLoads (s : State) : State :=
  (s.onPos fun p => { p with loadByWork := false }).onFsv fun v =>
    { v with kinds := v.kinds.map fun x => { x with wantsLoad := false } }

/-- Pending starts are taken or withdrawn (R35). -/
def State.clearStarts (s : State) : State :=
  (s.onSpc fun p => { p with startByWork := false }).onFsv fun v =>
    { v with kinds := v.kinds.map fun x => { x with wantsStart := false } }

/-- Retry delays, restarts and recovery watches of all kinds end (R154). -/
def State.endRetries (s : State) : State :=
  s.onFsv fun v => { v with kinds := v.kinds.map fun x =>
    { x with delay := none, restarting := false, wantsStart := false, wantsLoad := false,
             watch := none } }

/-- A change of the record of one kind (R144). -/
def State.onRecord (k : FaultKind) (f : FaultRecord → FaultRecord) (s : State) : State :=
  s.onFsv fun v => { v with records := v.records.map fun r => if r.kind == k then f r else r }

/-- The recovery watch begins at the success point of a RETRYING record whose delay has ended, and
the restart is no longer outstanding (R152). A watch already running keeps its count (assumption log 69). -/
def State.beginWatch (k : FaultKind) (s : State) : State :=
  let x := s.fsv.kinds.get k
  if (s.recordOf k).any (fun r => r.state == .retrying) && x.delay.isNone then
    s.onKind k fun y => { y with restarting := false, watch := some (y.watch.getD 0) }
  else s

/-- The success point of the spindle kinds, or of the others, is reached (R152). -/
def State.successPoint (spindle : Bool) (s : State) : State :=
  (FaultKind.all.filter fun k => isSpindleKind k == spindle).foldl (fun t k => t.beginWatch k) s

/-! ## Timers -/

/-- A running timer after `n` ticks; it does not pass its length. -/
def Timer.tick (n : Nat) (t : Timer) : Timer := { t with elapsed := satAdd t.length t.elapsed n }

/-- Ticks left to a timer's expiry. -/
def Timer.left (t : Timer) : Nat := t.length - t.elapsed

/-- A timer has reached its length. -/
def Timer.due (t : Timer) : Bool := decide (t.length ≤ t.elapsed)

/-- The standby count counts (R53). -/
def State.standbyCounts (s : State) : Bool :=
  s.spc.state == .atSpeed && s.queue.isEmpty && s.ccu.state == .latched

/-- The standby period in ticks (R53). -/
def State.standbyPeriod (s : State) : Nat := s.tbs.params.standby * Config.standbyUnit

/-- The standby timer has expired and the internal spin-down may start (R53, R54). -/
def State.standbyDue (s : State) : Bool :=
  s.standbyCounts && decide (0 < s.tbs.params.standby) && s.downs.standby.isNone &&
  decide (s.standbyPeriod ≤ s.spc.standbyElapsed)

/-- `n` ticks pass (00_scope.md, "Time"; R33, R37, R39, R43, R48, R53, R74, R75, R137). -/
def State.elapse (n : Nat) (s : State) : State :=
  let standby := if s.standbyCounts then s.spc.standbyElapsed + n else s.spc.standbyElapsed
  let boundary := if s.spc.state == .stopped then s.spc.boundaryTicks + n else s.spc.boundaryTicks
  ((s.onSpc fun p => { p with
      revTimer := p.revTimer + n, standbyElapsed := standby,
      firstIndexWatch := p.firstIndexWatch.map (Timer.tick n),
      spinUpTimer := p.spinUpTimer.map (Timer.tick n),
      lostIndexWatch := p.lostIndexWatch.map (Timer.tick n),
      stopWindow := p.stopWindow.map (Timer.tick n),
      boundaryTicks := boundary, wedgeWait := p.wedgeWait - n }).onPos fun p => { p with
      unloadWatch := p.unloadWatch.map (Timer.tick n),
      retractWindow := p.retractWindow.map (Timer.tick n) }).onCcu fun c => { c with
      ejectWindow := c.ejectWindow.map (Timer.tick n) }

/-! ## Spindle -/

/-- The stop window armed now (R48). -/
def State.freshStopWindow (s : State) : Option Timer :=
  some ⟨0, s.tbs.params.stopWindow * Config.quarterSecond⟩

/-- The stop demand after a request (R45). -/
def StopDemand.combine (old new : StopDemand) : StopDemand :=
  match old, new with
  | old, .none => old
  | .none, new => new
  | _, .coast => .coast
  | .reverse, .dynamic => .dynamic
  | old, _ => old

/-- The brake request of the mode that DRIVE PARAMETERS name (R45). -/
def State.brakeDemand (s : State) : StopDemand :=
  match s.tbs.params.brakeMode with
  | .dynamic => .dynamic
  | .reverse => .reverse

/-- The brake mode in which a demand enters BRAKING (R46, R47). -/
def StopDemand.brakeMode : StopDemand → BrakeMode
  | .reverse => .reverse
  | _ => .dynamic

/-- The spindle kinds, supervised only while the drive is on (R34, R143). -/
def spindleKinds : List FaultKind :=
  [.noRotation, .spinUpTimeout, .speedOutOfRange, .lostIndex, .spindleOvercurrent]

/-- The drive goes off: timers and watches end, the counts of the supervised kinds return to 0 and
their conditions become absent, the stop window is armed (R34, R38, R42, R45, R143). -/
def State.leavePowered (st : SpindleState) (brake : Bool) (d : StopDemand) (s : State) : State :=
  let window := s.freshStopWindow
  (s.onSpc fun p => { p with
    state := st, demand := d, brakePending := brake, driveAtLimit := false,
    brakeMode := if st == .braking then d.brakeMode else p.brakeMode,
    lockCount := 0, excursionCount := 0, overcurrentCount := 0, noRotationCount := 0,
    spinUpTimeoutCount := 0, lostIndexCount := 0, firstIndexWatch := none, spinUpTimer := none,
    lostIndexWatch := none, stopWindow := window }).absents spindleKinds

/-- A stop request (R45). -/
def State.stopRequest (d : StopDemand) (s : State) : State :=
  let d' := s.spc.demand.combine d
  match s.spc.state with
  | .stopped => s.onSpc fun p => { p with demand := .none }
  | .coasting => s.onSpc fun p =>
      { p with demand := d', brakePending := p.brakePending && d' != .coast }
  | .braking =>
    if d' == .coast then
      let window := s.freshStopWindow
      s.onSpc fun p => { p with state := .coasting, demand := d', brakePending := false,
                                stopWindow := window }
    else s.onSpc fun p => { p with
      demand := d', brakeMode := if d' == .dynamic then .dynamic else p.brakeMode }
  | _ =>
    if d' == .coast then s.leavePowered .coasting false d'
    else if s.pos.state == .unloaded then s.leavePowered .braking false d'
    else s.leavePowered .coasting true d'

/-- A pending brake is applied (R46). A REVERSE phase entered with the revolution timer already past
66,668 ticks ends at the next tick or REVERSE_PHASE_TIMEOUT row (R47; assumption log 48). -/
def State.applyBrake (s : State) : State :=
  let window := s.freshStopWindow
  s.onSpc fun p => { p with state := .braking, brakePending := false,
                            brakeMode := p.demand.brakeMode, stopWindow := window }

/-- A start request (R35), made by the work of SPIN UP or by a kind's restart: held pending in
STOPPED, COASTING and BRAKING; a start that can be taken at once is taken when the blocks react. -/
def State.startByWork (s : State) : State :=
  if s.spc.state.idle then s.onSpc fun p => { p with startByWork := true } else s

/-- The spindle enters STARTING (R33, R37, R39). The first wedge time after the entry comes 260 ticks
after it (assumption log 49). -/
def State.enterStarting (s : State) : State :=
  let timeout := s.tbs.params.spinUpTimeout * Config.second
  (s.onSpc fun p => { p with
    state := .starting, demand := .none, brakePending := false, driveAtLimit := true, revTimer := 0,
    lastPeriod := 0, indexSeen := false, lockCount := 0, stopWindow := none,
    firstIndexWatch := some ⟨0, Config.firstIndexTicks⟩, spinUpTimer := some ⟨0, timeout⟩,
    wedgeWait := Config.pNom / Config.wedges }).clearStarts

/-! ## Tables -/

/-- The held current command is clamped to the active Ilim (R85; assumption log 20). -/
def State.clampCurrent (s : State) : State :=
  let m := s.tbs.profile.ilim
  s.onPos fun p => { p with current := clampTo m p.current }

/-- A staged copy is present (R160). -/
def State.anyStaged (s : State) : Bool :=
  s.tbs.stagedProfile.isSome || s.tbs.stagedActions.isSome || s.tbs.stagedParams.isSome

/-- A take (R166), at an event that allows one: with the table-hold flag clear and a copy staged, and
not after a supply-low (R173). -/
def State.takeTables (s : State) : State :=
  if s.anyStaged && !s.tbs.hold && !s.supplyLow then
    ((s.onTbs fun t => { t with
      profile := t.stagedProfile.getD t.profile, actions := t.stagedActions.getD t.actions,
      params := t.stagedParams.getD t.params, stagedProfile := none, stagedActions := none,
      stagedParams := none }).clampCurrent).request .tablesTaken
  else s

/-- The spindle enters STOPPED (R48). Staged tables are taken before a pending start and the next head entry
(R166; assumption log 67). -/
def State.enterStopped (s : State) : State :=
  (s.onSpc fun p => { p with state := .stopped, demand := .none, brakePending := false,
                             stopWindow := none, boundaryTicks := 0 }).takeTables

end Sys2Proof.Machine
end

