-- ==== Sys2Proof/Machine/Handshake.lean ====
section
/-! DEFINITION. The four-event handshake by which a byte crosses the drive bus (R174, R175). The table has
no row for a strobe: a packet's row stands for the handshakes of its bytes, and leaves STB and ACK where
they leave them (assumption log 11). -/

namespace Sys2Proof.Machine

/-- The host may send: it holds the turn, BUS_RESET is negated and no outbound packet is in flight (R174,
R176, R183). -/
def State.hostSends (s : State) : Bool := s.dbi.turn && !s.dbi.busReset && s.dbi.out == .none

/-- The part takes bytes: the host may send, and no supply-low holds the interface (R184; assumption
log 33). -/
def State.canReceive (s : State) : Bool := s.hostSends && !s.supplyLow

/-- Bytes cross the drive bus: after a supply-low only where the fault list can be read there, and then only
those of READ FAULTS and CLEAR FAULTS packets and of their answers (R154, R184; assumption log 58). -/
def State.busLives (s : State) : Bool := !s.supplyLow || Config.faultListReadable

/-- The part's level on STB. -/
def State.driveStb (level : Bool) (s : State) : State := s.onDbi fun d => { d with stb := level }

/-- The part's level on ACK. -/
def State.driveAck (level : Bool) (s : State) : State := s.onDbi fun d => { d with ack := level }

/-- What the host does in the handshake of one byte (R174): it presents a byte with its parity bit and
asserts STB; it negates STB; it asserts ACK to the part's byte; it negates ACK, with `more` bytes of the
part's packet still to come. -/
inductive ShakeEvent where
  | strobe (b : Byte) (parity : Bool)
  | strobeEnds
  | acked
  | ackEnds (more : Bool)
  deriving DecidableEq, Repr

/-- ACK is withheld from the first byte of a packet while the reply queue is full (R180). -/
def State.withholdsAck (s : State) : Bool :=
  match s.dbi.inb with
  | .idle => s.replyFull
  | .waiting _ => true
  | _ => false

/-- The part's answer on STB and ACK, with no timeout on either side (R174): it takes a byte at the
host's STB and asserts ACK, whatever the byte's parity (R175), and negates ACK when the host negates STB;
it negates STB at the host's ACK, and presents its next byte when ACK has been negated. Where a supply-low
has ended all traffic both lines are held as they are (R184). -/
def State.shake (e : ShakeEvent) (s : State) : State :=
  if !s.busLives then s
  else match e with
  | .strobe _ _ => if s.hostSends && !s.withholdsAck then s.driveAck true else s
  | .strobeEnds => s.driveAck false
  | .acked => s.driveStb false
  | .ackEnds more => if s.dbi.out != .none && more then s.driveStb true else s

/-- A taken byte has good parity: the nine lines hold an odd number of ones (R175). -/
def goodParity (b : Byte) (parity : Bool) : Bool := parity == parityBit b

/-- The handshake of one byte from the host. -/
def State.shakeIn (b : Byte) (parity : Bool) (s : State) : State :=
  (s.shake (.strobe b parity)).shake .strobeEnds

/-- The handshakes of the part's bytes from the first, which it has presented, to the last. -/
def State.shakeOut (s : State) : List Byte → State
  | [] => s
  | [_] => (s.shake .acked).shake (.ackEnds false)
  | _ :: b :: rest => ((s.shake .acked).shake (.ackEnds true)).shakeOut (b :: rest)

end Sys2Proof.Machine
end

