-- ==== Sys2Proof/Machine/QueueOps.lean ====
section
/-! DEFINITION. The operations by which entries of the Command Queue, works of SPIN UP and SPIN DOWN,
record operations and ejects end, and what a fault does to them (R11, R14, R49, R51, R52, R54, R100,
R101, R113 to R116, R139). No operation here asks anything of the spindle or the Positioner but the
withdrawal of a pending start or load. -/

namespace Sys2Proof.Machine

/-! ## Completion of the head entry -/

/-- A slot of a command that leaves the queue: FULL is emptied; a slot still moving keeps its data
until its sector or packet ends, for nobody (R104, R115, R118, R182; assumption log 25). -/
def Slot.release (t : Byte) (x : Slot) : Slot :=
  if x.tag == some t then
    if x.state == .full then Slot.none else { x with tag := Option.none }
  else x

/-- A flight of a host transfer. -/
def Flight.isHost (f : Flight) : Bool :=
  match f.kind with
  | .read | .write | .verify => true
  | _ => false

/-- The engine after its command: IDLE, with a sector of the command still passing marked as nobody's
(R102, R118). -/
def Engine.afterCommand (e : Engine) : Engine :=
  { Engine.none with flight := e.flight.map fun f => { f with orphan := f.orphan || f.isHost } }

/-- The requester of a seek after the head entry has left: a seek of a record operation keeps it, any
other runs on with none (R93, R115). -/
def State.orphanSeek (s : State) : State :=
  let own := s.record.op == .idle || s.pos.requester == .seekCommand
  s.onPos fun p => { p with requester := if own then .none else p.requester }

/-- The outbound DATA packet of a slot that its command has left (R182). -/
def Outbound.leave (t : Byte) : Outbound → Outbound
  | .data i tag live => .data i tag (live && tag != t)
  | o => o

/-- The slots, the outbound packet and the engine when the command of a tag leaves the queue. -/
def State.releaseCommand (t : Byte) (s : State) : State :=
  let out := s.dbi.out.leave t
  (((s.onDbi fun d => { d with out := out }).setSlots (s.slots.map (Slot.release t))).onEng
    Engine.afterCommand).orphanSeek

/-- A DONE is placed: COMMAND_DONE is requested and the standby elapsed time returns to 0 (R100). -/
def State.placeDone (t : Byte) (st : Status) (e : Engine) (s : State) : State :=
  ((s.place (.done t st e.completed e.errors e.slips e.firstError e.damaged)).request
    .commandDone).onSpc fun p => { p with standbyElapsed := 0 }

/-- A requester leaves the work of SPIN UP. -/
def SpinUpWork.without (w : SpinUpWork) : Who → SpinUpWork
  | .cmd => { w with forCmd := false }
  | .standby => { w with forStandby := false }
  | .orphan => { w with forOrphan := false }
  | .eject => { w with forEject := false }
  | .lost => { w with forLost := false }

/-- A requester joins the work of SPIN UP (R49). -/
def SpinUpWork.joined (w : SpinUpWork) : Who → SpinUpWork
  | .cmd => { w with forCmd := true }
  | .standby => { w with forStandby := true }
  | .orphan => { w with forOrphan := true }
  | .eject => { w with forEject := true }
  | .lost => { w with forLost := true }

/-- Somebody waits for the work, or it runs on after a bus reset. -/
def SpinUpWork.wanted (w : SpinUpWork) : Bool :=
  w.forCmd || w.forStandby || w.forOrphan || w.forEject || w.forLost

/-- The start and the load that the work made are withdrawn where still pending (R35, R62). -/
def State.withdrawWork (s : State) : State :=
  (s.onSpc fun p => { p with startByWork := false }).onPos fun p => { p with loadByWork := false }

/-- A requester leaves the work of SPIN UP; with the last one the work ends (R50, R99, R134). -/
def State.leaveWork (who : Who) (s : State) : State :=
  match s.work with
  | none => s
  | some w =>
    if (w.without who).wanted then s.setWork (some (w.without who))
    else (s.setWork none).withdrawWork

/-- A work of SPIN UP begins, or joins the one in progress (R49). -/
def State.joinWork (who : Who) (s : State) : State :=
  match s.work with
  | some w => s.setWork (some (w.joined who))
  | none => s.setWork
      (some ((⟨.cartridge, false, false, false, false, false, none⟩ : SpinUpWork).joined who))

/-- The head entry completes (R100). The next entry becomes the head entry; it begins when the blocks
react. -/
def State.completeHead (st : Status) (s : State) : State :=
  match s.queue with
  | [] => s
  | e :: rest =>
    (((((s.placeDone e.tag st s.eng).releaseCommand e.tag).setQueue rest).setJob .idle).setEnd
      none).leaveWork .cmd |>.onDowns fun d => { d with cmd := none }

/-- A WAITING entry leaves the queue and completes with no block done (R114, R117). -/
def State.completeWaiting (t : Byte) (st : Status) (s : State) : State :=
  (s.placeDone t st Engine.none).setQueue (s.queue.filter fun e => e.executing || e.tag != t)

/-- The transfer of the head entry ends with a status: a READ first sends the DATA packets of its FULL
slots, a WRITE or VERIFY completes (R101, R113). -/
def State.endTransfer (st : Status) (s : State) : State :=
  match s.executing with
  | some ⟨_, .xfer .read _ _, _⟩ =>
    (s.setJob (.drain st)).setEnd none |>.onEng fun e =>
      { e with state := .idle, place := none,
               flight := e.flight.map fun f => { f with orphan := f.orphan || f.isHost } }
  | _ => s.completeHead st

/-- A write sector in flight is cut with its command: it becomes the damaged block (R111, R116). -/
def State.cutWrite (s : State) : State :=
  match s.eng.flight with
  | some ⟨.write, some i, _, false⟩ =>
    let lba := (s.slots[i]?).map Slot.lba
    (s.onEng fun e => { e with flight := none, damaged := lba }).emptySlotAt i
  | _ => s

/-! ## Works and record operations -/

/-- A work of SPIN DOWN goes on at its next step. -/
def Downs.at (d : Downs) (step : Option DownStep) : Who → Downs
  | .cmd => { d with cmd := step }
  | .standby => { d with standby := step }
  | .orphan => { d with orphan := step }
  | _ => d

/-- The internal spin-down and its work have ended (R54). -/
def Downs.endStandby (d : Downs) : Downs := { d with standby := none, standbyLeft := false }

/-- An eject request ends the internal spin-down, whose work runs on (R54, R132; assumption log 30). -/
def Downs.leaveStandby (d : Downs) : Downs := { d with standbyLeft := d.standby.isSome }

/-- The internal spin-down is abandoned and the standby timer restarts (R11, R54). -/
def State.abandonStandby (s : State) : State :=
  (s.onDowns Downs.endStandby).onSpc fun p => { p with standbyElapsed := 0 }

/-- The DONE of an EJECT command (R131). -/
def State.placeEjectDone (t : Byte) (st : Status) (s : State) : State :=
  (s.place (.done t st 0 0 0 none none)).request .commandDone

/-- Every waiting EJECT command completes, in arrival order, and the eject record is discarded
(R137 to R139). -/
def State.endEject (st : Status) (s : State) : State :=
  let tags := (s.ccu.eject.map EjectRecord.tags).getD []
  (tags.foldl (fun v t => v.placeEjectDone t st) s).onCcu fun c =>
    { c with eject := none, ejectWindow := none }

/-- An eject ends with the cartridge present (R139). -/
def State.failEject (st : Status) (next : CartState) (s : State) : State :=
  ((s.endEject st).onCcu fun c => { c with state := next, ejector := false }).request .ejectFailed

/-- The code of a FLUSH RECORD whose work of SPIN UP ends with a code of failure: R99 gives it the code of the
work, R9 and R11 RECORD_WRITE_FAILED, and the free value says which (assumption log 15). -/
def flushCode (work : Status) : Status :=
  if Config.flushTakesWorkCode then work else .recordWriteFailed

/-- The end of a work of SPIN UP reaches the head entry (R50, R51, R99). The code of a failed work is that
of its command (R11, R99), for FLUSH RECORD as `flushCode` gives. -/
def State.workEndsHead (st : Status) (s : State) : State :=
  match s.endWith with
  | some st' => s.completeHead st'
  | none =>
    match s.executing.map Entry.cmd with
    | some .spinUp => s.completeHead st
    | some .spinDown =>
      if st == .ok then s.onDowns fun d => { d with cmd := some .point } else s.completeHead st
    | some .flush =>
      if st == .ok || st == .recordUnreadable then s.setJob .ready else s.completeHead (flushCode st)
    | some _ =>
      if st == .ok || st == .recordUnreadable then s.setJob .ready else s.completeHead st
    | none => s

/-- The end of a work of SPIN UP reaches one of those that waited for it. -/
def State.workEndsFor (who : Who) (st : Status) (s : State) : State :=
  match who with
  | .cmd => s.workEndsHead st
  | .standby =>
    if st == .ok then s.onDowns fun d => { d with standby := some .point } else s.abandonStandby
  | .orphan => s.onDowns fun d => { d with orphan := if st == .ok then some .point else none }
  | .eject =>
    if st == .ok then
      s.onCcu fun c => { c with eject := c.eject.map fun e => { e with flush := .undecided } }
    else if s.ccu.eject.isSome then s.failEject .recordWriteFailed .latched
    else s
  | .lost => s

/-- A work of SPIN UP ends (R49): everybody who waits for it learns the ending, and a start or load
still pending is withdrawn. -/
def State.endWork (st : Status) (s : State) : State :=
  match s.work with
  | none => s
  | some w =>
    let s := (s.setWork none).withdrawWork
    let s := if w.forCmd then s.workEndsFor .cmd st else s
    let s := if w.forStandby then s.workEndsFor .standby st else s
    let s := if w.forOrphan then s.workEndsFor .orphan st else s
    if w.forEject then s.workEndsFor .eject st else s

/-- A slot of the sector in flight and of the write-back returns to EMPTY. -/
def State.emptySlotOpt (i : Option Nat) (s : State) : State :=
  match i with
  | some i => s.emptySlotAt i
  | none => s

/-- The slot of a write-back. -/
def RecordOp.slot : RecordOp → Option Nat
  | .writing w => w.slot
  | _ => none

/-- The record operation in flight stops: its sector in flight is cut or abandoned and its slot returns
to EMPTY (R10, R14). -/
def State.dropRecordOp (s : State) : State :=
  let s := s.emptySlotOpt s.record.op.slot
  let s :=
    match s.eng.flight with
    | some f => if f.isHost then s else (s.emptySlotOpt f.slot).onEng fun e => { e with flight := none }
    | none => s
  (s.onRec fun r => { r with op := .idle }).onPos fun p =>
    { p with requester := if p.requester == .engine then .none else p.requester }

/-- The eject passes to UNLOADING (R134). The works that a bus reset or the standby timer left running go
on (R50, R52, R132; assumption log 38). -/
def State.ejectUnloads (s : State) : State :=
  s.onCcu fun c => { c with eject := c.eject.map fun e => { e with phase := some .unloading } }

/-- The end of a write-back reaches the work that started it (R11, R14, R101). -/
def State.writeBackEnds (owner : Who) (good : Bool) (s : State) : State :=
  match owner with
  | .cmd =>
    let failed := match s.endWith with
      | some .faulted => .recordWriteFailed
      | some st => st
      | none => .recordWriteFailed
    if !good then s.completeHead failed
    else match s.endWith, s.executing.map Entry.cmd with
      | some st, _ => s.completeHead st
      | none, some .spinDown => s.onDowns fun d => { d with cmd := some .ask }
      | none, _ => s.completeHead .ok
  | .standby =>
    if good then s.onDowns fun d => { d with standby := some .ask } else s.abandonStandby
  | .orphan => s.onDowns fun d => { d with orphan := if good then some .ask else none }
  | .eject =>
    if s.ccu.eject.isNone then s
    else if good then s.ejectUnloads
    else s.failEject .recordWriteFailed .latched
  | .lost => s

/-- A write-back fails (R10, R11). -/
def State.failWriteBack (s : State) : State :=
  match s.record.op with
  | .writing w => s.dropRecordOp.writeBackEnds w.owner false
  | _ => s

/-- A write-back succeeds: the image takes the new generation with its check word, and the record
becomes VALID (R3, R10). -/
def State.finishWriteBack (w : WriteBack) (s : State) : State :=
  let c := storedCheck w.sectors.flatten
  (s.dropRecordOp.onRec fun r => { r with
    state := .valid, image := r.image.map fun i => { i with generation := w.generation },
    check := r.image.map fun _ => c }).writeBackEnds w.owner true

/-- Who started the write-back in flight becomes nobody, where that work has ended. -/
def State.orphanWriteBack (who heir : Who) (s : State) : State :=
  match s.record.op with
  | .writing w =>
    if w.owner == who then s.onRec fun r => { r with op := .writing { w with owner := heir } } else s
  | _ => s

/-- The executing entry waits for the end of a record operation, or of a sector of a command that has left
the queue, before its own work (R99, R102). -/
def State.waitsEngine (s : State) : Bool :=
  (s.job == .ready || s.job == .waitEngine) && !s.engineFree

/-- The entry that waits for a record operation meets the failure of its seek: a READ, WRITE or VERIFY
completes SEEK_FAILED (R101), another command where the hold flag cut a record read (R14). -/
def State.waiterSeekFailed (readHeld : Bool) (s : State) : State :=
  let fails := s.endWith.getD .seekFailed
  if s.job == .ready || s.job == .waitEngine then
    match s.executing.map Entry.cmd with
    | some (.xfer _ _ _) => s.completeHead fails
    | _ => if readHeld then s.completeHead fails else s
  else s

/-- The Positioner reports a seek failed to its requester (R61, R92, R101, R14). `byHold`: the hold
flag stopped it, and not an unload or a retract. -/
def State.seekFailed (byHold : Bool) (s : State) : State :=
  let t := s.onPos fun p => { p with requester := .none }
  match s.pos.requester with
  | .none => t
  | .seekCommand => if s.job == .seeking then t.completeHead .seekFailed else t
  | .engine =>
    match s.record.op with
    | .reading _ =>
      let u := t.dropRecordOp
      (if byHold then u.endWork .seekFailed else u).waiterSeekFailed byHold
    | .writing _ => t.failWriteBack.waiterSeekFailed false
    | .idle => if s.job == .transfer then t.endTransfer .seekFailed else t

/-- The record operation is lost with the heads or the spindle (R10, R14), a record read also by an unload
that is no fault action (assumption log 59). -/
def State.recordOpLost (s : State) : Bool := s.record.op != .idle && !s.spindleReady

/-- A lost record operation ends (R10, R14). -/
def State.loseRecordOp (s : State) : State :=
  match s.record.op with
  | .reading _ => s.dropRecordOp
  | .writing _ => s.failWriteBack
  | .idle => s

/-- A record read is in flight. -/
def State.recordReading (s : State) : Bool :=
  match s.record.op with
  | .reading _ => true
  | _ => false

/-! ## A fault meets the queue -/

/-- A pending ending by fault; it does not replace one by ABORT or eject (R101; assumption log 24). -/
def State.endLater (st : Status) (s : State) : State := s.setEnd (some (s.endWith.getD st))

/-- The executing transfer meets a fault (R101): a write sector cut by the action ends the command at
once, any other sector in flight runs to its end first. -/
def State.transferMeetsFault (s : State) : State :=
  match s.eng.flight with
  | some f =>
    if f.isHost && !f.orphan then
      if f.kind == .write && !(s.pos.state == .tracking && s.spc.state == .atSpeed) then
        s.cutWrite.completeHead (s.endWith.getD .faulted)
      else s.endLater .faulted
    else s.endTransfer .faulted
  | none => s.endTransfer .faulted

/-- The executing entry meets a fault (R101, R52). The write-back of a SPIN DOWN in flight runs to its end
first, as R101 gives against the "at once" of R52 (assumption log 84). An entry that waits for a record
operation completes FAULTED at its end, whatever the result of a write-back that it did not start
(assumption log 61). A READ that only sends its remaining DATA packets keeps its status, whatever it is
(R101, R108; assumption log 78). -/
def State.headMeetsFault (s : State) : State :=
  match s.job with
  | .transfer => s.transferMeetsFault
  | .ready | .waitEngine => if s.waitsEngine then s.endLater .faulted else s.completeHead .faulted
  | .down =>
    match s.downs.cmd with
    | some .writeBack => s.endLater .faulted
    | some .work => s
    | _ => s.completeHead .faulted
  | .flush => s.endLater .faulted
  | _ => s

/-- The work of SPIN UP in progress meets a fault (R49): it ends, after a record read in flight (R101;
assumption log 84). -/
def State.workMeetsFault (s : State) : State :=
  match s.work with
  | none => s
  | some w =>
    if s.recordReading then s.setWork (some { w with cut := some (w.cut.getD .faulted) })
    else s.endWork .faulted

/-- The spin-downs that no entry waits for meet a fault (R52, R54), the work that an eject request left
running among them; a write-back in flight runs on for nobody (assumption log 84). `reaches`: its action
reaches the spindle or the positioner. The standby elapsed time keeps its value (assumption log 51). -/
def State.downsMeetFault (reaches : Bool) (s : State) : State :=
  let s := if reaches && s.downs.standby.isSome then
      ((s.onDowns Downs.endStandby).leaveWork .standby).orphanWriteBack .standby .lost
    else s
  if s.downs.orphan.isSome then
    ((s.onDowns fun d => { d with orphan := none }).leaveWork .orphan).orphanWriteBack .orphan .lost
  else s

/-- A recognition whose action reaches the spindle or the positioner, or that leaves the record
LATCHED, meets the works, the record operation and the executing entry (R49, R52, R54, R101); after a
supply-low no entry begins or completes (R119). -/
def State.meetFault (reaches : Bool) (s : State) : State :=
  if s.supplyLow then s
  else
  let s := if s.recordOpLost then s.loseRecordOp else s
  s.workMeetsFault.headMeetsFault.downsMeetFault reaches

end Sys2Proof.Machine
end

