-- ==== Sys2Proof/Machine/PositionerOps.lean ====
section
/-! DEFINITION. The Positioner's state entries and its hold, unload, retract and load requests
(R56, R61 to R63, R71 to R77). -/

namespace Sys2Proof.Machine

/-- A current command reaches the power stage clamped to the active Ilim (R56). -/
def State.drive1 (i : Int) (s : State) : Int := clampTo s.tbs.profile.ilim i

/-- The Positioner leaves SEEKING and the first phase of UNLOADING (R84, R143). -/
def State.leaveSeekLaw (s : State) : State :=
  (s.onPos fun p => { p with clampCount := 0 }).absent .actuatorSaturation

/-- A value that a block leaving its states clears, but that supply-low leaves unchanged until the
power-on reset (R55, R77, R94; assumption log 46). -/
def State.clearedTo {α : Type} (cleared kept : α) (s : State) : α :=
  if s.supplyLow then kept else cleared

/-- The Positioner enters UNLOADED (R74, R75, R77, R94, R143). A load that a restart had asked for has
come to nothing. -/
def State.enterUnloaded (s : State) : State :=
  ((((s.onPos fun p => { p with
    state := .unloaded, current := 0, target := none, fix := s.clearedTo none p.fix,
    settleCount := s.clearedTo 0 p.settleCount, dropCount := s.clearedTo 0 p.dropCount,
    window := .closed, unloadWatch := none,
    unloadFailedCount := s.clearedTo 0 p.unloadFailedCount, retractWindow := none,
    causing := none, timerOn := false, timerCount := 0, restartLoad := false,
    seekTimeoutCount := s.clearedTo 0 p.seekTimeoutCount, clampCount := 0 }).absents
    [.servoLost, .seekTimeout, .unloadFailed, .actuatorSaturation])).onRec
      fun r => { r with readWanted := false })

/-- The Positioner enters LOADING (R63; assumption log 8). -/
def State.enterLoading (s : State) : State :=
  let i := s.drive1 Config.loadDrive
  let byRestart := s.fsv.kinds.any KindStatus.wantsLoad
  (s.onPos fun p => { p with
    state := .loading, head := 0, fix := none, target := none, dropCount := 0, settleCount := 0,
    window := .closed, loadWindows := 0, current := i, parkSensor := false,
    restartLoad := byRestart, clampCount := 0 }).absent .servoLost

/-- The Positioner drives the heads to the ramp (R74). -/
def State.beginToRamp (s : State) : State :=
  let i := s.drive1 Config.rampDrive
  (s.onPos fun p => { p with
    state := .unloading, phase := .toRamp, current := i, settleCount := 0, window := .closed,
    timerOn := false, unloadWatch := some ⟨0, Config.unloadWatchTicks⟩ }).leaveSeekLaw

/-- In the TO_RAMP phase with the park sensor on-ramp the Positioner goes on to UNLOADED (R74). -/
def State.rampReached (s : State) : State :=
  if s.pos.state == .unloading && s.pos.phase == .toRamp && s.pos.parkSensor then s.enterUnloaded
  else s

/-- The Positioner enters the TO_RAMP phase of UNLOADING (R74); with the park sensor already on-ramp it
goes on to UNLOADED. -/
def State.enterToRamp (s : State) : State := s.beginToRamp.rampReached

/-- The Positioner enters the TO_CYLINDER_0 phase of UNLOADING (R73, R91). The last current command stands
until the first valid sample there (assumption log 62). -/
def State.enterToCylinder0 (s : State) : State :=
  let len := s.tbs.params.seekTimeout
  let t := s.onPos fun p => { p with
    state := .unloading, phase := .toCylinder0, target := some 0, settleCount := 0,
    requester := .none, timerOn := true, timerCount := 0, timerLength := len }
  if s.pos.fix.any (fun f => withinHalfTrack 0 f.position) then t.enterToRamp else t

/-- An unload begins (R61, R73): a seek in flight is abandoned and reported failed. -/
def State.beginUnload (s : State) : State :=
  match s.pos.state with
  | .loading => s.enterToRamp
  | .settling | .tracking | .seeking => (s.seekFailed false).enterToCylinder0
  | _ => s

/-- An unload request (R61, R62). -/
def State.unloadRequest (s : State) : State := s.withdrawLoads.beginUnload

/-- The Positioner enters RETRACTING (R75, R77, R143); with the park sensor already on-ramp it goes on to
UNLOADED, parked. -/
def State.enterRetracting (cause : Option FaultKind) (s : State) : State :=
  let i := s.drive1 Config.retractDrive
  let t := ((s.onPos fun p => { p with
    state := .retracting, current := i, target := none,
    settleCount := s.clearedTo 0 p.settleCount, dropCount := s.clearedTo 0 p.dropCount,
    window := .closed, timerOn := false, unloadWatch := none,
    unloadFailedCount := s.clearedTo 0 p.unloadFailedCount,
    retractWindow := some ⟨0, Config.retractTicks⟩, causing := cause,
    requester := .none }).leaveSeekLaw).absents [.servoLost, .unloadFailed]
  if s.pos.parkSensor then t.enterUnloaded.onPos fun p => { p with parkUnconfirmed := false } else t

/-- A retract request (R61, R62, R75). -/
def State.retractRequest (cause : FaultKind) (s : State) : State :=
  let s := s.withdrawLoads
  match s.pos.state with
  | .unloaded | .retracting => s
  | _ => (s.seekFailed false).enterRetracting (some cause)

/-- A seek in flight, in SEEKING or in the SETTLING that follows (R78, R89). -/
def State.seekInFlight (s : State) : Bool :=
  s.pos.state == .seeking || (s.pos.state == .settling && s.pos.timerOn)

/-- A hold request (R71): the flag is set, and a seek in flight is stopped on the nearest cylinder. The
last seek current stands until the next sample (assumption log 50). -/
def State.holdRequest (s : State) : State :=
  if s.pos.hold then s
  else
    let t := s.onPos fun p => { p with hold := true }
    if s.seekInFlight then
      ((t.seekFailed true).onPos fun p => { p with
        state := .settling, target := p.fix.map Fix.cylinder, settleCount := 0,
        timerOn := false }).leaveSeekLaw
    else t

/-- A load request made by the work of SPIN UP (R61, R62): it stands until TRACKING is reached or it is
withdrawn. -/
def State.loadByWork (s : State) : State :=
  match s.pos.state with
  | .unloaded | .loading | .unloading | .retracting =>
    s.onPos fun p => { p with loadByWork := true }
  | _ => s

/-- The state in which a load is taken (R62). -/
def State.loadAllowed (s : State) : Bool :=
  s.pos.state == .unloaded && s.spc.state == .atSpeed &&
  (s.ccu.state == .latched || s.ccu.state == .ejectPending)

/-- The park sensor changes to on-ramp (R74, R75). -/
def State.parkOnRamp (s : State) : State :=
  let t := s.onPos fun p => { p with parkSensor := true, parkUnconfirmed := false }
  match s.pos.state, s.pos.phase with
  | .unloading, .toRamp => t.enterUnloaded
  | .retracting, _ => t.enterUnloaded
  | _, _ => t

/-- The retract window expires (R75, R149). -/
def State.retractExpires (s : State) : State :=
  let t := s.enterUnloaded.onPos fun p => { p with parkUnconfirmed := true }
  match s.pos.causing with
  | some k => t.onRecord k fun r => { r with sub := some .retractUnconfirmed }
  | none => t

end Sys2Proof.Machine
end

