-- ==== Sys2Proof/Machine/Supervisor.lean ====
section
/-! DEFINITION. The Fault Supervisor: recognition, actions, escalation, retry delays, restarts and
recovery watches (R141 to R153), and what a revolution boundary counts. -/

namespace Sys2Proof.Machine

/-! ## Records -/

/-- A record made at a recognition (R144, R145). -/
def State.newRecord (k : FaultKind) (sub : Option SubCause) (st : FaultState)
    (kept : Option FaultRow) (s : State) : FaultRecord :=
  { kind := k, state := st, sub := sub, occurrences := 1, first := s.spc.revCount,
    last := s.spc.revCount, cylinder := s.pos.fix.map Fix.cylinder, spindle := s.spc.state,
    positioner := s.pos.state, retries := 0, kept := kept }

/-- A record updated at a recognition (R145). -/
def State.updatedRecord (sub : Option SubCause) (st : FaultState) (retries : Nat)
    (kept : Option FaultRow) (s : State) (r : FaultRecord) : FaultRecord :=
  { r with state := st, sub := sub, occurrences := satAdd 255 r.occurrences 1,
           last := s.spc.revCount, cylinder := s.pos.fix.map Fix.cylinder, spindle := s.spc.state,
           positioner := s.pos.state, retries := retries, kept := kept }

/-- The record of a kind is made at the end of the list, or updated in its place (R144, R145). -/
def State.putRecord (k : FaultKind) (sub : Option SubCause) (st : FaultState) (retries : Nat)
    (kept : Option FaultRow) (s : State) : State :=
  match s.recordOf k with
  | none => s.onFsv fun v => { v with records := v.records ++ [s.newRecord k sub st kept] }
  | some _ => s.onRecord k (s.updatedRecord sub st retries kept)

/-! ## Actions -/

/-- The stop request of a row (R147). -/
def SpindleAction.demand : SpindleAction → StopDemand
  | .none => .none
  | .coast => .coast
  | .dynamic => .dynamic
  | .reverse => .reverse

/-- The spindle request of a row (R147). -/
def State.spindleAction (r : FaultRow) (s : State) : State :=
  if r.spindle == .none then s else s.stopRequest r.spindle.demand

/-- The positioner request of a row, with the implied unload (R147); a hold is made before the unload that it
implies (assumption log 75). -/
def State.positionerAction (k : FaultKind) (r : FaultRow) (s : State) : State :=
  let unload := r.spindle != .none
  match r.positioner with
  | .none => if unload then s.unloadRequest else s
  | .hold => if unload then s.holdRequest.unloadRequest else s.holdRequest
  | .unload => s.unloadRequest
  | .retract => s.retractRequest k

/-- The retract request that the CCU makes when UNLOAD_FAILED is recognized in the UNLOADING phase
(R135). -/
def State.ejectRetracts (k : FaultKind) (s : State) : State :=
  if k == .unloadFailed && (s.ccu.eject.bind EjectRecord.phase) == some .unloading then
    s.retractRequest .unloadFailed
  else s

/-- The action of a row is taken (R147): outstanding restarts are cancelled where it reaches the
spindle or the positioner (R151), the requests are made, and the works and the queue meet it where it
reaches one of the two or where the record `latched` with it (R49, R52, R101; assumption log 14). -/
def State.act (k : FaultKind) (r : FaultRow) (latched : Bool) (s : State) : State :=
  let s := if r.reaches then s.cancelRestarts else s
  let s := ((s.spindleAction r).positionerAction k r).ejectRetracts k
  if r.reaches || latched then s.meetFault r.reaches else s

/-- The retry delay of a kind starts, replacing one already running; its restart and its watch end
(R150, R153). -/
def State.startDelay (k : FaultKind) (r : FaultRow) (s : State) : State :=
  s.onKind k fun x => { x with delay := some ⟨0, r.delay⟩, restarting := false, wantsStart := false,
                               wantsLoad := false, watch := none }

/-- The retry delay, the restart and the watch of a kind end (R153). -/
def State.endRetry (k : FaultKind) (s : State) : State :=
  s.onKind k fun x => { x with delay := none, restarting := false, wantsStart := false,
                               wantsLoad := false, watch := none }

/-- The record becomes LATCHED and the action is taken (R145). -/
def State.latchFault (k : FaultKind) (sub : Option SubCause) (retries : Nat) (r : FaultRow)
    (s : State) : State :=
  ((s.putRecord k sub .latched retries (some r)).endRetry k).act k r true

/-- The record is RETRYING, its delay starts and the action is taken (R145, R150, R153). -/
def State.retryFault (k : FaultKind) (sub : Option SubCause) (retries : Nat) (r : FaultRow)
    (s : State) : State :=
  (((s.putRecord k sub .retrying retries (some r)).startDelay k r).request .faultReported).act
    k r false

/-- A kind is recognized (R145). A record LATCHED before takes its kept row's action again, and nothing
becomes LATCHED by it (R49). -/
def State.recognise (k : FaultKind) (sub : Option SubCause) (s : State) : State :=
  let row := s.activeRow k
  let s := s.nowPresent k
  let fresh :=
    match row.mode with
    | .off => s
    | .report => (s.putRecord k sub .reported 0 none).request .faultReported
    | .retry => s.retryFault k sub 0 row
    | .latch => s.latchFault k sub 0 row
  match s.recordOf k with
  | none => fresh
  | some r =>
    match r.state with
    | .reported | .recovered => fresh
    | .latched =>
      let kept := r.kept.getD row
      ((s.putRecord k sub .latched r.retries (some kept)).endRetry k).act k kept false
    | .retrying =>
      let kept := r.kept.getD row
      if r.retries + 1 ≤ kept.budget then s.retryFault k sub (r.retries + 1) kept
      else s.latchFault k sub (r.retries + 1) kept

/-! ## Restart -/

/-- The retry delay of another kind is running whose kept row orders HOLD (R151). -/
def State.holdWanted (k : FaultKind) (s : State) : Bool :=
  FaultKind.all.any fun j => j != k && (s.fsv.kinds.get j).delay.isSome &&
    (s.recordOf j).any fun r => (r.kept.map FaultRow.positioner) == some .hold

/-- The success point of a kind holds (R152). -/
def State.atSuccess (k : FaultKind) (s : State) : Bool :=
  if isSpindleKind k then s.spc.state == .atSpeed else s.pos.state == .tracking

/-- A restart makes a start request (R151). -/
def FaultRow.asksStart (r : FaultRow) : Bool := r.spindle != .none

/-- A restart makes a load request (R151). -/
def FaultRow.asksLoad (r : FaultRow) : Bool :=
  r.spindle != .none || r.positioner == .unload || r.positioner == .retract

/-- The start request of a restart is satisfied at once AT_SPEED, its load request in SETTLING and
TRACKING (R35, R61); the others leave the restart outstanding (R151). -/
def State.restartOpen (r : FaultRow) (s : State) : Bool :=
  (r.asksStart && s.spc.state != .atSpeed) ||
  (r.asksLoad && s.pos.state != .settling && s.pos.state != .tracking)

/-- The requests of a restart (R151). A request met at once by the state leaves nothing pending, and a
restart whose requests are all met, or that has none, is complete. A load request in LOADING joins the
load in progress. One that finds the heads SETTLING, TRACKING or SEEKING brings no record read of its own
with a NOT_READ record (R5, R61; assumption log 79). -/
def State.restart (k : FaultKind) (r : FaultRow) (s : State) : State :=
  let stillOpen := s.restartOpen r
  let start := r.asksStart && s.spc.state.idle
  let load := r.asksLoad && !s.pos.state.flying
  let joins := r.asksLoad && s.pos.state == .loading
  let clear := r.reaches && !s.holdWanted k
  (s.onKind k fun x => { x with restarting := stillOpen, wantsStart := start, wantsLoad := load }).onPos
    fun p => { p with hold := p.hold && !clear, restartLoad := p.restartLoad || joins }

/-- A kind's retry delay expires (R150 to R152): its restart falls due, and where its success point
already holds its watch begins. -/
def State.delayExpires (k : FaultKind) (s : State) : State :=
  let s : State := s.endRetry k
  let s : State :=
    match s.recordOf k with
    | none => s
    | some r =>
      if s.ccu.state == .latched && !s.anyLatched then s.restart k (r.kept.getD (s.activeRow k))
      else s
  if s.atSuccess k then s.beginWatch k else s

/-- A kind's recovery watch ends and the record becomes RECOVERED (R152). -/
def State.recovers (k : FaultKind) (s : State) : State :=
  ((s.onRecord k fun r => { r with state := .recovered, retries := 0, kept := none }).onKind k
    fun x => { x with watch := none }).request .faultReported

/-! ## What a revolution boundary counts -/

/-- One boundary for a kind's retry delay (R150). -/
def State.countDelay (s : State) (k : FaultKind) : State :=
  match (s.fsv.kinds.get k).delay with
  | none => s
  | some t =>
    if t.length ≤ t.elapsed + 1 then s.delayExpires k
    else s.onKind k fun x => { x with delay := some ⟨t.elapsed + 1, t.length⟩ }

/-- One boundary for every retry delay running before it. -/
def State.countDelays (s : State) : State :=
  (FaultKind.all.filter fun k => (s.fsv.kinds.get k).delay.isSome).foldl State.countDelay s

/-- One boundary for a kind's recovery watch (R152). -/
def State.countWatch (s : State) (k : FaultKind) : State :=
  let x := s.fsv.kinds.get k
  match x.watch with
  | none => s
  | some n =>
    if x.present then s
    else if Config.recoveryBoundaries ≤ n + 1 then s.recovers k
    else s.onKind k fun y => { y with watch := some (n + 1) }

/-- One boundary for every recovery watch of a list. -/
def State.countWatches (l : List FaultKind) (s : State) : State := l.foldl State.countWatch s

/-- The kinds whose recovery watch is running. -/
def State.watched (s : State) : List FaultKind :=
  FaultKind.all.filter fun k => (s.fsv.kinds.get k).watch.isSome

/-- The over-temperature warning comparator is sampled at a boundary (R142). -/
def State.sampleWarning (warning : Bool) (s : State) : State :=
  if warning then
    let n := s.fsv.otwCount + 1
    if s.deglitch .overTempWarn ≤ n then
      (s.onFsv fun v => { v with otwCount := 0 }).recognise .overTempWarn none
    else s.onFsv fun v => { v with otwCount := n }
  else (s.onFsv fun v => { v with otwCount := 0 }).absent .overTempWarn

/-- A seek timer expires (R89, R91): one SEEK_TIMEOUT observation. In SEEKING and SETTLING the timer
restarts with the same length; in TO_CYLINDER_0 the Positioner passes to TO_RAMP. -/
def State.seekTimerExpires (s : State) : State :=
  let unloading := s.pos.state == .unloading
  let n := s.pos.seekTimeoutCount + 1
  let raise := decide (s.deglitch .seekTimeout ≤ n)
  let t := s.onPos fun p => { p with
    timerCount := 0, timerOn := !unloading, seekTimeoutCount := if raise then 0 else n }
  let t := if raise then t.recognise .seekTimeout none else t
  if unloading && t.pos.state == .unloading && t.pos.phase == .toCylinder0 then t.enterToRamp else t

/-- One boundary for the seek timer (R89). -/
def State.countSeekTimer (s : State) : State :=
  if s.pos.timerOn then
    if s.pos.timerLength ≤ s.pos.timerCount + 1 then s.seekTimerExpires
    else s.onPos fun p => { p with timerCount := p.timerCount + 1 }
  else s

end Sys2Proof.Machine
end

