-- ==== Sys2Proof/Machine/Servo.lean ====
section
/-! DEFINITION. Servo samples and seeks: the seek computation, the start and the end of a seek,
settling, tracking, slips and drops (R58 to R60, R64 to R68, R78 to R92). -/

namespace Sys2Proof.Machine

/-- The seek computation (R80 to R84) from the record of position as it stands. -/
def State.seekCompute (s : State) : State :=
  match s.pos.fix, s.pos.target with
  | some f, some t =>
    let raw := seekRaw s.tbs.profile t f.position f.velocity
    let i := clampTo s.tbs.profile.ilim raw
    if isClamped s.tbs.profile raw then
      let n := s.pos.clampCount + 1
      if s.deglitch .actuatorSaturation ≤ n then
        (s.onPos fun p => { p with current := i, clampCount := 0 }).recognise .actuatorSaturation none
      else s.onPos fun p => { p with current := i, clampCount := n }
    else (s.onPos fun p => { p with current := i, clampCount := 0 }).absent .actuatorSaturation
  | _, _ => s

/-- The seek timer is started (R79). -/
def State.startSeekTimer (s : State) : State :=
  let len := s.tbs.params.seekTimeout
  s.onPos fun p => { p with timerOn := true, timerCount := 0, timerLength := len }

/-- The last valid sample lies within half a track of the target (R80). -/
def State.withinWindow (s : State) : Bool :=
  match s.pos.fix, s.pos.target with
  | some f, some t => withinHalfTrack t f.position
  | _, _ => false

/-- The Positioner enters SETTLING (R66, R84). -/
def State.enterSettling (s : State) : State :=
  (s.onPos fun p => { p with state := .settling, settleCount := 0 }).leaveSeekLaw

/-- A seek starts (R79): the target, the head and the requester are taken, the timer is started, and the
first computation is made, unless the heads already lie within the end-of-seek window (assumption
log 21). -/
def State.startSeek (req : Requester) (cylinder head : Nat) (s : State) : State :=
  let t := (s.onPos fun p => { p with
    state := .seeking, target := some cylinder, head := head, requester := req,
    settleCount := 0 }).startSeekTimer
  if t.withinWindow then t.enterSettling else t.seekCompute

/-- The replaced target's requester is reported failed, where another one replaces it (R90). -/
def State.replaceSeek (req : Requester) (s : State) : State :=
  if s.pos.requester == .none || s.pos.requester == req then s else s.seekFailed false

/-- A head switch (R68). The current command stands until the next sample (assumption log 85). -/
def State.headSwitch (head : Nat) (s : State) : State :=
  if s.pos.head == head then s
  else match s.pos.state with
    | .tracking | .settling => s.onPos fun p =>
        { p with head := head, state := .settling, settleCount := 0 }
    | .seeking => s.onPos fun p => { p with head := head }
    | _ => s

/-- A request for a head on the cylinder being approached or tracked (R67, R68, R90): it joins a seek in
flight, or the SETTLING that a SEEK waits for. The requester it names stays with an overshoot of that
SETTLING (R88, R92; assumption log 52). A head switch that the engine asks for during a seek in flight makes
it that seek's requester (assumption log 73). -/
def State.joinSeek (req : Requester) (head : Nat) (s : State) : State :=
  (s.headSwitch head).onPos fun p =>
    { p with requester := if p.timerOn || req == .seekCommand then req else p.requester }

/-- A seek request (R61, R67, R90, R92); none where the seek fails, as every seek request does while the
hold flag is set (R61, R71; assumption log 16). -/
def State.seekRequest (req : Requester) (cylinder head : Nat) (s : State) : Option State :=
  let same := s.pos.target == some cylinder
  if s.pos.hold then none
  else match s.pos.state with
  | .tracking =>
    some (if same then s.headSwitch head else s.startSeek req cylinder head)
  | .settling =>
    some (if same then s.joinSeek req head else (s.replaceSeek req).startSeek req cylinder head)
  | .seeking =>
    some (if same then s.joinSeek req head
      else ((s.replaceSeek req).onPos fun p => { p with
        target := some cylinder, head := head, requester := req }).startSeekTimer)
  | _ => none

/-- The Positioner enters TRACKING (R66, R88): a seek in flight is done and counted, its requester is
told, loads are satisfied, and recovery watches begin (R152). A load that a restart asked for, still
outstanding or not, and that meets a NOT_READ record brings a record read (R5, R151). -/
def State.enterTracking (s : State) : State :=
  let readDue := (s.pos.restartLoad || s.fsv.kinds.any KindStatus.wantsLoad) &&
    s.record.state == .notRead
  let req := s.pos.requester
  let counted := s.pos.timerOn
  let t := ((s.onPos fun p => { p with
    state := .tracking, settleCount := 0, timerOn := false, requester := .none, restartLoad := false,
    seekTimeoutCount := if counted then 0 else p.seekTimeoutCount }).withdrawLoads.absent
      .seekTimeout)
  let t := if counted then t.countSeek else t
  let t := if readDue then t.onRec fun r => { r with readWanted := true } else t
  let t := t.successPoint false
  if req == .seekCommand && t.job == .seeking then t.completeHead .ok else t

/-- A valid sample in SETTLING (R65, R66; assumption logs 36 and 52). -/
def State.settleSample (f : Fix) (s : State) : State :=
  match s.pos.target with
  | none => s
  | some t =>
    if withinHalfTrack t f.position then
      let i := followCurrent s.tbs.profile t f
      let good := f.cylinder == t && decide (f.pes.natAbs ≤ s.tbs.params.settleWindow)
      let n := if good then s.pos.settleCount + 1 else 0
      let u := s.onPos fun p => { p with current := i, settleCount := n }
      if s.tbs.params.settleCount ≤ n then u.enterTracking else u
    else if s.pos.hold then
      let i := followCurrent s.tbs.profile f.cylinder f
      let u := s.onPos fun p => { p with
        current := i, target := some f.cylinder, settleCount := 0 }
      if s.pos.requester == .seekCommand then u.seekFailed true else u
    else
      let u := s.onPos fun p => { p with state := .seeking, settleCount := 0 }
      (if s.pos.timerOn then u else u.startSeekTimer).seekCompute

/-- A track slip (R67): a re-seek, or with the hold flag set a settling on the slipped cylinder
(assumption log 22). -/
def State.trackSlip (f : Fix) (s : State) : State :=
  let s := s.countTrackSlip
  if s.pos.hold then
    let i := followCurrent s.tbs.profile f.cylinder f
    s.onPos fun p => { p with
      state := .settling, target := some f.cylinder, settleCount := 0, current := i }
  else
    let t := (s.onPos fun p => { p with
      state := .seeking, settleCount := 0, requester := .none }).startSeekTimer
    if t.withinWindow then t.enterSettling.settleSample f else t.seekCompute

/-- A valid sample in TRACKING (R65, R67). -/
def State.trackSample (f : Fix) (s : State) : State :=
  if s.pos.target == some f.cylinder then
    let i := followCurrent s.tbs.profile f.cylinder f
    s.onPos fun p => { p with current := i }
  else s.trackSlip f

/-- A valid sample in SEEKING (R80, R88). -/
def State.seekSample (f : Fix) (s : State) : State :=
  if s.withinWindow then s.enterSettling.settleSample f else s.seekCompute

/-- A valid sample (R59), handled by the rule of the state. -/
def State.validSample (cylinder : Nat) (pes : Int) (s : State) : State :=
  let f := Fix.next s.pos.fix cylinder pes
  let s := (s.onPos fun p => { p with fix := some f, dropCount := 0 }).absent .servoLost
  match s.pos.state with
  | .loading =>
    (s.onPos fun p => { p with
      state := .settling, target := some cylinder, settleCount := 0,
      loadWindows := 0 }).settleSample f
  | .settling => s.settleSample f
  | .tracking => s.trackSample f
  | .seeking => s.seekSample f
  | .unloading => if withinHalfTrack 0 f.position then s.enterToRamp else s.seekCompute
  | _ => s

/-- A dropped sample (R60): the current is repeated; outside LOADING, drops that reach the deglitch
count raise SERVO_LOST (assumption log 32). -/
def State.dropSample (s : State) : State :=
  let n := satAdd 255 s.pos.dropCount 1
  let loading := s.pos.state == .loading
  let raise := !loading && decide (s.deglitch .servoLost ≤ n)
  let t := (s.onPos fun p => { p with
    fix := p.fix.map Fix.drop, dropCount := if raise then 0 else n,
    settleCount := if p.state == .settling then 0 else p.settleCount }).countDrop
  if raise then t.recognise .servoLost none else t

/-- The load timeout (R64): SERVO_LOST with sub-cause LOAD, and the heads return to the ramp; with the
park sensor on-ramp UNLOADED is entered after the condition was raised, and ends it (R143) (assumption
log 42). -/
def State.loadTimesOut (s : State) : State :=
  (s.beginToRamp.recognise .servoLost (some .load)).rampReached

/-- A servo sample record arrives (R58): the first in an open window is taken. -/
def State.takeSample (valid : Bool) (cylinder head : Nat) (pes : Int) (s : State) : State :=
  if s.takesSamples && s.pos.window == .waiting then
    let t := s.onPos fun p => { p with window := .taken }
    if valid && head == s.pos.head then t.validSample cylinder pes else t.dropSample
  else s

/-- A wedge time closes one window and opens the next (R58, R63, R64). -/
def State.nextWindow (s : State) : State :=
  if s.takesSamples then
    let t := if s.pos.window == .waiting then s.dropSample else s
    let n := if s.pos.window == .closed then 0 else s.pos.loadWindows + 1
    let t := if s.pos.state == .loading then
        if Config.loadWindowLimit ≤ n then t.loadTimesOut
        else t.onPos fun p => { p with loadWindows := n }
      else t
    if t.takesSamples then t.onPos fun p => { p with window := .waiting } else t
  else s

end Sys2Proof.Machine
end

