-- ==== Sys2Proof/Machine/Engine.lean ====
section
/-! DEFINITION. The Transfer Engine: positioning, the cursor, the fate of a block, and the record read
and write-back (R5, R10, R25, R102 to R113). -/

namespace Sys2Proof.Machine

/-! ## Positioning -/

/-- The target and the head are those of a place. -/
def State.inPlace (s : State) (cylinder head : Nat) : Bool :=
  s.pos.state.flying && s.pos.target == some cylinder && s.pos.head == head

/-- The engine asks for the seek or the head switch that a place needs (R25, R105); none where it fails.
The hold flag does not prevent a head switch (R68). A seek to the place already in flight is waited for
and keeps its requester (assumption log 64). -/
def State.approach (cylinder head : Nat) (s : State) : Option State :=
  if s.inPlace cylinder head then some s
  else if s.pos.state.flying && s.pos.target == some cylinder then some (s.joinSeek .engine head)
  else s.seekRequest .engine cylinder head

/-- The engine goes to the block at its cursor (R105); a seek that fails ends the command
SEEK_FAILED. -/
def State.engineSeek (s : State) : State :=
  match s.eng.place with
  | none => s
  | some pl =>
    let s := s.onEng fun e => { e with state := .seekWait }
    match s.approach pl.cylinder pl.head with
    | some t => t
    | none => s.endTransfer .seekFailed

/-- The extents of the executing transfer. -/
def State.extents (s : State) : List Extent :=
  match s.executing with
  | some ⟨_, .xfer _ _ l, _⟩ => l
  | _ => []

/-- The block at the cursor is taken up: translated, with retry count 0 (R17, R103). -/
def State.takeBlock (s : State) : State :=
  match s.record.image, lbaAt s.extents s.eng.seq with
  | some img, some l =>
    (s.onEng fun e => { e with place := translation img l, retry := 0 }).engineSeek
  | _, _ => s.endTransfer .recordUnreadable

/-- A pending ending is carried out when the sector in flight has ended: a READ ended by a fault drains
its FULL slots first, an ABORT or eject ends it at once (R101, R115, R117). -/
def State.endPending (st : Status) (s : State) : State :=
  if st == .faulted then s.endTransfer st else s.completeHead st

/-- The cursor after the block at it (R103). -/
def Engine.advance (l : List Extent) (e : Engine) : Engine :=
  let last := ((l[e.extent]?).map Extent.count).getD 0 ≤ e.block + 1
  { e with extent := if last then e.extent + 1 else e.extent,
           block := if last then 0 else e.block + 1, seq := e.seq + 1 }

/-- The block at the cursor is finished: the next one is taken up, or the transfer ends (R103, R108,
R111 to R113). -/
def State.finishBlock (s : State) : State :=
  match s.endWith with
  | some st => s.endPending st
  | none =>
    let l := s.extents
    let s := s.onEng (Engine.advance l)
    if s.eng.seq < blocksOf l then s.takeBlock
    else s.endTransfer (if s.eng.errors == 0 then .ok else .mediumError)

/-- The block at the cursor is unrecoverable (R113). `slot`: the WRITE's slot of it. -/
def State.unrecoverable (slot : Option Nat) (s : State) : State :=
  let l := lbaAt s.extents s.eng.seq
  let s := s.onEng fun e => { e with
    errors := e.errors + 1, firstError := if e.errors == 0 then l else e.firstError }
  match s.endWith, s.executing with
  | some st, _ => s.endPending st
  | none, some ⟨_, .xfer _ true _, _⟩ => (s.emptySlotOpt slot).finishBlock
  | none, _ => s.endTransfer .mediumError

/-- The sector has passed or failed; its next pass is awaited, unless the heads are away (R105). -/
def State.awaitPass (s : State) : State :=
  s.onEng fun e => { e with state := if e.state == .seekWait then .seekWait else .retryWait }

/-- A CHECK_ERROR of a READ or VERIFY sector (R107, R112; assumption log 28). -/
def State.readFails (s : State) : State :=
  if s.eng.retry < s.tbs.params.readRetries then
    let t := ((s.onEng fun e => { e with retry := e.retry + 1 }).countReadRetry).awaitPass
    match t.endWith with
    | some st => t.endPending st
    | none => t
  else s.unrecoverable none

/-- One revolution slip (R106, R110). -/
def State.slips (s : State) : State :=
  ((s.onEng fun e => { e with slips := bump e.slips }).countSlip).awaitPass

/-! ## Record operations -/

/-- The seek of a record operation to physical cylinder 0, head 0 fails (R10, R14). -/
def State.recordSeekFails (s : State) : State :=
  match s.record.op with
  | .reading _ => if s.pos.hold then s.dropRecordOp.endWork .seekFailed else s.dropRecordOp
  | .writing _ => s.failWriteBack
  | .idle => s

/-- A record operation asks for a seek to physical cylinder 0, head 0 (R5, R10), wherever the heads
are. -/
def State.recordSeek (s : State) : State :=
  match s.seekRequest .engine 0 0 with
  | some t => t
  | none => s.recordSeekFails

/-- A record read starts (R5). -/
def State.startRecordRead (s : State) : State :=
  (s.onRec fun r => { r with
    readWanted := false,
    op := .reading ⟨List.replicate Config.recordSectors none,
                    List.replicate Config.recordSectors 0⟩ }).recordSeek

/-- A write-back starts (R10): the outgoing record is formed with the next generation. -/
def State.startWriteBack (who : Who) (s : State) : State :=
  match s.record.image with
  | none => s
  | some img =>
    let g := (img.generation + 1) % 65536
    let l := sectorsOf Config.recordSectors (recordBytes { img with generation := g })
    (s.onRec fun r => { r with op := .writing ⟨who, l, g, 0, 0, none, false⟩ }).recordSeek

/-- A record read ends with all its sectors (R5 to R7). -/
def State.finishRecordRead (r : RecordRead) (s : State) : State :=
  let t := s.dropRecordOp
  let l := r.got.flatMap fun x => x.getD []
  match checkRecord l with
  | .good img => t.onRec fun u => { u with
      state := .valid, reason := none, image := some img, check := some (storedCheck l) }
  | .bad why => t.onRec fun u => { u with
      state := .unreadable, reason := some why, image := none, check := none }

/-- A record sector has been read (R5). -/
def State.recordSectorRead (r : RecordRead) (i : Nat) (good : Bool) (data : List Byte)
    (s : State) : State :=
  if good then
    let r' : RecordRead := { r with got := r.got.set i (some data) }
    let s := s.onRec fun u => { u with op := .reading r' }
    if r'.got.all Option.isSome then s.finishRecordRead r' else s
  else if (r.retries.getD i 0) < s.tbs.params.readRetries then
    (s.onRec fun u => { u with op := .reading { r with retries := r.retries.modify i (· + 1) } }).countReadRetry
  else s.dropRecordOp.onRec fun u =>
    { u with state := .unreadable, reason := some .check, image := none, check := none }

/-- A record sector has been written (R10). -/
def State.recordSectorWritten (w : WriteBack) (s : State) : State :=
  let w' : WriteBack := { w with next := w.next + 1, deferrals := 0, slot := none }
  if w'.next < Config.recordSectors then s.onRec fun r => { r with op := .writing w' }
  else s.finishWriteBack w'

/-- A record sector is refused the permit as it passes (R10). -/
def State.recordSectorDeferred (w : WriteBack) (s : State) : State :=
  if w.deferrals < s.tbs.params.writeRetries then
    (s.onRec fun r => { r with op := .writing { w with deferrals := w.deferrals + 1 } }).countDeferral
  else s.failWriteBack

end Sys2Proof.Machine
end

