-- ==== Sys2Proof/Machine/CartridgeOps.lean ====
section
/-! DEFINITION. The Cartridge Control Unit: the passage to ABSENT, forced removal, the beginning and
the merging of an eject (R120 to R139). -/

namespace Sys2Proof.Machine

/-- The record image is emptied and the record becomes NOT_READ (R4, R15). -/
def State.forgetRecord (s : State) : State :=
  s.onRec fun r => { r with
    state := .notRead, reason := none, image := none, check := none, readWanted := false }

/-- The hold count returns to 0 and the button-refused indication is cleared (R129). -/
def State.clearHolds (s : State) : State :=
  s.onCcu fun c => { c with holdCount := 0, buttonRefused := false }

/-- The CCU passes to ABSENT (R15, R124, R127, R128, R137): a work of SPIN UP in progress ends with
NO_CARTRIDGE (R49), outstanding restarts are cancelled (R151). -/
def State.cartridgeLeaves (s : State) : State :=
  (((((s.onCcu fun c => { c with
    state := .absent, mediaChange := (c.mediaChange + 1) % 256, protect := false,
    ejector := false }).clearHolds.request .cartridgeRemoved).forgetRecord).endWork
      .noCartridge).cancelRestarts)

/-- Every entry of the queue completes, in order (R101). -/
def State.completeAll (st : Status) : Nat → State → State
  | 0, s => s
  | n + 1, s => (s.completeHead st).completeAll st n

/-- DOOR_FORCED (R127, R156, R101, R14): the record and its condition are made, the CCU passes to
ABSENT with the release pending, record operation, works and eject end, the heads retract and the disk
coasts, and the queue completes NO_CARTRIDGE, an entry that runs a work of SPIN UP among it. -/
def State.doorForced (s : State) : State :=
  let k := FaultKind.doorForced
  let s := (((s.nowPresent k).putRecord k none .latched 0 (some (fixedRow k))).endRetry k).dropRecordOp
  let s := s.onDowns fun _ => ⟨none, none, none, false⟩
  let s := s.endEject .noCartridge
  let left := s.executing.map fun _ => Status.noCartridge
  let s := (s.onCcu fun c => { c with releasePending := true }).cutWrite.setEnd left
  let s := s.cartridgeLeaves
  let s := s.completeAll .noCartridge s.queue.length
  (s.retractRequest k).stopRequest .coast

/-- A work of SPIN UP in progress waits for the end of the eject, at its first step, with its pending start
and load withdrawn (R49; assumption log 38). -/
def State.workAwaitsEject (s : State) : State :=
  match s.work with
  | some w => (s.setWork (some { w with step := .cartridge })).withdrawWork
  | none => s

/-- The CCU enters EJECTING (R126, R137). The release of the latch ends a DOOR_FORCED condition whose
pending release an insertion had turned into STOP_CHECK (R127, R143). -/
def State.enterEjecting (s : State) : State :=
  ((s.workAwaitsEject).onCcu fun c => { c with
    state := .ejecting, latch := false, ejector := true,
    ejectWindow := some ⟨0, Config.ejectWindowTicks⟩,
    eject := c.eject.map fun e => { e with phase := none } }).absent .doorForced

/-- The WAITING entries complete EJECT_ABORTED, in order (R117). -/
def State.abortWaiting (s : State) : State :=
  ((s.queue.filter fun e => !e.executing).map Entry.tag).foldl
    (fun t g => t.completeWaiting g .ejectAborted) s

/-- An own sector of the executing transfer is in flight. -/
def State.ownFlight (s : State) : Bool :=
  s.eng.flight.any fun f => f.isHost && !f.orphan

/-- The executing entry has to wait for a sector or a record operation before it can be ended
(R114, R115, R117). One that only waits for a record operation it did not start does not (assumption
log 61). -/
def State.endWaits (s : State) : Bool :=
  match s.job with
  | .transfer => s.ownFlight
  | .work => s.recordReading
  | .flush => true
  | .down => s.downs.cmd == some .writeBack || (s.downs.cmd == some .work && s.recordReading)
  | _ => false

/-- The executing entry is stopped as an ABORT in mode SECTOR_END stops it (R114, R115, R117)
(assumption log 24). The later of an ABORT and an eject CUT gives the status (assumption log 74). -/
def State.stopExecuting (st : Status) (s : State) : State :=
  if s.executing.isNone then s
  else if s.endWaits then s.setEnd (some st)
  else s.completeHead st

/-- An eject with mode CUT meets the queue (R117): the executing entry completes first when nothing of
it is in flight, else after the waiting ones. -/
def State.cutQueue (s : State) : State :=
  if s.endWaits then (s.abortWaiting).stopExecuting .ejectAborted
  else (s.stopExecuting .ejectAborted).abortWaiting

/-- An eject begins (R132). It ends the internal spin-down of standby, which holds the head entry no longer
(R54); the work runs on, and its requests join those of the eject's phases (R54, R132; assumption log 30). -/
def State.beginEject (mode : EjectMode) (force : Bool) (tags : List Byte) (s : State) : State :=
  let r : EjectRecord := ⟨some .draining, mode, force, tags, .undecided⟩
  let s := (s.cancelRestarts.onDowns Downs.leaveStandby).onCcu fun c =>
    { c with eject := some r, buttonRefused := false }
  if s.ccu.state == .seated then s.enterEjecting
  else
    let s := s.onCcu fun c => { c with state := .ejectPending }
    if mode == .cut then s.cutQueue else s

/-- A FORCE that arrives before the FLUSHING write-back has begun ends its work of SPIN UP (R134). -/
def State.forceFlush (s : State) : State :=
  match s.ccu.eject with
  | some ⟨some .flushing, _, true, _, .work⟩ =>
    (s.leaveWork .eject).onCcu fun c =>
      { c with eject := c.eject.map fun e => { e with flush := .undecided } }
  | _ => s

/-- An EJECT merges with the eject in progress (R138). -/
def State.mergeEject (tag : Byte) (mode : EjectMode) (force : Bool) (s : State) : State :=
  let pending := s.ccu.state == .ejectPending
  let raise := pending && mode == .cut
  let cutNow := raise && (s.ccu.eject.any fun e => e.phase == some .draining && e.mode == .drain)
  let s := s.onCcu fun c => { c with eject := c.eject.map fun e =>
    { e with tags := e.tags ++ [tag], mode := if raise then .cut else e.mode,
             force := e.force || (pending && force) } }
  let s := s.forceFlush
  if cutNow then s.cutQueue else s

end Sys2Proof.Machine
end

