-- ==== Sys2Proof/Machine/Settle.lean ====
section
/-! DEFINITION. The reactions of the blocks to one another within an event (95_what_each_step_holds.md):
a list of guarded rules, the first that applies taken again and again until none applies (assumption
log 31). -/

namespace Sys2Proof.Machine

/-- A rule: its effect where its guard holds. -/
def guarded (g : Bool) (t : State) : Option State := if g then some t else none

/-! ## Spindle, heads and sectors in flight -/

/-- The Positioner unloads of its own when the spindle has left AT_SPEED (R73). -/
def reactOwnUnload (s : State) : Option State :=
  guarded (s.spc.state != .atSpeed && (s.pos.state == .loading || s.pos.state.flying)) s.beginUnload

/-- A slot whose sector was cut while its contents stay wanted (R70, R111). -/
def State.refill (i : Option Nat) (s : State) : State :=
  match i with
  | some i => s.onSlot i fun x => { x with state := .full }
  | none => s

/-- A sector being written is cut (R70, R10, R111). A WRITE already being ended ends at the cut, with the
cut block as its damaged block; one that is to write the block again names no damaged block, however it
ends (assumption log 63). -/
def State.cutFlight (f : Flight) (s : State) : State :=
  if f.kind == .write && !f.orphan && s.endWith.isSome then s.cutWrite
  else if f.kind == .write && f.orphan then
    (s.emptySlotOpt f.slot).onEng fun e => { e with flight := none }
  else (s.refill f.slot).onEng fun e => { e with
    flight := none, state := if f.kind == .write then .seekWait else e.state }

/-- A sector in flight meets the Positioner leaving TRACKING or the spindle leaving AT_SPEED (R70,
R107). A sector of a record read ends as CHECK_ERROR then, with a counted retry, as a READ sector does
(assumption log 53). -/
def reactFlight (s : State) : Option State :=
  match s.eng.flight with
  | none => none
  | some f =>
    if f.kind == .write || f.kind == .recordWrite then
      guarded (s.pos.state != .tracking || s.spc.state != .atSpeed) (s.cutFlight f)
    else guarded (s.pos.state != .tracking && !f.spoiled)
      (s.onEng fun e => { e with flight := some { f with spoiled := true } })

/-- A record operation is lost with the heads or the spindle (R10, R14). -/
def reactRecordLost (s : State) : Option State := guarded s.recordOpLost s.loseRecordOp

/-! ## Cartridge and spindle reports -/

/-- STOP_CHECK ends in SEATED (R125, R126). -/
def reactStopCheck (s : State) : Option State :=
  guarded (s.ccu.state == .stopCheck && s.atRest)
    ((s.onCcu fun c => { c with state := .seated, latch := false }).absent .doorForced)

/-- A pending release in ABSENT is completed (R126, R127). -/
def reactRelease (s : State) : Option State :=
  guarded (s.ccu.state == .absent && s.ccu.releasePending && s.atRest)
    ((s.onCcu fun c => { c with latch := false, releasePending := false }).absent .doorForced)

/-- The STOPPING phase ends in EJECTING (R126, R136). -/
def reactEjecting (s : State) : Option State :=
  guarded (s.ccu.state == .ejectPending && (s.ccu.eject.bind EjectRecord.phase) == some .stopping &&
    s.atRest) s.enterEjecting

/-- A spin-down whose disk has stopped ends (R51, R54). -/
def reactStopped (s : State) : Option State :=
  if s.spc.state == .stopped then
    if s.downs.cmd == some .stop then some (s.completeHead .ok)
    else if s.downs.standby == some .stop then
      some (s.onDowns Downs.endStandby)
    else if s.downs.orphan == some .stop then some (s.onDowns fun d => { d with orphan := none })
    else none
  else none

/-- A spin-down that waits for UNLOADED finds it and makes its brake request (R51, R54), before a pending
load can take the heads off the ramp again (R52). -/
def reactParked (s : State) : Option State :=
  if s.pos.state == .unloaded then
    let stop := fun (who : Who) => (s.onDowns fun d => d.at (some .stop) who).stopRequest s.brakeDemand
    if s.downs.cmd == some .unload then some (stop .cmd)
    else if s.downs.standby == some .unload then some (stop .standby)
    else if s.downs.orphan == some .unload then some (stop .orphan)
    else none
  else none

/-- The UNLOADING phase ends at UNLOADED (R135), before a pending load can take the heads off the ramp
again. -/
def reactEjectParked (s : State) : Option State :=
  guarded ((s.ccu.eject.bind EjectRecord.phase) == some .unloading && s.pos.state == .unloaded)
    (if s.pos.parkUnconfirmed then s.failEject .ejectFailed .latched
     else (s.onCcu fun c => { c with
       eject := c.eject.map fun e => { e with phase := some .stopping } }).stopRequest s.brakeDemand)

/-- A pending brake is applied (R46). -/
def reactBrake (s : State) : Option State :=
  guarded (s.spc.state == .coasting && s.spc.brakePending && s.pos.state == .unloaded) s.applyBrake

/-- A pending start is taken (R35). -/
def reactStart (s : State) : Option State := guarded (s.atRest && s.pendingStart) s.enterStarting

/-- A pending load is taken (R62). -/
def reactLoad (s : State) : Option State := guarded (s.loadAllowed && s.pendingLoad) s.enterLoading

/-! ## Works of SPIN UP -/

/-- An ending that waited for a record read (R101). -/
def reactWorkCut (s : State) : Option State :=
  match s.work.bind SpinUpWork.cut with
  | some st => guarded (!s.recordReading) (s.endWork st)
  | none => none

/-- An ending of the executing entry that waited for its record operation or its sector (R14, R115). -/
def reactEnd (s : State) : Option State :=
  match s.endWith with
  | some st => guarded (!s.endWaits && !s.waitsEngine)
      (if s.job == .transfer then s.endPending st else s.completeHead st)
  | none => none

/-- The work goes on at a step. -/
def State.workAt (w : SpinUpWork) (x : WorkStep) (s : State) : State :=
  s.setWork (some { w with step := x })

/-- The first step of the work of SPIN UP (R49, R123). -/
def workCartridge (w : SpinUpWork) (s : State) : Option State :=
  match s.ccu.state with
  | .seated =>
    some ((s.onCcu fun c => { c with state := .latched, latch := true }).workAt w .spindle)
  | .latched | .ejectPending => some (s.workAt w .spindle)
  | _ => none

/-- The second step (R49; assumption log 23). -/
def workSpindle (w : SpinUpWork) (s : State) : Option State :=
  if s.spc.state == .atSpeed then some (s.workAt w .heads)
  else guarded (s.spc.state.idle && !s.spc.startByWork) s.startByWork

/-- The third step (R49; assumption log 23). -/
def workHeads (w : SpinUpWork) (s : State) : Option State :=
  if s.spc.state != .atSpeed then some (s.workAt w .spindle)
  else if s.pos.state == .tracking then some (s.workAt w .record)
  else guarded (!s.pos.state.flying && !s.pos.loadByWork) s.loadByWork

/-- The fourth and the last step (R49). -/
def workRecord (w : SpinUpWork) (s : State) : Option State :=
  match s.record.state with
  | .notRead =>
    if s.recordReading then none
    else if s.pos.state != .tracking || s.spc.state != .atSpeed then some (s.workAt w .heads)
    else guarded s.engineFree s.startRecordRead
  | .unreadable => some (s.endWork .recordUnreadable)
  | _ => some (s.endWork .ok)

/-- The work of SPIN UP takes its next step (R49). -/
def reactWork (s : State) : Option State :=
  match s.work with
  | none => none
  | some w =>
    if s.ccu.state == .absent then some (s.endWork .noCartridge)
    else match w.step with
      | .cartridge => workCartridge w s
      | .spindle => workSpindle w s
      | .heads => workHeads w s
      | .record => workRecord w s

/-! ## Record operations -/

/-- The record read due on the load of a restart (R5, R151). -/
def reactReadDue (s : State) : Option State :=
  guarded (s.record.readWanted && s.pos.state == .tracking && s.engineFree)
    (if s.record.state == .notRead then s.startRecordRead
     else s.onRec fun r => { r with readWanted := false })

/-- A write-back's heads reach physical cylinder 0, head 0 (R10). -/
def reactReached (s : State) : Option State :=
  match s.record.op with
  | .writing w => guarded (!w.reached && s.trackingOn 0 0)
      (s.onRec fun r => { r with op := .writing { w with reached := true } })
  | _ => none

/-- A record operation whose heads have been moved away asks for its seek again (R10, R72). -/
def reactRecordSeek (s : State) : Option State :=
  guarded (s.record.op != .idle && s.pos.state.flying && !s.pos.hold && !s.inPlace 0 0) s.recordSeek

/-- The outgoing contents of the next record sector are placed in an EMPTY slot (R10). -/
def reactRecordSlot (s : State) : Option State :=
  match s.record.op, s.emptySlot with
  | .writing w, some i =>
    guarded w.slot.isNone
      ((s.onSlot i fun _ => ⟨.full, none, w.next, 0, 0, w.sectors.getD w.next []⟩).onRec
        fun r => { r with op := .writing { w with slot := some i } })
  | _, _ => none

/-! ## Transfer Engine -/

/-- The engine follows the Positioner between SEEK_WAIT and ROTATE_WAIT, and asks again for a seek that
the hold flag had moved (R105). A sector in flight runs to its end first (R101, R107). -/
def reactEngine (s : State) : Option State :=
  match s.eng.place with
  | none => none
  | some pl =>
    if s.job != .transfer then none
    else if s.eng.state == .seekWait then
      if s.trackingOn pl.cylinder pl.head then some (s.onEng fun e => { e with state := .rotateWait })
      else guarded (!s.pos.hold && !s.inPlace pl.cylinder pl.head && !s.ownFlight) s.engineSeek
    else guarded (s.eng.state != .idle && !s.trackingOn pl.cylinder pl.head)
      (s.onEng fun e => { e with state := .seekWait })

/-- A READ completes when its last DATA packet has been sent (R108). -/
def reactDrain (s : State) : Option State :=
  match s.job, s.executing with
  | .drain st, some e =>
    guarded (!s.slots.any fun x => x.tag == some e.tag && (x.state == .full || x.state == .draining))
      (s.completeHead st)
  | _, _ => none

/-! ## Works of SPIN DOWN -/

/-- The step of a work of SPIN DOWN. -/
def Downs.stepOf (d : Downs) : Who → Option DownStep
  | .cmd => d.cmd
  | .standby => d.standby
  | .orphan => d.orphan
  | _ => none

/-- The eject decides on the write-back of a DIRTY record, or unloads the heads (R134, R135): no work of
SPIN DOWN starts a write-back against it. -/
def State.ejectFlushes (s : State) : Bool :=
  (s.ccu.eject.bind EjectRecord.phase).any fun p => p == .flushing || p == .unloading

/-- A work of SPIN DOWN takes its next step (R9, R51, R54). Heads that are SETTLING or SEEKING count as
tracking at the write-back point, since the write-back makes its own seek (R99; assumption log 54). The
unload request is made once, in any state but UNLOADED: it withdraws a pending load, and joins an unload
or a retraction in progress (R61, R62). A record read in flight is abandoned by it (assumption log 59), and a
write sector of a command that a bus reset has removed is cut (assumption log 86). -/
def reactDown (who : Who) (s : State) : Option State :=
  let go := fun (x : DownStep) => s.onDowns fun d => d.at (some x) who
  match s.downs.stepOf who with
  | some .point =>
    if !s.needsWriteBack then some (go .ask)
    else if s.spindleReady then
      guarded (s.engineFree && !s.ejectFlushes) ((go .writeBack).startWriteBack who)
    else some ((go .work).joinWork who)
  | some .ask =>
    some (if s.pos.state == .unloaded then go .unload else (go .unload).unloadRequest)
  | _ => none

/-! ## Eject -/

/-- The FLUSHING phase decides (R134). -/
def ejectFlush (e : EjectRecord) (s : State) : Option State :=
  let go := fun (x : FlushPoint) =>
    s.onCcu fun c => { c with eject := some { e with flush := x } }
  match e.flush with
  | .undecided =>
    if !s.needsWriteBack || e.force then some s.ejectUnloads
    else if s.anyLatched then some (s.failEject .recordWriteFailed .latched)
    else if s.spc.state == .atSpeed && s.pos.state == .tracking then
      guarded s.engineFree ((go .writeBack).startWriteBack .eject)
    else some ((go .work).joinWork .eject)
  | _ => none

/-- The unload request of the UNLOADING phase (R135). An unload or a retraction in flight is joined. -/
def ejectUnload (s : State) : Option State :=
  guarded (s.pos.state == .loading || s.pos.state.flying) s.unloadRequest

/-- The phases of an eject (R133 to R136). -/
def reactEject (s : State) : Option State :=
  match s.ccu.eject with
  | none => none
  | some e =>
    match e.phase with
    | some .draining =>
      guarded (s.queue.isEmpty && s.engineFree)
        (s.onCcu fun c => { c with eject := some { e with phase := some .flushing, flush := .undecided } })
    | some .flushing => ejectFlush e s
    | some .unloading => ejectUnload s
    | _ => none

/-! ## The head entry -/

/-- A command needs the spindle (R99). -/
def State.needsSpindle (s : State) : MediumCmd → Bool
  | .xfer _ _ _ | .seek _ | .reassign _ => true
  | .flush => s.needsWriteBack
  | _ => false

/-- The head entry begins its work (R98, R99, R12). -/
def State.beginEntry (c : MediumCmd) (s : State) : State :=
  match c with
  | .spinUp => (s.setJob .work).joinWork .cmd
  | .spinDown => (s.setJob .down).onDowns fun d => { d with cmd := some .point }
  | c =>
    if s.needsSpindle c then
      if s.spindleReady then s.setJob .ready
      else if s.tbs.params.autoSpin then (s.setJob .work).joinWork .cmd
      else s.completeHead .notReady
    else s.completeHead .ok

/-- The head entry begins (R98); the internal spin-down of standby holds it WAITING until STOPPED, or until
an eject request ends the spin-down (R54; assumption log 30). -/
def reactBegin (s : State) : Option State :=
  match s.queue with
  | [] => none
  | e :: rest =>
    guarded (!e.executing && !s.standbyHolds && !s.retryWait)
      (let t := s.setQueue ({ e with executing := true } :: rest)
       if s.anyLatched then t.completeHead .faulted else t.beginEntry e.cmd)

/-- An entry that began at the eject request, and waits for the engine, finds the heads unloaded by the work
that the eject left running (R54, R132): it meets the readiness check again (R99; assumption log 80). -/
def reactStranded (s : State) : Option State :=
  match s.executing with
  | none => none
  | some e =>
    guarded (s.downs.standbyLeft && (s.job == .ready || s.job == .waitEngine) && s.endWith.isNone &&
        s.needsSpindle e.cmd && !s.spindleReady)
      (s.beginEntry e.cmd)

/-- The status with which a transfer that finds the spindle ready ends before it starts, if one applies
(R99). -/
def State.transferRefused (k : XferKind) (l : List Extent) (s : State) : Option Status :=
  if s.ccu.state == .absent then some .noCartridge
  else if k == .write && s.ccu.protect then some .writeProtected
  else match s.record.image with
    | none => some .recordUnreadable
    | some img => if pastCapacity (capacityOf img.zones) l then some .badAddress else none

/-- A SEEK that finds the spindle ready (R92); with the hold flag set it fails at once. -/
def State.runSeek (c : Nat) (s : State) : State :=
  let here := s.pos.state == .tracking && s.pos.target == some (c + 4) && !s.pos.hold
  let t := s.setJob .seeking
  if here then t.completeHead .ok
  else match t.seekRequest .seekCommand (c + 4) s.pos.head with
    | some u => u
    | none => t.completeHead .seekFailed

/-- The checks of a REASSIGN BLOCK (R28). -/
def State.reassignRefused (l : Nat) (s : State) : Option Status :=
  if s.ccu.state == .absent then some .noCartridge
  else if s.ccu.protect then some .writeProtected
  else match s.record.image with
    | none => some .recordUnreadable
    | some img =>
      if capacityOf img.zones ≤ l then some .badAddress
      else if img.nextAlternate == alternateCount img.zones then some .reassignFull
      else if decide (64 ≤ img.reassigns.length) && !img.reassigns.any fun e => e.lba == l then
        some .reassignFull
      else none

/-- The change of a REASSIGN BLOCK (R29). -/
def Image.reassign (l : Nat) (img : Image) : Image :=
  { img with reassigns := insertReassign l img.nextAlternate img.reassigns,
             nextAlternate := img.nextAlternate + 1 }

/-- A REASSIGN BLOCK that finds the spindle ready (R28, R29). -/
def State.runReassign (l : Nat) (s : State) : State :=
  match s.reassignRefused l with
  | some st => s.completeHead st
  | none => (s.onRec fun r => { r with
      state := .dirty, image := r.image.map (Image.reassign l) }).completeHead .ok

/-- A FLUSH RECORD that finds the spindle ready (R12). -/
def State.runFlush (s : State) : State :=
  if s.needsWriteBack then (s.setJob .flush).startWriteBack .cmd else s.completeHead .ok

/-- The EXECUTING entry goes on with its own work, at the end of a record operation in flight (R99, R112).
Readiness is not checked a second time, but for an entry that an eject has released (assumption log 80): a
REASSIGN BLOCK that waited for a write-back left by a bus reset makes its change then (R28; assumption log
55). A FLUSH RECORD that is to write the record back waits for the engine too (R118; assumption log 72); a
SEEK does not (R70, R118; assumption log 77). -/
def reactReady (s : State) : Option State :=
  match s.executing with
  | none => none
  | some e =>
    guarded (s.job == .ready && s.record.op == .idle && s.endWith.isNone &&
        (e.cmd != .flush || !s.needsWriteBack || s.engineFree))
      (match e.cmd with
       | .xfer k _ l =>
         match s.transferRefused k l with
         | some st => s.completeHead st
         | none => s.setJob .waitEngine
       | .seek c => s.runSeek c
       | .reassign l => s.runReassign l
       | .flush => s.runFlush
       | _ => s.completeHead .ok)

/-- A transfer starts with the engine IDLE (R102). -/
def reactTransfer (s : State) : Option State :=
  guarded (s.job == .waitEngine && s.engineFree && s.endWith.isNone)
    (((s.setJob .transfer).onEng fun e => { Engine.none with nextIndex := e.nextIndex }).takeBlock)

/-! ## The loop -/

/-- The rules, in the order in which they are tried. -/
def rules : List (State → Option State) :=
  [reactOwnUnload, reactFlight, reactRecordLost, reactStopCheck, reactRelease, reactEjecting,
   reactStopped, reactParked, reactEjectParked, reactBrake, reactStart, reactLoad, reactWorkCut, reactEnd,
   reactWork, reactReadDue, reactReached, reactRecordSeek, reactRecordSlot, reactEngine, reactDrain,
   reactDown .cmd, reactDown .standby, reactDown .orphan, reactEject, reactBegin, reactStranded, reactReady,
   reactTransfer]

/-- The first rule that applies; none after a supply-low (R119, R140, R154). -/
def react (s : State) : Option State :=
  if s.supplyLow then none else rules.findSome? fun r => r s

/-- Reactions until none applies, at most `n` of them. -/
def settleN : Nat → State → State
  | 0, s => s
  | n + 1, s =>
    match react s with
    | some t => settleN n t
    | none => s

/-- The reactions within an event. -/
def State.settle (s : State) : State := settleN 200 s

end Sys2Proof.Machine
end

