-- ==== Sys2Proof/Machine/BusOps.lean ====
section
/-! DEFINITION. The Drive Bus Interface: the header of a packet, the withheld first byte, the choice of an
outbound packet, and the taking of a COMMAND packet (R176 to R184). -/

namespace Sys2Proof.Machine

/-- The inbound assembly. -/
def State.setInb (i : Inbound) (s : State) : State := s.onDbi fun d => { d with inb := i }

/-- A header and the first payload bytes meet the framing checks (R178). -/
def State.headerStep (h : Header) (s : State) : State :=
  if headerRefused h then
    (s.reply h.tag .badPacket .empty).setInb (if h.length = 0 then .idle else .discard)
  else s.setInb (.payload h)

/-- A packet begins, unless its first byte is withheld (R180). -/
def State.beginPacket (h : Header) (s : State) : State :=
  if s.replyFull then s.setInb (.waiting h) else s.headerStep h

/-- A withheld first byte is acknowledged when the reply queue is no longer full (R180)
(assumption log 13). -/
def State.releaseWaiting (s : State) : State :=
  match s.dbi.inb with
  | .waiting h => if s.canReceive && !s.replyFull then s.headerStep h else s
  | _ => s

/-- The FULL slot of the EXECUTING READ with the lowest block sequence number, and the READ's tag (R181),
also while an ABORT waits for the READ's sector in flight, whose end empties the FULL slots (R115); none from
an eject CUT on (R182; assumption log 70). -/
def State.drainSlot (s : State) : Option (Nat × Byte) :=
  match s.executing with
  | some ⟨t, .xfer .read _ _, _⟩ =>
    if s.cutByEject then none
    else
      match ((s.slots.filter fun x => x.state == .full && x.tag == some t).map Slot.seq).min? with
      | some q => (s.slotOf t q .full).map fun i => (i, t)
      | none => none
  | _ => none

/-- After a supply-low the packets at the front of the reply queue that answer READ FAULTS or CLEAR FAULTS are
sent, where the fault list can be read there (R154); the others are kept and not sent (R184; assumption
log 58). -/
def State.answersWait (s : State) : Bool :=
  Config.faultListReadable && decide (0 < s.dbi.answers) && !s.dbi.replies.isEmpty

/-- The part begins an outbound packet whenever it may and has one to send, and presents its first byte
(R174, R176, R181, R184). -/
def State.startOutbound (s : State) : State :=
  if !s.dbi.turn && !s.dbi.busReset && (!s.supplyLow || s.answersWait) && s.dbi.out == .none &&
      s.dbi.inb == .idle then
    if !s.dbi.replies.isEmpty then (s.onDbi fun d => { d with out := .queued }).driveStb true
    else
      match s.drainSlot with
      | some (i, tag) => ((s.onSlot i fun x => { x with state := .draining }).onDbi fun d =>
          { d with out := .data i tag true }).driveStb true
      | none => s
  else s

/-- The interface after an event. -/
def State.commit (s : State) : State := s.releaseWaiting.startOutbound

/-- An event of the mechanism: its effect, the blocks' reactions, the interface. -/
def State.event (s : State) : State := s.settle.commit

/-- A whole COMMAND packet is refused for its framing, or reaches its owner (R177, R178). -/
def State.wholePacket (h : Header) (act : State → State) (s : State) : State :=
  if headerRefused h then s.reply h.tag .badPacket .empty else act s

/-- The commands that R154 names of the SUPPLY_LOW record. -/
def readsFaultList : Instr → Bool
  | .readFaults _ | .clearFaults _ => true
  | _ => false

/-- A command is taken after a supply-low: READ FAULTS or CLEAR FAULTS, where the fault list can be read there
(R154, R184; assumption log 58), with room for its answer (R180). -/
def State.takesLate (i : Instr) (s : State) : Bool :=
  s.supplyLow && readsFaultList i && Config.faultListReadable && s.hostSends && s.dbi.inb == .idle &&
    !s.replyFull

/-- The packets placed behind the first `n` of the reply queue are sent before the kept ones, behind the
answers already placed so (assumption log 58). -/
def State.answersFirst (n : Nat) (s : State) : State :=
  s.onDbi fun d =>
    let kept := (d.replies.take n).drop d.answers
    let new := d.replies.drop n
    { d with replies := d.replies.take d.answers ++ new ++ kept, answers := d.answers + new.length }

/-- A COMMAND packet of a row arrives whole, or its payload completes the packet whose header has been
taken (R177, R178, R180; assumption log 12). `act` is its owner's answer. After a supply-low a packet is taken
as `takesLate` gives, and its answer is sent first. -/
def State.command (i : Instr) (act : State → State) (s : State) : State :=
  match commandPayload i with
  | none => s
  | some (tag, payload) =>
    let h := commandHeader tag payload
    if s.canReceive then
      match s.dbi.inb with
      | .idle => if s.replyFull then s.setInb (.waiting h) else s.wholePacket h act
      | .payload g => if g = h then act (s.setInb .idle) else s
      | _ => s
    else if s.takesLate i then (s.wholePacket h act).answersFirst s.dbi.replies.length
    else s

/-- The slot that an inbound DATA packet fills. -/
def Inbound.slot : Inbound → Option Nat
  | .data _ _ i => some i
  | _ => Option.none

/-- The slot that an outbound DATA packet drains. -/
def Outbound.slot : Outbound → Option Nat
  | .data i _ _ => some i
  | _ => Option.none

end Sys2Proof.Machine
end

