-- ==== Sys2Proof/Machine/BusEvents.lean ====
section
/-! DEFINITION. The drive bus's events other than COMMAND packets: headers, parity errors, turns,
acknowledgements and inbound DATA packets (R108, R109, R174 to R182). -/

namespace Sys2Proof.Machine

/-- INBOUND_PACKET_HEADER (R177, R178, R180): the header and the first payload bytes arrive. -/
def execInboundPacketHeader (kind tag : Byte) (length : BitVec 16) (b4 b5 b6 : Byte) (s : State) :
    Host.Outcome State Fault Refusal :=
  .next (if s.canReceive && s.dbi.inb == .idle then
    s.beginPacket ⟨kind, tag, length.toNat, [b4, b5, b6].take length.toNat⟩
  else s)

/-- The FILLING slot of an inbound DATA packet returns to EMPTY (R176, R179). -/
def State.dropFilling (s : State) : State := s.emptySlotOpt s.dbi.inb.slot

/-- The block index in the REPLY to a DATA packet, when it has been received (R186). -/
def Inbound.replyBody : Inbound → ReplyBody
  | .data _ n _ => .dataIndex n
  | _ => .empty

/-- A header whose kind or tag refuses it (R178, checks 1 and 2). -/
def headRefused (kind tag : Byte) : Bool := (kind != 1 && kind != 2) || tag == 0

/-- The packet in progress ends with a refusal and its rest is discarded (R179). -/
def State.refuseRest (t : Byte) (st : Status) (s : State) : State :=
  ((s.dropFilling).reply t st s.dbi.inb.replyBody).setInb .discard

/-- A packet is cut by the negation of TURN (R176): a refusal is placed unless one has been. -/
def State.cutPacket (cut : HeaderPart) (s : State) : State :=
  match s.dbi.inb with
  | .payload h => s.reply h.tag .badPacket .empty
  | .data t n _ => (s.dropFilling).reply t .badPacket (.dataIndex n)
  | .idle =>
    if s.canReceive && !s.replyFull then
      match cut with
      | .nothing => s
      | .kindByte => s.reply 0 .badPacket .empty
      | .kindAndTag t => s.reply t .badPacket .empty
    else s
  | _ => s

/-- TURN_NEGATED (R176, R179, R180). -/
def execTurnNegated (cut : HeaderPart) (s : State) : Host.Outcome State Fault Refusal :=
  .next (if s.dbi.turn then
    (((if s.supplyLow || s.dbi.busReset then s else s.cutPacket cut).setInb .idle).onDbi fun d =>
      { d with turn := false }).commit
  else s)

/-- TURN_ASSERTED (R176): an outbound packet in flight runs to its end. -/
def execTurnAsserted (s : State) : Host.Outcome State Fault Refusal :=
  .next (s.onDbi fun d => { d with turn := true })

/-- The last byte of the outbound packet is acknowledged: the part negates STB (R174, R180, R182). The block of
a DATA packet counts while its command has not been ended (R100, R182), also between an eject CUT and the stop
of its READ (assumption log 83). -/
def State.packetSent (s : State) : State :=
  let t := (s.onDbi fun d => { d with out := .none }).driveStb false
  match s.dbi.out with
  | .none => s
  | .queued => t.onDbi fun d => { d with
      replies := d.replies.tail, answers := if s.supplyLow then d.answers - 1 else d.answers }
  | .data i _ live =>
    let t := t.emptySlotAt i
    if live then t.onEng fun e => { e with completed := e.completed + 1 } else t

/-- OUTBOUND_PACKET_ACKED (R182, R108). -/
def execOutboundPacketAcked (s : State) : Host.Outcome State Fault Refusal :=
  .next s.packetSent.event

/-- The WRITE of a tag in the queue (R109). -/
def State.writeOf (s : State) (t : Byte) : Option Entry :=
  s.queue.find? fun e => e.tag == t &&
    match e.cmd with
    | .xfer .write _ _ => true
    | _ => false

/-- The extents of an entry. -/
def Entry.extents (e : Entry) : List Extent :=
  match e.cmd with
  | .xfer _ _ l => l
  | _ => []

/-- The EMPTY slots. -/
def State.emptyCount (s : State) : Nat := (s.slots.filter fun x => x.state == .empty).length

/-- The checks of an inbound DATA packet (R109); none where it passes. -/
def State.dataRefused (t : Byte) (n : Nat) (s : State) : Option Status :=
  match s.writeOf t with
  | none => some .noSuchTag
  | some e =>
    if !e.executing then some .notYet
    else if n != s.eng.nextIndex || decide (blocksOf e.extents ≤ n) then some .dataOrder
    else if s.emptyCount == 0 || (s.record.state == .notRead && s.emptyCount == 1) then some .noSlot
    else none

/-- The tag and block index of a DATA packet arrive (R109, R177). -/
def State.dataIndex (t : Byte) (n : Nat) (s : State) : State :=
  match s.dataRefused t n, s.emptySlot with
  | some st, _ => (s.reply t st (.dataIndex n)).setInb .discard
  | none, some i =>
    let lba := ((s.writeOf t).bind fun e => lbaAt e.extents n).getD 0
    (s.onSlot i fun _ => ⟨.filling, some t, n, lba, 0, []⟩).setInb (.data t n i)
  | none, none => s

/-- DATA_PACKET_INDEX (R109): after the header of a DATA packet of this tag, at its sixth byte. -/
def execDataPacketIndex (tag : Byte) (index : BitVec 16) (s : State) :
    Host.Outcome State Fault Refusal :=
  .next (if s.canReceive then
    match s.dbi.inb with
    | .payload h =>
      if h.kind == 2 && h.tag == tag && h.lead.take 2 == be16 index then s.dataIndex tag index.toNat
      else s
    | _ => s
  else s)

/-- A payload byte of the packet in progress arrives with a parity error (R179). -/
def State.payloadParity (s : State) : State :=
  match s.dbi.inb with
  | .payload h => s.refuseRest h.tag .busParity
  | .data t _ _ => s.refuseRest t .busParity
  | _ => s

/-- A packet's header and first payload bytes `h` have arrived good, and the next payload byte arrives
with a parity error (R178, R179): the framing checks that those bytes decide come first, and a DATA packet
whose tag and block index have arrived has met the Transfer Engine (R109, R177). -/
def State.leadParity (h : Header) (s : State) : State :=
  if leadRefused h then (s.reply h.tag .badPacket .empty).setInb .discard
  else
    match h.kind == 2, h.lead with
    | true, [a, b] => (s.dataIndex h.tag (ofBe16 a b).toNat).payloadParity
    | _, _ => (s.setInb (.payload h)).payloadParity

/-- A byte arrives with a parity error (R175, R179). With a packet not yet begun, the bytes before it in
that packet have arrived good, the first byte not withheld (R180). A parity error of the tag byte is
BUS_PARITY whatever the kind byte before it (assumption log 68), and one of the second length byte whatever the
first (assumption log 82). -/
def State.parityError (p : ParityPlace) (s : State) : State :=
  match p with
  | .payload => s.payloadParity
  | .kindOrTag =>
    if s.dbi.inb == .idle && !s.replyFull then (s.reply 0 .busParity .empty).setInb .discardTurn
    else s
  | .length kind tag =>
    if s.dbi.inb == .idle && !s.replyFull then
      (s.reply tag (if headRefused kind tag then .badPacket else .busParity) .empty).setInb .discardTurn
    else s
  | .lead kind tag length good =>
    if s.dbi.inb == .idle && !s.replyFull then s.leadParity ⟨kind, tag, length.toNat, good⟩ else s

/-- INBOUND_PARITY_ERROR (R179). -/
def execInboundParityError (place : ParityPlace) (s : State) : Host.Outcome State Fault Refusal :=
  .next (if s.canReceive then s.parityError place else s)

/-- An inbound DATA packet is complete (R109). A slot that its command has left is emptied
(assumption log 25). -/
def State.dataEnds (t : Byte) (n i : Nat) (data : List Byte) (s : State) : State :=
  let s := s.setInb .idle
  if (s.slots[i]?).any fun x => x.tag == some t then
    (((s.onSlot i fun x => { x with state := .full, data := data }).onEng fun e =>
      { e with nextIndex := e.nextIndex + 1 }).reply t .ok (.dataIndex n))
  else (s.emptySlotAt i).reply t .noSuchTag (.dataIndex n)

/-- DATA_PACKET_END (R109). -/
def execDataPacketEnd (data : List Byte) (s : State) : Host.Outcome State Fault Refusal :=
  .next (if s.canReceive then
    match s.dbi.inb with
    | .data t n i => (s.dataEnds t n i data).event
    | _ => s
  else s)

/-- DISCARDED_PACKET_END (R178, R179): the packet being discarded reaches its end. -/
def execDiscardedPacketEnd (s : State) : Host.Outcome State Fault Refusal :=
  .next (if s.canReceive && s.dbi.inb == .discard then s.setInb .idle else s)

end Sys2Proof.Machine
end

