-- ==== Sys2Proof/Machine/SpindleEvents.lean ====
section
/-! DEFINITION. The spindle's events: index arrival, revolution boundary, purge, wedge time, and the
expiries of its timers (R33 to R48, R53, R142). -/

namespace Sys2Proof.Machine

/-- One observation of a spindle kind (R34). `n` is its count, `put` writes the count. -/
def State.observe (k : FaultKind) (n : Nat) (put : Nat → Spindle → Spindle) (s : State) : State :=
  if s.deglitch k ≤ n + 1 then (s.onSpc (put 0)).recognise k none else s.onSpc (put (n + 1))

/-- The lost-index watch armed now (R43). -/
def freshLostWatch : Option Timer := some ⟨0, Config.lostIndexTicks⟩

/-- The spindle enters AT_SPEED (R41, R152). -/
def State.enterAtSpeed (s : State) : State :=
  ((s.onSpc fun p => { p with state := .atSpeed, standbyElapsed := 0 }).request
    .spindleReady).successPoint true

/-- The spindle enters PURGING (R38, R39), and AT_SPEED at once with purge revolutions 0 (R40)
(assumption log 19). -/
def State.enterPurging (s : State) : State :=
  let t := (s.onSpc fun p => { p with
    state := .purging, driveAtLimit := false, lockCount := 0, purgeCount := 0, spinUpTimer := none,
    spinUpTimeoutCount := 0, lostIndexWatch := freshLostWatch }).absent .spinUpTimeout
  if s.tbs.params.purgeRevs = 0 then t.enterAtSpeed else t

/-- The lock window (R38). -/
def inLock (period : Nat) : Bool :=
  decide (Config.lockLow ≤ period) && decide (period ≤ Config.lockHigh)

/-- The range window (R42). -/
def inRange (period : Nat) : Bool :=
  decide (Config.rangeLow ≤ period) && decide (period ≤ Config.rangeHigh)

/-- An index in ACCELERATING (R38). -/
def State.lockIndex (measured : Bool) (s : State) : State :=
  if measured then
    if inLock s.spc.lastPeriod then
      if Config.lockTarget ≤ s.spc.lockCount + 1 then s.enterPurging
      else s.onSpc fun p => { p with lockCount := p.lockCount + 1 }
    else s.onSpc fun p => { p with lockCount := 0 }
  else s

/-- An index in PURGING or AT_SPEED meets the range window (R42) and re-arms the lost-index watch
(R43). -/
def State.rangeIndex (measured : Bool) (s : State) : State :=
  let s := s.onSpc fun p => { p with lostIndexWatch := freshLostWatch }
  if measured then
    if inRange s.spc.lastPeriod then
      (s.onSpc fun p => { p with excursionCount := 0 }).absent .speedOutOfRange
    else s.observe .speedOutOfRange s.spc.excursionCount fun n p => { p with excursionCount := n }
  else s

/-- An index in PURGING counts (R40). -/
def State.purgeIndex (s : State) : State :=
  if s.spc.state == .purging then
    let t := s.onSpc fun p => { p with purgeCount := p.purgeCount + 1 }
    if s.tbs.params.purgeRevs ≤ s.spc.purgeCount + 1 then t.enterAtSpeed else t
  else s

/-- An index in BRAKING ends a REVERSE phase after a long revolution (R47). -/
def State.brakeIndex (measured : Bool) (s : State) : State :=
  if measured && decide (Config.reverseEnd < s.spc.lastPeriod) then
    s.onSpc fun p => { p with brakeMode := .dynamic }
  else s

/-- The stop window is armed from now (R48). -/
def State.armStopWindow (s : State) : State :=
  let w := s.freshStopWindow
  s.onSpc fun p => { p with stopWindow := w }

/-- An index meets the spindle state (R37, R38, R40, R42, R43, R47, R48). In PURGING the range comparison
comes before the purge count (assumption log 7). -/
def State.indexByState (measured : Bool) (s : State) : State :=
  match s.spc.state with
  | .stopped => (s.onSpc fun p => { p with state := .coasting, demand := .coast }).armStopWindow
  | .starting => (s.onSpc fun p => { p with
      state := .accelerating, firstIndexWatch := none }).absent .noRotation
  | .accelerating => s.lockIndex measured
  | .purging => (s.rangeIndex measured).purgeIndex
  | .atSpeed => s.rangeIndex measured
  | .coasting => s.armStopWindow
  | .braking => (s.brakeIndex measured).armStopWindow

/-- The measurement at an index (R33): the period is the revolution timer's reading (assumption
log 6). -/
def State.measureIndex (s : State) : State :=
  s.onSpc fun p => { p with
    revCount := p.revCount + 1, revTimer := 0, indexSeen := true, wedgeWait := 0,
    lastPeriod := if p.indexSeen then min Config.periodTop p.revTimer else p.lastPeriod }

/-- The counts that an index returns to 0 (R37, R43, R143). -/
def State.indexResets (s : State) : State :=
  (s.onSpc fun p => { p with noRotationCount := 0, lostIndexCount := 0 }).absents
    [.noRotation, .lostIndex]

/-- The counts of a revolution boundary that stand before the event's own effects: retry delays and the
seek timer (R89, R150; assumption log 7). -/
def State.boundaryCounts (s : State) : State := s.countDelays.countSeekTimer

/-- An index arrival (R33), at a reading `timer` of the revolution timer (assumption logs 5 and 7). -/
def State.indexArrives (timer : Nat) (warning : Bool) (s : State) : State :=
  let measured := s.spc.indexSeen
  let watched := s.watched
  let s := (s.elapse (timer - s.spc.revTimer)).measureIndex
  let s := if s.pos.state == .seeking then s else s.takeTables
  let s := (s.boundaryCounts).indexResets
  let s := (s.indexByState measured).sampleWarning warning
  s.countWatches watched

/-- A revolution boundary while STOPPED (R33, R142): P_nom ticks have passed since the last one. -/
def State.stoppedBoundary (warning : Bool) (s : State) : State :=
  let watched := s.watched
  let s := (s.elapse (Config.pNom - s.spc.boundaryTicks)).onSpc fun p => { p with boundaryTicks := 0 }
  let s := s.boundaryCounts.sampleWarning warning
  s.countWatches watched

/-- The spacing of the wedge times (R33). -/
def State.wedgeSpacing (s : State) : Nat :=
  if s.spc.lastPeriod = 0 then Config.pNom / Config.wedges else s.spc.lastPeriod / Config.wedges

/-- The spindle current sense is read at a wedge time (R37, R44; assumption log 45). -/
def State.senseCurrent (high : Bool) (s : State) : State :=
  if s.spc.state.supervised then
    if high then
      s.observe .spindleOvercurrent s.spc.overcurrentCount fun n p => { p with overcurrentCount := n }
    else (s.onSpc fun p => { p with overcurrentCount := 0 }).absent .spindleOvercurrent
  else if s.spc.state.powered then s.onSpc fun p => { p with driveAtLimit := high }
  else s

/-- A wedge time (R33, R44, R58): the current sense is read before the closing window counts
(assumption log 56). -/
def State.wedge (high : Bool) (s : State) : State :=
  let s := s.elapse s.spc.wedgeWait
  let w := s.wedgeSpacing
  ((s.onSpc fun p => { p with wedgeWait := w }).senseCurrent high).nextWindow

/-- An expiry of a running timer: the ticks left to it pass first (assumption log 3). -/
def State.expire (t : Option Timer) (act : State → State) (s : State) : State :=
  match t with
  | none => s
  | some t => (act (s.elapse t.left)).event

/-! ## The rows -/

/-- INDEX_ARRIVAL. -/
def execIndexArrival (timer : Nat) (warning : Bool) (s : State) : Host.Outcome State Fault Refusal :=
  .next (s.indexArrives timer warning).event

/-- STOPPED_REVOLUTION_BOUNDARY. -/
def execStoppedRevolutionBoundary (warning : Bool) (s : State) :
    Host.Outcome State Fault Refusal :=
  .next (if s.spc.state == .stopped then (s.stoppedBoundary warning).event else s)

/-- PURGE_COMPLETE (R40): the purge count stands at its target (assumption log 4). -/
def execPurgeComplete (s : State) : Host.Outcome State Fault Refusal :=
  .next (if s.spc.state == .purging && decide (s.tbs.params.purgeRevs ≤ s.spc.purgeCount) then
    s.enterAtSpeed.event else s)

/-- WEDGE_TIME. -/
def execWedgeTime (high : Bool) (s : State) : Host.Outcome State Fault Refusal :=
  .next (s.wedge high).event

/-- FIRST_INDEX_WATCH_EXPIRY (R37): one NO_ROTATION observation, the watch re-arms. -/
def execFirstIndexWatchExpiry (s : State) : Host.Outcome State Fault Refusal :=
  .next (s.expire s.spc.firstIndexWatch fun t =>
    (t.onSpc fun p => { p with firstIndexWatch := some ⟨0, Config.firstIndexTicks⟩ }).observe
      .noRotation t.spc.noRotationCount fun n p => { p with noRotationCount := n })

/-- SPIN_UP_TIMER_EXPIRY (R39): one SPIN_UP_TIMEOUT observation, the timer re-arms with its length. -/
def execSpinUpTimerExpiry (s : State) : Host.Outcome State Fault Refusal :=
  .next (s.expire s.spc.spinUpTimer fun t =>
    (t.onSpc fun p => { p with spinUpTimer := p.spinUpTimer.map fun x => ⟨0, x.length⟩ }).observe
      .spinUpTimeout t.spc.spinUpTimeoutCount fun n p => { p with spinUpTimeoutCount := n })

/-- LOST_INDEX_WATCH_EXPIRY (R43): one LOST_INDEX observation, the watch re-arms. -/
def execLostIndexWatchExpiry (s : State) : Host.Outcome State Fault Refusal :=
  .next (s.expire s.spc.lostIndexWatch fun t =>
    (t.onSpc fun p => { p with lostIndexWatch := freshLostWatch }).observe
      .lostIndex t.spc.lostIndexCount fun n p => { p with lostIndexCount := n })

/-- The REVERSE phase is in force (R47). -/
def State.reversing (s : State) : Bool := s.reverseDrive

/-- REVERSE_PHASE_TIMEOUT (R47): the revolution timer passes 66,668 ticks in the REVERSE phase. -/
def execReversePhaseTimeout (s : State) : Host.Outcome State Fault Refusal :=
  .next (if s.reversing then
    ((s.elapse (Config.reverseEnd + 1 - s.spc.revTimer)).onSpc fun p =>
      { p with brakeMode := .dynamic }).event
    else s)

/-- STOP_WINDOW_EXPIRY (R48). -/
def execStopWindowExpiry (s : State) : Host.Outcome State Fault Refusal :=
  .next (s.expire s.spc.stopWindow State.enterStopped)

/-- The standby timer can expire: it counts, its period is not 0, and no work of an internal spin-down is
in flight (R53, R54; assumption log 18). -/
def State.standbyArmed (s : State) : Bool :=
  s.standbyCounts && decide (0 < s.tbs.params.standby) && s.downs.standby.isNone

/-- STANDBY_EXPIRY (R53, R54): the internal spin-down starts. -/
def execStandbyExpiry (s : State) : Host.Outcome State Fault Refusal :=
  .next (if s.standbyArmed then
    ((s.elapse (s.standbyPeriod - s.spc.standbyElapsed)).onDowns fun d =>
      { d with standby := some .point, standbyLeft := false }).event
    else s)

end Sys2Proof.Machine
end

