-- ==== Sys2Proof/Machine/CartridgeEvents.lean ====
section
/-! DEFINITION. The cartridge sensor, the eject button, the ejector pulse and the eject window (R121 to
R139). -/

namespace Sys2Proof.Machine

/-- A cartridge arrives in an ABSENT drive (R122, R8). -/
def State.insertCartridge (protect : Bool) (s : State) : State :=
  ((s.onCcu fun c => { c with
    state := if c.releasePending then .stopCheck else .seated, releasePending := false,
    protect := protect }).clearHolds.forgetRecord).request .cartridgeInserted

/-- The cartridge-present sensor changes to present (R121). -/
def State.sensorPresent (protect : Bool) (s : State) : State :=
  let t := s.onCcu fun c => { c with present := true }
  if s.ccu.state == .absent && !s.supplyLow then t.insertCartridge protect else t

/-- The cartridge leaves while EJECTING (R137): the EJECT commands complete, then a work that waited for
the eject to end meets the empty drive (R49). -/
def State.cartridgeLeft (s : State) : State := (s.endEject .ok).cartridgeLeaves

/-- The cartridge-present sensor changes to absent (R121). -/
def State.sensorAbsent (s : State) : State :=
  let t := s.onCcu fun c => { c with present := false }
  if s.supplyLow then t
  else match s.ccu.state with
    | .absent => t
    | .seated => t.cartridgeLeaves
    | .latched | .stopCheck | .ejectPending => t.doorForced
    | .ejecting => t.cartridgeLeft

/-- A press of the eject button (R130). -/
def State.pressButton (s : State) : State :=
  match s.ccu.state with
  | .seated | .latched | .stopCheck =>
    if 0 < s.ccu.holdCount then
      (s.onCcu fun c => { c with buttonRefused := true }).request .ejectButton
    else (s.request .ejectButton).beginEject s.tbs.params.buttonMode false []
  | _ => s

/-- CARTRIDGE_SENSOR_PRESENT (R121, R122). -/
def execCartridgeSensorPresent (protect : Bool) (s : State) : Host.Outcome State Fault Refusal :=
  .next (s.sensorPresent protect).event

/-- CARTRIDGE_SENSOR_ABSENT (R121, R124, R127, R137). -/
def execCartridgeSensorAbsent (s : State) : Host.Outcome State Fault Refusal :=
  .next s.sensorAbsent.event

/-- EJECT_BUTTON_PRESS (R130). -/
def execEjectButtonPress (s : State) : Host.Outcome State Fault Refusal :=
  .next (if s.supplyLow then s else s.pressButton.event)

/-- The ticks since the ejector was fired (R120). -/
def State.sinceFired (s : State) : Nat := (s.ccu.ejectWindow.map Timer.elapsed).getD 0

/-- EJECTOR_PULSE_END (R137): 200,000 ticks have passed since the firing. -/
def execEjectorPulseEnd (s : State) : Host.Outcome State Fault Refusal :=
  .next (if s.ccu.ejector then
    ((s.elapse (Config.ejectorTicks - s.sinceFired)).onCcu fun c =>
      { c with ejector := false }).event
    else s)

/-- EJECT_WINDOW_EXPIRY (R137, R139); after a supply-low no eject ends (R140). -/
def execEjectWindowExpiry (s : State) : Host.Outcome State Fault Refusal :=
  .next (if s.supplyLow then s
    else s.expire s.ccu.ejectWindow fun t => t.failEject .ejectFailed .seated)

end Sys2Proof.Machine
end

