-- ==== Sys2Proof/Machine/ImmediateCommands.lean ====
section
/-! DEFINITION. The immediate commands (R114 to R117, R129, R131, R138, R157, R158, R164 to R172, R190,
R192, R193). An operand outside its listed set is refused with BAD_PACKET (R178, check 6). -/

namespace Sys2Proof.Machine

/-- The answer to an operand outside its set (R178, check 6). -/
def State.badOperand (t : Byte) (s : State) : State := s.reply t .badPacket .empty

/-! ## ABORT -/

/-- A transfer is stopped in mode IMMEDIATE (R116): a read sector in flight is abandoned, a write sector
cut. -/
def State.abortNow (s : State) : State :=
  let own := s.ownFlight
  let t := s.cutWrite
  let t := if own then
      (t.emptySlotOpt (t.eng.flight.bind Flight.slot)).onEng fun e => { e with flight := none }
    else t
  t.completeHead .aborted

/-- The EXECUTING entry is aborted (R114 to R116). -/
def State.abortExecuting (immediate : Bool) (s : State) : State :=
  if immediate && s.job == .transfer then s.abortNow else s.stopExecuting .aborted

/-- ABORT of a tag (R114; assumption log 34). -/
def State.abort (t target : Byte) (immediate : Bool) (s : State) : State :=
  match s.queue.find? fun e => e.tag == target with
  | none => s.reply t .noSuchTag .empty
  | some e =>
    let u := s.reply t .ok .empty
    (if e.executing then u.abortExecuting immediate else u.completeWaiting target .aborted).settle

/-- ABORT. -/
def execAbort (tag target mode : Byte) (s : State) : Host.Outcome State Fault Refusal :=
  .next (s.command (.abort tag target mode) fun u =>
    match twoWay mode with
    | some m => u.abort tag target m
    | none => u.badOperand tag)

/-! ## Eject and holds -/

/-- EJECT meets its checks (R131). -/
def State.ejectCommand (t : Byte) (mode : EjectMode) (force : Bool) (s : State) : State :=
  match s.ccu.eject with
  | some e =>
    if Config.ejectTagMax ≤ e.tags.length then s.reply t .ejectInProgress .empty
    else ((s.reply t .queued .empty).mergeEject t mode force).settle
  | none =>
    if s.ccu.state == .absent then s.reply t .noCartridge .empty
    else if decide (0 < s.ccu.holdCount) && !force then s.reply t .ejectHeld .empty
    else ((s.reply t .queued .empty).beginEject mode force [t]).settle

/-- EJECT (R131). -/
def execEject (tag mode force : Byte) (s : State) : Host.Outcome State Fault Refusal :=
  .next (s.command (.eject tag mode force) fun u =>
    match ejectModeOf mode, twoWay force with
    | some m, some f => u.ejectCommand tag m f
    | _, _ => u.badOperand tag)

/-- An eject is in progress (R120). -/
def State.ejectGoesOn (s : State) : Bool :=
  s.ccu.state == .ejectPending || s.ccu.state == .ejecting

/-- HOLD EJECT meets the CCU (R129). -/
def State.holdEject (t : Byte) (s : State) : State :=
  if s.ccu.state == .absent then s.reply t .noCartridge .empty
  else if s.ejectGoesOn then s.reply t .ejectInProgress .empty
  else if 15 ≤ s.ccu.holdCount then s.reply t .holdLimit .empty
  else (s.onCcu fun c => { c with holdCount := c.holdCount + 1 }).reply t .ok .empty

/-- HOLD EJECT (R129). -/
def execHoldEject (tag : Byte) (s : State) : Host.Outcome State Fault Refusal :=
  .next (s.command (.holdEject tag) fun u => u.holdEject tag)

/-- RELEASE EJECT meets the CCU (R129). -/
def State.releaseEject (t : Byte) (s : State) : State :=
  if s.ccu.state == .absent then s.reply t .noCartridge .empty
  else if s.ccu.holdCount = 0 then s.reply t .notHeld .empty
  else (s.onCcu fun c => { c with
    holdCount := c.holdCount - 1,
    buttonRefused := if c.holdCount = 1 then false else c.buttonRefused }).reply t .ok .empty

/-- RELEASE EJECT (R129). -/
def execReleaseEject (tag : Byte) (s : State) : Host.Outcome State Fault Refusal :=
  .next (s.command (.releaseEject tag) fun u => u.releaseEject tag)

/-! ## Faults -/

/-- CLEAR FAULTS leaves a record (R157). -/
def State.keepsRecord (s : State) (r : FaultRecord) : Bool :=
  match r.state with
  | .retrying => true
  | .latched => (s.fsv.kinds.get r.kind).present
  | _ => false

/-- CLEAR FAULTS meets the Fault Supervisor (R157, R72). It leaves the SUPPLY_LOW record, whose condition is
present until the power-on reset (R154; assumption log 58). -/
def State.clearFaults (t : Byte) (s : State) : State :=
  let left := s.fsv.records.filter s.keepsRecord
  ((((s.onFsv fun v => { v with records := left }).onPos fun p => { p with hold := false }).reply t .ok
    (.cleared (s.fsv.records.length - left.length) left.length))).settle

/-- CLEAR FAULTS (R157); after a supply-low as `State.takesLate` gives (R154, R184; assumption log 58). -/
def execClearFaults (tag : Byte) (s : State) : Host.Outcome State Fault Refusal :=
  .next (s.command (.clearFaults tag) fun u => u.clearFaults tag)

/-- READ FAULTS meets the Fault Supervisor (R158): every record of the list, SUPPLY_LOW's among them until the
power-on reset (R154; assumption log 58). -/
def State.readFaults (t : Byte) (s : State) : State := s.reply t .ok (.faults s.fsv.records)

/-- READ FAULTS (R158); after a supply-low as `State.takesLate` gives (R154, R184; assumption log 58). -/
def execReadFaults (tag : Byte) (s : State) : Host.Outcome State Fault Refusal :=
  .next (s.command (.readFaults tag) fun u => u.readFaults tag)

/-! ## Tables -/

/-- A table becomes the staged copy of its kind (R165). -/
def State.stage (t : LoadedTable) (s : State) : State :=
  s.onTbs fun x =>
    match t with
    | .profile p => { x with stagedProfile := some p }
    | .actions a => { x with stagedActions := some a }
    | .params d => { x with stagedParams := some d }

/-- LOAD TABLE meets the Table Store (R164 to R166). -/
def State.loadTable (t selector : Byte) (body : List Byte) (s : State) : State :=
  match tableOf selector body with
  | none => s.reply t .tableInvalid .empty
  | some (x, n) =>
    let u := s.stage x
    let u := if s.spc.state.idle then u.takeTables else u
    if n = 0 then u.reply t .ok .empty else u.reply t .okClamped (.clamped n)

/-- LOAD TABLE (R164). -/
def execLoadTable (tag selector : Byte) (body : List Byte) (s : State) :
    Host.Outcome State Fault Refusal :=
  .next (s.command (.loadTable tag selector body) fun u => u.loadTable tag selector body)

/-- The reply body of a READ TABLE of the record image (R168). -/
def imageReply (selector first : Nat) (img : Image) : ReplyBody :=
  match selector with
  | 4 => .zones img
  | 5 => .reassigns img
  | _ => .slips img first

/-- The active copy that a selector names (R168). -/
def TableStore.active (t : TableStore) (selector : Nat) : LoadedTable :=
  match selector with
  | 1 => .profile t.profile
  | 2 => .actions t.actions
  | _ => .params t.params

/-- The staged copy that a selector names (R168). -/
def TableStore.staged (t : TableStore) (selector : Nat) : Option LoadedTable :=
  match selector with
  | 1 => t.stagedProfile.map LoadedTable.profile
  | 2 => t.stagedActions.map LoadedTable.actions
  | _ => t.stagedParams.map LoadedTable.params

/-- READ TABLE meets the Table Store (R168). -/
def State.readTable (t : Byte) (selector : Nat) (staged : Bool) (first : Nat) (s : State) : State :=
  if selector ≤ 3 then
    s.reply t .ok (if staged then .staged (s.tbs.staged selector) else .table (s.tbs.active selector))
  else match s.record.image with
    | none => s.reply t .recordUnreadable .empty
    | some img => s.reply t .ok (imageReply selector first img)

/-- READ TABLE (R168). -/
def execReadTable (tag selector copy : Byte) (first : BitVec 16) (s : State) :
    Host.Outcome State Fault Refusal :=
  .next (s.command (.readTable tag selector copy first) fun u =>
    match twoWay copy with
    | some c =>
      if 1 ≤ selector.toNat ∧ selector.toNat ≤ 6 then
        u.readTable tag selector.toNat c first.toNat
      else u.badOperand tag
    | none => u.badOperand tag)

/-- TABLE HOLD meets the Table Store (R166, R167). -/
def State.tableHold (t : Byte) (set : Bool) (s : State) : State :=
  let u := s.onTbs fun x => { x with hold := set }
  let u := if !set && s.tbs.hold && s.spc.state.idle then u.takeTables else u
  u.reply t .ok .empty

/-- TABLE HOLD (R167). -/
def execTableHold (tag value : Byte) (s : State) : Host.Outcome State Fault Refusal :=
  .next (s.command (.tableHold tag value) fun u =>
    match twoWay value with
    | some v => u.tableHold tag v
    | none => u.badOperand tag)

/-! ## Snapshots and STATUS -/

/-- The SPINDLE group's current values (R169). -/
def State.spindleSnap (s : State) : SpindleSnap := ⟨s.spc.state, s.spc.lastPeriod, s.spc.revCount⟩

/-- The target of a seek in flight, which R78 lets the host see through STATUS and the POSITION group
(assumption log 57). -/
def State.seekTarget (s : State) : Option Nat := if s.seekInFlight then s.pos.target else none

/-- The POSITION group's current values (R78, R169). -/
def State.positionSnap (s : State) : PositionSnap :=
  ⟨s.pos.state, s.pos.fix.map Fix.cylinder, s.pos.head, s.pos.fix.map Fix.pes, s.pos.current,
    s.seekTarget⟩

/-- The groups that are latched (R169). -/
def TableStore.latchedGroups (t : TableStore) : Groups :=
  ⟨t.snapSpindle.isSome, t.snapPosition.isSome, t.snapCounters.isSome⟩

/-- LATCH meets the Table Store (R170). -/
def State.latch (t : Byte) (g : Groups) (clear : Bool) (s : State) : State :=
  let h := s.tbs.latchedGroups
  let got : Groups := ⟨g.spindle && !h.spindle, g.position && !h.position, g.counters && !h.counters⟩
  let had : Groups := ⟨g.spindle && h.spindle, g.position && h.position, g.counters && h.counters⟩
  let sp := s.spindleSnap
  let po := s.positionSnap
  let co := s.counters
  let u := s.onTbs fun x => { x with
    snapSpindle := if got.spindle then some sp else x.snapSpindle,
    snapPosition := if got.position then some po else x.snapPosition,
    snapCounters := if got.counters then some co else x.snapCounters }
  let u := if clear && got.counters then u.onCounters fun _ => Counters.zero else u
  u.reply t .ok (.latched got had)

/-- LATCH (R170). -/
def execLatch (tag groups clear : Byte) (s : State) : Host.Outcome State Fault Refusal :=
  .next (s.command (.latch tag groups clear) fun u =>
    match groupsOf groups, twoWay clear with
    | some g, some c => u.latch tag g c
    | _, _ => u.badOperand tag)

/-- READ LATCHED meets the Table Store (R171). -/
def State.readLatched (t : Byte) (s : State) : State :=
  (s.onTbs fun x => { x with
    snapSpindle := none, snapPosition := none, snapCounters := none }).reply t .ok
      (.snapshots s.tbs.snapSpindle s.tbs.snapPosition s.tbs.snapCounters)

/-- READ LATCHED (R171). -/
def execReadLatched (tag : Byte) (s : State) : Host.Outcome State Fault Refusal :=
  .next (s.command (.readLatched tag) fun u => u.readLatched tag)

/-- The values of a STATUS reply (R78, R172). -/
def State.report (s : State) : StatusReport :=
  { cartridge := s.ccu.state, phase := s.ccu.eject.bind EjectRecord.phase,
    record := s.record.state, reason := s.record.reason, protect := s.ccu.protect,
    holdCount := s.ccu.holdCount, buttonRefused := s.ccu.buttonRefused, spindle := s.spc.state,
    positioner := s.pos.state, cylinder := s.pos.fix.map Fix.cylinder, head := s.pos.head,
    depth := s.queue.length, executing := s.executing.map Entry.tag,
    latchedKinds := FaultKind.all.filter fun k =>
      (s.recordOf k).any fun r => r.state == .latched,
    source := s.pendingSource, mediaChange := s.ccu.mediaChange, cause := s.tbs.resetCause,
    target := s.seekTarget }

/-- STATUS (R172). -/
def execStatus (tag : Byte) (s : State) : Host.Outcome State Fault Refusal :=
  .next (s.command (.status tag) fun u => u.reply tag .ok (.status u.report))

/-! ## Attention -/

/-- A set of sources with one more, in the order of the codes. -/
def withSource (l : List Source) (x : Source) : List Source :=
  Source.all.filter fun y => l.contains y || y == x

/-- A set of sources without one. -/
def withoutSource (l : List Source) (x : Source) : List Source := l.filter fun y => y != x

/-- ATTENTION ACK meets the Attention Controller (R192). -/
def State.attentionAck (t : Byte) (s : State) : State :=
  match s.pendingSource with
  | none => s.reply t .ok (.source none)
  | some x =>
    let auto := s.tbs.params.autoEnd
    (s.onAtc fun a => { a with
      requests := withoutSource a.requests x,
      inService := if auto then a.inService else withSource a.inService x }).reply t .ok
        (.source (some x))

/-- ATTENTION ACK (R192). -/
def execAttentionAck (tag : Byte) (s : State) : Host.Outcome State Fault Refusal :=
  .next (s.command (.attentionAck tag) fun u => u.attentionAck tag)

/-- The in-service source that an END ATTENTION ends (R193): the named one, or the most urgent. -/
def State.endedSource (x : Option Source) (s : State) : Option Source :=
  match x with
  | some y => if s.atc.inService.contains y then some y else none
  | none => Source.all.find? fun y => s.atc.inService.contains y

/-- END ATTENTION meets the Attention Controller (R193). -/
def State.endAttention (t : Byte) (x : Option Source) (s : State) : State :=
  match s.endedSource x with
  | none => s.reply t .ok (.source none)
  | some y => (s.onAtc fun a => { a with inService := withoutSource a.inService y }).reply t .ok
      (.source (some y))

/-- END ATTENTION (R193). -/
def execEndAttention (tag source : Byte) (s : State) : Host.Outcome State Fault Refusal :=
  .next (s.command (.endAttention tag source) fun u =>
    match endSourceOf source with
    | some x => u.endAttention tag x
    | none => u.badOperand tag)

/-- SET ATTENTION MASK (R190). -/
def execSetAttentionMask (tag : Byte) (mask : BitVec 16) (s : State) :
    Host.Outcome State Fault Refusal :=
  .next (s.command (.setAttentionMask tag mask) fun u =>
    (u.onAtc fun a => { a with mask := maskOf mask }).reply tag .ok .empty)

end Sys2Proof.Machine
end

