-- ==== Sys2Proof/Machine/MediumCommands.lean ====
section
/-! DEFINITION. The medium commands: their admission (R12, R27, R50, R51, R92, R96, R97). What they do as
the head entry is in Settle.lean. -/

namespace Sys2Proof.Machine

/-- READ, WRITE, VERIFY, SEEK and REASSIGN BLOCK (R96, check 4). -/
def MediumCmd.needsCartridge : MediumCmd → Bool
  | .xfer _ _ _ | .seek _ | .reassign _ => true
  | _ => false

/-- WRITE and REASSIGN BLOCK (R96, check 5). -/
def MediumCmd.writes : MediumCmd → Bool
  | .xfer .write _ _ | .reassign _ => true
  | _ => false

/-- A list of extents that fails the structural check (R96, check 6). -/
def MediumCmd.malformed : MediumCmd → Bool
  | .xfer _ _ l => extentsBad l
  | _ => false

/-- The capacity, while an image is installed (R18). -/
def State.capacity (s : State) : Option Nat := s.record.image.map fun i => capacityOf i.zones

/-- An address out of range (R96, check 7). -/
def State.outOfRange (c : MediumCmd) (s : State) : Bool :=
  match c with
  | .xfer _ _ l => s.capacity.any fun n => pastCapacity n l
  | .reassign l => s.capacity.any fun n => decide (n ≤ l)
  | .seek n => decide (Config.dataCylinders ≤ n)
  | _ => false

/-- The acceptance checks (R96), in their order; none where the command is admitted. -/
def State.admissionRefused (t : Byte) (c : MediumCmd) (s : State) : Option Status :=
  if s.ccu.state == .ejectPending || s.ccu.state == .ejecting then some .ejectPending
  else if Config.queueMax ≤ s.queue.length then some .queueFull
  else if s.queue.any fun e => e.tag == t then some .tagInUse
  else if c.needsCartridge && s.ccu.state == .absent then some .noCartridge
  else if c.writes && s.ccu.protect then some .writeProtected
  else if c.malformed then some .badExtents
  else if s.outOfRange c then some .badAddress
  else none

/-- A medium command reaches the Command Queue (R96): refused, or admitted at the tail with QUEUED; the
head entry then begins (R98). -/
def State.enqueue (t : Byte) (c : MediumCmd) (s : State) : State :=
  match s.admissionRefused t c with
  | some st => s.reply t st .empty
  | none => (((s.reply t .queued .empty).setQueue (s.queue ++ [⟨t, c, false⟩])).settle)

/-- READ. -/
def execRead (tag flags : Byte) (l : List RawExtent) (s : State) : Host.Outcome State Fault Refusal :=
  .next (s.command (.read tag flags l) fun t => t.enqueue tag (transferOf .read flags l))

/-- WRITE. -/
def execWrite (tag flags : Byte) (l : List RawExtent) (s : State) : Host.Outcome State Fault Refusal :=
  .next (s.command (.write tag flags l) fun t => t.enqueue tag (transferOf .write flags l))

/-- VERIFY. -/
def execVerify (tag flags : Byte) (l : List RawExtent) (s : State) :
    Host.Outcome State Fault Refusal :=
  .next (s.command (.verify tag flags l) fun t => t.enqueue tag (transferOf .verify flags l))

/-- SEEK (R92). -/
def execSeek (tag : Byte) (cylinder : BitVec 16) (s : State) : Host.Outcome State Fault Refusal :=
  .next (s.command (.seek tag cylinder) fun t => t.enqueue tag (.seek cylinder.toNat))

/-- SPIN UP (R50). -/
def execSpinUp (tag : Byte) (s : State) : Host.Outcome State Fault Refusal :=
  .next (s.command (.spinUp tag) fun t => t.enqueue tag .spinUp)

/-- SPIN DOWN (R51). -/
def execSpinDown (tag : Byte) (s : State) : Host.Outcome State Fault Refusal :=
  .next (s.command (.spinDown tag) fun t => t.enqueue tag .spinDown)

/-- FLUSH RECORD (R12). -/
def execFlushRecord (tag : Byte) (s : State) : Host.Outcome State Fault Refusal :=
  .next (s.command (.flushRecord tag) fun t => t.enqueue tag .flush)

/-- REASSIGN BLOCK (R27). -/
def execReassignBlock (tag : Byte) (lba : BitVec 32) (s : State) :
    Host.Outcome State Fault Refusal :=
  .next (s.command (.reassignBlock tag lba) fun t => t.enqueue tag (.reassign lba.toNat))

end Sys2Proof.Machine
end

