-- ==== Sys2Proof/Machine/Resets.lean ====
section
/-! DEFINITION. The resets and the comparators: power-on reset, supply-low, over-temperature shutdown,
bus reset (R13, R15, R55, R76, R77, R94, R118, R119, R140, R143, R154, R155, R159, R173, R183, R184,
R194). -/

namespace Sys2Proof.Machine

/-- POWER_ON_RESET: every part takes its power-on values; the reset logic tells a supply-low's reset from
the application of power (R172). The lines of the host and the waiting commands stay. -/
def execPowerOnReset (present protect park : Bool) (s : State) : Host.Outcome State Fault Refusal :=
  .next (State.powerOn (if s.supplyLow then .supplyLow else .powerOn) present protect park
    s.dbi.turn s.dbi.busReset s.pending)

/-- The spindle after a supply-low (R55): COASTING with every output off (assumption log 17), the counts
as they were (assumption log 46). -/
def State.coastDown (s : State) : State :=
  ((s.leavePowered .coasting false .coast).onSpc fun p => { p with
    lockCount := s.spc.lockCount, excursionCount := s.spc.excursionCount,
    overcurrentCount := s.spc.overcurrentCount, noRotationCount := s.spc.noRotationCount,
    spinUpTimeoutCount := s.spc.spinUpTimeoutCount,
    lostIndexCount := s.spc.lostIndexCount }).clearStarts

/-- The record of SUPPLY_LOW (R154). -/
def State.supplyRecord (s : State) : State :=
  let k := FaultKind.supplyLow
  ((s.nowPresent k).putRecord k none .latched 0 (some (fixedRow k))).endRetries

/-- The transfer, the record operation and the works stop at once; a sector being written is cut, and
the slots stay as they are (R13, R70, R119). -/
def State.stopTransfers (s : State) : State :=
  ((((s.onRec fun r => { r with op := .idle }).onEng fun e =>
    { e with flight := none, state := .idle }).setWork none).withdrawWork).onDowns fun _ =>
      ⟨none, none, none, false⟩

/-- The interface after a supply-low (R184): packets in flight are abandoned, the reply queue is kept. -/
def State.abandonPackets (s : State) : State :=
  s.onDbi fun d => { d with inb := .idle, out := .none, answers := 0 }

/-- SUPPLY_LOW (R154). The record keeps the states found; the spindle coasts, the heads retract. -/
def execSupplyLow (s : State) : Host.Outcome State Fault Refusal :=
  let s := s.supplyRecord
  .next (if s.supplyLow then s
    else
      let s := ((s.stopTransfers.abandonPackets).onPos fun p => { p with requester := .none }).onCcu
        fun c => { c with ejector := false }
      let s := { s with supplyLow := true }
      (s.retractRequest .supplyLow).coastDown)

/-- OVER_TEMP_SHUTDOWN (R155), after a supply-low too. -/
def execOverTempShutdown (s : State) : Host.Outcome State Fault Refusal :=
  .next (s.recognise .overTempShutdown none).event

/-- OVER_TEMP_SHUTDOWN_CEASES (R143). -/
def execOverTempShutdownCeases (s : State) : Host.Outcome State Fault Refusal :=
  .next (s.absent .overTempShutdown)

/-! ## Bus reset -/

/-- A slot at a bus reset (R118, R183): emptied, but for the slot of the sector in flight and those of a
record operation. `i` is its number, `kept` the numbers kept. -/
def State.resetSlots (s : State) : State :=
  let kept := [s.eng.flight.bind Flight.slot, s.record.op.slot]
  s.setSlots (s.slots.mapIdx fun i x =>
    if kept.contains (some i) then { x with tag := none } else Slot.none)

/-- The queue at a bus reset (R118): every entry leaves without a DONE. -/
def State.dropQueue (s : State) : State :=
  ((((s.resetSlots.setQueue []).setJob .idle).setEnd none).onEng Engine.afterCommand).orphanSeek

/-- The works at a bus reset (R14, R50, R52, R118): they run on, their completion lost. A SPIN DOWN runs
on to STOPPED (assumption logs 27 and 30). One that an earlier reset has left goes on as one work with it
(assumption log 81). -/
def State.orphanWorks (s : State) : State :=
  match s.downs.cmd with
  | some x =>
    let s := s.orphanWriteBack .cmd .orphan
    (s.onDowns fun d => { d with cmd := none, orphan := some x }).setWork
      (s.work.map fun w => if w.forCmd then { w with forCmd := false, forOrphan := true } else w)
  | none =>
    (s.orphanWriteBack .cmd .lost).setWork
      (s.work.map fun w => if w.forCmd then { w with forCmd := false, forLost := true } else w)

/-- The interface at a bus reset (R183). -/
def State.resetBus (s : State) : State :=
  s.onDbi fun d => { d with inb := .idle, out := .none, replies := [], answers := 0,
                            busReset := true, stb := false, ack := false }

/-- The CCU at a bus reset (R140). -/
def State.resetHolds (s : State) : State :=
  (s.clearHolds).onCcu fun c => { c with eject := c.eject.map fun e => { e with tags := [] } }

/-- The Table Store at a bus reset (R173): the table-hold flag clears, with the take at once when R166
allows, and the snapshot groups are unlatched. -/
def State.resetTables (s : State) : State :=
  let t := s.onTbs fun t => { t with
    hold := false, snapSpindle := none, snapPosition := none, snapCounters := none,
    resetCause := .busReset }
  if s.spc.state.idle then t.takeTables else t

/-- The Attention Controller at a bus reset (R194): PART_RESET alone, whatever the reset's own take had
requested (assumption log 41). -/
def State.resetAttention (s : State) : State := s.onAtc fun _ => ⟨[.partReset], [], []⟩

/-- BUS_RESET (R183): a second assertion before the negation has no further effect. What the blocks request
as they react to the reset is set after the sets are cleared (assumption log 71). After a supply-low it takes
the level of the line and abandons an answer in flight (assumption logs 17 and 58). -/
def execBusReset (s : State) : Host.Outcome State Fault Refusal :=
  .next (if s.dbi.busReset then s
    else if s.supplyLow then s.onDbi fun d => { d with busReset := true, out := .none }
    else
      ((s.orphanWorks.dropQueue.resetHolds).resetTables.resetAttention.resetBus).event)

/-- BUS_RESET_RELEASE (R183). -/
def execBusResetRelease (s : State) : Host.Outcome State Fault Refusal :=
  .next (if s.dbi.busReset then (s.onDbi fun d => { d with busReset := false }).commit else s)

end Sys2Proof.Machine
end

