-- ==== Sys2Proof/Machine/SectorEvents.lean ====
section
/-! DEFINITION. The read channel's events: a sector arrives under the head, and it ends with its outcome
(R5, R10, R105 to R113, R118). -/

namespace Sys2Proof.Machine

/-- A sector begins to pass for something. -/
def State.fly (k : FlightKind) (slot : Option Nat) (s : State) : State :=
  s.onEng fun e => { e with flight := some ⟨k, slot, false, false⟩ }

/-- A sector of the record is read into an EMPTY slot (R5). -/
def State.recordReadArrives (r : RecordRead) (n : Nat) (s : State) : State :=
  if s.trackingOn 0 0 && r.got[n]? == some none then
    match s.emptySlot with
    | some i =>
      (s.onSlot i fun _ => ⟨.filling, none, 0, 0, 0, []⟩).fly (.recordRead n) (some i)
    | none => s
  else s

/-- A sector of the record is written, or deferred (R10): once the heads have reached cylinder 0 the
sector is deferred at every pass without the permit, in a re-seek after a track slip and on a slipped
cylinder under the hold flag too (assumption log 44). With no slot for it the sector passes, and no
deferral is counted (assumption log 60). -/
def State.recordWriteArrives (w : WriteBack) (n : Nat) (s : State) : State :=
  if (s.trackingOn 0 0 || w.reached) && n == w.next then
    match w.slot with
    | some i =>
      if s.trackingOn 0 0 && s.writeGate then
        (s.onSlot i fun x => { x with state := .draining }).fly .recordWrite (some i)
      else s.recordSectorDeferred w
    | none => s
  else s

/-- The block's sector arrives in a READ (R106). -/
def State.readArrives (t : Byte) (s : State) : State :=
  match s.emptySlot with
  | some i =>
    let lba := (lbaAt s.extents s.eng.seq).getD 0
    let x : Slot := ⟨.filling, some t, s.eng.seq, lba, s.eng.retry, []⟩
    ((s.onSlot i fun _ => x).onEng fun e => { e with state := .transferring }).fly .read (some i)
  | none => s.slips

/-- The block's sector is refused the gate in a WRITE (R110). -/
def State.deferWrite (i : Nat) (s : State) : State :=
  if ((s.slots[i]?).map Slot.retry).getD 0 < s.tbs.params.writeRetries then
    (((s.onSlot i fun x => { x with retry := x.retry + 1 }).countDeferral).awaitPass)
  else s.unrecoverable (some i)

/-- The block's sector arrives in a WRITE (R110). -/
def State.writeArrives (t : Byte) (s : State) : State :=
  match s.slotOf t s.eng.seq .full with
  | some i =>
    if s.writeGate then
      ((s.onSlot i fun x => { x with state := .draining }).onEng fun e =>
        { e with state := .transferring }).fly .write (some i)
    else s.deferWrite i
  | none => s.slips

/-- A sector arrives in a host transfer (R105): the awaited one, in ROTATE_WAIT or RETRY_WAIT. -/
def State.transferArrives (n : Nat) (s : State) : State :=
  let waits := s.eng.state == .rotateWait || s.eng.state == .retryWait
  if s.job == .transfer && waits && (s.eng.place.map Placement.sector) == some n then
    match s.executing with
    | some ⟨t, .xfer .read _ _, _⟩ => s.readArrives t
    | some ⟨t, .xfer .write _ _, _⟩ => s.writeArrives t
    | some ⟨_, .xfer .verify _ _, _⟩ =>
      (s.onEng fun e => { e with state := .transferring }).fly .verify none
    | _ => s
  else s

/-- A sector arrives under the head. -/
def State.sectorArrives (n : Nat) (s : State) : State :=
  if s.supplyLow || s.eng.flight.isSome then s
  else match s.record.op with
    | .reading r => s.recordReadArrives r n
    | .writing w => s.recordWriteArrives w n
    | .idle => s.transferArrives n

/-- The sector in flight has ended. -/
def State.land (s : State) : State := s.onEng fun e => { e with flight := none }

/-- A READ sector ends (R107). -/
def State.readEnds (i : Nat) (good : Bool) (data : List Byte) (s : State) : State :=
  if good then (s.onSlot i fun x => { x with state := .full, data := data }).finishBlock
  else (s.emptySlotAt i).readFails

/-- A VERIFY sector ends (R112). -/
def State.verifyEnds (good : Bool) (s : State) : State :=
  if good then (s.onEng fun e => { e with completed := e.completed + 1 }).finishBlock
  else s.readFails

/-- A WRITE sector ends (R111). -/
def State.writeEnds (i : Nat) (s : State) : State :=
  ((s.emptySlotAt i).onEng fun e => { e with completed := e.completed + 1 }).finishBlock

/-- The sector in flight ends with its outcome. -/
def State.flightEnds (f : Flight) (good : Bool) (data : List Byte) (s : State) : State :=
  let ok := good && !f.spoiled
  let s := s.land
  if f.orphan then s.emptySlotOpt f.slot
  else match f.kind, f.slot, s.record.op with
    | .read, some i, _ => s.readEnds i ok data
    | .verify, _, _ => s.verifyEnds ok
    | .write, some i, _ => s.writeEnds i
    | .recordRead n, some i, .reading r => (s.emptySlotAt i).recordSectorRead r n ok data
    | .recordWrite, some i, .writing w => (s.emptySlotAt i).recordSectorWritten w
    | _, slot, _ => s.emptySlotOpt slot

/-- A sector's passage ends. -/
def State.sectorEnds (good : Bool) (data : List Byte) (s : State) : State :=
  match s.eng.flight with
  | none => s
  | some f => s.flightEnds f good data

/-- SECTOR_ARRIVAL (R105). -/
def execSectorArrival (sector : Nat) (s : State) : Host.Outcome State Fault Refusal :=
  .next (s.sectorArrives sector).event

/-- SECTOR_END (R107, R111, R112, R5, R10; assumption log 10). -/
def execSectorEnd (good : Bool) (data : List Byte) (s : State) : Host.Outcome State Fault Refusal :=
  .next (s.sectorEnds good data).event

end Sys2Proof.Machine
end

