-- ==== Sys2Proof/Machine/ServoEvents.lean ====
section
/-! DEFINITION. The Positioner's and the Fault Supervisor's events: servo samples, the load timeout, the
unload watch, the park sensor, the retract window, the seek timer, retry delays and recovery watches
(R58 to R60, R64, R74, R75, R89, R150 to R152). -/

namespace Sys2Proof.Machine

/-- SERVO_SAMPLE (R58, R59). -/
def execServoSample (valid : Bool) (cylinder head : Nat) (pes : Int) (s : State) :
    Host.Outcome State Fault Refusal :=
  .next (s.takeSample valid cylinder head pes).event

/-- LOAD_TIMEOUT (R64): 128 wedge windows have passed in LOADING. -/
def execLoadTimeout (s : State) : Host.Outcome State Fault Refusal :=
  .next (if s.pos.state == .loading && decide (Config.loadWindowLimit ≤ s.pos.loadWindows) then
    s.loadTimesOut.event else s)

/-- One UNLOAD_FAILED observation (R74); the watch re-arms. -/
def State.unloadLate (s : State) : State :=
  let n := s.pos.unloadFailedCount + 1
  let raise := decide (s.deglitch .unloadFailed ≤ n)
  let t := s.onPos fun p => { p with
    unloadWatch := some ⟨0, Config.unloadWatchTicks⟩, unloadFailedCount := if raise then 0 else n }
  if raise then t.recognise .unloadFailed none else t

/-- UNLOAD_WATCH_EXPIRY (R74). -/
def execUnloadWatchExpiry (s : State) : Host.Outcome State Fault Refusal :=
  .next (s.expire s.pos.unloadWatch State.unloadLate)

/-- PARK_SENSOR_ON_RAMP (R74, R75). -/
def execParkSensorOnRamp (s : State) : Host.Outcome State Fault Refusal :=
  .next s.parkOnRamp.event

/-- RETRACT_WINDOW_EXPIRY (R75, R149). -/
def execRetractWindowExpiry (s : State) : Host.Outcome State Fault Refusal :=
  .next (s.expire s.pos.retractWindow State.retractExpires)

/-- SEEK_TIMER_EXPIRY (R89, R91): the count has reached the length. -/
def execSeekTimerExpiry (s : State) : Host.Outcome State Fault Refusal :=
  .next (if s.pos.timerOn && decide (s.pos.timerLength ≤ s.pos.timerCount) then
    s.seekTimerExpires.event else s)

/-- RETRY_DELAY_EXPIRY (R150, R151): the count has reached the length. -/
def execRetryDelayExpiry (k : FaultKind) (s : State) : Host.Outcome State Fault Refusal :=
  .next (if (s.fsv.kinds.get k).delay.any Timer.due then (s.delayExpires k).event else s)

/-- RECOVERY_WATCH_END (R152): the count has reached 64. -/
def execRecoveryWatchEnd (k : FaultKind) (s : State) : Host.Outcome State Fault Refusal :=
  .next (if (s.fsv.kinds.get k).watch.any fun n => decide (Config.recoveryBoundaries ≤ n) then
    (s.recovers k).event else s)

end Sys2Proof.Machine
end

