-- ==== Sys2Proof/Machine/Dispatch.lean ====
section
/-! DEFINITION. One arm per command: its meaning. -/

namespace Sys2Proof.Machine

def exec (i : Instr) (s : State) : Host.Outcome State Fault Refusal :=
  match i with
  | .powerOnReset present protect park => Sys2Proof.Machine.execPowerOnReset present protect park s
  | .supplyLow => Sys2Proof.Machine.execSupplyLow s
  | .overTempShutdown => Sys2Proof.Machine.execOverTempShutdown s
  | .overTempShutdownCeases => Sys2Proof.Machine.execOverTempShutdownCeases s
  | .busReset => Sys2Proof.Machine.execBusReset s
  | .busResetRelease => Sys2Proof.Machine.execBusResetRelease s
  | .indexArrival timer warning => Sys2Proof.Machine.execIndexArrival timer warning s
  | .stoppedRevolutionBoundary warning => Sys2Proof.Machine.execStoppedRevolutionBoundary warning s
  | .purgeComplete => Sys2Proof.Machine.execPurgeComplete s
  | .wedgeTime high => Sys2Proof.Machine.execWedgeTime high s
  | .servoSample valid cylinder head pes => Sys2Proof.Machine.execServoSample valid cylinder head pes s
  | .firstIndexWatchExpiry => Sys2Proof.Machine.execFirstIndexWatchExpiry s
  | .spinUpTimerExpiry => Sys2Proof.Machine.execSpinUpTimerExpiry s
  | .lostIndexWatchExpiry => Sys2Proof.Machine.execLostIndexWatchExpiry s
  | .reversePhaseTimeout => Sys2Proof.Machine.execReversePhaseTimeout s
  | .stopWindowExpiry => Sys2Proof.Machine.execStopWindowExpiry s
  | .standbyExpiry => Sys2Proof.Machine.execStandbyExpiry s
  | .loadTimeout => Sys2Proof.Machine.execLoadTimeout s
  | .unloadWatchExpiry => Sys2Proof.Machine.execUnloadWatchExpiry s
  | .parkSensorOnRamp => Sys2Proof.Machine.execParkSensorOnRamp s
  | .retractWindowExpiry => Sys2Proof.Machine.execRetractWindowExpiry s
  | .seekTimerExpiry => Sys2Proof.Machine.execSeekTimerExpiry s
  | .retryDelayExpiry kind => Sys2Proof.Machine.execRetryDelayExpiry kind s
  | .recoveryWatchEnd kind => Sys2Proof.Machine.execRecoveryWatchEnd kind s
  | .cartridgeSensorPresent protect => Sys2Proof.Machine.execCartridgeSensorPresent protect s
  | .cartridgeSensorAbsent => Sys2Proof.Machine.execCartridgeSensorAbsent s
  | .ejectButtonPress => Sys2Proof.Machine.execEjectButtonPress s
  | .ejectorPulseEnd => Sys2Proof.Machine.execEjectorPulseEnd s
  | .ejectWindowExpiry => Sys2Proof.Machine.execEjectWindowExpiry s
  | .sectorArrival sector => Sys2Proof.Machine.execSectorArrival sector s
  | .sectorEnd good data => Sys2Proof.Machine.execSectorEnd good data s
  | .inboundPacketHeader kind tag length b4 b5 b6 => Sys2Proof.Machine.execInboundPacketHeader kind tag length b4 b5 b6 s
  | .inboundParityError place => Sys2Proof.Machine.execInboundParityError place s
  | .turnNegated cut => Sys2Proof.Machine.execTurnNegated cut s
  | .turnAsserted => Sys2Proof.Machine.execTurnAsserted s
  | .outboundPacketAcked => Sys2Proof.Machine.execOutboundPacketAcked s
  | .dataPacketIndex tag index => Sys2Proof.Machine.execDataPacketIndex tag index s
  | .dataPacketEnd data => Sys2Proof.Machine.execDataPacketEnd data s
  | .read tag flags extents => Sys2Proof.Machine.execRead tag flags extents s
  | .write tag flags extents => Sys2Proof.Machine.execWrite tag flags extents s
  | .verify tag flags extents => Sys2Proof.Machine.execVerify tag flags extents s
  | .seek tag cylinder => Sys2Proof.Machine.execSeek tag cylinder s
  | .spinUp tag => Sys2Proof.Machine.execSpinUp tag s
  | .spinDown tag => Sys2Proof.Machine.execSpinDown tag s
  | .flushRecord tag => Sys2Proof.Machine.execFlushRecord tag s
  | .reassignBlock tag lba => Sys2Proof.Machine.execReassignBlock tag lba s
  | .abort tag target mode => Sys2Proof.Machine.execAbort tag target mode s
  | .eject tag mode force => Sys2Proof.Machine.execEject tag mode force s
  | .holdEject tag => Sys2Proof.Machine.execHoldEject tag s
  | .releaseEject tag => Sys2Proof.Machine.execReleaseEject tag s
  | .clearFaults tag => Sys2Proof.Machine.execClearFaults tag s
  | .readFaults tag => Sys2Proof.Machine.execReadFaults tag s
  | .loadTable tag selector body => Sys2Proof.Machine.execLoadTable tag selector body s
  | .readTable tag selector copy first => Sys2Proof.Machine.execReadTable tag selector copy first s
  | .tableHold tag value => Sys2Proof.Machine.execTableHold tag value s
  | .latch tag groups clear => Sys2Proof.Machine.execLatch tag groups clear s
  | .readLatched tag => Sys2Proof.Machine.execReadLatched tag s
  | .status tag => Sys2Proof.Machine.execStatus tag s
  | .attentionAck tag => Sys2Proof.Machine.execAttentionAck tag s
  | .endAttention tag source => Sys2Proof.Machine.execEndAttention tag source s
  | .setAttentionMask tag mask => Sys2Proof.Machine.execSetAttentionMask tag mask s
  | .discardedPacketEnd => Sys2Proof.Machine.execDiscardedPacketEnd s

end Sys2Proof.Machine
end

