-- ==== Sys2Proof/Machine/Tick.lean ====
section
/-! DEFINITION. A tick of the timebase: the running timers advance, and those that have reached their
lengths send their expiry rows (R33, R37, R39, R43, R47, R48, R53, R74, R75, R137; assumption log 2). -/

namespace Sys2Proof.Machine

/-- The revolution timer has passed 66,668 ticks in the REVERSE phase (R47). -/
def State.reverseLate (s : State) : Bool :=
  s.reversing && decide (Config.reverseEnd < s.spc.revTimer)

/-- The ejector has fired for its 200,000 ticks (R137). -/
def State.pulseOver (s : State) : Bool := s.ccu.ejector && decide (Config.ejectorTicks ≤ s.sinceFired)

/-- The expiry rows whose timers have reached their lengths. A STOPPED boundary, an index, a wedge time
and the sensors' changes come from outside. -/
def State.dueRows (s : State) : List Instr :=
  ([(s.spc.firstIndexWatch.any Timer.due, .firstIndexWatchExpiry),
    (s.spc.spinUpTimer.any Timer.due, .spinUpTimerExpiry),
    (s.spc.lostIndexWatch.any Timer.due, .lostIndexWatchExpiry),
    (s.reverseLate, .reversePhaseTimeout),
    (s.spc.stopWindow.any Timer.due, .stopWindowExpiry),
    (s.standbyDue, .standbyExpiry),
    (s.pos.unloadWatch.any Timer.due, .unloadWatchExpiry),
    (s.pos.retractWindow.any Timer.due, .retractWindowExpiry),
    (s.pulseOver, .ejectorPulseEnd),
    (s.ccu.ejectWindow.any Timer.due, .ejectWindowExpiry)] : List (Bool × Instr)).filterMap
      fun x => if x.1 then some x.2 else none

/-- One tick with no command waiting. -/
def State.tick (s : State) : State :=
  let t := s.elapse 1
  { t with pending := t.dueRows }

end Sys2Proof.Machine
end

