-- ==== Sys2Proof/Safety.lean ====
section
/-! DEFINITION. The laws that the manual gives for the whole part at every moment, in the terms that
statements use. -/

namespace Sys2Proof.Machine

/-- The actuator current command never exceeds the active Ilim in magnitude (R85). -/
def State.currentBounded (s : State) : Prop := s.pos.current.natAbs ≤ s.tbs.profile.ilim

/-- The fault list holds at most one record per fault kind (R144). -/
def State.oneRecordPerKind (s : State) : Prop := (s.fsv.records.map FaultRecord.kind).Nodup

/-- The Command Queue holds at most 4 entries with distinct tags (R96). -/
def State.queueSound (s : State) : Prop :=
  s.queue.length ≤ Config.queueMax ∧ (s.queue.map Entry.tag).Nodup

/-- STARTING, ACCELERATING and a brake applied find the positioner UNLOADED (R36). -/
def State.brakeSafe (s : State) : Prop :=
  (s.spc.state = .starting ∨ s.spc.state = .accelerating ∨ s.spc.state = .braking) →
    s.pos.state = .unloaded

/-- The sector buffer has eight slots (R104). -/
def State.eightSlots (s : State) : Prop := s.slots.length = Config.slotCount

/-- The state of a slot. -/
def State.slotState (s : State) (i : Nat) : Option SlotState := (s.slots[i]?).map Slot.state

/-- The state of the slot of a sector in flight (R104). -/
def FlightKind.moving : FlightKind → SlotState
  | .write | .recordWrite => .draining
  | _ => .filling

/-- The eight sector-buffer slots are accounted for (R104). A slot is FILLING or DRAINING only through the
sector in flight or the DATA packet in flight, which have a slot each, and the drive bus moves one slot at
most, in or out; the slot of a write-back is FULL, with no tag, until its own sector is in flight. After a
supply-low the slots stand as they were. -/
def State.slotsAccounted (s : State) : Prop :=
  s.eightSlots ∧ (s.supplyLow = false →
    (∀ i, s.slotState i = some .filling →
      s.eng.flight.bind Flight.slot = some i ∨ s.dbi.inb.slot = some i) ∧
    (∀ i, s.slotState i = some .draining →
      s.eng.flight.bind Flight.slot = some i ∨ s.dbi.out.slot = some i) ∧
    (∀ i, s.dbi.inb.slot = some i → s.slotState i = some .filling) ∧
    (∀ i, s.dbi.out.slot = some i → s.slotState i = some .draining) ∧
    (s.dbi.inb.slot = none ∨ s.dbi.out.slot = none) ∧
    (∀ f, s.eng.flight = some f → f.kind = .verify → f.slot = none) ∧
    (∀ f i, s.eng.flight = some f → f.slot = some i →
      s.slotState i = some f.kind.moving ∧ s.dbi.inb.slot ≠ some i ∧ s.dbi.out.slot ≠ some i) ∧
    (∀ i, s.record.op.slot = some i → (s.slots[i]?).bind Slot.tag = none ∧
      (s.slotState i = some .full ∨
        ∃ f, s.eng.flight = some f ∧ f.kind = .recordWrite ∧ f.orphan = false ∧ f.slot = some i)) ∧
    (s.dbi.busReset = true → s.dbi.inb.slot = none ∧ s.dbi.out.slot = none))

/-- A packet is being received, with its REPLY owed (R180). -/
def Inbound.owesReply : Inbound → Bool
  | .payload _ | .data _ _ _ => true
  | _ => false

/-- Every REPLY and DONE finds its place (R180), and the packets that are answers after a supply-low stand in
the reply queue, none before it (R184; assumption log 58). -/
def State.repliesFit (s : State) : Prop :=
  s.dbi.replies.length + s.reserved ≤ (if s.dbi.inb.owesReply then 14 else 16) ∧
  s.dbi.answers ≤ s.dbi.replies.length ∧ (s.supplyLow = false → s.dbi.answers = 0)

/-- ATN is asserted exactly when some unmasked request outranks every in-service source (R191). -/
def State.atnAsked (s : State) : Prop :=
  ∃ x : Source, s.requested x = true ∧ x ∉ s.atc.mask ∧ ∀ y ∈ s.atc.inService, x.code < y.code

/-- The counts of chapters 6, 7 and 9 keep their ranges: hold count 0 to 15 (R129), media change count 0
to 255 (R128), at most 4 waiting EJECT tags (R120), the six counters 16 bits wide (R169). -/
def State.countsInRange (s : State) : Prop :=
  s.ccu.holdCount ≤ 15 ∧ s.ccu.mediaChange ≤ 255 ∧ (∀ e ∈ s.ccu.eject, e.tags.length ≤ 4) ∧
  s.counters.revolutionSlips ≤ Config.counterTop ∧ s.counters.readRetries ≤ Config.counterTop ∧
  s.counters.writeDeferrals ≤ Config.counterTop ∧ s.counters.sampleDrops ≤ Config.counterTop ∧
  s.counters.trackSlips ≤ Config.counterTop ∧ s.counters.seeksCompleted ≤ Config.counterTop

/-- A record image that passes the structure checks (R6, stage 3), and whose other fields fit their
widths (R3). -/
def Image.sound (img : Image) : Prop :=
  zonesOk img.zones.length img.zones = true ∧
  slipsOk img.slips.length img.zones img.slips = true ∧
  reassignsOk img.reassigns.length img = true ∧
  img.formatMark = Config.formatMark ∧ img.generation < 65536 ∧ img.serial < 4294967296

/-- The record image passes the structure checks, there is none while the record is NOT_READ or being read,
and what a record operation holds fits its widths (R3 to R6, R10). -/
def State.recordSound (s : State) : Prop :=
  (∀ img ∈ s.record.image, img.sound) ∧ (s.record.state = .notRead → s.record.image = none) ∧
  (∀ r, s.record.op = .reading r → s.record.image = none ∧ r.got.length = Config.recordSectors ∧
    ∀ d ∈ r.got, ∀ l ∈ d, l.length = Config.sectorBytes) ∧
  (∀ w, s.record.op = .writing w → w.generation < 65536)

/-- A run is safe while the laws of the whole part hold. -/
def State.safe (s : State) : Prop :=
  s.currentBounded ∧ s.oneRecordPerKind ∧ s.queueSound ∧ s.brakeSafe ∧ s.countsInRange ∧
  s.slotsAccounted ∧ s.repliesFit ∧ s.recordSound

/-! ## Terms of the statements -/

/-- The command answers a next state, and that state has a property. -/
def State.completes (i : Instr) (s : State) (Q : State → Prop) : Prop :=
  ∃ t : State, exec i s = .next t ∧ Q t

/-- The part waits for the first byte of a packet, and takes it: the host holds the turn and the reply
queue is not full (R174, R176, R180). -/
def State.listens (s : State) : Bool :=
  s.canReceive && s.dbi.inb == .idle && !s.replyFull

/-- No command, work, eject, record operation or transfer is in progress. -/
def State.idleDrive (s : State) : Bool :=
  s.queue.isEmpty && s.job == .idle && s.endWith == none && s.work == none &&
  s.downs == ⟨none, none, none, false⟩ && s.ccu.eject == none && s.record.op == .idle &&
  !s.record.readWanted && s.eng == Engine.none && !s.supplyLow

/-- An idle drive with the disk AT_SPEED, the heads TRACKING, the cartridge LATCHED, and no fault that
holds a command. -/
def State.readyDrive (s : State) : Bool :=
  s.idleDrive && s.spc.state == .atSpeed && s.pos.state == .tracking && s.ccu.state == .latched &&
  !s.anyLatched && !s.retryWait

/-- No block has a reaction due (95_what_each_step_holds.md): what an event leaves. -/
def State.settled (s : State) : Bool := (react s).isNone

/-- An idle drive that nothing waits in: the host holds the turn between two packets, no start, load or
brake is pending, no latch release is pending, and the heads fly only over a disk AT_SPEED. -/
def State.calm (s : State) : Bool :=
  s.idleDrive && s.dbi.turn && s.dbi.inb == .idle && !s.pendingStart && !s.pendingLoad &&
  !s.spc.brakePending && s.ccu.state != .stopCheck && !s.ccu.releasePending &&
  (s.spc.state == .atSpeed || !(s.pos.state == .loading || s.pos.state.flying))

/-- The host's side of the part, the tables, the record and the waiting commands are the same. -/
def State.keepsHost (s t : State) : Prop :=
  t.dbi = s.dbi ∧ t.queue = s.queue ∧ t.job = s.job ∧ t.eng = s.eng ∧ t.slots = s.slots ∧
  t.tbs = s.tbs ∧ t.record = s.record ∧ t.pending = s.pending ∧ t.supplyLow = s.supplyLow

/-- The tag and the queue's command of a medium command. -/
def mediumOf : Instr → Option (Byte × MediumCmd)
  | .read t f l => some (t, transferOf .read f l)
  | .write t f l => some (t, transferOf .write f l)
  | .verify t f l => some (t, transferOf .verify f l)
  | .seek t c => some (t, .seek c.toNat)
  | .spinUp t => some (t, .spinUp)
  | .spinDown t => some (t, .spinDown)
  | .flushRecord t => some (t, .flush)
  | .reassignBlock t l => some (t, .reassign l.toNat)
  | _ => none

/-- The COMMAND packet of a command passes the framing checks 1 to 5 of R178. -/
def packetFramed (i : Instr) : Bool :=
  match commandPayload i with
  | some (t, p) => !headerRefused (commandHeader t p)
  | none => false

/-- A table within the limits of R161 to R163 (R160). -/
def SeekProfile.inLimits (t : SeekProfile) : Bool :=
  profileOk t.rows && decide (1 ≤ t.kv) && decide (t.kv ≤ 255) && decide (1 ≤ t.kp) &&
  decide (t.kp ≤ 255) && decide (1 ≤ t.ilim) && decide (t.ilim ≤ 2047)

/-- A row of FAULT ACTIONS within the limits of R162. -/
def FaultRow.inLimits (r : FaultRow) : Bool :=
  decide (1 ≤ r.deglitch) && decide (r.deglitch ≤ 255) && decide (1 ≤ r.budget) &&
  decide (r.budget ≤ 7) && decide (1 ≤ r.delay) && decide (r.delay ≤ 255)

/-- FAULT ACTIONS within the limits of R162. -/
def FaultActions.inLimits (t : FaultActions) : Bool :=
  t.noRotation.inLimits && t.spinUpTimeout.inLimits && t.speedOutOfRange.inLimits &&
  t.lostIndex.inLimits && t.spindleOvercurrent.inLimits && t.actuatorSaturation.inLimits &&
  t.servoLost.inLimits && t.seekTimeout.inLimits && t.unloadFailed.inLimits &&
  t.overTempWarn.inLimits && t.lostIndex.retryOrLatch && t.spindleOvercurrent.retryOrLatch &&
  t.unloadFailed.retryOrLatch

/-- DRIVE PARAMETERS within the limits of R163. -/
def DriveParams.inLimits (t : DriveParams) : Bool :=
  decide (t.purgeRevs ≤ 1023) && decide (5 ≤ t.spinUpTimeout) && decide (t.spinUpTimeout ≤ 60) &&
  decide (1 ≤ t.stopWindow) && decide (t.stopWindow ≤ 16) && decide (t.standby ≤ 255) &&
  decide (t.readRetries ≤ 15) && decide (t.writeRetries ≤ 15) && decide (1 ≤ t.settleWindow) &&
  decide (t.settleWindow ≤ 64) && decide (1 ≤ t.settleCount) && decide (t.settleCount ≤ 16) &&
  decide (1 ≤ t.offTrack) && decide (t.offTrack ≤ 127) && decide (1 ≤ t.seekTimeout) &&
  decide (t.seekTimeout ≤ 255)

/-- The active and the staged tables lie within their limits (R160). -/
def State.tablesInLimits (s : State) : Prop :=
  s.tbs.profile.inLimits = true ∧ s.tbs.actions.inLimits = true ∧ s.tbs.params.inLimits = true ∧
  (∀ t ∈ s.tbs.stagedProfile, t.inLimits = true) ∧
  (∀ t ∈ s.tbs.stagedActions, t.inLimits = true) ∧
  (∀ t ∈ s.tbs.stagedParams, t.inLimits = true)

/-- The state with a REPLY at the end of the reply queue. -/
def State.withReply (tag : Byte) (st : Status) (b : ReplyBody) (s : State) : State :=
  { s with dbi := { s.dbi with replies := s.dbi.replies ++ [.reply tag st b] } }

/-- The reply queue holds a DONE of a tag with a status. -/
def State.hasDone (tag : Byte) (st : Status) (s : State) : Bool :=
  s.dbi.replies.any fun p =>
    match p with
    | .done t x _ _ _ _ _ => t == tag && x == st
    | _ => false

/-- The replies of a state begin with a list. -/
def State.repliesFrom (l : List Packet) (s : State) : Prop := l.isPrefixOf s.dbi.replies = true

/-- The fault list holds a LATCHED record of a kind. -/
def State.latchedKind (k : FaultKind) (s : State) : Bool :=
  s.fsv.records.any fun r => r.kind == k && r.state == .latched

end Sys2Proof.Machine
end

