-- ==== Sys2Proof/Certificates/Slice0/Obligations.lean ====
section
/-! DEFINITION. The statements for the provers. -/

open Sys2Proof Sys2Proof.Machine

/-! ## The step, reset and the commands' bytes -/

/-- One step takes the command at the front of the queue and runs its meaning on the state with the
queue's rest. -/
def Obligations.StepRunsFrontCommand : Prop :=
  ∀ (s : State) (i : Instr) (rest : List Instr),
    s.pending = i :: rest →
    step s = exec i { s with pending := rest }

/-- The model's choice (log 2): a step on an empty queue is one tick. Every timer that runs advances by one
(R33, R37, R39, R43, R48, R53, R74, R75, R137), and the rows that come next are exactly the expiry rows
whose timers have reached their lengths (R47, R53 and R137 for those that compare with a count), in log 2's
order. That STANDBY_EXPIRY does not come again while an internal spin-down is in flight is its reading
(log 18). -/
def Obligations.EmptyQueueTicks : Prop :=
  ∀ (s : State),
    s.pending = [] →
    ∃ t, step s = .next t ∧
      t.spc = { s.spc with
        revTimer := s.spc.revTimer + 1,
        standbyElapsed := s.spc.standbyElapsed + (if s.spc.state = .atSpeed ∧ s.queue = [] ∧
          s.ccu.state = .latched then 1 else 0),
        boundaryTicks := s.spc.boundaryTicks + (if s.spc.state = .stopped then 1 else 0),
        wedgeWait := s.spc.wedgeWait - 1,
        firstIndexWatch := s.spc.firstIndexWatch.map (Timer.tick 1),
        spinUpTimer := s.spc.spinUpTimer.map (Timer.tick 1),
        lostIndexWatch := s.spc.lostIndexWatch.map (Timer.tick 1),
        stopWindow := s.spc.stopWindow.map (Timer.tick 1) } ∧
      t.pos = { s.pos with
        unloadWatch := s.pos.unloadWatch.map (Timer.tick 1),
        retractWindow := s.pos.retractWindow.map (Timer.tick 1) } ∧
      t.ccu = { s.ccu with ejectWindow := s.ccu.ejectWindow.map (Timer.tick 1) } ∧
      t.dbi = s.dbi ∧ t.queue = s.queue ∧ t.slots = s.slots ∧ t.tbs = s.tbs ∧ t.fsv = s.fsv ∧
      t.record = s.record ∧ t.counters = s.counters ∧ t.atc = s.atc ∧ t.eng = s.eng ∧
      t.job = s.job ∧ t.work = s.work ∧ t.downs = s.downs ∧ t.supplyLow = s.supplyLow ∧
      let due := fun (x : Option Timer) => ∃ y, x = some y ∧ y.length ≤ y.elapsed
      (Instr.firstIndexWatchExpiry ∈ t.pending ↔ due t.spc.firstIndexWatch) ∧
      (Instr.spinUpTimerExpiry ∈ t.pending ↔ due t.spc.spinUpTimer) ∧
      (Instr.lostIndexWatchExpiry ∈ t.pending ↔ due t.spc.lostIndexWatch) ∧
      (Instr.reversePhaseTimeout ∈ t.pending ↔
        s.spc.state = .braking ∧ s.spc.brakeMode = .reverse ∧ 66668 < t.spc.revTimer) ∧
      (Instr.stopWindowExpiry ∈ t.pending ↔ due t.spc.stopWindow) ∧
      (Instr.standbyExpiry ∈ t.pending ↔
        s.spc.state = .atSpeed ∧ s.queue = [] ∧ s.ccu.state = .latched ∧ s.downs.standby = none ∧
        0 < s.tbs.params.standby ∧ s.tbs.params.standby * 10000000 ≤ t.spc.standbyElapsed) ∧
      (Instr.unloadWatchExpiry ∈ t.pending ↔ due t.pos.unloadWatch) ∧
      (Instr.retractWindowExpiry ∈ t.pending ↔ due t.pos.retractWindow) ∧
      (Instr.ejectorPulseEnd ∈ t.pending ↔ s.ccu.ejector = true ∧
        ∃ y, t.ccu.ejectWindow = some y ∧ 200000 ≤ y.elapsed) ∧
      (Instr.ejectWindowExpiry ∈ t.pending ↔ due t.ccu.ejectWindow) ∧
      t.pending.Sublist [.firstIndexWatchExpiry, .spinUpTimerExpiry, .lostIndexWatchExpiry,
        .reversePhaseTimeout, .stopWindowExpiry, .standbyExpiry, .unloadWatchExpiry,
        .retractWindowExpiry, .ejectorPulseEnd, .ejectWindowExpiry]

/-- What reset leaves (R15, R55, R77, R119, R140, R159, R173, R184, R194), at the levels of the input lines
that log 1 names, and that the laws every step keeps hold there. -/
def Obligations.ResetValues : Prop :=
  State.reset.spc.state = .coasting ∧ State.reset.spc.demand = .coast ∧
  State.reset.spc.brakePending = false ∧ State.reset.spc.stopWindow = some ⟨0, 1000000⟩ ∧
  State.reset.spc.revCount = 0 ∧ State.reset.spc.lastPeriod = 0 ∧ State.reset.spc.revTimer = 0 ∧
  State.reset.pos.state = .unloaded ∧ State.reset.pos.current = 0 ∧ State.reset.pos.fix = none ∧
  State.reset.pos.hold = false ∧ State.reset.ccu.state = .absent ∧ State.reset.ccu.latch = true ∧
  State.reset.ccu.releasePending = true ∧ State.reset.ccu.mediaChange = 0 ∧
  State.reset.ccu.holdCount = 0 ∧ State.reset.record.state = .notRead ∧
  State.reset.record.image = none ∧ State.reset.queue = [] ∧ State.reset.eng = Engine.none ∧
  State.reset.slots = List.replicate 8 Slot.none ∧ State.reset.fsv.records = [] ∧
  State.reset.tbs.profile = SeekProfile.defaults ∧
  State.reset.tbs.actions = FaultActions.defaults ∧
  State.reset.tbs.params = DriveParams.defaults ∧ State.reset.tbs.hold = false ∧
  State.reset.tbs.resetCause = .powerOn ∧ State.reset.counters = ⟨0, 0, 0, 0, 0, 0⟩ ∧
  State.reset.atc = ⟨[.partReset], [], []⟩ ∧ State.reset.atn = true ∧
  State.reset.dbi.replies = [] ∧ State.reset.dbi.stb = false ∧ State.reset.dbi.ack = false ∧
  State.reset.pending = [] ∧ State.reset.safe ∧ State.reset.tablesInLimits

/-- COMMAND payloads, byte by byte from R187 and the command summary, read as the commands they stand
for. -/
def Obligations.DecodedPayloads : Prop :=
  decodeCommand 0x11 [0x20, 1, 1, 0, 0, 0x9C, 0x6B, 0, 2] = some (.read 0x11 1 [⟨40043, 2⟩]) ∧
  decodeCommand 0x12 [0x23, 0x02, 0x15] = some (.seek 0x12 533) ∧
  decodeCommand 0x13 [0x27, 0, 1, 0x38, 0x80] = some (.reassignBlock 0x13 80000) ∧
  decodeCommand 0x14 [0x40, 0x11, 1] = some (.abort 0x14 0x11 1) ∧
  decodeCommand 0x15 [0x51, 6, 0, 0x01, 0x00] = some (.readTable 0x15 6 0 256) ∧
  decodeCommand 0x16 [0x62, 0x0F, 0xFF] = some (.setAttentionMask 0x16 4095) ∧
  decodeCommand 0x17 [0x24, 0] = none ∧ decodeCommand 0x18 [0x28] = none

/-- Every command that a COMMAND packet carries is read back from its payload (R187), with every operand
at every value its bytes can hold. -/
def Obligations.PayloadRoundTrip : Prop :=
  ∀ (i : Instr) (tag : Byte) (p : List Byte),
    i.wf = true →
    commandPayload i = some (tag, p) →
    decodeCommand tag p = some i

/-! ## Laws that every step keeps -/

/-- R85: the actuator current command never exceeds the active Ilim in magnitude, and a demand speed
never exceeds the speed of the last active profile row. -/
def Obligations.CurrentStaysBounded : Prop :=
  (∀ (s t : State), s.currentBounded → step s = .next t → t.currentBounded) ∧
  (∀ (p : SeekProfile) (d : Nat), p.inLimits = true →
    demandSpeed p.rows d ≤ (p.rows.getLast?.map ProfileRow.speed).getD 0)

/-- R144, R145: the fault list holds at most one record per fault kind, FAULT_LATCHED is requested exactly
while a record is LATCHED, and a step keeps the order: the records of the list stay before any new one, but
for those that CLEAR FAULTS removes (R157) and for a power-on reset. -/
def Obligations.OneRecordPerKindStays : Prop :=
  (∀ s : State, s.requested .faultLatched = true ↔ ∃ r ∈ s.fsv.records, r.state = .latched) ∧
  ∀ (s t : State), s.oneRecordPerKind → step s = .next t →
    let kinds := fun (l : List FaultRecord) => l.map FaultRecord.kind
    t.oneRecordPerKind ∧
    ((∃ tag, s.pending.head? = some (.clearFaults tag)) →
      kinds s.fsv.records <+: kinds t.fsv.records ∨
      kinds (s.fsv.records.filter s.keepsRecord) <+: kinds t.fsv.records) ∧
    ((∀ tag, s.pending.head? ≠ some (.clearFaults tag)) →
      (∀ a b c, s.pending.head? ≠ some (.powerOnReset a b c)) →
      kinds s.fsv.records <+: kinds t.fsv.records)

/-- R96: after every step the Command Queue holds at most 4 entries with distinct tags, and a step from
EJECT_PENDING or EJECTING admits no entry. -/
def Obligations.QueueStaysSound : Prop :=
  ∀ (s t : State), s.queueSound → step s = .next t →
    t.queueSound ∧
    ((s.ccu.state = .ejectPending ∨ s.ccu.state = .ejecting) →
      ∀ e ∈ t.queue, ∃ d ∈ s.queue, d.tag = e.tag ∧ d.cmd = e.cmd)

/-- R36: STARTING, ACCELERATING and an applied brake find the positioner UNLOADED, after every step. -/
def Obligations.BrakeStaysSafe : Prop :=
  ∀ (s t : State), s.brakeSafe → step s = .next t → t.brakeSafe

/-- The active and staged tables stay within their limits (R160), after every step. -/
def Obligations.TablesStayInLimits : Prop :=
  ∀ (s t : State), s.tablesInLimits → step s = .next t → t.tablesInLimits

/-- The counts keep their ranges (R120, R128, R129, R169), after every step. -/
def Obligations.CountsStayInRange : Prop :=
  ∀ (s t : State), s.countsInRange → step s = .next t → t.countsInRange

/-- R104: the eight slots stay accounted for, after every step: at most one is FILLING or DRAINING through
the medium and at most one through the drive bus, and none is without its sector or packet. -/
def Obligations.SlotsStayAccounted : Prop :=
  ∀ (s t : State), s.slotsAccounted → step s = .next t → t.slotsAccounted

/-- R180: every REPLY and DONE finds its place. The packets of the reply queue and its reserved places
number at most 16, and at most 14 while a packet is being received, after every step; the answers given after
a supply-low (log 58) are among them, and there are none without one. -/
def Obligations.RepliesFindRoom : Prop :=
  ∀ (s t : State), s.repliesFit → step s = .next t → t.repliesFit

/-- R3, R6, R29: a record image stays one that passes the checks of R6, whatever the medium gives back, and
while a cartridge stays its zones, slip list and serial do not change and its next-alternate counter does
not fall. -/
def Obligations.RecordStaysSound : Prop :=
  ∀ (s t : State), (∀ i ∈ s.pending.head?, i.wf = true) → s.recordSound → step s = .next t →
    t.recordSound ∧
    ∀ a b, s.record.image = some a → t.record.image = some b →
      b.zones = a.zones ∧ b.slips = a.slips ∧ b.serial = a.serial ∧
      a.nextAlternate ≤ b.nextAlternate

/-- R69: the write of a sector begins only with the whole write gate: TRACKING on the sector's cylinder with
the last PES within the write off-track threshold, the hold flag clear, the spindle AT_SPEED, no write
protection, and the Cartridge Control Unit LATCHED or EJECT_PENDING. -/
def Obligations.WritesBeginGated : Prop :=
  ∀ (s t : State) (f : Flight),
    s.settled = true → step s = .next t → t.eng.flight = some f →
    (f.kind = .write ∨ f.kind = .recordWrite) →
    (∃ g, s.eng.flight = some g ∧ g.kind = f.kind ∧ g.slot = f.slot) ∨
    (s.eng.flight = none ∧ s.pos.state = .tracking ∧ s.pos.hold = false ∧ s.spc.state = .atSpeed ∧
      s.ccu.protect = false ∧ (s.ccu.state = .latched ∨ s.ccu.state = .ejectPending) ∧
      (∃ x, s.pos.fix = some x ∧ s.pos.target = some x.cylinder ∧
        x.pes.natAbs ≤ s.tbs.params.offTrack) ∧
      (f.kind = .recordWrite → s.pos.target = some 0 ∧ s.pos.head = 0) ∧
      (f.kind = .write → ∃ p, s.eng.place = some p ∧ s.pos.target = some p.cylinder ∧
        s.pos.head = p.head))

/-- R62: the Positioner enters LOADING only with the spindle AT_SPEED and the Cartridge Control Unit LATCHED
or EJECT_PENDING. -/
def Obligations.LoadsBeginAtSpeed : Prop :=
  ∀ (s t : State), step s = .next t → s.pos.state ≠ .loading → t.pos.state = .loading →
    t.spc.state = .atSpeed ∧ (t.ccu.state = .latched ∨ t.ccu.state = .ejectPending)

/-- R126: a step releases the latch only with the spindle STOPPED and the Positioner UNLOADED (where no
start is pending, a SEATED cartridge is not latched, and the stop window runs only with the drive off). -/
def Obligations.LatchReleasesAtRest : Prop :=
  ∀ (s t : State),
    s.settled = true → s.pendingStart = false → (s.ccu.state = .seated → s.ccu.latch = false) →
    (s.spc.stopWindow ≠ none → s.spc.state.powered = false) →
    step s = .next t → s.ccu.latch = true → t.ccu.latch = false →
    t.spc.state = .stopped ∧ t.pos.state = .unloaded

/-- R191: ATN is asserted exactly when some unmasked request outranks every in-service source. -/
def Obligations.AttentionLine : Prop := ∀ (s : State), s.atn = true ↔ s.atnAsked

/-! ## Block addressing and the record -/

/-- R20: the place of an alternate slot. -/
def Obligations.AlternateLayout : Prop :=
  ∀ (img : Image) (a : Nat), img.sound → a < alternateCount img.zones →
    let spt := lastSpt img.zones
    let p := alternatePlace img a
    p.cylinder = 1228 + a / (2 * spt) ∧ p.cylinder ≤ 1231 ∧ p.head ≤ 1 ∧ p.sector < spt ∧
    p.head * spt + p.sector = a % (2 * spt) ∧
    ∀ b, b < alternateCount img.zones →
      (alternatePlace img b).cylinder = p.cylinder → (alternatePlace img b).head = p.head →
      (alternatePlace img b).sector = p.sector → b = a

/-- R23: the slip stage gives the (k + 1)th slot of the cylinder that is not in the slip list, within the
cylinder. -/
def Obligations.SlipStage : Prop :=
  ∀ (img : Image) (d k : Nat) (z : Zone), img.sound → zoneOfCylinder img.zones d = some z →
    d < 1224 → k < z.lpc →
    let listed := fun (x : Nat) => img.slips.any fun e => e.cylinder == d && e.slot == x
    slipStage img.slips d k < 2 * z.spt ∧ listed (slipStage img.slips d k) = false ∧
    ((List.range (slipStage img.slips d k)).filter fun x => !listed x).length = k

/-- R26: translation maps distinct valid addresses to distinct slots, none on a reserved cylinder and
none on a slot of the slip list. -/
def Obligations.TranslationInjective : Prop :=
  ∀ (img : Image) (l : Nat), img.sound → l < capacityOf img.zones →
    ∃ p, translation img l = some p ∧ p.alternate = p.dataCylinder.isNone ∧ 4 ≤ p.cylinder ∧
      (if p.alternate then 1228 ≤ p.cylinder ∧ p.cylinder ≤ 1231 else p.cylinder ≤ 1227) ∧
      (∀ d, p.dataCylinder = some d → ∀ z, zoneOfCylinder img.zones d = some z →
        p.cylinder = d + 4 ∧ p.head ≤ 1 ∧ p.sector < z.spt ∧
        ∀ e ∈ img.slips, e.cylinder = d → e.slot ≠ p.head * z.spt + p.sector) ∧
      ∀ m q, m < capacityOf img.zones → translation img m = some q → p.cylinder = q.cylinder →
        p.head = q.head → p.sector = q.sector → l = m

/-- The arrangement of the stored record that log 9 chooses, with the place and the byte order of the
check word of log 40, loses no field: a written record has the 11,264 bytes of R2, passes the checks of R6
and is read back. -/
def Obligations.RecordRoundTrip : Prop :=
  ∀ (img : Image), img.sound → (recordBytes img).length = 11264 ∧
    checkRecord (recordBytes img) = .good img

/-- R29: the change of a REASSIGN BLOCK. The address translates to the counter's slot, every other
address as before, the table stays ascending with one entry for each address, the counter rises by one,
the record becomes DIRTY, and the command completes OK. -/
def Obligations.ReassignChanges : Prop :=
  ∀ (s : State) (img : Image) (tag : Byte) (lba : BitVec 32),
    s.listens = true → s.calm = true → s.readyDrive = true → tag ≠ 0 →
    s.record.image = some img → img.sound → s.ccu.protect = false →
    lba.toNat < capacityOf img.zones → img.nextAlternate < alternateCount img.zones →
    (img.reassigns.length < 64 ∨ ∃ e ∈ img.reassigns, e.lba = lba.toNat) →
    (∀ x ∈ s.slots, x.tag ≠ some tag) →
    s.completes (.reassignBlock tag lba) fun t =>
      ∃ new, t.record.image = some new ∧ t.record.state = .dirty ∧
        new.nextAlternate = img.nextAlternate + 1 ∧ new.zones = img.zones ∧
        new.slips = img.slips ∧ new.generation = img.generation ∧ new.serial = img.serial ∧
        translation new lba.toNat = some (alternatePlace img img.nextAlternate) ∧
        (∀ m, m ≠ lba.toNat → translation new m = translation img m) ∧ new.sound ∧
        new.reassigns.length ≤ img.reassigns.length + 1 ∧
        t.dbi.replies = s.dbi.replies ++
          [.reply tag .queued .empty, .done tag .ok 0 0 0 none none] ∧
        t.queue = [] ∧ t.slots = s.slots ∧ t.tbs = s.tbs ∧ t.fsv = s.fsv ∧
        t.pos = { s.pos with requester := .none } ∧ t.ccu = s.ccu ∧ t.counters = s.counters

/-! ## Spindle -/

/-- INDEX_ARRIVAL, in every state: the revolution count rises, the revolution timer restarts, and a measured
revolution sets the last period, saturating (R33). INDEX_ARRIVAL meets the spindle state (R37, R38, R40,
R42, R43, R47, R48), in a calm drive, with the warning comparator silent and no table staged; the first
index measures nothing. What the same event counts: a seek timer (R89), a recovery watch (R152), and a retry
delay with the restart that falls due at its end (R150, R151); and SPEED_OUT_OF_RANGE recognized under
RETRY, with a retry delay while the budget lasts and LATCHED past it (R145, R150, R153). That the reading
`timer` comes with the row, and that a smaller one than the ticks already counted is taken as those, is the
model's choice (log 5). That these counts end within the event (log 4), that the lock count is 0 on entering
PURGING (log 19), and that the drive current is not at its limit there (log 45), are its readings. -/
def Obligations.IndexArrives : Prop :=
  (∀ (s : State) (timer : Nat) (warning : Bool),
      s.completes (.indexArrival timer warning) fun t =>
        t.spc.revCount = s.spc.revCount + 1 ∧ t.spc.revTimer = 0 ∧ t.spc.indexSeen = true ∧
        t.spc.lastPeriod = (if s.spc.indexSeen then min 1048575 (max timer s.spc.revTimer)
          else s.spc.lastPeriod)) ∧
  (∀ (s : State) (timer : Nat),
      s.calm = true → s.pos.timerOn = false → s.anyStaged = false →
      s.completes (.indexArrival timer false) fun t =>
        let p := min 1048575 (max timer s.spc.revTimer)
        let measured := s.spc.indexSeen = true
        let window := some (⟨0, s.tbs.params.stopWindow * 250000⟩ : Timer)
        let out := !(decide (16334 ≤ p) && decide (p ≤ 17000))
        t.dbi = s.dbi ∧ t.queue = s.queue ∧ t.slots = s.slots ∧ t.tbs = s.tbs ∧
        t.counters = s.counters ∧
        (s.spc.state = .stopped → t.spc.state = .coasting ∧ t.spc.demand = .coast ∧
          t.spc.stopWindow = window) ∧
        (s.spc.state = .coasting → t.spc.state = .coasting ∧ t.spc.stopWindow = window) ∧
        (s.spc.state = .braking → t.spc.state = .braking ∧ t.spc.stopWindow = window ∧
          t.spc.brakeMode = if measured ∧ 66668 < p then .dynamic else s.spc.brakeMode) ∧
        (s.spc.state = .starting → t.spc.state = .accelerating ∧ t.spc.firstIndexWatch = none ∧
          t.spc.noRotationCount = 0) ∧
        (s.spc.state = .accelerating → measured → 16584 ≤ p → p ≤ 16750 → 8 ≤ s.spc.lockCount + 1 →
          t.spc.state = (if s.tbs.params.purgeRevs = 0 then .atSpeed else .purging) ∧
          t.spc.lockCount = 0 ∧ t.spc.purgeCount = 0 ∧ t.spc.spinUpTimer = none ∧
          t.spc.driveAtLimit = false) ∧
        (s.spc.state = .accelerating → measured → 16584 ≤ p → p ≤ 16750 → s.spc.lockCount + 1 < 8 →
          t.spc.state = .accelerating ∧ t.spc.lockCount = s.spc.lockCount + 1) ∧
        (s.spc.state = .accelerating → measured → (p < 16584 ∨ 16750 < p) →
          t.spc.state = .accelerating ∧ t.spc.lockCount = 0) ∧
        (s.spc.state.supervised = true → measured → out = false → t.spc.excursionCount = 0 ∧
          t.spc.lostIndexWatch = some ⟨0, 33334⟩ ∧ t.spc.lostIndexCount = 0) ∧
        (s.spc.state.supervised = true → measured → out = true →
          s.spc.excursionCount + 1 < s.tbs.actions.speedOutOfRange.deglitch →
          t.spc.excursionCount = s.spc.excursionCount + 1 ∧ t.spc.lostIndexWatch = some ⟨0, 33334⟩) ∧
        (s.spc.state = .purging → measured → out = false →
          t.spc.state = (if s.tbs.params.purgeRevs ≤ s.spc.purgeCount + 1 then .atSpeed else .purging) ∧
          t.spc.purgeCount = s.spc.purgeCount + 1) ∧
        (s.spc.state = .atSpeed → measured → out = false → t.spc.state = .atSpeed)) ∧
  (∀ (s : State) (timer n : Nat) (k : FaultKind),
      s.calm = true → s.spc.state = .atSpeed → s.pos.state.flying = true → s.anyStaged = false →
      s.retryWait = false → 16334 ≤ max timer s.spc.revTimer → max timer s.spc.revTimer ≤ 17000 →
      s.completes (.indexArrival timer false) fun t =>
        (s.pos.timerOn = true → s.pos.timerCount + 1 < s.pos.timerLength →
          t.pos.timerOn = true ∧ t.pos.timerCount = s.pos.timerCount + 1 ∧
          t.pos.state = s.pos.state ∧ t.pos.target = s.pos.target ∧
          t.pos.seekTimeoutCount = s.pos.seekTimeoutCount) ∧
        (s.pos.timerOn = true → s.pos.timerLength ≤ s.pos.timerCount + 1 →
          s.pos.seekTimeoutCount + 1 < s.tbs.actions.seekTimeout.deglitch →
          t.pos.timerOn = true ∧ t.pos.timerCount = 0 ∧ t.pos.timerLength = s.pos.timerLength ∧
          t.pos.state = s.pos.state ∧ t.pos.target = s.pos.target ∧
          t.pos.seekTimeoutCount = s.pos.seekTimeoutCount + 1) ∧
        (s.pos.timerOn = false → (s.fsv.kinds.get k).watch = some n →
          (s.fsv.kinds.get k).present = false →
          (n + 1 < 64 → (t.fsv.kinds.get k).watch = some (n + 1) ∧ t.recordOf k = s.recordOf k) ∧
          (64 ≤ n + 1 → (t.fsv.kinds.get k).watch = none ∧ t.requested .faultReported = true ∧
            t.recordOf k = (s.recordOf k).map fun r =>
              { r with state := .recovered, retries := 0, kept := none }))) ∧
  (∀ (s : State) (timer : Nat) (k : FaultKind) (x : Timer) (r : FaultRecord) (row : FaultRow),
      s.calm = true → s.spc.state = .coasting → s.pos.state = .unloaded → s.pos.timerOn = false →
      s.anyStaged = false → (s.fsv.kinds.get k).delay = some x → s.recordOf k = some r →
      r.kept = some row → row.spindle ≠ .none →
      s.completes (.indexArrival timer false) fun t =>
        (x.elapsed + 1 < x.length →
          (t.fsv.kinds.get k).delay = some ⟨x.elapsed + 1, x.length⟩ ∧ t.retryWait = true) ∧
        (x.length ≤ x.elapsed + 1 → (t.fsv.kinds.get k).delay = none ∧ t.spc.state = .coasting ∧
          t.recordOf k = some r ∧
          (s.anyLatched = false → s.ccu.state = .latched →
            (t.fsv.kinds.get k).restarting = true ∧ (t.fsv.kinds.get k).wantsStart = true ∧
            (t.fsv.kinds.get k).wantsLoad = true ∧ t.pendingStart = true ∧ t.pendingLoad = true) ∧
          (s.anyLatched = true ∨ s.ccu.state ≠ .latched →
            (t.fsv.kinds.get k).restarting = false ∧ (t.fsv.kinds.get k).wantsStart = false ∧
            (t.fsv.kinds.get k).wantsLoad = false))) ∧
  (∀ (s : State) (timer : Nat) (r : FaultRecord) (kept : FaultRow),
      let k := FaultKind.speedOutOfRange
      let row := s.tbs.actions.speedOutOfRange
      let now := { r with
        occurrences := min 255 (r.occurrences + 1), last := s.spc.revCount + 1, sub := none,
        cylinder := s.pos.fix.map Fix.cylinder, spindle := .atSpeed, positioner := s.pos.state,
        retries := r.retries + 1 }
      s.calm = true → s.spc.state = .atSpeed → s.spc.indexSeen = true → s.pos.timerOn = false →
      s.anyStaged = false → s.retryWait = false →
      (max timer s.spc.revTimer < 16334 ∨ 17000 < max timer s.spc.revTimer) →
      row.deglitch ≤ s.spc.excursionCount + 1 →
      s.completes (.indexArrival timer false) fun t =>
        t.spc.excursionCount = 0 ∧
        (s.recordOf k = none → row.mode = .retry → row.spindle ≠ .none →
          t.recordOf k = some ⟨k, .retrying, none, 1, s.spc.revCount + 1, s.spc.revCount + 1,
            s.pos.fix.map Fix.cylinder, .atSpeed, s.pos.state, 0, some row⟩ ∧
          (t.fsv.kinds.get k).delay = some ⟨0, row.delay⟩ ∧ t.retryWait = true ∧
          t.requested .faultReported = true ∧ t.drive = false) ∧
        (s.recordOf k = some r → r.state = .retrying → r.kept = some kept →
          kept.spindle ≠ .none → r.retries + 1 ≤ kept.budget →
          t.recordOf k = some now ∧ (t.fsv.kinds.get k).delay = some ⟨0, kept.delay⟩ ∧
          t.requested .faultReported = true ∧ t.drive = false) ∧
        (s.recordOf k = some r → r.state = .retrying → r.kept = some kept →
          kept.spindle ≠ .none → kept.budget < r.retries + 1 →
          t.recordOf k = some { now with state := .latched } ∧
          (t.fsv.kinds.get k).delay = none ∧ t.requested .faultLatched = true ∧
          t.drive = false))

/-- STOPPED_REVOLUTION_BOUNDARY (R33, R142, R150): the revolution count stands, running retry delays and the
warning comparator's count take the boundary; in any other state it has no effect. WEDGE_TIME in a calm
drive that takes no samples (R33, R37, R44): the next wedge time is set, and the current sense counts,
clears its count, or holds the drive at its limit. That the boundary row acts whenever the disk is STOPPED
is the model's choice (log 3); that it does nothing in another state (log 35), and that a high sense while
the disk accelerates is the drive at its limit (log 45), are its readings. -/
def Obligations.BoundaryAndWedge : Prop :=
  (∀ (s : State) (warning : Bool),
      (s.spc.state ≠ .stopped → exec (.stoppedRevolutionBoundary warning) s = .next s) ∧
      (s.calm = true → s.spc.state = .stopped → s.pos.timerOn = false →
        (warning = true → s.fsv.otwCount + 1 < s.tbs.actions.overTempWarn.deglitch) →
        s.completes (.stoppedRevolutionBoundary warning) fun t =>
          t.spc.revCount = s.spc.revCount ∧ t.spc.boundaryTicks = 0 ∧
          t.fsv.otwCount = (if warning then s.fsv.otwCount + 1 else 0) ∧
          (∀ k x, (s.fsv.kinds.get k).delay = some x → (t.fsv.kinds.get k).delay =
            if x.length ≤ x.elapsed + 1 then none else some ⟨x.elapsed + 1, x.length⟩) ∧
          t.dbi = s.dbi ∧ t.queue = s.queue ∧ t.slots = s.slots ∧ t.tbs = s.tbs ∧
          t.counters = s.counters ∧ t.record = s.record)) ∧
  (∀ (s : State) (high : Bool),
      s.calm = true → s.takesSamples = false →
      (high = true → s.spc.state.supervised = true →
        s.spc.overcurrentCount + 1 < s.tbs.actions.spindleOvercurrent.deglitch) →
      s.completes (.wedgeTime high) fun t =>
        t.spc.state = s.spc.state ∧
        t.spc.wedgeWait = (if s.spc.lastPeriod = 0 then 260 else s.spc.lastPeriod / 64) ∧
        t.spc.overcurrentCount = (if s.spc.state.supervised
          then (if high then s.spc.overcurrentCount + 1 else 0) else s.spc.overcurrentCount) ∧
        t.spc.driveAtLimit = (if s.spc.state = .starting ∨ s.spc.state = .accelerating
          then high else s.spc.driveAtLimit) ∧
        (s.spc.state.supervised = true → high = false →
          (t.fsv.kinds.get .spindleOvercurrent).present = false) ∧
        (s.spc.state.supervised = false → t.fsv = s.fsv) ∧
        t.fsv.records = s.fsv.records ∧ s.keepsHost t ∧ t.counters = s.counters ∧ t.atc = s.atc)

/-- PURGE_COMPLETE (R40, R41): the spindle enters AT_SPEED. STANDBY_EXPIRY with a clean record (R53, R54):
the internal spin-down begins with the unload of the heads, with no DONE and no COMMAND_DONE. That the
expiry row acts whenever the timer counts is the model's choice (log 3), that a timer which cannot expire
does nothing too (log 18); that the purge row waits for its count is its reading (log 4). -/
def Obligations.PurgeAndStandby : Prop :=
  (∀ (s : State),
      s.calm = true → s.spc.state = .purging → s.tbs.params.purgeRevs ≤ s.spc.purgeCount →
      s.completes .purgeComplete fun t =>
        t.spc.state = .atSpeed ∧ t.spc.standbyElapsed = 0 ∧ t.requested .spindleReady = true ∧
        t.spc = { s.spc with state := .atSpeed, standbyElapsed := 0 } ∧
        s.keepsHost t ∧ t.pos = s.pos ∧ t.ccu = s.ccu ∧ t.counters = s.counters ∧
        t.atc.inService = s.atc.inService ∧ t.atc.mask = s.atc.mask) ∧
  (∀ (s : State),
      (s.standbyArmed = false → exec .standbyExpiry s = .next s) ∧
      (s.readyDrive = true → s.calm = true → s.pos.parkSensor = false → 0 < s.tbs.params.standby →
        s.needsWriteBack = false →
        s.completes .standbyExpiry fun t =>
          t.downs.standby = some .unload ∧ t.pos.state = .unloading ∧ t.spc.state = .atSpeed ∧
          t.ccu.state = .latched ∧ t.dbi = s.dbi ∧ t.queue = s.queue ∧ t.slots = s.slots ∧
          t.atc = s.atc ∧ t.record.state = s.record.state ∧ t.record.image = s.record.image ∧
          t.tbs = s.tbs ∧ t.counters = s.counters))

/-- The timed watches of a spin-up and of a turning disk (R34, R37, R39, R43): below the deglitch count an
expiry counts one observation and the watch re-arms with its full length. An expiry of the first-index watch
that reaches the deglitch count is recognized as NO_ROTATION (R145, R147): with the kind's row LATCH, COAST
and no record before, a LATCHED record of one occurrence is made at the end of the list with the revolution
count, the states and the row, and the disk coasts with its stop window armed. That an expiry takes effect
whenever its timer runs is the model's choice (log 3). -/
def Obligations.TimedWatches : Prop :=
  (∀ (s : State) (x : Timer),
      s.calm = true →
      (s.spc.firstIndexWatch = some x → s.spc.state = .starting →
        s.spc.noRotationCount + 1 < s.tbs.actions.noRotation.deglitch →
        s.completes .firstIndexWatchExpiry fun t =>
          t.spc.firstIndexWatch = some ⟨0, 2000000⟩ ∧
          t.spc.noRotationCount = s.spc.noRotationCount + 1 ∧ t.spc.state = .starting ∧
          s.keepsHost t ∧ t.fsv = s.fsv) ∧
      (s.spc.spinUpTimer = some x → (s.spc.state = .starting ∨ s.spc.state = .accelerating) →
        s.spc.spinUpTimeoutCount + 1 < s.tbs.actions.spinUpTimeout.deglitch →
        s.completes .spinUpTimerExpiry fun t =>
          t.spc.spinUpTimer = some ⟨0, x.length⟩ ∧
          t.spc.spinUpTimeoutCount = s.spc.spinUpTimeoutCount + 1 ∧ t.spc.state = s.spc.state ∧
          s.keepsHost t ∧ t.fsv = s.fsv) ∧
      (s.spc.lostIndexWatch = some x → s.spc.state.supervised = true →
        s.spc.lostIndexCount + 1 < s.tbs.actions.lostIndex.deglitch →
        s.completes .lostIndexWatchExpiry fun t =>
          t.spc.lostIndexWatch = some ⟨0, 33334⟩ ∧
          t.spc.lostIndexCount = s.spc.lostIndexCount + 1 ∧ t.spc.state = s.spc.state ∧
          s.keepsHost t ∧ t.fsv = s.fsv)) ∧
  (∀ (s : State) (x : Timer),
      s.calm = true → s.spc.firstIndexWatch = some x → s.spc.state = .starting →
      s.pos.state = .unloaded → s.tbs.actions.noRotation.deglitch ≤ s.spc.noRotationCount + 1 →
      s.tbs.actions.noRotation.mode = .latch → s.tbs.actions.noRotation.spindle = .coast →
      s.tbs.actions.noRotation.positioner = .none → s.recordOf .noRotation = none →
      s.completes .firstIndexWatchExpiry fun t =>
        t.fsv.records = s.fsv.records ++ [⟨.noRotation, .latched, none, 1, s.spc.revCount,
          s.spc.revCount, s.pos.fix.map Fix.cylinder, .starting, .unloaded, 0,
          some s.tbs.actions.noRotation⟩] ∧
        t.spc.state = .coasting ∧ t.spc.noRotationCount = 0 ∧ t.spc.firstIndexWatch = none ∧
        t.spc.spinUpTimer = none ∧ t.spc.stopWindow = some ⟨0, s.tbs.params.stopWindow * 250000⟩ ∧
        t.drive = false ∧ t.requested .faultLatched = true ∧ s.keepsHost t ∧
        t.counters = s.counters)

/-- REVERSE_PHASE_TIMEOUT and STOP_WINDOW_EXPIRY in a calm drive (R47, R48, R166): the dynamic brake takes
over; the disk is STOPPED, the demand and a pending brake are gone, and staged tables are taken unless
held. A disk that stops with the heads UNLOADED lets go (R125, R126): STOP_CHECK becomes SEATED with the
latch released, a pending release in ABSENT is completed, and the DOOR_FORCED condition ends; a pending
start is taken (R35). That an expiry takes effect whenever its timer runs is the model's choice (log 3). -/
def Obligations.SpindleStops : Prop :=
  (∀ (s : State) (x : Timer),
      s.calm = true →
      (s.spc.state = .braking → s.spc.brakeMode = .reverse →
        s.completes .reversePhaseTimeout fun t =>
          t.spc.brakeMode = .dynamic ∧ t.dynamicBrake = true ∧ t.reverseDrive = false ∧
          t.spc.state = .braking ∧ t.spc.demand = s.spc.demand ∧ s.keepsHost t ∧ t.fsv = s.fsv) ∧
      (s.spc.stopWindow = some x → s.pos.state = .unloaded →
        s.completes .stopWindowExpiry fun t =>
          t.spc.state = .stopped ∧ t.spc.demand = .none ∧ t.spc.brakePending = false ∧
          t.spc.stopWindow = none ∧ t.spc.boundaryTicks = 0 ∧ t.spc.revCount = s.spc.revCount ∧
          (s.tbs.hold = true ∨ s.anyStaged = false → t.tbs = s.tbs) ∧
          (s.tbs.hold = false → s.anyStaged = true →
            t.tbs.profile = s.tbs.stagedProfile.getD s.tbs.profile ∧
            t.tbs.actions = s.tbs.stagedActions.getD s.tbs.actions ∧
            t.tbs.params = s.tbs.stagedParams.getD s.tbs.params ∧ t.anyStaged = false ∧
            t.requested .tablesTaken = true) ∧
          t.dbi = s.dbi ∧ t.queue = s.queue ∧ t.slots = s.slots ∧ t.record = s.record ∧
          t.fsv = s.fsv ∧ t.counters = s.counters ∧ t.pos.state = .unloaded)) ∧
  (∀ (s : State) (x : Timer),
      s.idleDrive = true → s.dbi.turn = true → s.dbi.inb = .idle → s.spc.stopWindow = some x →
      s.pos.state = .unloaded → s.pendingLoad = false →
      s.completes .stopWindowExpiry fun t =>
        (s.pendingStart = false → t.spc.state = .stopped) ∧
        (s.pendingStart = true → t.spc.state = .starting ∧ t.pendingStart = false ∧
          t.spc.revTimer = 0 ∧ t.spc.lastPeriod = 0 ∧ t.spc.lockCount = 0 ∧
          t.spc.firstIndexWatch = some ⟨0, 2000000⟩) ∧
        (s.ccu.state = .stopCheck → t.ccu.state = .seated ∧ t.ccu.latch = false) ∧
        (s.ccu.state = .absent → s.ccu.releasePending = true → t.ccu.state = .absent ∧
          t.ccu.latch = false ∧ t.ccu.releasePending = false ∧
          (t.fsv.kinds.get .doorForced).present = false) ∧
        (s.ccu.state = .latched → t.ccu.state = .latched ∧ t.ccu.latch = s.ccu.latch) ∧
        t.dbi = s.dbi ∧ t.queue = s.queue ∧ t.slots = s.slots ∧ t.record = s.record)

/-- R45: the stop demand combines every stop request. COAST dominates, DYNAMIC replaces REVERSE, and a
request of the same strength or a stronger one leaves the demand. -/
def Obligations.StopDemandCombines : Prop :=
  ∀ (s : State) (d : StopDemand),
    d ≠ .none → s.spc.state ≠ .stopped →
    ((s.stopRequest d).spc.demand = .coast ↔ s.spc.demand = .coast ∨ d = .coast) ∧
    ((s.stopRequest d).spc.demand = .reverse ↔
      d = .reverse ∧ (s.spc.demand = .reverse ∨ s.spc.demand = .none)) ∧
    (s.stopRequest d).drive = false ∧
    (s.spc.state.powered = true → d ≠ .coast → s.spc.demand ≠ .coast →
      (s.stopRequest d).spc.state = (if s.pos.state = .unloaded then .braking else .coasting) ∧
      (s.stopRequest d).spc.brakePending = !(s.pos.state == .unloaded)) ∧
    (d = .coast → (s.stopRequest d).spc.state = .coasting ∧
      (s.stopRequest d).spc.brakePending = false)

/-! ## Positioner -/

/-- SERVO_SAMPLE in TRACKING, a valid sample of the target on the selected head (R59, R65, R67): the record
of position is updated, and the following law sets the current; a record in a window already taken changes
nothing (R58). SERVO_SAMPLE in TRACKING off the target (R67, R71): a track slip is counted; with the hold
flag the heads settle where they are, without it they seek back to the target under a new timer. That the
slip's own sample is not counted in that settling is the model's reading (log 22). -/
def Obligations.TrackingSamples : Prop :=
  (∀ (s : State) (valid : Bool) (c h : Nat) (pes : Int) (f : Fix),
      s.calm = true →
      (s.takesSamples = true → s.pos.window = .taken →
        exec (.servoSample valid c h pes) s = .next s) ∧
      (s.spc.state = .atSpeed → s.pos.state = .tracking → s.pos.window = .waiting →
        s.pos.fix = some f → s.pos.target = some c → s.pos.head = h →
        s.completes (.servoSample true c h pes) fun t =>
          let p : Int := c * 256 + pes
          t.pos = { s.pos with
            fix := some ⟨c, pes, p, p, Int.tdiv (p - f.previous) f.since, 1⟩, dropCount := 0,
            window := .taken,
            current := clampTo s.tbs.profile.ilim (-Int.tdiv (s.tbs.profile.kp * pes) 16) } ∧
          (t.fsv.kinds.get .servoLost).present = false ∧ t.fsv.records = s.fsv.records ∧
          s.keepsHost t ∧ t.spc = s.spc ∧ t.ccu = s.ccu ∧ t.counters = s.counters ∧ t.atc = s.atc)) ∧
  (∀ (s : State) (c h target : Nat) (pes : Int) (f : Fix),
      s.calm = true → s.spc.state = .atSpeed → s.pos.state = .tracking → s.pos.window = .waiting →
      s.pos.fix = some f → s.pos.target = some target → c ≠ target → s.pos.head = h →
      -128 ≤ pes → pes ≤ 127 →
      (s.pos.hold = false → 1 < s.tbs.actions.actuatorSaturation.deglitch → s.pos.clampCount = 0 →
        1 < s.tbs.params.settleCount →
        s.completes (.servoSample true c h pes) fun t =>
          (t.pos.state = .seeking ∨
            t.pos.state = .settling ∧ ((target : Int) * 256 - (c * 256 + pes)).natAbs ≤ 128) ∧
          t.pos.target = some target ∧ t.pos.timerOn = true ∧ t.pos.timerCount = 0 ∧
          t.pos.timerLength = s.tbs.params.seekTimeout ∧ t.pos.requester = .none ∧
          t.counters = { s.counters with trackSlips := min 65535 (s.counters.trackSlips + 1) } ∧
          s.keepsHost t ∧ t.spc = s.spc ∧ t.ccu = s.ccu) ∧
      (s.pos.hold = true →
        s.completes (.servoSample true c h pes) fun t =>
          t.pos.state = .settling ∧ t.pos.target = some c ∧ t.pos.settleCount = 0 ∧
          t.pos.timerOn = s.pos.timerOn ∧
          t.counters = { s.counters with trackSlips := min 65535 (s.counters.trackSlips + 1) } ∧
          s.keepsHost t ∧ t.spc = s.spc ∧ t.ccu = s.ccu))

/-- SERVO_SAMPLE in SETTLING on the target (R66, R88): the settle count rises or returns to 0, and at the
settle count of DRIVE PARAMETERS the Positioner enters TRACKING, a seek in flight counted as done. Where it
ends the load of a restart and the record is NOT_READ (R5, R151), the record read begins in the same event
with its seek to physical cylinder 0, head 0. -/
def Obligations.SettlingSample : Prop :=
  (∀ (s : State) (c h : Nat) (pes : Int),
    s.calm = true → s.spc.state = .atSpeed → s.pos.state = .settling → s.pos.window = .waiting →
    s.pos.target = some c → s.pos.head = h → -128 ≤ pes → pes ≤ 127 →
    (s.pos.restartLoad = false ∨ s.record.state ≠ .notRead) →
    s.completes (.servoSample true c h pes) fun t =>
      let n := if pes.natAbs ≤ s.tbs.params.settleWindow then s.pos.settleCount + 1 else 0
      (n < s.tbs.params.settleCount → t.pos.state = .settling ∧ t.pos.settleCount = n ∧
        t.pos.timerOn = s.pos.timerOn ∧ t.counters = s.counters) ∧
      (s.tbs.params.settleCount ≤ n → t.pos.state = .tracking ∧ t.pos.settleCount = 0 ∧
        t.pos.timerOn = false ∧ t.pos.requester = .none ∧
        t.counters.seeksCompleted = (if s.pos.timerOn
          then min 65535 (s.counters.seeksCompleted + 1) else s.counters.seeksCompleted)) ∧
      t.pos.target = some c ∧
      t.pos.current = clampTo s.tbs.profile.ilim (-Int.tdiv (s.tbs.profile.kp * pes) 16) ∧
      s.keepsHost t ∧ t.spc = s.spc ∧ t.ccu = s.ccu) ∧
  (∀ (s : State) (c h : Nat) (pes : Int),
    s.withdrawLoads.calm = true → s.spc.state = .atSpeed → s.pos.state = .settling →
    s.pos.window = .waiting → s.pos.target = some c → s.pos.head = h → -128 ≤ pes → pes ≤ 127 →
    s.pos.restartLoad = true → s.record.state = .notRead → s.pos.hold = false →
    s.pos.clampCount = 0 → 1 < s.tbs.actions.actuatorSaturation.deglitch →
    pes.natAbs ≤ s.tbs.params.settleWindow →
    s.completes (.servoSample true c h pes) fun t =>
      (s.pos.settleCount + 1 < s.tbs.params.settleCount → t.pos.state = .settling ∧
        t.pos.settleCount = s.pos.settleCount + 1 ∧ t.pos.restartLoad = true ∧
        (t.fsv.kinds.get .servoLost).present = false ∧ t.fsv.records = s.fsv.records ∧
        s.keepsHost t ∧ t.spc = s.spc ∧ t.ccu = s.ccu) ∧
      (s.tbs.params.settleCount ≤ s.pos.settleCount + 1 →
        t.record = { s.record with
          op := .reading ⟨List.replicate 22 none, List.replicate 22 0⟩ } ∧
        t.pos.target = some 0 ∧ t.pos.head = 0 ∧ t.pos.restartLoad = false ∧
        t.pendingLoad = false ∧
        (128 < (c : Int) * 256 + pes → t.pos.state = .seeking ∧ t.pos.requester = .engine ∧
          t.pos.timerOn = true ∧ t.pos.timerCount = 0) ∧
        (c = 0 → h = 0 → t.pos.state = .tracking) ∧
        t.dbi = s.dbi ∧ t.queue = s.queue ∧ t.slots = s.slots ∧ t.tbs = s.tbs ∧ t.spc = s.spc ∧
        t.ccu = s.ccu))

/-- SERVO_SAMPLE in SEEKING beyond half a track of the target, with a current inside the limit (R80 to
R84): the current is the velocity error times Kv, divided by 16 toward zero. -/
def Obligations.SeekingSample : Prop :=
  ∀ (s : State) (c h target : Nat) (pes : Int) (f : Fix),
    s.calm = true → s.spc.state = .atSpeed → s.pos.state = .seeking → s.pos.window = .waiting →
    s.pos.target = some target → s.pos.head = h → s.pos.fix = some f →
    let p : Int := c * 256 + pes
    let v : Int := Int.tdiv (p - f.previous) f.since
    let d : Int := target * 256 - p
    let speed : Int := demandSpeed s.tbs.profile.rows d.natAbs
    let e : Int := (if 0 < d then speed else -speed) - v
    128 < d.natAbs → (Int.tdiv (s.tbs.profile.kv * e) 16).natAbs ≤ s.tbs.profile.ilim →
    s.completes (.servoSample true c h pes) fun t =>
      t.pos.current = Int.tdiv (s.tbs.profile.kv * e) 16 ∧ t.pos.state = .seeking ∧
      t.pos.clampCount = 0 ∧ t.pos.fix = some ⟨c, pes, p, p, v, 1⟩ ∧ t.pos.target = some target ∧
      t.pos.timerOn = s.pos.timerOn ∧ t.pos.requester = s.pos.requester ∧
      (t.fsv.kinds.get .actuatorSaturation).present = false ∧
      s.keepsHost t ∧ t.spc = s.spc ∧ t.ccu = s.ccu ∧ t.counters = s.counters

/-- R81, R82: the demand speed on a profile within its limits, for the selected row and its next: the last
row's speed, or the interpolated one, between the two rows' speeds; it never falls as the distance grows. -/
def Obligations.DemandSpeed : Prop :=
  ∀ (p : SeekProfile) (i d far : Nat) (a b : ProfileRow),
    p.inLimits = true → p.rows[i]? = some a → a.dist * 256 ≤ d →
    (d ≤ far → demandSpeed p.rows d ≤ demandSpeed p.rows far) ∧
    (p.rows[i + 1]? = none → demandSpeed p.rows d = a.speed) ∧
    (p.rows[i + 1]? = some b → d < b.dist * 256 →
      demandSpeed p.rows d =
        a.speed + ((b.speed - a.speed) * (d - a.dist * 256)) / ((b.dist - a.dist) * 256) ∧
      a.speed ≤ demandSpeed p.rows d ∧ demandSpeed p.rows d ≤ b.speed)

/-- A dropped sample short of the SERVO_LOST deglitch count (R60, R66, R86), in SETTLING, TRACKING, SEEKING
and the first phase of UNLOADING: the counts rise, the current and the position stand, and a settle count
returns to 0. A window that closes untaken is a dropped sample too (R58). In LOADING drops are counted and
raise nothing, however many they are (R60, R63); that the sample-drops counter rises at each of them too is
the model's reading (log 32). -/
def Obligations.DroppedSample : Prop :=
  (∀ (s : State) (c h : Nat) (pes : Int) (f : Fix),
    s.calm = true → s.spc.state = .atSpeed →
    (s.pos.state = .settling ∨ s.pos.state = .tracking ∨ s.pos.state = .seeking ∨
      s.pos.state = .unloading ∧ s.pos.phase = .toCylinder0) → s.pos.window = .waiting →
    s.pos.fix = some f → min 255 (s.pos.dropCount + 1) < s.tbs.actions.servoLost.deglitch →
    let n := if s.pos.state = .settling then 0 else s.pos.settleCount
    s.completes (.servoSample false c h pes) (fun t =>
      t.pos = { s.pos with
        fix := some { f with since := min 255 (f.since + 1) }, window := .taken,
        dropCount := min 255 (s.pos.dropCount + 1), settleCount := n } ∧
      t.counters = { s.counters with sampleDrops := min 65535 (s.counters.sampleDrops + 1) } ∧
      s.keepsHost t ∧ t.spc = s.spc ∧ t.fsv = s.fsv) ∧
    s.completes (.wedgeTime false) (fun t =>
      t.pos.current = s.pos.current ∧ t.pos.window = .waiting ∧ t.pos.state = s.pos.state ∧
      t.pos.dropCount = min 255 (s.pos.dropCount + 1) ∧ t.pos.settleCount = n ∧
      t.counters = { s.counters with sampleDrops := min 65535 (s.counters.sampleDrops + 1) })) ∧
  (∀ (s : State) (c h : Nat) (pes : Int),
    s.calm = true → s.spc.state = .atSpeed → s.pos.state = .loading → s.pos.fix = none →
    s.pos.window = .waiting →
    s.completes (.servoSample false c h pes) (fun t =>
      t.pos = { s.pos with window := .taken, dropCount := min 255 (s.pos.dropCount + 1) } ∧
      t.counters = { s.counters with sampleDrops := min 65535 (s.counters.sampleDrops + 1) } ∧
      s.keepsHost t ∧ t.spc = s.spc ∧ t.fsv = s.fsv) ∧
    (s.pos.loadWindows + 1 < 128 →
      s.completes (.wedgeTime false) (fun t =>
        t.pos.state = .loading ∧ t.pos.current = s.pos.current ∧ t.pos.fix = none ∧
        t.pos.target = s.pos.target ∧ t.pos.window = .waiting ∧
        t.pos.dropCount = min 255 (s.pos.dropCount + 1) ∧
        t.pos.loadWindows = s.pos.loadWindows + 1 ∧
        t.counters = { s.counters with sampleDrops := min 65535 (s.counters.sampleDrops + 1) } ∧
        t.fsv.records = s.fsv.records ∧ s.keepsHost t)))

/-- LOAD_TIMEOUT and UNLOAD_WATCH_EXPIRY (R64, R74): the heads return to the ramp and SERVO_LOST carries
sub- cause LOAD; the watch re-arms and counts one UNLOAD_FAILED observation. PARK_SENSOR_ON_RAMP and
RETRACT_WINDOW_EXPIRY (R74, R75, R149): both ends of a way to the ramp are UNLOADED with current 0; the
sensor clears the park unconfirmed flag, the window sets it and marks the record of the causing kind. That
an expiry takes effect whenever its timer runs is the model's choice (log 3); that the load timeout's record
carries the state UNLOADING (log 42) and that its row waits for its count (log 4) are its readings. -/
def Obligations.RampEvents : Prop :=
  (∀ (s : State) (x : Timer),
      s.calm = true →
      (s.pos.state = .loading → 128 ≤ s.pos.loadWindows → s.pos.parkSensor = false →
        s.recordOf .servoLost = none → s.tbs.actions.servoLost.mode = .report →
        s.completes .loadTimeout fun t =>
          t.pos.state = .unloading ∧ t.pos.phase = .toRamp ∧
          t.pos.current = clampTo s.tbs.profile.ilim (-500) ∧
          t.pos.unloadWatch = some ⟨0, 33334⟩ ∧
          t.fsv.records = s.fsv.records ++ [⟨.servoLost, .reported, some .load, 1, s.spc.revCount,
            s.spc.revCount, s.pos.fix.map Fix.cylinder, s.spc.state, .unloading, 0, none⟩] ∧
          t.requested .faultReported = true ∧ s.keepsHost t ∧ t.counters = s.counters) ∧
      (s.pos.state = .unloading → s.pos.unloadWatch = some x →
        s.pos.unloadFailedCount + 1 < s.tbs.actions.unloadFailed.deglitch →
        s.completes .unloadWatchExpiry fun t =>
          t.pos.unloadWatch = some ⟨0, 33334⟩ ∧
          t.pos.unloadFailedCount = s.pos.unloadFailedCount + 1 ∧ t.pos.state = .unloading ∧
          t.pos.current = s.pos.current ∧ s.keepsHost t ∧ t.fsv = s.fsv)) ∧
  (∀ (s : State) (x : Timer) (k : FaultKind),
      s.calm = true →
      ((s.pos.state = .retracting ∨ s.pos.state = .unloading ∧ s.pos.phase = .toRamp) →
        s.completes .parkSensorOnRamp fun t =>
          t.pos.state = .unloaded ∧ t.pos.current = 0 ∧ t.pos.fix = none ∧ t.pos.target = none ∧
          t.pos.parkSensor = true ∧ t.pos.parkUnconfirmed = false ∧ t.pos.hold = s.pos.hold ∧
          t.pos.head = s.pos.head ∧ s.keepsHost t ∧ t.fsv.records = s.fsv.records ∧
          t.spc = s.spc ∧ t.ccu = s.ccu ∧ t.counters = s.counters) ∧
      ((s.pos.state = .tracking ∨ s.pos.state = .unloaded) →
        exec .parkSensorOnRamp s = .next
          { s with pos := { s.pos with parkSensor := true, parkUnconfirmed := false } }) ∧
      (s.pos.retractWindow = some x → s.pos.causing = some k →
        s.completes .retractWindowExpiry fun t =>
          t.pos.state = .unloaded ∧ t.pos.current = 0 ∧ t.pos.parkUnconfirmed = true ∧
          t.fsv.records = s.fsv.records.map (fun r =>
            if r.kind = k then { r with sub := some .retractUnconfirmed } else r) ∧
          s.keepsHost t ∧ t.counters = s.counters))

/-- SEEK_TIMER_EXPIRY short of the deglitch count (R89): one observation is counted and the timer restarts
with its length; before its length is reached nothing happens. RETRY_DELAY_EXPIRY and RECOVERY_WATCH_END
(R150 to R152): the delay ends, and a restart is suppressed while a record is LATCHED or the cartridge is
not; a watch that reaches 64 makes the record RECOVERED with its retries and kept row gone. That the seek
timer's row waits for its count is the model's reading (log 4). -/
def Obligations.CountedExpiries : Prop :=
  (∀ (s : State),
      (s.pos.timerCount < s.pos.timerLength → exec .seekTimerExpiry s = .next s) ∧
      (s.calm = true → (s.pos.state = .seeking ∨ s.pos.state = .settling) → s.pos.timerOn = true →
        s.pos.timerLength ≤ s.pos.timerCount →
        s.pos.seekTimeoutCount + 1 < s.tbs.actions.seekTimeout.deglitch →
        exec .seekTimerExpiry s = .next { s with pos := { s.pos with
          timerCount := 0, seekTimeoutCount := s.pos.seekTimeoutCount + 1 } })) ∧
  (∀ (s : State) (k : FaultKind) (x : Timer) (n : Nat),
      s.calm = true →
      ((s.fsv.kinds.get k).delay = some x → x.length ≤ x.elapsed →
        s.completes (.retryDelayExpiry k) fun t =>
          (t.fsv.kinds.get k).delay = none ∧
          (s.anyLatched = true ∨ s.ccu.state ≠ .latched →
            (t.fsv.kinds.get k).wantsStart = false ∧ (t.fsv.kinds.get k).wantsLoad = false ∧
            t.pos = s.pos ∧ t.spc = s.spc) ∧
          t.fsv.records = s.fsv.records ∧ s.keepsHost t ∧ t.counters = s.counters) ∧
      ((s.fsv.kinds.get k).watch = some n → 64 ≤ n →
        s.completes (.recoveryWatchEnd k) fun t =>
          t.fsv.records = s.fsv.records.map (fun r => if r.kind = k
            then { r with state := .recovered, retries := 0, kept := none } else r) ∧
          (t.fsv.kinds.get k).watch = none ∧ t.requested .faultReported = true ∧
          s.keepsHost t ∧ t.pos = s.pos ∧ t.spc = s.spc ∧ t.ccu = s.ccu ∧ t.counters = s.counters))

/-! ## Cartridge -/

/-- CARTRIDGE_SENSOR_PRESENT (R121, R122): an insertion into an ABSENT drive seats the cartridge, senses
write protection and asks for attention; in any other state it has no effect but the sensor's own.
CARTRIDGE_SENSOR_ABSENT (R124, R127, R128, R137): removal from SEATED, a forced door, and the end of an
eject, each with the media change count raised by one modulo 256. -/
def Obligations.CartridgeSensor : Prop :=
  (∀ (s : State) (protect : Bool),
      (s.calm = true → s.ccu.state ≠ .absent → exec (.cartridgeSensorPresent protect) s =
        .next { s with ccu := { s.ccu with present := true } }) ∧
      (s.idleDrive = true → s.dbi.turn = true → s.dbi.inb = .idle → s.pendingStart = false →
        s.pendingLoad = false → s.ccu.state = .absent →
        (s.spc.state = .atSpeed ∨ s.pos.state ≠ .loading ∧ s.pos.state.flying = false) →
        s.completes (.cartridgeSensorPresent protect) fun t =>
          t.ccu.state = (if s.ccu.releasePending && !s.atRest then .stopCheck else .seated) ∧
          (s.ccu.releasePending = true → s.atRest = true → t.ccu.latch = false) ∧
          (s.ccu.releasePending = false → t.ccu.latch = s.ccu.latch) ∧
          t.ccu.protect = protect ∧ t.ccu.present = true ∧ t.ccu.holdCount = 0 ∧
          t.ccu.mediaChange = s.ccu.mediaChange ∧ t.record.state = .notRead ∧
          t.record.image = none ∧ t.requested .cartridgeInserted = true ∧ t.dbi = s.dbi ∧
          t.queue = s.queue ∧ t.slots = s.slots ∧ t.tbs = s.tbs ∧ t.counters = s.counters)) ∧
  (∀ (s : State) (e : EjectRecord),
      s.dbi.turn = true → s.dbi.inb = .idle →
      (s.calm = true → s.ccu.state = .seated →
        s.completes .cartridgeSensorAbsent fun t =>
          t.ccu.state = .absent ∧ t.ccu.mediaChange = (s.ccu.mediaChange + 1) % 256 ∧
          t.ccu.protect = false ∧ t.ccu.holdCount = 0 ∧ t.ccu.buttonRefused = false ∧
          t.ccu.latch = s.ccu.latch ∧ t.record.state = .notRead ∧ t.record.image = none ∧
          t.requested .cartridgeRemoved = true ∧ t.dbi = s.dbi ∧ t.queue = s.queue ∧
          t.slots = s.slots ∧ t.tbs = s.tbs ∧ t.spc = s.spc ∧ t.pos = s.pos ∧
          t.fsv.records = s.fsv.records) ∧
      (s.calm = true → s.ccu.state = .latched → s.spc.state = .atSpeed → s.pos.state = .tracking →
        s.pos.parkSensor = false → s.recordOf .doorForced = none →
        s.completes .cartridgeSensorAbsent fun t =>
          t.ccu.state = .absent ∧ t.ccu.releasePending = true ∧ t.ccu.latch = s.ccu.latch ∧
          t.ccu.mediaChange = (s.ccu.mediaChange + 1) % 256 ∧ t.record.state = .notRead ∧
          t.record.image = none ∧ t.requested .cartridgeRemoved = true ∧
          t.requested .faultLatched = true ∧ t.latchedKind .doorForced = true ∧
          (t.fsv.kinds.get .doorForced).present = true ∧ t.spc.state = .coasting ∧
          t.spc.demand = .coast ∧ t.pos.state = .retracting ∧ t.pos.causing = some .doorForced ∧
          t.dbi = s.dbi ∧ t.queue = s.queue ∧ t.tbs = s.tbs) ∧
      ({ s with ccu := { s.ccu with eject := none } }.calm = true → s.ccu.eject = some e →
        s.ccu.state = .ejecting →
        s.completes .cartridgeSensorAbsent fun t =>
          t.ccu.state = .absent ∧ t.ccu.eject = none ∧ t.ccu.ejector = false ∧
          t.ccu.mediaChange = (s.ccu.mediaChange + 1) % 256 ∧ t.ccu.holdCount = 0 ∧
          t.dbi.replies = s.dbi.replies ++ e.tags.map (fun g => .done g .ok 0 0 0 none none) ∧
          t.requested .cartridgeRemoved = true ∧ t.record.image = none ∧ t.queue = s.queue))

/-- EJECT_BUTTON_PRESS (R130, R132): refused while a hold is counted; from SEATED the cartridge is pushed
out at once; with no cartridge, or with an eject in progress, no effect. EJECTOR_PULSE_END and
EJECT_WINDOW_EXPIRY (R137, R139): the ejector goes off with the eject going on; a cartridge still present is
SEATED again, and every waiting EJECT completes EJECT_FAILED. That an expiry takes effect whenever its timer
runs is the model's choice (log 3). -/
def Obligations.EjectEvents : Prop :=
  (∀ (s : State),
      ((s.ccu.state = .absent ∨ s.ccu.state = .ejectPending ∨ s.ccu.state = .ejecting) →
        s.settled = true → s.dbi.turn = true → s.dbi.inb = .idle →
        exec .ejectButtonPress s = .next s) ∧
      (s.calm = true → (s.ccu.state = .seated ∨ s.ccu.state = .latched) → 0 < s.ccu.holdCount →
        s.completes .ejectButtonPress fun t =>
          t.ccu = { s.ccu with buttonRefused := true } ∧ t.requested .ejectButton = true ∧
          s.keepsHost t ∧ t.spc = s.spc ∧ t.pos = s.pos ∧ t.fsv = s.fsv) ∧
      (s.calm = true → s.ccu.state = .seated → s.ccu.holdCount = 0 →
        s.completes .ejectButtonPress fun t =>
          t.ccu.state = .ejecting ∧ t.ccu.latch = false ∧ t.ccu.ejector = true ∧
          t.ccu.ejectWindow = some ⟨0, 2000000⟩ ∧ t.ccu.holdCount = s.ccu.holdCount ∧
          t.ccu.eject = some ⟨none, s.tbs.params.buttonMode, false, [], .undecided⟩ ∧
          t.requested .ejectButton = true ∧ s.keepsHost t ∧ t.spc = s.spc ∧ t.pos = s.pos)) ∧
  (∀ (s : State) (e : EjectRecord) (x : Timer),
      { s with ccu := { s.ccu with eject := none } }.calm = true →
      s.ccu.eject = some e → e.phase = none → s.ccu.state = .ejecting →
      (s.ccu.ejector = true →
        s.completes .ejectorPulseEnd fun t =>
          t.ccu.ejector = false ∧ t.ccu.state = .ejecting ∧ t.ccu.eject = some e ∧
          s.keepsHost t ∧ t.fsv = s.fsv ∧ t.atc = s.atc) ∧
      (s.ccu.ejectWindow = some x →
        s.completes .ejectWindowExpiry fun t =>
          t.ccu.state = .seated ∧ t.ccu.eject = none ∧ t.ccu.ejector = false ∧
          t.ccu.latch = s.ccu.latch ∧ t.ccu.holdCount = s.ccu.holdCount ∧
          t.dbi.replies = s.dbi.replies ++ e.tags.map (fun g => .done g .ejectFailed 0 0 0 none none) ∧
          t.requested .ejectFailed = true ∧ t.queue = s.queue ∧ t.record = s.record ∧ t.tbs = s.tbs))

/-! ## Read channel -/

/-- SECTOR_ARRIVAL for the sector a transfer waits for (R106, R110): a READ fills the lowest EMPTY slot;
with none, and for a WRITE without its data, the pass is one revolution slip; a sector nobody waits for
passes without effect. -/
def Obligations.SectorArrives : Prop :=
  ∀ (s : State) (n i : Nat) (tag : Byte) (go : Bool) (l : List Extent),
    s.settled = true → s.dbi.turn = true → s.dbi.inb = .idle → s.supplyLow = false →
    s.eng.flight = none → s.record.op = .idle → s.job = .transfer →
    (s.eng.place.map Placement.sector ≠ some n → exec (.sectorArrival n) s = .next s) ∧
    (s.eng.place.map Placement.sector = some n → s.eng.state = .rotateWait →
      s.executing = some ⟨tag, .xfer .read go l, true⟩ → s.emptySlot = some i →
      exec (.sectorArrival n) s = .next { s with
        slots := s.slots.modify i fun _ =>
          ⟨.filling, some tag, s.eng.seq, (lbaAt l s.eng.seq).getD 0, s.eng.retry, []⟩,
        eng := { s.eng with
          state := .transferring, flight := some ⟨.read, some i, false, false⟩ } }) ∧
    (s.eng.place.map Placement.sector = some n → s.eng.state = .rotateWait →
      (s.executing = some ⟨tag, .xfer .read go l, true⟩ ∧ s.emptySlot = none ∨
       s.executing = some ⟨tag, .xfer .write go l, true⟩ ∧ s.slotOf tag s.eng.seq .full = none) →
      exec (.sectorArrival n) s = .next { s with
        eng := { s.eng with state := .retryWait, slips := min 65535 (s.eng.slips + 1) },
        counters := { s.counters with
          revolutionSlips := min 65535 (s.counters.revolutionSlips + 1) } })

/-- SECTOR_END of a transfer (R107, R111 to R113): a CHECK_ERROR below the limit empties the slot and is
retried; the last block of a VERIFY or WRITE that ends good completes the command OK with one more block
counted; the last block of a READ fills its slot and is drained. SECTOR_ARRIVAL of a WRITE's and a VERIFY's
sector (R110, R112): with the write gate the FULL slot is DRAINING, without it the block is deferred. The
record operations (R5 to R7, R10, R11): the last good sector of a record read installs the image or makes
the record UNREADABLE, a sector without the gate is deferred, or ends a FLUSH RECORD at the limit, and the
last sector written makes the record VALID with the new generation. Where the checks find the fields in the
bytes is the model's arrangement (logs 9 and 40). -/
def Obligations.SectorEnds : Prop :=
  (∀ (s : State) (e : Entry) (go : Bool) (l : List Extent) (data : List Byte) (i : Nat),
    s.settled = true → s.dbi.turn = true → s.dbi.inb = .idle → s.supplyLow = false →
    s.job = .transfer → s.endWith = none → s.executing = some e → s.record.op = .idle →
    s.record.readWanted = false → s.eng.state = .transferring →
    (e.cmd = .xfer .read go l → s.eng.flight = some ⟨.read, some i, false, false⟩ →
      s.eng.retry < s.tbs.params.readRetries →
      exec (.sectorEnd false data) s = .next { s with
        slots := s.slots.modify i fun _ => Slot.none,
        eng := { s.eng with flight := none, retry := s.eng.retry + 1, state := .retryWait },
        counters := { s.counters with
          readRetries := min 65535 (s.counters.readRetries + 1) } }) ∧
    (s.queue = [e] → s.eng.seq + 1 = blocksOf l → s.eng.errors = 0 → s.work = none →
      s.downs = ⟨none, none, none, false⟩ → s.ccu.eject = none →
      (e.cmd = .xfer .verify go l ∧ s.eng.flight = some ⟨.verify, none, false, false⟩ ∨
       e.cmd = .xfer .write go l ∧ s.eng.flight = some ⟨.write, some i, false, false⟩) →
      s.completes (.sectorEnd true data) fun t =>
        t.dbi.replies = s.dbi.replies ++
          [.done e.tag .ok (s.eng.completed + 1) 0 s.eng.slips s.eng.firstError s.eng.damaged] ∧
        t.queue = [] ∧ t.eng = Engine.none ∧ t.requested .commandDone = true ∧
        t.spc.standbyElapsed = 0 ∧ t.counters = s.counters ∧ t.record = s.record ∧ t.tbs = s.tbs) ∧
    (e.cmd = .xfer .read go l → s.eng.flight = some ⟨.read, some i, false, false⟩ →
      s.eng.seq + 1 = blocksOf l → s.eng.errors = 0 → i < s.slots.length →
      (s.slots[i]?).map Slot.tag = some (some e.tag) → s.work = none →
      s.downs = ⟨none, none, none, false⟩ → s.ccu.eject = none →
      s.completes (.sectorEnd true data) fun t =>
        (∃ x, t.slots[i]? = some x ∧ x.state = .full ∧ x.data = data ∧ x.tag = some e.tag) ∧
        t.job = .drain .ok ∧ t.eng.state = .idle ∧ t.eng.completed = s.eng.completed ∧
        t.dbi = s.dbi ∧ t.queue = s.queue)) ∧
  (∀ (s : State) (tag : Byte) (go : Bool) (l : List Extent) (n i : Nat) (x : Slot),
    s.settled = true → s.dbi.turn = true → s.dbi.inb = .idle → s.supplyLow = false →
    s.job = .transfer → s.record.op = .idle → s.eng.flight = none →
    s.eng.state = .rotateWait → s.eng.place.map Placement.sector = some n →
    (s.executing = some ⟨tag, .xfer .verify go l, true⟩ →
      exec (.sectorArrival n) s = .next { s with eng := { s.eng with
        state := .transferring, flight := some ⟨.verify, none, false, false⟩ } }) ∧
    (s.executing = some ⟨tag, .xfer .write go l, true⟩ → s.slotOf tag s.eng.seq .full = some i →
      (s.writeGate = true →
        exec (.sectorArrival n) s = .next { s with
          slots := s.slots.modify i fun y => { y with state := .draining },
          eng := { s.eng with
            state := .transferring, flight := some ⟨.write, some i, false, false⟩ } }) ∧
      (s.writeGate = false → s.slots[i]? = some x → x.retry < s.tbs.params.writeRetries →
        exec (.sectorArrival n) s = .next { s with
          slots := s.slots.modify i fun y => { y with retry := y.retry + 1 },
          eng := { s.eng with state := .retryWait },
          counters := { s.counters with
            writeDeferrals := min 65535 (s.counters.writeDeferrals + 1) } }))) ∧
  (∀ (s : State) (r : RecordRead) (n i : Nat) (data : List Byte),
    { s with record := { s.record with op := .idle }, eng := Engine.none }.calm = true →
    s.settled = true → s.spc.state = .atSpeed → s.pos.state = .tracking →
    s.record.op = .reading r → s.record.state = .notRead → r.got[n]? = some none →
    s.eng = { Engine.none with flight := some ⟨.recordRead n, some i, false, false⟩ } →
    let got := r.got.set n (some data)
    s.completes (.sectorEnd true data) (fun t =>
      t.slots = s.slots.modify i (fun _ => Slot.none) ∧ t.eng = Engine.none ∧ t.dbi = s.dbi ∧
      t.counters = s.counters ∧
      ((∃ x ∈ got, x = none) → t.record = { s.record with op := .reading { r with got := got } }) ∧
      ((∀ x ∈ got, x ≠ none) → t.record.op = .idle ∧
        match checkRecord (got.flatMap fun x => x.getD []) with
        | .good img => t.record.state = .valid ∧ t.record.image = some img
        | .bad why => t.record.state = .unreadable ∧ t.record.reason = some why ∧
            t.record.image = none)) ∧
    s.completes (.sectorEnd false data) (fun t =>
      t.slots = s.slots.modify i (fun _ => Slot.none) ∧ t.eng = Engine.none ∧
      (r.retries.getD n 0 < s.tbs.params.readRetries →
        t.record.op = .reading { r with retries := r.retries.modify n (· + 1) } ∧
        t.counters.readRetries = min 65535 (s.counters.readRetries + 1)) ∧
      (s.tbs.params.readRetries ≤ r.retries.getD n 0 →
        t.record.state = .unreadable ∧ t.record.reason = some .check ∧ t.record.image = none ∧
        t.record.op = .idle))) ∧
  (∀ (s : State) (w : WriteBack) (e : Entry) (img : Image) (i : Nat) (data : List Byte) (good : Bool),
    { s with queue := [], job := .idle, record := { s.record with op := .idle },
             eng := Engine.none }.calm = true →
    s.settled = true → s.queue = [e] → e.cmd = .flush → e.executing = true → s.job = .flush →
    s.ccu.state = .latched → s.record.op = .writing w → w.owner = .cmd → w.slot = some i →
    s.record.image = some img → s.trackingOn 0 0 = true → s.spc.state = .atSpeed →
    (∀ x ∈ s.slots, x.tag = none) →
    let done := fun (st : Status) (t : State) =>
      t.dbi.replies = s.dbi.replies ++ [.done e.tag st 0 0 0 none none] ∧ t.queue = [] ∧
      t.record.op = .idle ∧ t.eng = Engine.none ∧ t.requested .commandDone = true ∧
      t.slots = s.slots.modify i (fun _ => Slot.none)
    (w.next = 21 → s.eng = { Engine.none with flight := some ⟨.recordWrite, some i, false, false⟩ } →
      s.completes (.sectorEnd good data) fun t => done .ok t ∧ t.record.state = .valid ∧
        t.record.image = some { img with generation := w.generation }) ∧
    (s.eng = Engine.none → s.writeGate = true →
      exec (.sectorArrival w.next) s = .next { s with
        slots := s.slots.modify i fun y => { y with state := .draining },
        eng := { Engine.none with flight := some ⟨.recordWrite, some i, false, false⟩ } }) ∧
    (s.eng = Engine.none → s.writeGate = false → w.deferrals < s.tbs.params.writeRetries →
      exec (.sectorArrival w.next) s = .next { s with
        record := { s.record with op := .writing { w with deferrals := w.deferrals + 1 } },
        counters := { s.counters with
          writeDeferrals := min 65535 (s.counters.writeDeferrals + 1) } }) ∧
    (s.eng = Engine.none → s.writeGate = false → s.tbs.params.writeRetries ≤ w.deferrals →
      s.completes (.sectorArrival w.next) fun t => done .recordWriteFailed t ∧
        t.record.state = s.record.state ∧ t.record.image = s.record.image))

/-! ## Drive bus -/

/-- INBOUND_PACKET_HEADER (R178, R180): a full reply queue withholds the first byte; a packet goes on when
it is DATA of 514 bytes, or COMMAND with the length that the command summary gives its code, a LOAD TABLE of
no loadable table at any length up to 256; every other kind, tag or length is answered BAD_PACKET with its
tag and discarded, where bytes follow. INBOUND_PARITY_ERROR (R179): BUS_PARITY under the tag where it was
read, the rest of the packet is discarded, and a FILLING slot returns to EMPTY. That a parity error of the
tag byte is BUS_PARITY whatever the kind byte before it is the model's choice (log 68), and so is that one of
the second length byte is, whatever the first (log 82). -/
def Obligations.InboundFraming : Prop :=
  (∀ (s : State) (kind tag : Byte) (length : BitVec 16) (b4 b5 b6 : Byte),
      s.canReceive = true → s.dbi.inb = .idle →
      let n := length.toNat
      let h : Header := ⟨kind, tag, n, [b4, b5, b6].take n⟩
      let i : Instr := .inboundPacketHeader kind tag length b4 b5 b6
      let one : List Byte := [0x24, 0x25, 0x26, 0x42, 0x43, 0x48, 0x49, 0x59, 0x5A, 0x60]
      let sized := b4 ∈ one ∧ n = 1 ∨ (b4 = 0x52 ∨ b4 = 0x61) ∧ n = 2 ∨
        (b4 = 0x23 ∨ b4 = 0x40 ∨ b4 = 0x41 ∨ b4 = 0x58 ∨ b4 = 0x62) ∧ n = 3 ∨
        (b4 = 0x27 ∨ b4 = 0x51) ∧ n = 5 ∨
        (b4 = 0x20 ∨ b4 = 0x21 ∨ b4 = 0x22) ∧ n = 3 + 6 * b6.toNat ∧ n ≤ 64 ∨
        b4 = 0x50 ∧ n ≤ 256 ∧ (b5 = 1 ∧ n = 7 + 4 * b6.toNat ∨ b5 = 2 ∧ n = 62 ∨ b5 = 3 ∧ n = 17 ∨
          b5 ≠ 1 ∧ b5 ≠ 2 ∧ b5 ≠ 3 ∧ 2 ≤ n)
      let good := tag ≠ 0 ∧ (kind = 2 ∧ n = 514 ∨ kind = 1 ∧ sized)
      (s.replyFull = true → exec i s = .next { s with dbi := { s.dbi with inb := .waiting h } }) ∧
      (s.replyFull = false → ¬ good → exec i s = .next { s with dbi := { s.dbi with
        replies := s.dbi.replies ++ [.reply tag .badPacket .empty],
        inb := if n = 0 then .idle else .discard } }) ∧
      (s.replyFull = false → good →
        exec i s = .next { s with dbi := { s.dbi with inb := .payload h } })) ∧
  (∀ (s : State) (kind tag : Byte) (h : Header) (n i : Nat),
      s.canReceive = true →
      let after := fun (t : Byte) (b : ReplyBody) (rest : Inbound) => { s with dbi := { s.dbi with
        replies := s.dbi.replies ++ [.reply t .busParity b], inb := rest } }
      (s.dbi.inb = .idle → s.replyFull = false →
        exec (.inboundParityError .kindOrTag) s = .next (after 0 .empty .discardTurn)) ∧
      (s.dbi.inb = .idle → s.replyFull = false → (kind = 1 ∨ kind = 2) → tag ≠ 0 →
        exec (.inboundParityError (.length kind tag)) s = .next (after tag .empty .discardTurn)) ∧
      (s.dbi.inb = .idle → s.replyFull = false → tag ≠ 0 → 1 ≤ n → n ≤ 256 →
        exec (.inboundParityError (.lead 1 tag (BitVec.ofNat 16 n) [])) s =
          .next (after tag .empty .discard)) ∧
      (s.dbi.inb = .payload h →
        exec (.inboundParityError .payload) s = .next (after h.tag .empty .discard)) ∧
      (s.dbi.inb = .data tag n i →
        exec (.inboundParityError .payload) s = .next { after tag (.dataIndex n) .discard with
          slots := s.slots.modify i fun _ => Slot.none }) ∧
      ((s.dbi.inb = .discard ∨ s.dbi.inb = .discardTurn) →
        exec (.inboundParityError .payload) s = .next s))

/-- TURN_NEGATED and TURN_ASSERTED (R176, R180): a cut packet is answered BAD_PACKET, with tag 0 when its
tag had not been read, a cut DATA packet's slot is EMPTY again, and the part sends; a waiting first byte is
owed nothing; the host's turn lets a packet in flight run on. OUTBOUND_PACKET_ACKED and DISCARDED_PACKET_END
(R178, R180, R182): the packet leaves the reply queue, or its slot is EMPTY again, and with the turn negated
the next packet begins. With no packet in the reply queue the part begins a DATA packet for the FULL slot of
the EXECUTING READ with the lowest block sequence number, whatever is ending the READ (R181), and none once
an eject with mode CUT is stopping it (R182, as the model reads it, log 70). STB stands asserted from a
packet's first byte to its last acknowledgement (the model's choice, log 11), and a TURN row that repeats the
line's level changes nothing (its reading, log 35). -/
def Obligations.TurnsAndPackets : Prop :=
  (∀ (s : State) (cut : HeaderPart) (h : Header) (tag : Byte) (n i : Nat),
      let cutNow := fun (t : Byte) (b : ReplyBody) => { s with dbi := { s.dbi with
        turn := false, inb := .idle, stb := true, out := .queued,
        replies := s.dbi.replies ++ [.reply t .badPacket b] } }
      exec .turnAsserted s = .next { s with dbi := { s.dbi with turn := true } } ∧
      (s.dbi.turn = false → exec (.turnNegated cut) s = .next s) ∧
      (s.canReceive = true → s.dbi.inb = .payload h →
        exec (.turnNegated cut) s = .next (cutNow h.tag .empty)) ∧
      (s.canReceive = true → s.dbi.inb = .data tag n i →
        exec (.turnNegated cut) s = .next { cutNow tag (.dataIndex n) with
          slots := s.slots.modify i fun _ => Slot.none }) ∧
      (s.canReceive = true → s.dbi.inb = .idle → s.replyFull = false →
        exec (.turnNegated .kindByte) s = .next (cutNow 0 .empty) ∧
        exec (.turnNegated (.kindAndTag tag)) s = .next (cutNow tag .empty)) ∧
      (s.canReceive = true → s.dbi.inb = .waiting h → s.dbi.replies ≠ [] →
        exec (.turnNegated cut) s = .next { s with dbi := { s.dbi with
          turn := false, inb := .idle, stb := true, out := .queued } }) ∧
      (s.canReceive = true → s.dbi.inb = .idle → s.dbi.replies = [] → s.executing = none →
        exec (.turnNegated .nothing) s = .next { s with dbi := { s.dbi with turn := false } })) ∧
  (∀ (s : State) (i : Nat) (x : Slot) (tag : Byte) (go : Bool) (l : List Extent) (rest : List Entry),
      s.canReceive = true → s.dbi.inb = .idle → s.dbi.replies = [] →
      s.queue = ⟨tag, .xfer .read go l, true⟩ :: rest →
      s.slots[i]? = some x → x.state = .full → x.tag = some tag →
      (∀ j y, s.slots[j]? = some y → y.state = .full → y.tag = some tag → j ≠ i → x.seq < y.seq) →
      (s.cutByEject = false →
        exec (.turnNegated .nothing) s = .next { s with
          dbi := { s.dbi with turn := false, stb := true, out := .data i tag true },
          slots := s.slots.modify i fun y => { y with state := .draining } }) ∧
      (s.cutByEject = true →
        exec (.turnNegated .nothing) s = .next { s with dbi := { s.dbi with turn := false } })) ∧
  (∀ (s : State) (i : Nat) (tag : Byte) (p : Packet) (rest : List Packet),
      (s.calm = true → s.dbi.out = .queued →
        exec .outboundPacketAcked s = .next { s with dbi := { s.dbi with
          out := .none, stb := false, replies := s.dbi.replies.tail } }) ∧
      (s.calm = true → s.dbi.out = .data i tag false →
        exec .outboundPacketAcked s = .next { s with
          dbi := { s.dbi with out := .none, stb := false },
          slots := s.slots.modify i fun _ => Slot.none }) ∧
      (s.settled = true → s.dbi.out = .queued → s.dbi.turn = false → s.dbi.busReset = false →
        s.supplyLow = false → s.dbi.inb = .idle → s.dbi.replies = p :: rest → rest ≠ [] →
        exec .outboundPacketAcked s = .next { s with dbi := { s.dbi with
          out := .queued, stb := true, replies := rest } }) ∧
      (s.canReceive = true → s.dbi.inb = .discard →
        exec .discardedPacketEnd s = .next { s with dbi := { s.dbi with inb := .idle } }))

/-- DATA_PACKET_INDEX and DATA_PACKET_END (R109): the checks in their order, the lowest EMPTY slot taken,
and at the packet's end the slot FULL, the next expected index raised and REPLY OK. The acknowledgement of a
READ's DATA packet (R108, R182): its slot is EMPTY and one more block is completed, and the last one brings
the READ's DONE. That the block counts also between an eject CUT and the stop of its READ is the model's choice
(log 83). -/
def Obligations.DataPackets : Prop :=
  (∀ (s : State) (tag : Byte) (index : BitVec 16) (go : Bool) (l : List Extent) (i : Nat) (x : Slot)
    (h : Header) (data : List Byte) (rest : List Entry),
    s.canReceive = true →
    let n := index.toNat
    let after := fun (st : Status) => { s with dbi := { s.dbi with
      replies := s.dbi.replies ++ [.reply tag st (.dataIndex n)], inb := .discard } }
    let w : Entry := ⟨tag, .xfer .write go l, true⟩
    let empties := (s.slots.filter fun y => y.state == .empty).length
    let at6 := s.dbi.inb = .payload h ∧ h.kind = 2 ∧ h.tag = tag ∧ h.lead.take 2 = be16 index
    (at6 → (∀ e ∈ s.queue, e.tag ≠ tag) →
      exec (.dataPacketIndex tag index) s = .next (after .noSuchTag)) ∧
    (at6 → s.queue = { w with executing := false } :: rest →
      exec (.dataPacketIndex tag index) s = .next (after .notYet)) ∧
    (at6 → s.queue = w :: rest → (n ≠ s.eng.nextIndex ∨ blocksOf l ≤ n) →
      exec (.dataPacketIndex tag index) s = .next (after .dataOrder)) ∧
    (at6 → s.queue = w :: rest → n = s.eng.nextIndex → n < blocksOf l →
      (empties = 0 ∨ empties = 1 ∧ s.record.state = .notRead) →
      exec (.dataPacketIndex tag index) s = .next (after .noSlot)) ∧
    (at6 → s.queue = w :: rest → n = s.eng.nextIndex → n < blocksOf l → s.emptySlot = some i →
      (s.record.state ≠ .notRead ∨ 2 ≤ empties) →
      exec (.dataPacketIndex tag index) s = .next { s with
        dbi := { s.dbi with inb := .data tag n i },
        slots := s.slots.modify i fun _ =>
          ⟨.filling, some tag, n, (lbaAt l n).getD 0, 0, []⟩ }) ∧
    (s.dbi.inb = .data tag n i → s.slots[i]? = some x → x.tag = some tag → s.settled = true →
      exec (.dataPacketEnd data) s = .next { s with
        dbi := { s.dbi with inb := .idle, replies := s.dbi.replies ++ [.reply tag .ok (.dataIndex n)] },
        eng := { s.eng with nextIndex := s.eng.nextIndex + 1 },
        slots := s.slots.modify i fun y => { y with state := .full, data := data } })) ∧
  (∀ (s : State) (tag : Byte) (i : Nat) (st : Status) (e : Entry),
    s.settled = true → s.supplyLow = false → s.dbi.turn = true → s.dbi.inb = .idle →
    s.record.op = .idle → s.dbi.out = .data i tag true →
    (s.job = .transfer →
      exec .outboundPacketAcked s = .next { s with
        dbi := { s.dbi with out := .none, stb := false },
        eng := { s.eng with completed := s.eng.completed + 1 },
        slots := s.slots.modify i fun _ => Slot.none }) ∧
    (s.job = .drain st → s.queue = [e] → e.executing = true → e.tag = tag → s.endWith = none →
      s.work = none → s.downs = ⟨none, none, none, false⟩ → s.ccu.eject = none →
      s.record.readWanted = false → s.eng.flight = none → i < s.slots.length →
      (∀ j x, s.slots[j]? = some x → x.tag = some tag → j = i) →
      s.completes .outboundPacketAcked fun t =>
        t.dbi.replies = s.dbi.replies ++
          [.done tag st (s.eng.completed + 1) s.eng.errors s.eng.slips s.eng.firstError
            s.eng.damaged] ∧
        t.queue = [] ∧ t.slots = s.slots.modify i (fun _ => Slot.none) ∧ t.dbi.out = .none ∧
        t.requested .commandDone = true))

/-! ## Medium commands -/

/-- The acceptance checks of R96 in their order, for every medium command: the first that applies refuses it
with its code, and nothing else changes. A medium command that passes the checks behind another entry (R95,
R96): REPLY QUEUED is placed and the entry stands WAITING at the tail; nothing else changes. -/
def Obligations.MediumAdmission : Prop :=
  (∀ (s : State) (i : Instr) (tag : Byte) (c : MediumCmd),
      mediumOf i = some (tag, c) → packetFramed i = true → s.listens = true →
      let no := fun (st : Status) => exec i s = .next (s.withReply tag st .empty)
      let closed := s.ccu.state = .ejectPending ∨ s.ccu.state = .ejecting
      let inUse := ∃ e ∈ s.queue, e.tag = tag
      (closed → no .ejectPending) ∧
      (¬ closed → 4 ≤ s.queue.length → no .queueFull) ∧
      (¬ closed → s.queue.length < 4 → inUse → no .tagInUse) ∧
      (¬ closed → s.queue.length < 4 → ¬ inUse →
        (c.needsCartridge = true → s.ccu.state = .absent → no .noCartridge) ∧
        (c.writes = true → s.ccu.state ≠ .absent → s.ccu.protect = true → no .writeProtected) ∧
        (∀ n, c = .seek n → s.ccu.state ≠ .absent → 1223 < n → no .badAddress) ∧
        (∀ l, c = .reassign l → s.ccu.state ≠ .absent → s.ccu.protect = false →
          ∀ img, s.record.image = some img → capacityOf img.zones ≤ l → no .badAddress) ∧
        (∀ k g l, c = .xfer k g l → s.ccu.state ≠ .absent → (k = .write → s.ccu.protect = false) →
          let bad := l = [] ∨ 8 < l.length ∨ (∃ x ∈ l, x.count = 0 ∨ 256 < x.count) ∨
            2048 < blocksOf l
          (bad → no .badExtents) ∧
          (¬ bad → ∀ img, s.record.image = some img →
            (∃ x ∈ l, capacityOf img.zones < x.start + x.count) → no .badAddress)))) ∧
  (∀ (s : State) (i : Instr) (tag : Byte) (c : MediumCmd),
      mediumOf i = some (tag, c) → packetFramed i = true → s.listens = true → s.settled = true →
      s.ccu.state = .latched → s.ccu.protect = false → s.queue ≠ [] → s.queue.length < 4 →
      (∀ e ∈ s.queue, e.tag ≠ tag) → c.malformed = false → s.outOfRange c = false →
      exec i s = .next { s.withReply tag .queued .empty with queue := s.queue ++ [⟨tag, c, false⟩] })

/-- Medium commands that complete in the event of their admission (R50, R51, R12, R92, R100): the DONE with
no block follows the QUEUED reply, COMMAND_DONE is requested, the standby time returns to 0. A SEEK under
the hold flag fails, to the cylinder already tracked too (the model's reading, log 16). -/
def Obligations.CompletesAtOnce : Prop :=
  ∀ (s : State) (tag : Byte) (cylinder : BitVec 16),
    s.listens = true → s.calm = true → tag ≠ 0 → s.retryWait = false →
    (∀ x ∈ s.slots, x.tag ≠ some tag) →
    let done := fun (st : Status) (t : State) =>
      t.dbi.replies = s.dbi.replies ++
        [.reply tag .queued .empty, .done tag st 0 0 0 none none] ∧
      t.queue = [] ∧ t.requested .commandDone = true ∧
      t.spc = { s.spc with standbyElapsed := 0 } ∧
      t.pos = { s.pos with requester := .none } ∧ t.slots = s.slots ∧ t.tbs = s.tbs ∧
      t.record = s.record ∧ t.fsv = s.fsv ∧ t.counters = s.counters
    (s.readyDrive = true → (s.record.state = .valid ∨ s.record.state = .dirty) →
      s.completes (.spinUp tag) (done .ok)) ∧
    (s.readyDrive = true → s.record.state = .unreadable →
      s.completes (.spinUp tag) (done .recordUnreadable)) ∧
    (s.atRest = true → s.spc.demand = .none → s.anyLatched = false → s.needsWriteBack = false →
      (s.ccu.state = .latched ∨ s.ccu.state = .seated ∨ s.ccu.state = .absent) →
      s.completes (.spinDown tag) (done .ok)) ∧
    (s.anyLatched = false → s.needsWriteBack = false →
      (s.ccu.state = .latched ∨ s.ccu.state = .seated ∨ s.ccu.state = .absent) →
      s.completes (.flushRecord tag) (done .ok)) ∧
    (s.readyDrive = true → cylinder.toNat ≤ 1223 → s.pos.hold = false →
      s.pos.target = some (cylinder.toNat + 4) → s.completes (.seek tag cylinder) (done .ok)) ∧
    (s.readyDrive = true → cylinder.toNat ≤ 1223 → s.pos.hold = true →
      s.completes (.seek tag cylinder) (done .seekFailed)) ∧
    (s.anyLatched = true → s.ccu.state = .latched → cylinder.toNat ≤ 1223 →
      s.completes (.seek tag cylinder) (done .faulted)) ∧
    (s.anyLatched = false → s.spindleReady = false → s.tbs.params.autoSpin = false →
      s.ccu.state = .latched → cylinder.toNat ≤ 1223 →
      s.completes (.seek tag cylinder) (done .notReady))

/-- A SEEK and a SPIN DOWN that begin their own work at once (R51, R79, R92). -/
def Obligations.HeadsAndDiskMove : Prop :=
  ∀ (s : State) (tag : Byte) (cylinder : BitVec 16) (target : Nat) (f : Fix),
    s.listens = true → s.calm = true → s.readyDrive = true → tag ≠ 0 →
    s.pos.fix = some f → s.pos.target = some target →
    (cylinder.toNat ≤ 1223 → target ≠ cylinder.toNat + 4 → s.pos.hold = false →
      withinHalfTrack (cylinder.toNat + 4) f.position = false →
      isClamped s.tbs.profile (seekRaw s.tbs.profile (cylinder.toNat + 4) f.position f.velocity)
        = false →
      s.completes (.seek tag cylinder) fun t =>
        t.queue = [⟨tag, .seek cylinder.toNat, true⟩] ∧ t.pos.state = .seeking ∧
        t.pos.target = some (cylinder.toNat + 4) ∧ t.pos.head = s.pos.head ∧
        t.pos.timerOn = true ∧ t.pos.timerCount = 0 ∧
        t.pos.timerLength = s.tbs.params.seekTimeout ∧ t.pos.requester = .seekCommand ∧
        t.pos.current = seekRaw s.tbs.profile (cylinder.toNat + 4) f.position f.velocity ∧
        t.dbi.replies = s.dbi.replies ++ [.reply tag .queued .empty] ∧ t.spc = s.spc ∧
        t.tbs = s.tbs ∧ t.record = s.record ∧ t.slots = s.slots ∧ t.counters = s.counters) ∧
    (s.needsWriteBack = false → s.pos.parkSensor = false →
      s.completes (.spinDown tag) fun t =>
        t.queue = [⟨tag, .spinDown, true⟩] ∧ t.pos.state = .unloading ∧ t.spc = s.spc ∧
        t.downs.cmd = some .unload ∧ t.ccu = s.ccu ∧
        t.dbi.replies = s.dbi.replies ++ [.reply tag .queued .empty] ∧ t.tbs = s.tbs ∧
        t.record.state = s.record.state ∧ t.record.image = s.record.image ∧ t.slots = s.slots ∧
        t.counters = s.counters)

/-- A READ, WRITE or VERIFY that finds the drive ready starts its transfer (R99, R102, R103, R105): the
entry is EXECUTING, the cursor stands at its first block with empty tallies, and the engine waits for the
heads or for the sector. SPIN UP latches a SEATED cartridge and starts a stopped disk (R37, R39, R49, R123).
FLUSH RECORD of a DIRTY record starts a write-back of the next generation (R10, R12). What the heads do on
the way there: the first valid sample of a load begins SETTLING on its cylinder (R63), a sample in SETTLING
half a track away from the target is an overshoot and SEEKING begins again (R66), and a clamped seek
computation holds the current at the limit and counts one ACTUATOR_SATURATION observation (R84); drops that
reach the deglitch count are SERVO_LOST, a REPORTED record under REPORT (R60, R86, R145). A load that a work
of SPIN UP waits for (R49, R62 to R64): its first sample, its timeout, after which the load is pending
again, and its arrival in TRACKING, where SPIN UP completes or the record read begins (R5, R50). -/
def Obligations.WorksBegin : Prop :=
  (∀ (s : State) (i : Instr) (tag : Byte) (k : XferKind) (go : Bool) (l : List Extent) (img : Image)
    (b n : Nat) (rest : List Extent),
    mediumOf i = some (tag, .xfer k go l) → packetFramed i = true → s.listens = true →
    s.calm = true → s.readyDrive = true → s.ccu.protect = false → s.pos.hold = false →
    s.record.state = .valid → s.record.image = some img → img.sound → extentsBad l = false →
    pastCapacity (capacityOf img.zones) l = false → l = ⟨b, n⟩ :: rest →
    2 ≤ s.tbs.actions.actuatorSaturation.deglitch → s.pos.clampCount = 0 →
    s.completes i fun t =>
      t.queue = [⟨tag, .xfer k go l, true⟩] ∧ t.job = .transfer ∧
      (t.eng.state = .seekWait ∨ t.eng.state = .rotateWait) ∧
      t.eng.place = translation img b ∧ t.eng.extent = 0 ∧ t.eng.block = 0 ∧ t.eng.seq = 0 ∧
      t.eng.completed = 0 ∧ t.eng.errors = 0 ∧ t.eng.slips = 0 ∧ t.eng.retry = 0 ∧
      (∀ p, translation img b = some p → t.pos.target = some p.cylinder ∧ t.pos.head = p.head) ∧
      t.dbi.replies = s.dbi.replies ++ [.reply tag .queued .empty] ∧ t.slots = s.slots ∧
      t.spc = s.spc ∧ t.ccu = s.ccu ∧ t.record = s.record ∧ t.tbs = s.tbs ∧
      t.counters = s.counters) ∧
  (∀ (s : State) (tag : Byte) (img : Image),
    s.listens = true → s.calm = true → tag ≠ 0 → s.anyLatched = false → s.retryWait = false →
    ((s.ccu.state = .seated ∨ s.ccu.state = .latched) → s.atRest = true →
      s.completes (.spinUp tag) fun t =>
        t.queue = [⟨tag, .spinUp, true⟩] ∧ t.ccu.state = .latched ∧
        (s.ccu.state = .seated → t.ccu.latch = true) ∧ t.spc.state = .starting ∧ t.drive = true ∧
        t.spc.demand = .none ∧ t.spc.revTimer = 0 ∧ t.spc.lastPeriod = 0 ∧ t.spc.lockCount = 0 ∧
        t.spc.firstIndexWatch = some ⟨0, 2000000⟩ ∧
        t.spc.spinUpTimer = some ⟨0, s.tbs.params.spinUpTimeout * 1000000⟩ ∧
        t.spc.revCount = s.spc.revCount ∧ t.pos.state = .unloaded ∧
        t.dbi.replies = s.dbi.replies ++ [.reply tag .queued .empty] ∧ t.slots = s.slots ∧
        t.record = s.record ∧ t.tbs = s.tbs ∧ t.fsv = s.fsv) ∧
    (s.readyDrive = true → s.needsWriteBack = true → s.record.image = some img →
      s.pos.hold = false → 2 ≤ s.tbs.actions.actuatorSaturation.deglitch → s.pos.clampCount = 0 →
      let next := { img with generation := (img.generation + 1) % 65536 }
      s.completes (.flushRecord tag) fun t =>
        t.queue = [⟨tag, .flush, true⟩] ∧ t.job = .flush ∧
        (∃ w, t.record.op = .writing w ∧ w.owner = .cmd ∧ w.generation = next.generation ∧
          w.sectors = sectorsOf 22 (recordBytes next) ∧ w.next = 0 ∧ w.deferrals = 0) ∧
        t.record.state = .dirty ∧ t.record.image = some img ∧ t.pos.target = some 0 ∧
        t.pos.head = 0 ∧ t.dbi.replies = s.dbi.replies ++ [.reply tag .queued .empty] ∧
        t.spc = s.spc ∧ t.ccu = s.ccu ∧ t.tbs = s.tbs ∧ t.counters = s.counters)) ∧
  (∀ (s : State) (c h target : Nat) (pes : Int) (f : Fix),
    s.calm = true → s.spc.state = .atSpeed → s.pos.window = .waiting → s.pos.head = h →
    -128 ≤ pes → pes ≤ 127 →
    (s.pos.state = .loading → s.pos.fix = none → 1 < s.tbs.params.settleCount →
      s.completes (.servoSample true c h pes) fun t =>
        t.pos.state = .settling ∧ t.pos.target = some c ∧ t.pos.timerOn = s.pos.timerOn ∧
        t.pos.settleCount = (if pes.natAbs ≤ s.tbs.params.settleWindow then 1 else 0) ∧
        t.pos.fix = some ⟨c, pes, c * 256 + pes, c * 256 + pes, 0, 1⟩ ∧
        t.pos.current = clampTo s.tbs.profile.ilim (-Int.tdiv (s.tbs.profile.kp * pes) 16) ∧
        s.keepsHost t ∧ t.spc = s.spc ∧ t.ccu = s.ccu ∧ t.counters = s.counters) ∧
    (s.pos.state = .settling → s.pos.hold = false → s.pos.target = some target → s.pos.fix = some f →
      128 < ((target : Int) * 256 - (c * 256 + pes)).natAbs → s.pos.clampCount = 0 →
      1 < s.tbs.actions.actuatorSaturation.deglitch →
      s.completes (.servoSample true c h pes) fun t =>
        t.pos.state = .seeking ∧ t.pos.target = some target ∧ t.pos.timerOn = true ∧
        t.pos.timerCount = (if s.pos.timerOn then s.pos.timerCount else 0) ∧
        s.keepsHost t ∧ t.spc = s.spc ∧ t.ccu = s.ccu ∧ t.counters = s.counters) ∧
    ((s.pos.state = .tracking ∨ s.pos.state = .seeking) → s.pos.fix = some f →
      s.tbs.actions.servoLost.deglitch ≤ min 255 (s.pos.dropCount + 1) →
      s.tbs.actions.servoLost.mode = .report → s.recordOf .servoLost = none →
      s.completes (.servoSample false c h pes) fun t =>
        t.fsv.records = s.fsv.records ++ [⟨.servoLost, .reported, none, 1, s.spc.revCount,
          s.spc.revCount, some f.cylinder, .atSpeed, s.pos.state, 0, none⟩] ∧
        t.requested .faultReported = true ∧ (t.fsv.kinds.get .servoLost).present = true ∧
        t.pos = { s.pos with
          fix := some { f with since := min 255 (f.since + 1) }, window := .taken, dropCount := 0 } ∧
        t.counters = { s.counters with sampleDrops := min 65535 (s.counters.sampleDrops + 1) } ∧
        s.keepsHost t ∧ t.spc = s.spc ∧ t.ccu = s.ccu) ∧
    (s.pos.state = .seeking → s.pos.target = some target → s.pos.fix = some f →
      128 < ((target : Int) * 256 - (c * 256 + pes)).natAbs →
      let p : Int := c * 256 + pes
      let raw := seekRaw s.tbs.profile target p (Int.tdiv (p - f.previous) f.since)
      s.tbs.profile.ilim < raw.natAbs →
      s.completes (.servoSample true c h pes) fun t =>
        let limit := if 0 < raw then (s.tbs.profile.ilim : Int) else -s.tbs.profile.ilim
        (s.pos.clampCount + 1 < s.tbs.actions.actuatorSaturation.deglitch →
          t.pos.current = limit ∧ t.pos.clampCount = s.pos.clampCount + 1 ∧
          t.pos.state = .seeking ∧ t.fsv.records = s.fsv.records) ∧
        (s.tbs.actions.actuatorSaturation.deglitch ≤ s.pos.clampCount + 1 →
          s.tbs.actions.actuatorSaturation.mode = .report →
          s.recordOf .actuatorSaturation = none →
          t.pos.current = limit ∧ t.pos.clampCount = 0 ∧ t.pos.state = .seeking ∧
          (t.fsv.kinds.get .actuatorSaturation).present = true ∧
          t.fsv.records = s.fsv.records ++ [⟨.actuatorSaturation, .reported, none, 1,
            s.spc.revCount, s.spc.revCount, some c, .atSpeed, .seeking, 0, none⟩] ∧
          t.requested .faultReported = true))) ∧
  (∀ (s : State) (tag : Byte) (c h : Nat) (pes : Int),
    { s.withdrawLoads with work := none, queue := [], job := .idle }.calm = true →
    s.work = some ⟨.heads, true, false, false, false, false, none⟩ →
    s.queue = [⟨tag, .spinUp, true⟩] → s.job = .work → s.spc.state = .atSpeed →
    s.ccu.state = .latched → s.pos.loadByWork = true → -128 ≤ pes → pes ≤ 127 →
    (∀ x ∈ s.slots, x.tag ≠ some tag) →
    let done := fun (st : Status) (t : State) =>
      t.dbi.replies = s.dbi.replies ++ [.done tag st 0 0 0 none none] ∧ t.queue = [] ∧
      t.work = none ∧ t.job = .idle ∧ t.pos.state = .tracking ∧ t.pos.target = some c ∧
      t.pendingLoad = false ∧ t.requested .commandDone = true ∧ t.record = s.record ∧
      t.slots = s.slots ∧ t.tbs = s.tbs
    let waits := fun (t : State) => t.work = s.work ∧ t.pos.loadByWork = true ∧ s.keepsHost t ∧
      t.spc = s.spc ∧ t.ccu = s.ccu
    (s.pos.state = .loading → s.pos.fix = none → s.pos.window = .waiting → s.pos.head = h →
      1 < s.tbs.params.settleCount →
      s.completes (.servoSample true c h pes) fun t =>
        t.pos.state = .settling ∧ t.pos.target = some c ∧
        t.pos.settleCount = (if pes.natAbs ≤ s.tbs.params.settleWindow then 1 else 0) ∧ waits t) ∧
    (s.pos.state = .loading → 128 ≤ s.pos.loadWindows → s.pos.parkSensor = false →
      s.recordOf .servoLost = none → s.tbs.actions.servoLost.mode = .report →
      s.completes .loadTimeout fun t =>
        t.pos.state = .unloading ∧ t.pos.phase = .toRamp ∧ waits t) ∧
    (s.pos.state = .settling → s.pos.target = some c → s.pos.window = .waiting →
      s.pos.head = h → pes.natAbs ≤ s.tbs.params.settleWindow →
      s.tbs.params.settleCount ≤ s.pos.settleCount + 1 →
      s.completes (.servoSample true c h pes) fun t =>
        ((s.record.state = .valid ∨ s.record.state = .dirty) → done .ok t) ∧
        (s.record.state = .unreadable → done .recordUnreadable t) ∧
        (s.record.state = .notRead → s.pos.hold = false → s.pos.clampCount = 0 →
          1 < s.tbs.actions.actuatorSaturation.deglitch →
          t.record = { s.record with
            op := .reading ⟨List.replicate 22 none, List.replicate 22 0⟩ } ∧
          t.pos.target = some 0 ∧ t.pos.head = 0 ∧ t.queue = s.queue ∧
          t.work = some ⟨.record, true, false, false, false, false, none⟩ ∧ t.dbi = s.dbi)))

/-! ## Immediate commands -/

/-- ABORT (R114): no entry, a mode outside its set (R178), a WAITING entry behind an EXECUTING one, and the
EXECUTING SEEK, whose seek runs on with no requester (R93). An EXECUTING READ, WRITE or VERIFY (R115, R116):
with no sector in flight it ends at once; in mode SECTOR_END a sector in flight runs to its end, a written
or verified block counted, and the command ends then; in mode IMMEDIATE the sector is abandoned, or cut and
its LBA reported as damaged; its slots are EMPTY then. That target tag 0 is answered NO_SUCH_TAG like any
other tag of no entry is the model's reading (log 34). So is that the ABORT takes the place of a pending ending
by a fault (log 24), and its choice that it takes the place of one by an eject CUT (log 74). -/
def Obligations.AbortAnswers : Prop :=
  (∀ (s : State) (tag target mode : Byte) (e x : Entry) (rest : List Entry),
    s.listens = true → tag ≠ 0 →
    (1 < mode.toNat → exec (.abort tag target mode) s = .next (s.withReply tag .badPacket .empty)) ∧
    (mode.toNat ≤ 1 → (∀ y ∈ s.queue, y.tag ≠ target) →
      exec (.abort tag target mode) s = .next (s.withReply tag .noSuchTag .empty)) ∧
    (mode.toNat ≤ 1 → s.settled = true → s.queue = e :: rest → e.executing = true →
      e.tag ≠ target → x ∈ rest → x.tag = target → (∀ y ∈ rest, y.executing = false) →
      (∀ y ∈ rest, y.tag = target → y = x) →
      s.completes (.abort tag target mode) fun t =>
        t.dbi.replies = s.dbi.replies ++
          [.reply tag .ok .empty, .done target .aborted 0 0 0 none none] ∧
        t.queue = s.queue.filter (fun y => y.tag != target) ∧ t.requested .commandDone = true ∧
        t.eng = s.eng ∧ t.slots = s.slots ∧ t.pos = s.pos ∧ t.ccu = s.ccu ∧
        t.record = s.record ∧ t.tbs = s.tbs ∧ t.fsv = s.fsv ∧ t.counters = s.counters) ∧
    (mode.toNat ≤ 1 → s.settled = true → s.supplyLow = false → s.queue = [e] →
      e.executing = true → e.tag = target → s.job = .seeking → s.work = none →
      s.downs = ⟨none, none, none, false⟩ → s.ccu.eject = none → s.record.op = .idle →
      s.record.readWanted = false → s.pos.requester = .seekCommand → s.eng = Engine.none →
      s.completes (.abort tag target mode) fun t =>
        t.dbi.replies = s.dbi.replies ++
          [.reply tag .ok .empty, .done target .aborted 0 0 0 none none] ∧
        t.queue = [] ∧ t.pos = { s.pos with requester := .none } ∧ t.tbs = s.tbs ∧
        t.record = s.record ∧ t.counters = s.counters)) ∧
  (∀ (s : State) (tag target mode : Byte) (k : XferKind) (go sp : Bool) (l : List Extent) (i : Nat)
    (x : Slot) (data : List Byte),
    s.settled = true → s.supplyLow = false → s.dbi.turn = true → s.dbi.inb = .idle →
    s.queue = [⟨target, .xfer k go l, true⟩] → s.job = .transfer → s.work = none →
    s.downs = ⟨none, none, none, false⟩ → s.ccu.eject = none → s.record.op = .idle →
    s.record.readWanted = false →
    (∀ j y, s.slots[j]? = some y → y.tag = some target → s.eng.flight.bind Flight.slot ≠ some j →
      y.state = .full) →
    let gone := s.slots.map fun y => if y.tag = some target then Slot.none else y
    let ended := fun (before : List Packet) (n : Nat) (damaged : Option Nat) (t : State) =>
      t.dbi.replies = s.dbi.replies ++ before ++
        [.done target .aborted n s.eng.errors s.eng.slips s.eng.firstError damaged] ∧
      t.queue = [] ∧ t.eng = Engine.none ∧ t.slots = gone ∧ t.endWith = none ∧
      t.pos = { s.pos with requester := .none } ∧ t.requested .commandDone = true ∧
      t.tbs = s.tbs ∧ t.record = s.record ∧ t.counters = s.counters ∧ t.ccu = s.ccu
    let ok : List Packet := [.reply tag .ok .empty]
    (s.listens = true → tag ≠ 0 → mode.toNat ≤ 1 → s.eng.flight = none →
      s.completes (.abort tag target mode) (ended ok s.eng.completed s.eng.damaged)) ∧
    (s.listens = true → tag ≠ 0 → s.ownFlight = true →
      exec (.abort tag target 0) s =
        .next { s.withReply tag .ok .empty with endWith := some .aborted }) ∧
    (s.endWith = some .aborted →
      (k = .write ∧ s.eng.flight = some ⟨.write, some i, sp, false⟩ ∧ s.slots[i]? = some x ∧
          x.tag = some target ∨
        k = .verify ∧ s.eng.flight = some ⟨.verify, none, false, false⟩) →
      s.completes (.sectorEnd true data) (ended [] (s.eng.completed + 1) s.eng.damaged)) ∧
    (s.listens = true → tag ≠ 0 → k = .verify → s.eng.flight = some ⟨.verify, none, sp, false⟩ →
      s.completes (.abort tag target 1) (ended ok s.eng.completed s.eng.damaged)) ∧
    (s.listens = true → tag ≠ 0 → s.slots[i]? = some x → x.tag = some target →
      (k = .read → s.eng.flight = some ⟨.read, some i, sp, false⟩ →
        s.completes (.abort tag target 1) (ended ok s.eng.completed s.eng.damaged)) ∧
      (k = .write → s.eng.flight = some ⟨.write, some i, sp, false⟩ →
        s.completes (.abort tag target 1) (ended ok s.eng.completed (some x.lba)))))

/-- EJECT (R131, R132, R138): its checks in order; a SEATED cartridge is pushed out at once; a LATCHED one
on a ready drive with a clean record goes through the phases as far as the unload. An EJECT merges with an
eject in progress, whose mode and force it can only raise. With mode CUT (R117) the entries complete
EJECT_ABORTED: the WAITING ones at once and in order, the EXECUTING transfer first when it has no sector in
flight, else at the sector's end. An EJECT that meets the unload of the internal spin-down of standby ends
the spin-down (R54): the work runs on and the head entry begins, with the work of SPIN UP it needs (the
model's reading of R54 beside R132, log 30). That the CUT takes the place of a pending ending by a fault is its
reading (log 24), and that it takes the place of one by an ABORT its choice (log 74). -/
def Obligations.EjectAnswers : Prop :=
  (∀ (s : State) (tag mode force : Byte) (e : EjectRecord),
    s.listens = true → tag ≠ 0 →
    let i : Instr := .eject tag mode force
    ((1 < mode.toNat ∨ 1 < force.toNat) → exec i s = .next (s.withReply tag .badPacket .empty)) ∧
    (mode.toNat ≤ 1 → force.toNat ≤ 1 → s.ccu.eject = none → s.ccu.state = .absent →
      exec i s = .next (s.withReply tag .noCartridge .empty)) ∧
    (mode.toNat ≤ 1 → force.toNat ≤ 1 → s.ccu.eject = some e → 4 ≤ e.tags.length →
      exec i s = .next (s.withReply tag .ejectInProgress .empty)) ∧
    (mode.toNat ≤ 1 → force = 0 → s.ccu.eject = none → s.ccu.state ≠ .absent →
      0 < s.ccu.holdCount → exec i s = .next (s.withReply tag .ejectHeld .empty)) ∧
    (mode.toNat ≤ 1 → (force = 1 ∨ force = 0 ∧ s.ccu.holdCount = 0) → s.calm = true →
      s.ccu.state = .seated →
      s.completes i fun t =>
        t.ccu.state = .ejecting ∧ t.ccu.latch = false ∧ t.ccu.ejector = true ∧
        t.ccu.ejectWindow = some ⟨0, 2000000⟩ ∧ t.ccu.holdCount = s.ccu.holdCount ∧
        t.ccu.eject.map EjectRecord.tags = some [tag] ∧
        t.dbi.replies = s.dbi.replies ++ [.reply tag .queued .empty] ∧ t.queue = s.queue ∧
        t.spc = s.spc ∧ t.pos = s.pos ∧ t.record = s.record ∧ t.tbs = s.tbs) ∧
    (mode.toNat ≤ 1 → force = 0 → s.calm = true → s.readyDrive = true → s.ccu.holdCount = 0 →
      s.needsWriteBack = false → s.pos.parkSensor = false →
      s.completes i fun t =>
        t.ccu.state = .ejectPending ∧ t.ccu.latch = s.ccu.latch ∧
        t.ccu.eject.bind EjectRecord.phase = some .unloading ∧
        t.ccu.eject.map EjectRecord.tags = some [tag] ∧ t.pos.state = .unloading ∧
        t.spc.state = .atSpeed ∧
        t.dbi.replies = s.dbi.replies ++ [.reply tag .queued .empty] ∧ t.queue = s.queue ∧
        t.record.state = s.record.state ∧ t.record.image = s.record.image ∧ t.tbs = s.tbs) ∧
    (mode.toNat ≤ 1 → force.toNat ≤ 1 → s.settled = true → s.ccu.eject = some e →
      e.tags.length < 4 →
      (s.ccu.state = .ejecting → e.phase = none →
        exec i s = .next { s.withReply tag .queued .empty with
          ccu := { s.ccu with eject := some { e with tags := e.tags ++ [tag] } } }) ∧
      (s.ccu.state = .ejectPending → (e.phase = some .unloading ∨ e.phase = some .stopping) →
        exec i s = .next { s.withReply tag .queued .empty with
          ccu := { s.ccu with eject := some { e with
            tags := e.tags ++ [tag], mode := if mode = 1 then .cut else e.mode,
            force := e.force || force == 1 } } }))) ∧
  (∀ (s : State) (tag force : Byte) (x : Entry) (k : XferKind) (go : Bool) (l : List Extent)
    (rest : List Entry),
    s.listens = true → tag ≠ 0 → (force = 1 ∨ force = 0 ∧ s.ccu.holdCount = 0) →
    s.settled = true → s.ccu.state = .latched → s.ccu.eject = none → s.queue = x :: rest →
    x.cmd = .xfer k go l → x.executing = true → (∀ y ∈ rest, y.executing = false) →
    (s.queue.map Entry.tag).Nodup → s.job = .transfer → s.work = none →
    s.downs = ⟨none, none, none, false⟩ → s.record.op = .idle → s.record.readWanted = false →
    let dones := rest.map fun y => Packet.done y.tag .ejectAborted 0 0 0 none none
    (s.ownFlight = true →
      s.completes (.eject tag 1 force) fun t =>
        t.dbi.replies = s.dbi.replies ++ [.reply tag .queued .empty] ++ dones ∧ t.queue = [x] ∧
        t.endWith = some .ejectAborted ∧ t.ccu.state = .ejectPending ∧
        t.ccu.eject = some ⟨some .draining, .cut, force == 1, [tag], .undecided⟩ ∧
        t.eng = s.eng ∧ t.slots = s.slots ∧ t.pos = s.pos ∧ t.record = s.record ∧ t.tbs = s.tbs) ∧
    (s.eng.flight = none → s.spc.state = .atSpeed → s.pos.state = .tracking →
      s.pos.parkSensor = false → s.needsWriteBack = false →
      s.completes (.eject tag 1 force) fun t =>
        t.dbi.replies = s.dbi.replies ++ [.reply tag .queued .empty,
          .done x.tag .ejectAborted s.eng.completed s.eng.errors s.eng.slips s.eng.firstError
            s.eng.damaged] ++ dones ∧
        t.queue = [] ∧ t.eng = Engine.none ∧ t.ccu.state = .ejectPending ∧
        t.ccu.eject.bind EjectRecord.phase = some .unloading ∧ t.pos.state = .unloading ∧
        t.requested .commandDone = true ∧ t.record.state = s.record.state ∧
        t.record.image = s.record.image ∧ t.tbs = s.tbs)) ∧
  (∀ (s : State) (tag force : Byte) (x : Entry) (rest : List Entry),
    s.listens = true → tag ≠ 0 → (force = 1 ∨ force = 0 ∧ s.ccu.holdCount = 0) →
    s.settled = true → s.supplyLow = false → s.ccu.state = .latched → s.ccu.eject = none →
    s.downs = ⟨none, some .unload, none, false⟩ → s.spc.state = .atSpeed →
    s.pos.state = .unloading → s.queue = x :: rest → x.executing = false → s.job = .idle →
    s.endWith = none → s.work = none → s.retryWait = false → s.anyLatched = false →
    (x.cmd = .spinUp ∨ s.needsSpindle x.cmd = true ∧ s.tbs.params.autoSpin = true) →
    s.completes (.eject tag 0 force) fun t =>
      t.downs = ⟨none, some .unload, none, true⟩ ∧ t.ccu.state = .ejectPending ∧
      t.ccu.eject = some ⟨some .draining, .drain, force == 1, [tag], .undecided⟩ ∧
      t.queue = { x with executing := true } :: rest ∧ t.job = .work ∧
      t.work = some ⟨.heads, true, false, false, false, false, none⟩ ∧
      t.pos = { s.pos with loadByWork := true } ∧ t.spc = s.spc ∧
      t.dbi.replies = s.dbi.replies ++ [.reply tag .queued .empty] ∧
      t.record = s.record ∧ t.eng = s.eng ∧ t.slots = s.slots ∧ t.tbs = s.tbs ∧
      t.counters = s.counters)

/-- HOLD EJECT and RELEASE EJECT (R129). -/
def Obligations.HoldsCounted : Prop :=
  ∀ (s : State) (tag : Byte),
    s.listens = true → tag ≠ 0 →
    let hold := fun (t : State) => exec (.holdEject tag) s = .next t
    let release := fun (t : State) => exec (.releaseEject tag) s = .next t
    let busy := s.ccu.state = .ejectPending ∨ s.ccu.state = .ejecting
    (s.ccu.state = .absent → hold (s.withReply tag .noCartridge .empty) ∧
      release (s.withReply tag .noCartridge .empty)) ∧
    (busy → hold (s.withReply tag .ejectInProgress .empty)) ∧
    (s.ccu.state ≠ .absent → ¬ busy → s.ccu.holdCount < 15 →
      hold { s.withReply tag .ok .empty with
        ccu := { s.ccu with holdCount := s.ccu.holdCount + 1 } }) ∧
    (s.ccu.state ≠ .absent → ¬ busy → s.ccu.holdCount = 15 →
      hold (s.withReply tag .holdLimit .empty)) ∧
    (s.ccu.state ≠ .absent → s.ccu.holdCount = 0 → release (s.withReply tag .notHeld .empty)) ∧
    (s.ccu.state ≠ .absent → s.ccu.holdCount = 1 →
      release { s.withReply tag .ok .empty with
        ccu := { s.ccu with holdCount := 0, buttonRefused := false } }) ∧
    (s.ccu.state ≠ .absent → 1 < s.ccu.holdCount →
      release { s.withReply tag .ok .empty with
        ccu := { s.ccu with holdCount := s.ccu.holdCount - 1 } })

/-- CLEAR FAULTS and READ FAULTS (R157, R158): REPORTED, RECOVERED and absent LATCHED records are removed,
the others keep their order, the hold flag is cleared; READ FAULTS reports the list and changes nothing. -/
def Obligations.FaultCommands : Prop :=
  ∀ (s : State) (tag : Byte),
    s.listens = true → tag ≠ 0 →
    let left := s.fsv.records.filter fun r => r.state == .retrying ||
      (r.state == .latched && (s.fsv.kinds.get r.kind).present)
    exec (.readFaults tag) s = .next (s.withReply tag .ok (.faults s.fsv.records)) ∧
    (s.calm = true →
      exec (.clearFaults tag) s = .next { s.withReply tag .ok
          (.cleared (s.fsv.records.length - left.length) left.length) with
        fsv := { s.fsv with records := left }, pos := { s.pos with hold := false } })

/-- LOAD TABLE, READ TABLE and TABLE HOLD (R164 to R168). -/
def Obligations.TableCommands : Prop :=
  ∀ (s : State) (tag selector : Byte) (body : List Byte) (copy first value : Nat) (p : DriveParams)
    (n : Nat) (img : Image),
    s.listens = true → tag ≠ 0 →
    let load : Instr := .loadTable tag selector body
    let st := if n = 0 then Status.ok else Status.okClamped
    let b := if n = 0 then ReplyBody.empty else ReplyBody.clamped n
    (packetFramed load = true → tableOf selector body = none →
      exec load s = .next (s.withReply tag .tableInvalid .empty)) ∧
    (packetFramed load = true → tableOf selector body = some (.params p, n) →
      (s.spc.state.powered = true ∨ s.tbs.hold = true) →
      exec load s = .next { s.withReply tag st b with
        tbs := { s.tbs with stagedParams := some p } }) ∧
    (packetFramed load = true → tableOf selector body = some (.params p, n) →
      s.spc.state.powered = false → s.tbs.hold = false → s.supplyLow = false →
      s.completes load fun t => t.tbs.params = p ∧ t.anyStaged = false ∧
        t.tbs.profile = s.tbs.stagedProfile.getD s.tbs.profile ∧
        t.tbs.actions = s.tbs.stagedActions.getD s.tbs.actions ∧
        t.requested .tablesTaken = true ∧ t.dbi.replies = s.dbi.replies ++ [.reply tag st b] ∧
        t.pos.current = clampTo t.tbs.profile.ilim s.pos.current ∧ t.spc = s.spc ∧
        t.queue = s.queue ∧ t.record = s.record) ∧
    (exec (.readTable tag 3 0 (BitVec.ofNat 16 first)) s =
      .next (s.withReply tag .ok (.table (.params s.tbs.params)))) ∧
    (exec (.readTable tag 1 1 (BitVec.ofNat 16 first)) s =
      .next (s.withReply tag .ok (.staged (s.tbs.stagedProfile.map .profile)))) ∧
    (s.record.image = none → 4 ≤ selector.toNat → selector.toNat ≤ 6 → copy ≤ 1 →
      exec (.readTable tag selector (BitVec.ofNat 8 copy) (BitVec.ofNat 16 first)) s =
        .next (s.withReply tag .recordUnreadable .empty)) ∧
    (s.record.image = some img → first < 65536 → copy ≤ 1 →
      let read := fun (x : Byte) => exec (.readTable tag x (BitVec.ofNat 8 copy)
        (BitVec.ofNat 16 first)) s
      read 4 = .next (s.withReply tag .ok (.zones img)) ∧
      read 5 = .next (s.withReply tag .ok (.reassigns img)) ∧
      read 6 = .next (s.withReply tag .ok (.slips img first))) ∧
    ((selector.toNat = 0 ∨ 6 < selector.toNat) →
      exec (.readTable tag selector 0 (BitVec.ofNat 16 first)) s =
        .next (s.withReply tag .badPacket .empty)) ∧
    (exec (.tableHold tag 1) s =
      .next { s.withReply tag .ok .empty with tbs := { s.tbs with hold := true } }) ∧
    ((s.anyStaged = false ∨ s.spc.state.powered = true) →
      exec (.tableHold tag 0) s =
        .next { s.withReply tag .ok .empty with tbs := { s.tbs with hold := false } }) ∧
    (s.tbs.hold = true → s.anyStaged = true → s.spc.state.powered = false →
      s.completes (.tableHold tag 0) fun t =>
        t.tbs = { s.tbs with
          hold := false, profile := s.tbs.stagedProfile.getD s.tbs.profile,
          actions := s.tbs.stagedActions.getD s.tbs.actions,
          params := s.tbs.stagedParams.getD s.tbs.params, stagedProfile := none,
          stagedActions := none, stagedParams := none } ∧
        t.requested .tablesTaken = true ∧
        t.dbi.replies = s.dbi.replies ++ [.reply tag .ok .empty] ∧
        t.pos = { s.pos with current := clampTo t.tbs.profile.ilim s.pos.current } ∧
        t.spc = s.spc ∧ t.queue = s.queue ∧ t.record = s.record ∧ t.fsv = s.fsv ∧ t.ccu = s.ccu) ∧
    (2 ≤ value → value ≤ 255 → exec (.tableHold tag (BitVec.ofNat 8 value)) s =
      .next (s.withReply tag .badPacket .empty))

/-- R170 and R171. LATCH: unlatched named groups capture the values of this event, latched ones keep theirs
and are reported, and CLEAR zeroes the counters when they were captured. READ LATCHED: every latched group
with its values, absent where not latched, and every group unlatched. That the POSITION group holds the
target of a seek in flight too is the model's reading of R78 beside R169 (log 57). -/
def Obligations.SnapshotCommands : Prop :=
  (∀ (s : State) (tag : Byte) (sp po co clear : Bool),
      s.listens = true → tag ≠ 0 →
      let bit := fun (b : Bool) (v : Byte) => if b then v else 0
      let got : Groups := ⟨sp && s.tbs.snapSpindle.isNone, po && s.tbs.snapPosition.isNone,
        co && s.tbs.snapCounters.isNone⟩
      let had : Groups := ⟨sp && s.tbs.snapSpindle.isSome, po && s.tbs.snapPosition.isSome,
        co && s.tbs.snapCounters.isSome⟩
      exec (.latch tag (bit sp 1 + bit po 2 + bit co 4) (bit clear 1)) s =
        .next { s.withReply tag .ok (.latched got had) with
          tbs := { s.tbs with
            snapSpindle := if got.spindle then
              some ⟨s.spc.state, s.spc.lastPeriod, s.spc.revCount⟩ else s.tbs.snapSpindle,
            snapPosition := if got.position then
              some ⟨s.pos.state, s.pos.fix.map Fix.cylinder, s.pos.head, s.pos.fix.map Fix.pes,
                s.pos.current, if s.seekInFlight then s.pos.target else none⟩ else s.tbs.snapPosition,
            snapCounters := if got.counters then some s.counters else s.tbs.snapCounters },
          counters := if clear && got.counters then ⟨0, 0, 0, 0, 0, 0⟩ else s.counters }) ∧
  (∀ (s : State) (tag : Byte),
      s.listens = true → tag ≠ 0 →
      exec (.readLatched tag) s = .next { s.withReply tag .ok
          (.snapshots s.tbs.snapSpindle s.tbs.snapPosition s.tbs.snapCounters) with
        tbs := { s.tbs with snapSpindle := none, snapPosition := none, snapCounters := none } })

/-- STATUS (R172): the values of the event, with the source that an ATTENTION ACK at that event returns and
the target of a seek in flight (R78; the model's reading, log 57), and no request changed. LOAD TABLE (R164,
R165) of each table, as READ TABLE would return it, to a running disk: a body that fails a structural check
is TABLE_INVALID and stages nothing; another is staged with every numeric scalar clamped into its range, and
OK_CLAMPED when one was. That a yes of DRIVE PARAMETERS is sent as 0 is the model's reading of R187 (log
66). -/
def Obligations.StatusAndTableLoads : Prop :=
  (∀ (s : State) (tag : Byte),
    s.listens = true → tag ≠ 0 →
    ∃ r, exec (.status tag) s = .next (s.withReply tag .ok (.status r)) ∧
      r.cartridge = s.ccu.state ∧ r.phase = s.ccu.eject.bind EjectRecord.phase ∧
      r.record = s.record.state ∧ r.reason = s.record.reason ∧ r.protect = s.ccu.protect ∧
      r.holdCount = s.ccu.holdCount ∧ r.buttonRefused = s.ccu.buttonRefused ∧
      r.spindle = s.spc.state ∧ r.positioner = s.pos.state ∧
      r.cylinder = s.pos.fix.map Fix.cylinder ∧ r.head = s.pos.head ∧ r.depth = s.queue.length ∧
      r.executing = s.executing.map Entry.tag ∧
      r.mediaChange = s.ccu.mediaChange ∧ r.cause = s.tbs.resetCause ∧
      r.target = (if s.seekInFlight then s.pos.target else none) ∧
      (∀ k, k ∈ r.latchedKinds ↔ ∃ f, s.recordOf k = some f ∧ f.state = .latched) ∧
      r.source = s.pendingSource ∧ (r.source = none ↔ s.atn = false) ∧
      s.completes (.attentionAck tag) fun t =>
        t.dbi.replies = s.dbi.replies ++ [.reply tag .ok (.source r.source)]) ∧
  (∀ (s : State) (tag : Byte) (p : SeekProfile) (a : FaultActions) (d : DriveParams),
    s.listens = true → tag ≠ 0 → (s.spc.state.powered = true ∨ s.tbs.hold = true) →
    let st := fun (n : Nat) => if n = 0 then Status.ok else Status.okClamped
    let b := fun (n : Nat) => if n = 0 then ReplyBody.empty else ReplyBody.clamped n
    (p.rows.length ≤ 62 → (∀ r ∈ p.rows, r.dist < 65536 ∧ r.speed < 65536) → p.kv ≤ 255 →
      p.kp ≤ 255 → p.ilim < 65536 →
      let i : Instr := .loadTable tag 1 (profileBytes p)
      let good := 2 ≤ p.rows.length ∧ p.rows.length ≤ 16 ∧ p.rows.head? = some ⟨0, 0⟩ ∧
        (∀ r ∈ p.rows, r.dist ≤ 1231 ∧ r.speed ≤ 4095) ∧
        p.rows.Pairwise (fun x y => x.dist < y.dist ∧ x.speed ≤ y.speed)
      let q := { p with kv := max 1 p.kv, kp := max 1 p.kp, ilim := max 1 (min 2047 p.ilim) }
      let n := (if q.kv = p.kv then 0 else 1) + (if q.kp = p.kp then 0 else 1) +
        (if q.ilim = p.ilim then 0 else 1)
      (good → exec i s = .next { s.withReply tag (st n) (b n) with
        tbs := { s.tbs with stagedProfile := some q } }) ∧
      (¬ good → exec i s = .next (s.withReply tag .tableInvalid .empty))) ∧
    ((∀ k r, a.row k = some r → r.deglitch ≤ 255 ∧ r.budget ≤ 255 ∧ r.delay ≤ 255) →
      let i : Instr := .loadTable tag 2 (actionsBytes a)
      let good := ∀ k r, (k = .lostIndex ∨ k = .spindleOvercurrent ∨ k = .unloadFailed) →
        a.row k = some r → r.mode = .retry ∨ r.mode = .latch
      (good → ∃ n q, exec i s = .next { s.withReply tag (st n) (b n) with
          tbs := { s.tbs with stagedActions := some q } } ∧ (n = 0 ↔ q = a) ∧
        ∀ k, q.row k = (a.row k).map fun r => { r with
          deglitch := max 1 r.deglitch, budget := max 1 (min 7 r.budget),
          delay := max 1 r.delay }) ∧
      (¬ good → exec i s = .next (s.withReply tag .tableInvalid .empty))) ∧
    (d.purgeRevs < 65536 → d.spinUpTimeout ≤ 255 → d.stopWindow ≤ 255 → d.standby ≤ 255 →
      d.readRetries ≤ 255 → d.writeRetries ≤ 255 → d.settleWindow ≤ 255 → d.settleCount ≤ 255 →
      d.offTrack ≤ 255 → d.seekTimeout ≤ 255 →
      let q := { d with
        purgeRevs := min 1023 d.purgeRevs, spinUpTimeout := max 5 (min 60 d.spinUpTimeout),
        stopWindow := max 1 (min 16 d.stopWindow), readRetries := min 15 d.readRetries,
        writeRetries := min 15 d.writeRetries, settleWindow := max 1 (min 64 d.settleWindow),
        settleCount := max 1 (min 16 d.settleCount), offTrack := max 1 (min 127 d.offTrack),
        seekTimeout := max 1 d.seekTimeout }
      ∃ n, exec (.loadTable tag 3 (paramsBytes d)) s = .next { s.withReply tag (st n) (b n) with
          tbs := { s.tbs with stagedParams := some q } } ∧ (n = 0 ↔ q = d)))

/-- ATTENTION ACK (R192): the unmasked requested source with the lowest code that outranks every in-service
source is returned; its edge request is cleared, and it joins the in-service set unless auto-end is
set; with none, no set changes. -/
def Obligations.AttentionAcked : Prop :=
  ∀ (s : State) (tag : Byte) (x : Source),
    s.listens = true → tag ≠ 0 →
    let signals := fun (y : Source) => s.requested y = true ∧ y ∉ s.atc.mask ∧
      ∀ z ∈ s.atc.inService, y.code < z.code
    ((∀ y, ¬ signals y) → exec (.attentionAck tag) s =
      .next (s.withReply tag .ok (.source none))) ∧
    (signals x → (∀ y, signals y → x.code ≤ y.code) →
      s.completes (.attentionAck tag) fun t =>
        t.dbi.replies = s.dbi.replies ++ [.reply tag .ok (.source (some x))] ∧
        (∀ y, y ∈ t.atc.requests ↔ y ∈ s.atc.requests ∧ y ≠ x) ∧
        (∀ y, y ∈ t.atc.inService ↔
          y ∈ s.atc.inService ∨ y = x ∧ s.tbs.params.autoEnd = false) ∧
        t.atc.mask = s.atc.mask ∧ t.queue = s.queue ∧ t.spc = s.spc ∧ t.pos = s.pos ∧
        t.fsv = s.fsv ∧ t.tbs = s.tbs ∧ t.ccu = s.ccu ∧ t.slots = s.slots)

/-- END ATTENTION (R193): the named in-service source, or with value 15 the most urgent one, leaves the
in-service set and is reported; 15 is reported when there is none; other values are refused. -/
def Obligations.AttentionEnded : Prop :=
  ∀ (s : State) (tag source : Byte) (x : Source),
    s.listens = true → tag ≠ 0 →
    let after := { s.withReply tag .ok (.source (some x)) with
      atc := { s.atc with inService := s.atc.inService.filter fun y => y != x } }
    (source.toNat = x.code → x ∈ s.atc.inService →
      exec (.endAttention tag source) s = .next after) ∧
    (source.toNat = x.code → x ∉ s.atc.inService →
      exec (.endAttention tag source) s = .next (s.withReply tag .ok (.source none))) ∧
    (source = 15 → x ∈ s.atc.inService → (∀ y ∈ s.atc.inService, x.code ≤ y.code) →
      exec (.endAttention tag source) s = .next after) ∧
    (source = 15 → s.atc.inService = [] →
      exec (.endAttention tag source) s = .next (s.withReply tag .ok (.source none))) ∧
    (11 < source.toNat → source ≠ 15 →
      exec (.endAttention tag source) s = .next (s.withReply tag .badPacket .empty))

/-- SET ATTENTION MASK (R190): bit n masks source n for n from 0 to 11, other bits are ignored, and the
requests and the in-service set stay. -/
def Obligations.MaskSet : Prop :=
  ∀ (s : State) (tag : Byte) (m : BitVec 16),
    s.listens = true → tag ≠ 0 →
    s.completes (.setAttentionMask tag m) fun t =>
      (∀ x, x ∈ t.atc.mask ↔ m.getLsbD x.code = true) ∧
      t.atc.requests = s.atc.requests ∧ t.atc.inService = s.atc.inService ∧
      (m = 4095 → t.atn = false) ∧
      t = { s.withReply tag .ok .empty with atc := { s.atc with mask := t.atc.mask } }

/-! ## Resets and comparators -/

/-- POWER_ON_RESET (R55, R77, R119, R125, R140, R159, R173, R184, R194): every part takes its power-on
values, from any state; a supply-low before it is the reset's cause. -/
def Obligations.PowerOnResets : Prop :=
  ∀ (s : State) (present protect park : Bool),
    s.completes (.powerOnReset present protect park) fun t =>
      t.spc.state = .coasting ∧ t.spc.demand = .coast ∧ t.spc.revCount = 0 ∧
      t.spc.stopWindow = some ⟨0, 1000000⟩ ∧
      t.pos.state = (if park then .unloaded else .retracting) ∧
      t.pos.current = (if park then 0 else -1600) ∧ t.pos.causing = none ∧ t.pos.hold = false ∧
      t.ccu.state = (if present then .stopCheck else .absent) ∧ t.ccu.latch = true ∧
      t.ccu.releasePending = !present ∧ t.ccu.protect = (present && protect) ∧
      t.ccu.mediaChange = 0 ∧ t.record.state = .notRead ∧ t.queue = [] ∧ t.eng = Engine.none ∧
      t.fsv.records = [] ∧ t.tbs.profile = SeekProfile.defaults ∧
      t.tbs.actions = FaultActions.defaults ∧ t.tbs.params = DriveParams.defaults ∧
      t.tbs.resetCause = (if s.supplyLow then .supplyLow else .powerOn) ∧
      t.counters = Counters.zero ∧ t.atc = ⟨[.partReset], [], []⟩ ∧ t.atn = true ∧
      t.dbi.replies = [] ∧ t.supplyLow = false ∧ t.pending = s.pending ∧ t.safe ∧
      t.tablesInLimits

/-- SUPPLY_LOW (R13, R55, R76, R77, R94, R119, R140, R154, R184): the heads retract, the disk coasts with no
output, the record is LATCHED, the queue, the reply queue, the slots, the servo fix and the counts of the
spindle and the Positioner stay (the model's reading, log 46), and no start, no load and no retry delay is
left. A STOPPED disk too is COASTING then (its reading, log 17). No COMMAND packet is taken from then on
(R184), but READ FAULTS and CLEAR FAULTS where the free value lets the fault list be read (R154 against R184,
log 58): READ FAULTS then reports the list, its answer is sent before the kept replies, which stay, and CLEAR
FAULTS leaves the record. OVER_TEMP_SHUTDOWN and its end (R143, R155): a LATCHED record, the heads unload and
the disk coasts with a DYNAMIC brake pending; the end of the report makes the condition absent and nothing
else. A FLUSH RECORD whose work of SPIN UP it ends completes FAULTED or RECORD_WRITE_FAILED, as the free value
says (R99 against R9 and R11, log 15), and the record stays DIRTY. -/
def Obligations.Comparators : Prop :=
  (∀ (s : State),
      s.supplyLow = false → s.recordOf .supplyLow = none →
      s.completes .supplyLow fun t =>
        t.supplyLow = true ∧ t.spc.state = .coasting ∧ t.spc.demand = .coast ∧ t.drive = false ∧
        t.pendingStart = false ∧ t.pendingLoad = false ∧
        (s.pos.state ≠ .unloaded → s.pos.state ≠ .retracting → s.pos.parkSensor = false →
          t.pos.state = .retracting ∧ t.pos.causing = some .supplyLow ∧
          t.pos.current = clampTo s.tbs.profile.ilim (-2047)) ∧
        (s.pos.state = .unloaded → t.pos.state = .unloaded) ∧
        t.latchedKind .supplyLow = true ∧ t.requested .faultLatched = true ∧
        t.retryWait = false ∧ t.queue = s.queue ∧ t.dbi.replies = s.dbi.replies ∧
        t.dbi.inb = .idle ∧ t.dbi.out = .none ∧ t.record.op = .idle ∧
        t.record.state = s.record.state ∧ t.record.image = s.record.image ∧
        t.eng.flight = none ∧ t.slots = s.slots ∧ t.ccu.ejector = false ∧
        t.ccu.state = s.ccu.state ∧ t.ccu.latch = s.ccu.latch ∧ t.tbs = s.tbs ∧
        t.counters = s.counters ∧ t.spc.revCount = s.spc.revCount ∧
        t.spc.lastPeriod = s.spc.lastPeriod ∧ t.spc.lockCount = s.spc.lockCount ∧
        t.spc.purgeCount = s.spc.purgeCount ∧ t.spc.excursionCount = s.spc.excursionCount ∧
        t.spc.overcurrentCount = s.spc.overcurrentCount ∧
        t.spc.noRotationCount = s.spc.noRotationCount ∧
        t.spc.spinUpTimeoutCount = s.spc.spinUpTimeoutCount ∧
        t.spc.lostIndexCount = s.spc.lostIndexCount ∧ t.pos.fix = s.pos.fix ∧
        t.pos.head = s.pos.head ∧ t.pos.hold = s.pos.hold ∧
        t.pos.settleCount = s.pos.settleCount ∧ t.pos.dropCount = s.pos.dropCount ∧
        t.pos.unloadFailedCount = s.pos.unloadFailedCount ∧
        t.pos.seekTimeoutCount = s.pos.seekTimeoutCount ∧
        (∀ i : Instr, commandPayload i ≠ none → readsFaultList i = false → exec i t = .next t) ∧
        ∀ tag : Byte, tag ≠ 0 → s.dbi.turn = true → s.dbi.busReset = false → s.replyFull = false →
          (let u := if Config.faultListReadable then { t with dbi := { t.dbi with
              replies := .reply tag .ok (.faults t.fsv.records) :: s.dbi.replies, answers := 1 } } else t
           exec (.readFaults tag) t = .next u ∧
           ∃ v w, exec (.turnNegated .nothing) u = .next v ∧
             v.dbi.out = (if Config.faultListReadable then .queued else .none) ∧
             exec .outboundPacketAcked v = .next w ∧ w.dbi.out = .none ∧
             w.dbi.replies = s.dbi.replies) ∧
          t.completes (.clearFaults tag) fun u =>
            u.recordOf .supplyLow = t.recordOf .supplyLow ∧ u.requested .faultLatched = true ∧
            (Config.faultListReadable = false → u = t)) ∧
  (∀ (s : State) (k : FaultKind),
      (s.calm = true → s.spc.state = .atSpeed → s.pos.state = .tracking → s.pos.parkSensor = false →
        s.spc.demand = .none → s.recordOf .overTempShutdown = none →
        s.completes .overTempShutdown fun t =>
          t.latchedKind .overTempShutdown = true ∧ t.requested .faultLatched = true ∧
          (t.fsv.kinds.get .overTempShutdown).present = true ∧ t.spc.state = .coasting ∧
          t.spc.demand = .dynamic ∧ t.spc.brakePending = true ∧ t.pos.state = .unloading ∧
          t.ccu = s.ccu ∧ t.dbi = s.dbi ∧ t.queue = s.queue ∧ t.slots = s.slots ∧ t.tbs = s.tbs ∧
          t.record.state = s.record.state ∧ t.record.image = s.record.image) ∧
      s.completes .overTempShutdownCeases (fun t =>
        (t.fsv.kinds.get .overTempShutdown).present = false ∧
        (k ≠ .overTempShutdown → t.fsv.kinds.get k = s.fsv.kinds.get k) ∧
        t = { s with fsv := { s.fsv with kinds := t.fsv.kinds } })) ∧
  (∀ (s : State) (e : Entry) (w : SpinUpWork),
      s.supplyLow = false → s.recordOf .overTempShutdown = none → s.queue = [e] → e.cmd = .flush →
      e.executing = true → s.job = .work → s.endWith = none → s.work = some w → w.forCmd = true →
      s.record.op = .idle → s.needsWriteBack = true → s.ccu.eject = none →
      s.completes .overTempShutdown fun t =>
        t.queue = [] ∧ t.latchedKind .overTempShutdown = true ∧ t.record.state = .dirty ∧
        t.record.image = s.record.image ∧
        t.hasDone e.tag (if Config.flushTakesWorkCode then .faulted else .recordWriteFailed) = true)

/-- BUS_RESET and its release (R118, R140, R173, R183, R194). In every state: the queue is emptied without
DONE packets and the EJECT tags are discarded, the reply queue and the two packets in progress are dropped,
every slot is EMPTY but that of the sector in flight and those of a record operation (R118), which belong to
no command any more, STB and ACK are negated, and nothing is masked or in service. In a calm drive
PART_RESET alone is requested, also when the cleared table-hold flag brings a take, the holds and the
snapshots are cleared, and the mechanism and the record stay. That the take's own request is cleared with
the others (log 41), and that BUS_RESET_RELEASE changes nothing while the line is negated (log 35), are the
model's readings. -/
def Obligations.BusResets : Prop :=
  (∀ (s : State),
    (s.dbi.busReset = true → exec .busReset s = .next s) ∧
    (s.dbi.busReset = false → s.supplyLow = false →
      s.completes .busReset fun t =>
        t.queue = [] ∧ t.dbi.replies = [] ∧ (∀ e ∈ t.ccu.eject, e.tags = []) ∧ t.reserved = 0 ∧
        t.dbi.busReset = true ∧ t.dbi.inb = .idle ∧ t.dbi.out = .none ∧ t.dbi.stb = false ∧
        t.dbi.ack = false ∧ (∀ x ∈ t.slots, x.tag = none) ∧
        (∀ j x, t.slots[j]? = some x → s.eng.flight.bind Flight.slot ≠ some j →
          s.record.op.slot ≠ some j → t.record.op.slot ≠ some j → x = Slot.none) ∧
        t.ccu.holdCount = 0 ∧
        t.ccu.buttonRefused = false ∧ t.tbs.hold = false ∧ t.tbs.resetCause = .busReset ∧
        t.tbs.snapSpindle = none ∧ t.tbs.snapPosition = none ∧ t.tbs.snapCounters = none ∧
        t.requested .partReset = true ∧ t.atc.inService = [] ∧ t.atc.mask = [])) ∧
  (∀ (s : State),
    s.dbi.busReset = false → s.calm = true →
    s.completes .busReset fun t =>
      t.atc = ⟨[.partReset], [], []⟩ ∧ t.spc = s.spc ∧ t.fsv = s.fsv ∧ t.record = s.record ∧
      t.counters = s.counters ∧ t.slots = s.slots.map (fun _ => Slot.none) ∧
      t.ccu = { s.ccu with holdCount := 0, buttonRefused := false } ∧
      let cleared := { s.tbs with hold := false, snapSpindle := none, snapPosition := none,
                                  snapCounters := none, resetCause := .busReset }
      ((s.anyStaged = false ∨ s.spc.state.powered = true) → t.tbs = cleared ∧
        t.pos = { s.pos with requester := .none }) ∧
      (s.anyStaged = true → s.spc.state.powered = false → t.anyStaged = false ∧
        t.tbs.profile = s.tbs.stagedProfile.getD s.tbs.profile ∧
        t.tbs.actions = s.tbs.stagedActions.getD s.tbs.actions ∧
        t.tbs.params = s.tbs.stagedParams.getD s.tbs.params)) ∧
  (∀ (s : State),
    (s.dbi.busReset = false → exec .busResetRelease s = .next s) ∧
    (s.dbi.busReset = true → s.dbi.inb = .idle →
      (s.dbi.turn = true ∨ s.dbi.replies = [] ∧ s.drainSlot = none) →
      exec .busResetRelease s = .next { s with dbi := { s.dbi with busReset := false } }))
end

