-- ==== Sys2Proof/Laws/State.lean ====
section
/-! SUPPORT. What each update of the state does to each field: the named field takes its new value, every
other field stays. One lemma for each pair, true by definition. -/

namespace Sys2Proof.Machine

/-! ## onDbi -/

@[simp] theorem State.onDbi_pending (f : Bus → Bus) (s : State) : (s.onDbi f).pending = s.pending := rfl
@[simp] theorem State.onDbi_dbi (f : Bus → Bus) (s : State) : (s.onDbi f).dbi = f s.dbi := rfl
@[simp] theorem State.onDbi_queue (f : Bus → Bus) (s : State) : (s.onDbi f).queue = s.queue := rfl
@[simp] theorem State.onDbi_job (f : Bus → Bus) (s : State) : (s.onDbi f).job = s.job := rfl
@[simp] theorem State.onDbi_endWith (f : Bus → Bus) (s : State) : (s.onDbi f).endWith = s.endWith := rfl
@[simp] theorem State.onDbi_eng (f : Bus → Bus) (s : State) : (s.onDbi f).eng = s.eng := rfl
@[simp] theorem State.onDbi_slots (f : Bus → Bus) (s : State) : (s.onDbi f).slots = s.slots := rfl
@[simp] theorem State.onDbi_spc (f : Bus → Bus) (s : State) : (s.onDbi f).spc = s.spc := rfl
@[simp] theorem State.onDbi_work (f : Bus → Bus) (s : State) : (s.onDbi f).work = s.work := rfl
@[simp] theorem State.onDbi_downs (f : Bus → Bus) (s : State) : (s.onDbi f).downs = s.downs := rfl
@[simp] theorem State.onDbi_pos (f : Bus → Bus) (s : State) : (s.onDbi f).pos = s.pos := rfl
@[simp] theorem State.onDbi_ccu (f : Bus → Bus) (s : State) : (s.onDbi f).ccu = s.ccu := rfl
@[simp] theorem State.onDbi_record (f : Bus → Bus) (s : State) : (s.onDbi f).record = s.record := rfl
@[simp] theorem State.onDbi_fsv (f : Bus → Bus) (s : State) : (s.onDbi f).fsv = s.fsv := rfl
@[simp] theorem State.onDbi_tbs (f : Bus → Bus) (s : State) : (s.onDbi f).tbs = s.tbs := rfl
@[simp] theorem State.onDbi_counters (f : Bus → Bus) (s : State) : (s.onDbi f).counters = s.counters := rfl
@[simp] theorem State.onDbi_atc (f : Bus → Bus) (s : State) : (s.onDbi f).atc = s.atc := rfl
@[simp] theorem State.onDbi_supplyLow (f : Bus → Bus) (s : State) : (s.onDbi f).supplyLow = s.supplyLow := rfl

/-! ## onEng -/

@[simp] theorem State.onEng_pending (f : Engine → Engine) (s : State) : (s.onEng f).pending = s.pending := rfl
@[simp] theorem State.onEng_dbi (f : Engine → Engine) (s : State) : (s.onEng f).dbi = s.dbi := rfl
@[simp] theorem State.onEng_queue (f : Engine → Engine) (s : State) : (s.onEng f).queue = s.queue := rfl
@[simp] theorem State.onEng_job (f : Engine → Engine) (s : State) : (s.onEng f).job = s.job := rfl
@[simp] theorem State.onEng_endWith (f : Engine → Engine) (s : State) : (s.onEng f).endWith = s.endWith := rfl
@[simp] theorem State.onEng_eng (f : Engine → Engine) (s : State) : (s.onEng f).eng = f s.eng := rfl
@[simp] theorem State.onEng_slots (f : Engine → Engine) (s : State) : (s.onEng f).slots = s.slots := rfl
@[simp] theorem State.onEng_spc (f : Engine → Engine) (s : State) : (s.onEng f).spc = s.spc := rfl
@[simp] theorem State.onEng_work (f : Engine → Engine) (s : State) : (s.onEng f).work = s.work := rfl
@[simp] theorem State.onEng_downs (f : Engine → Engine) (s : State) : (s.onEng f).downs = s.downs := rfl
@[simp] theorem State.onEng_pos (f : Engine → Engine) (s : State) : (s.onEng f).pos = s.pos := rfl
@[simp] theorem State.onEng_ccu (f : Engine → Engine) (s : State) : (s.onEng f).ccu = s.ccu := rfl
@[simp] theorem State.onEng_record (f : Engine → Engine) (s : State) : (s.onEng f).record = s.record := rfl
@[simp] theorem State.onEng_fsv (f : Engine → Engine) (s : State) : (s.onEng f).fsv = s.fsv := rfl
@[simp] theorem State.onEng_tbs (f : Engine → Engine) (s : State) : (s.onEng f).tbs = s.tbs := rfl
@[simp] theorem State.onEng_counters (f : Engine → Engine) (s : State) : (s.onEng f).counters = s.counters := rfl
@[simp] theorem State.onEng_atc (f : Engine → Engine) (s : State) : (s.onEng f).atc = s.atc := rfl
@[simp] theorem State.onEng_supplyLow (f : Engine → Engine) (s : State) : (s.onEng f).supplyLow = s.supplyLow := rfl

/-! ## onSpc -/

@[simp] theorem State.onSpc_pending (f : Spindle → Spindle) (s : State) : (s.onSpc f).pending = s.pending := rfl
@[simp] theorem State.onSpc_dbi (f : Spindle → Spindle) (s : State) : (s.onSpc f).dbi = s.dbi := rfl
@[simp] theorem State.onSpc_queue (f : Spindle → Spindle) (s : State) : (s.onSpc f).queue = s.queue := rfl
@[simp] theorem State.onSpc_job (f : Spindle → Spindle) (s : State) : (s.onSpc f).job = s.job := rfl
@[simp] theorem State.onSpc_endWith (f : Spindle → Spindle) (s : State) : (s.onSpc f).endWith = s.endWith := rfl
@[simp] theorem State.onSpc_eng (f : Spindle → Spindle) (s : State) : (s.onSpc f).eng = s.eng := rfl
@[simp] theorem State.onSpc_slots (f : Spindle → Spindle) (s : State) : (s.onSpc f).slots = s.slots := rfl
@[simp] theorem State.onSpc_spc (f : Spindle → Spindle) (s : State) : (s.onSpc f).spc = f s.spc := rfl
@[simp] theorem State.onSpc_work (f : Spindle → Spindle) (s : State) : (s.onSpc f).work = s.work := rfl
@[simp] theorem State.onSpc_downs (f : Spindle → Spindle) (s : State) : (s.onSpc f).downs = s.downs := rfl
@[simp] theorem State.onSpc_pos (f : Spindle → Spindle) (s : State) : (s.onSpc f).pos = s.pos := rfl
@[simp] theorem State.onSpc_ccu (f : Spindle → Spindle) (s : State) : (s.onSpc f).ccu = s.ccu := rfl
@[simp] theorem State.onSpc_record (f : Spindle → Spindle) (s : State) : (s.onSpc f).record = s.record := rfl
@[simp] theorem State.onSpc_fsv (f : Spindle → Spindle) (s : State) : (s.onSpc f).fsv = s.fsv := rfl
@[simp] theorem State.onSpc_tbs (f : Spindle → Spindle) (s : State) : (s.onSpc f).tbs = s.tbs := rfl
@[simp] theorem State.onSpc_counters (f : Spindle → Spindle) (s : State) : (s.onSpc f).counters = s.counters := rfl
@[simp] theorem State.onSpc_atc (f : Spindle → Spindle) (s : State) : (s.onSpc f).atc = s.atc := rfl
@[simp] theorem State.onSpc_supplyLow (f : Spindle → Spindle) (s : State) : (s.onSpc f).supplyLow = s.supplyLow := rfl

/-! ## onDowns -/

@[simp] theorem State.onDowns_pending (f : Downs → Downs) (s : State) : (s.onDowns f).pending = s.pending := rfl
@[simp] theorem State.onDowns_dbi (f : Downs → Downs) (s : State) : (s.onDowns f).dbi = s.dbi := rfl
@[simp] theorem State.onDowns_queue (f : Downs → Downs) (s : State) : (s.onDowns f).queue = s.queue := rfl
@[simp] theorem State.onDowns_job (f : Downs → Downs) (s : State) : (s.onDowns f).job = s.job := rfl
@[simp] theorem State.onDowns_endWith (f : Downs → Downs) (s : State) : (s.onDowns f).endWith = s.endWith := rfl
@[simp] theorem State.onDowns_eng (f : Downs → Downs) (s : State) : (s.onDowns f).eng = s.eng := rfl
@[simp] theorem State.onDowns_slots (f : Downs → Downs) (s : State) : (s.onDowns f).slots = s.slots := rfl
@[simp] theorem State.onDowns_spc (f : Downs → Downs) (s : State) : (s.onDowns f).spc = s.spc := rfl
@[simp] theorem State.onDowns_work (f : Downs → Downs) (s : State) : (s.onDowns f).work = s.work := rfl
@[simp] theorem State.onDowns_downs (f : Downs → Downs) (s : State) : (s.onDowns f).downs = f s.downs := rfl
@[simp] theorem State.onDowns_pos (f : Downs → Downs) (s : State) : (s.onDowns f).pos = s.pos := rfl
@[simp] theorem State.onDowns_ccu (f : Downs → Downs) (s : State) : (s.onDowns f).ccu = s.ccu := rfl
@[simp] theorem State.onDowns_record (f : Downs → Downs) (s : State) : (s.onDowns f).record = s.record := rfl
@[simp] theorem State.onDowns_fsv (f : Downs → Downs) (s : State) : (s.onDowns f).fsv = s.fsv := rfl
@[simp] theorem State.onDowns_tbs (f : Downs → Downs) (s : State) : (s.onDowns f).tbs = s.tbs := rfl
@[simp] theorem State.onDowns_counters (f : Downs → Downs) (s : State) : (s.onDowns f).counters = s.counters := rfl
@[simp] theorem State.onDowns_atc (f : Downs → Downs) (s : State) : (s.onDowns f).atc = s.atc := rfl
@[simp] theorem State.onDowns_supplyLow (f : Downs → Downs) (s : State) : (s.onDowns f).supplyLow = s.supplyLow := rfl

/-! ## onPos -/

@[simp] theorem State.onPos_pending (f : Positioner → Positioner) (s : State) : (s.onPos f).pending = s.pending := rfl
@[simp] theorem State.onPos_dbi (f : Positioner → Positioner) (s : State) : (s.onPos f).dbi = s.dbi := rfl
@[simp] theorem State.onPos_queue (f : Positioner → Positioner) (s : State) : (s.onPos f).queue = s.queue := rfl
@[simp] theorem State.onPos_job (f : Positioner → Positioner) (s : State) : (s.onPos f).job = s.job := rfl
@[simp] theorem State.onPos_endWith (f : Positioner → Positioner) (s : State) : (s.onPos f).endWith = s.endWith := rfl
@[simp] theorem State.onPos_eng (f : Positioner → Positioner) (s : State) : (s.onPos f).eng = s.eng := rfl
@[simp] theorem State.onPos_slots (f : Positioner → Positioner) (s : State) : (s.onPos f).slots = s.slots := rfl
@[simp] theorem State.onPos_spc (f : Positioner → Positioner) (s : State) : (s.onPos f).spc = s.spc := rfl
@[simp] theorem State.onPos_work (f : Positioner → Positioner) (s : State) : (s.onPos f).work = s.work := rfl
@[simp] theorem State.onPos_downs (f : Positioner → Positioner) (s : State) : (s.onPos f).downs = s.downs := rfl
@[simp] theorem State.onPos_pos (f : Positioner → Positioner) (s : State) : (s.onPos f).pos = f s.pos := rfl
@[simp] theorem State.onPos_ccu (f : Positioner → Positioner) (s : State) : (s.onPos f).ccu = s.ccu := rfl
@[simp] theorem State.onPos_record (f : Positioner → Positioner) (s : State) : (s.onPos f).record = s.record := rfl
@[simp] theorem State.onPos_fsv (f : Positioner → Positioner) (s : State) : (s.onPos f).fsv = s.fsv := rfl
@[simp] theorem State.onPos_tbs (f : Positioner → Positioner) (s : State) : (s.onPos f).tbs = s.tbs := rfl
@[simp] theorem State.onPos_counters (f : Positioner → Positioner) (s : State) : (s.onPos f).counters = s.counters := rfl
@[simp] theorem State.onPos_atc (f : Positioner → Positioner) (s : State) : (s.onPos f).atc = s.atc := rfl
@[simp] theorem State.onPos_supplyLow (f : Positioner → Positioner) (s : State) : (s.onPos f).supplyLow = s.supplyLow := rfl

/-! ## onCcu -/

@[simp] theorem State.onCcu_pending (f : Cartridge → Cartridge) (s : State) : (s.onCcu f).pending = s.pending := rfl
@[simp] theorem State.onCcu_dbi (f : Cartridge → Cartridge) (s : State) : (s.onCcu f).dbi = s.dbi := rfl
@[simp] theorem State.onCcu_queue (f : Cartridge → Cartridge) (s : State) : (s.onCcu f).queue = s.queue := rfl
@[simp] theorem State.onCcu_job (f : Cartridge → Cartridge) (s : State) : (s.onCcu f).job = s.job := rfl
@[simp] theorem State.onCcu_endWith (f : Cartridge → Cartridge) (s : State) : (s.onCcu f).endWith = s.endWith := rfl
@[simp] theorem State.onCcu_eng (f : Cartridge → Cartridge) (s : State) : (s.onCcu f).eng = s.eng := rfl
@[simp] theorem State.onCcu_slots (f : Cartridge → Cartridge) (s : State) : (s.onCcu f).slots = s.slots := rfl
@[simp] theorem State.onCcu_spc (f : Cartridge → Cartridge) (s : State) : (s.onCcu f).spc = s.spc := rfl
@[simp] theorem State.onCcu_work (f : Cartridge → Cartridge) (s : State) : (s.onCcu f).work = s.work := rfl
@[simp] theorem State.onCcu_downs (f : Cartridge → Cartridge) (s : State) : (s.onCcu f).downs = s.downs := rfl
@[simp] theorem State.onCcu_pos (f : Cartridge → Cartridge) (s : State) : (s.onCcu f).pos = s.pos := rfl
@[simp] theorem State.onCcu_ccu (f : Cartridge → Cartridge) (s : State) : (s.onCcu f).ccu = f s.ccu := rfl
@[simp] theorem State.onCcu_record (f : Cartridge → Cartridge) (s : State) : (s.onCcu f).record = s.record := rfl
@[simp] theorem State.onCcu_fsv (f : Cartridge → Cartridge) (s : State) : (s.onCcu f).fsv = s.fsv := rfl
@[simp] theorem State.onCcu_tbs (f : Cartridge → Cartridge) (s : State) : (s.onCcu f).tbs = s.tbs := rfl
@[simp] theorem State.onCcu_counters (f : Cartridge → Cartridge) (s : State) : (s.onCcu f).counters = s.counters := rfl
@[simp] theorem State.onCcu_atc (f : Cartridge → Cartridge) (s : State) : (s.onCcu f).atc = s.atc := rfl
@[simp] theorem State.onCcu_supplyLow (f : Cartridge → Cartridge) (s : State) : (s.onCcu f).supplyLow = s.supplyLow := rfl

/-! ## onRec -/

@[simp] theorem State.onRec_pending (f : RecordUnit → RecordUnit) (s : State) : (s.onRec f).pending = s.pending := rfl
@[simp] theorem State.onRec_dbi (f : RecordUnit → RecordUnit) (s : State) : (s.onRec f).dbi = s.dbi := rfl
@[simp] theorem State.onRec_queue (f : RecordUnit → RecordUnit) (s : State) : (s.onRec f).queue = s.queue := rfl
@[simp] theorem State.onRec_job (f : RecordUnit → RecordUnit) (s : State) : (s.onRec f).job = s.job := rfl
@[simp] theorem State.onRec_endWith (f : RecordUnit → RecordUnit) (s : State) : (s.onRec f).endWith = s.endWith := rfl
@[simp] theorem State.onRec_eng (f : RecordUnit → RecordUnit) (s : State) : (s.onRec f).eng = s.eng := rfl
@[simp] theorem State.onRec_slots (f : RecordUnit → RecordUnit) (s : State) : (s.onRec f).slots = s.slots := rfl
@[simp] theorem State.onRec_spc (f : RecordUnit → RecordUnit) (s : State) : (s.onRec f).spc = s.spc := rfl
@[simp] theorem State.onRec_work (f : RecordUnit → RecordUnit) (s : State) : (s.onRec f).work = s.work := rfl
@[simp] theorem State.onRec_downs (f : RecordUnit → RecordUnit) (s : State) : (s.onRec f).downs = s.downs := rfl
@[simp] theorem State.onRec_pos (f : RecordUnit → RecordUnit) (s : State) : (s.onRec f).pos = s.pos := rfl
@[simp] theorem State.onRec_ccu (f : RecordUnit → RecordUnit) (s : State) : (s.onRec f).ccu = s.ccu := rfl
@[simp] theorem State.onRec_record (f : RecordUnit → RecordUnit) (s : State) : (s.onRec f).record = f s.record := rfl
@[simp] theorem State.onRec_fsv (f : RecordUnit → RecordUnit) (s : State) : (s.onRec f).fsv = s.fsv := rfl
@[simp] theorem State.onRec_tbs (f : RecordUnit → RecordUnit) (s : State) : (s.onRec f).tbs = s.tbs := rfl
@[simp] theorem State.onRec_counters (f : RecordUnit → RecordUnit) (s : State) : (s.onRec f).counters = s.counters := rfl
@[simp] theorem State.onRec_atc (f : RecordUnit → RecordUnit) (s : State) : (s.onRec f).atc = s.atc := rfl
@[simp] theorem State.onRec_supplyLow (f : RecordUnit → RecordUnit) (s : State) : (s.onRec f).supplyLow = s.supplyLow := rfl

/-! ## onFsv -/

@[simp] theorem State.onFsv_pending (f : Supervisor → Supervisor) (s : State) : (s.onFsv f).pending = s.pending := rfl
@[simp] theorem State.onFsv_dbi (f : Supervisor → Supervisor) (s : State) : (s.onFsv f).dbi = s.dbi := rfl
@[simp] theorem State.onFsv_queue (f : Supervisor → Supervisor) (s : State) : (s.onFsv f).queue = s.queue := rfl
@[simp] theorem State.onFsv_job (f : Supervisor → Supervisor) (s : State) : (s.onFsv f).job = s.job := rfl
@[simp] theorem State.onFsv_endWith (f : Supervisor → Supervisor) (s : State) : (s.onFsv f).endWith = s.endWith := rfl
@[simp] theorem State.onFsv_eng (f : Supervisor → Supervisor) (s : State) : (s.onFsv f).eng = s.eng := rfl
@[simp] theorem State.onFsv_slots (f : Supervisor → Supervisor) (s : State) : (s.onFsv f).slots = s.slots := rfl
@[simp] theorem State.onFsv_spc (f : Supervisor → Supervisor) (s : State) : (s.onFsv f).spc = s.spc := rfl
@[simp] theorem State.onFsv_work (f : Supervisor → Supervisor) (s : State) : (s.onFsv f).work = s.work := rfl
@[simp] theorem State.onFsv_downs (f : Supervisor → Supervisor) (s : State) : (s.onFsv f).downs = s.downs := rfl
@[simp] theorem State.onFsv_pos (f : Supervisor → Supervisor) (s : State) : (s.onFsv f).pos = s.pos := rfl
@[simp] theorem State.onFsv_ccu (f : Supervisor → Supervisor) (s : State) : (s.onFsv f).ccu = s.ccu := rfl
@[simp] theorem State.onFsv_record (f : Supervisor → Supervisor) (s : State) : (s.onFsv f).record = s.record := rfl
@[simp] theorem State.onFsv_fsv (f : Supervisor → Supervisor) (s : State) : (s.onFsv f).fsv = f s.fsv := rfl
@[simp] theorem State.onFsv_tbs (f : Supervisor → Supervisor) (s : State) : (s.onFsv f).tbs = s.tbs := rfl
@[simp] theorem State.onFsv_counters (f : Supervisor → Supervisor) (s : State) : (s.onFsv f).counters = s.counters := rfl
@[simp] theorem State.onFsv_atc (f : Supervisor → Supervisor) (s : State) : (s.onFsv f).atc = s.atc := rfl
@[simp] theorem State.onFsv_supplyLow (f : Supervisor → Supervisor) (s : State) : (s.onFsv f).supplyLow = s.supplyLow := rfl

/-! ## onTbs -/

@[simp] theorem State.onTbs_pending (f : TableStore → TableStore) (s : State) : (s.onTbs f).pending = s.pending := rfl
@[simp] theorem State.onTbs_dbi (f : TableStore → TableStore) (s : State) : (s.onTbs f).dbi = s.dbi := rfl
@[simp] theorem State.onTbs_queue (f : TableStore → TableStore) (s : State) : (s.onTbs f).queue = s.queue := rfl
@[simp] theorem State.onTbs_job (f : TableStore → TableStore) (s : State) : (s.onTbs f).job = s.job := rfl
@[simp] theorem State.onTbs_endWith (f : TableStore → TableStore) (s : State) : (s.onTbs f).endWith = s.endWith := rfl
@[simp] theorem State.onTbs_eng (f : TableStore → TableStore) (s : State) : (s.onTbs f).eng = s.eng := rfl
@[simp] theorem State.onTbs_slots (f : TableStore → TableStore) (s : State) : (s.onTbs f).slots = s.slots := rfl
@[simp] theorem State.onTbs_spc (f : TableStore → TableStore) (s : State) : (s.onTbs f).spc = s.spc := rfl
@[simp] theorem State.onTbs_work (f : TableStore → TableStore) (s : State) : (s.onTbs f).work = s.work := rfl
@[simp] theorem State.onTbs_downs (f : TableStore → TableStore) (s : State) : (s.onTbs f).downs = s.downs := rfl
@[simp] theorem State.onTbs_pos (f : TableStore → TableStore) (s : State) : (s.onTbs f).pos = s.pos := rfl
@[simp] theorem State.onTbs_ccu (f : TableStore → TableStore) (s : State) : (s.onTbs f).ccu = s.ccu := rfl
@[simp] theorem State.onTbs_record (f : TableStore → TableStore) (s : State) : (s.onTbs f).record = s.record := rfl
@[simp] theorem State.onTbs_fsv (f : TableStore → TableStore) (s : State) : (s.onTbs f).fsv = s.fsv := rfl
@[simp] theorem State.onTbs_tbs (f : TableStore → TableStore) (s : State) : (s.onTbs f).tbs = f s.tbs := rfl
@[simp] theorem State.onTbs_counters (f : TableStore → TableStore) (s : State) : (s.onTbs f).counters = s.counters := rfl
@[simp] theorem State.onTbs_atc (f : TableStore → TableStore) (s : State) : (s.onTbs f).atc = s.atc := rfl
@[simp] theorem State.onTbs_supplyLow (f : TableStore → TableStore) (s : State) : (s.onTbs f).supplyLow = s.supplyLow := rfl

/-! ## onCounters -/

@[simp] theorem State.onCounters_pending (f : Counters → Counters) (s : State) : (s.onCounters f).pending = s.pending := rfl
@[simp] theorem State.onCounters_dbi (f : Counters → Counters) (s : State) : (s.onCounters f).dbi = s.dbi := rfl
@[simp] theorem State.onCounters_queue (f : Counters → Counters) (s : State) : (s.onCounters f).queue = s.queue := rfl
@[simp] theorem State.onCounters_job (f : Counters → Counters) (s : State) : (s.onCounters f).job = s.job := rfl
@[simp] theorem State.onCounters_endWith (f : Counters → Counters) (s : State) : (s.onCounters f).endWith = s.endWith := rfl
@[simp] theorem State.onCounters_eng (f : Counters → Counters) (s : State) : (s.onCounters f).eng = s.eng := rfl
@[simp] theorem State.onCounters_slots (f : Counters → Counters) (s : State) : (s.onCounters f).slots = s.slots := rfl
@[simp] theorem State.onCounters_spc (f : Counters → Counters) (s : State) : (s.onCounters f).spc = s.spc := rfl
@[simp] theorem State.onCounters_work (f : Counters → Counters) (s : State) : (s.onCounters f).work = s.work := rfl
@[simp] theorem State.onCounters_downs (f : Counters → Counters) (s : State) : (s.onCounters f).downs = s.downs := rfl
@[simp] theorem State.onCounters_pos (f : Counters → Counters) (s : State) : (s.onCounters f).pos = s.pos := rfl
@[simp] theorem State.onCounters_ccu (f : Counters → Counters) (s : State) : (s.onCounters f).ccu = s.ccu := rfl
@[simp] theorem State.onCounters_record (f : Counters → Counters) (s : State) : (s.onCounters f).record = s.record := rfl
@[simp] theorem State.onCounters_fsv (f : Counters → Counters) (s : State) : (s.onCounters f).fsv = s.fsv := rfl
@[simp] theorem State.onCounters_tbs (f : Counters → Counters) (s : State) : (s.onCounters f).tbs = s.tbs := rfl
@[simp] theorem State.onCounters_counters (f : Counters → Counters) (s : State) : (s.onCounters f).counters = f s.counters := rfl
@[simp] theorem State.onCounters_atc (f : Counters → Counters) (s : State) : (s.onCounters f).atc = s.atc := rfl
@[simp] theorem State.onCounters_supplyLow (f : Counters → Counters) (s : State) : (s.onCounters f).supplyLow = s.supplyLow := rfl

/-! ## onAtc -/

@[simp] theorem State.onAtc_pending (f : Attention → Attention) (s : State) : (s.onAtc f).pending = s.pending := rfl
@[simp] theorem State.onAtc_dbi (f : Attention → Attention) (s : State) : (s.onAtc f).dbi = s.dbi := rfl
@[simp] theorem State.onAtc_queue (f : Attention → Attention) (s : State) : (s.onAtc f).queue = s.queue := rfl
@[simp] theorem State.onAtc_job (f : Attention → Attention) (s : State) : (s.onAtc f).job = s.job := rfl
@[simp] theorem State.onAtc_endWith (f : Attention → Attention) (s : State) : (s.onAtc f).endWith = s.endWith := rfl
@[simp] theorem State.onAtc_eng (f : Attention → Attention) (s : State) : (s.onAtc f).eng = s.eng := rfl
@[simp] theorem State.onAtc_slots (f : Attention → Attention) (s : State) : (s.onAtc f).slots = s.slots := rfl
@[simp] theorem State.onAtc_spc (f : Attention → Attention) (s : State) : (s.onAtc f).spc = s.spc := rfl
@[simp] theorem State.onAtc_work (f : Attention → Attention) (s : State) : (s.onAtc f).work = s.work := rfl
@[simp] theorem State.onAtc_downs (f : Attention → Attention) (s : State) : (s.onAtc f).downs = s.downs := rfl
@[simp] theorem State.onAtc_pos (f : Attention → Attention) (s : State) : (s.onAtc f).pos = s.pos := rfl
@[simp] theorem State.onAtc_ccu (f : Attention → Attention) (s : State) : (s.onAtc f).ccu = s.ccu := rfl
@[simp] theorem State.onAtc_record (f : Attention → Attention) (s : State) : (s.onAtc f).record = s.record := rfl
@[simp] theorem State.onAtc_fsv (f : Attention → Attention) (s : State) : (s.onAtc f).fsv = s.fsv := rfl
@[simp] theorem State.onAtc_tbs (f : Attention → Attention) (s : State) : (s.onAtc f).tbs = s.tbs := rfl
@[simp] theorem State.onAtc_counters (f : Attention → Attention) (s : State) : (s.onAtc f).counters = s.counters := rfl
@[simp] theorem State.onAtc_atc (f : Attention → Attention) (s : State) : (s.onAtc f).atc = f s.atc := rfl
@[simp] theorem State.onAtc_supplyLow (f : Attention → Attention) (s : State) : (s.onAtc f).supplyLow = s.supplyLow := rfl

/-! ## setQueue -/

@[simp] theorem State.setQueue_pending (x : List Entry) (s : State) : (s.setQueue x).pending = s.pending := rfl
@[simp] theorem State.setQueue_dbi (x : List Entry) (s : State) : (s.setQueue x).dbi = s.dbi := rfl
@[simp] theorem State.setQueue_queue (x : List Entry) (s : State) : (s.setQueue x).queue = x := rfl
@[simp] theorem State.setQueue_job (x : List Entry) (s : State) : (s.setQueue x).job = s.job := rfl
@[simp] theorem State.setQueue_endWith (x : List Entry) (s : State) : (s.setQueue x).endWith = s.endWith := rfl
@[simp] theorem State.setQueue_eng (x : List Entry) (s : State) : (s.setQueue x).eng = s.eng := rfl
@[simp] theorem State.setQueue_slots (x : List Entry) (s : State) : (s.setQueue x).slots = s.slots := rfl
@[simp] theorem State.setQueue_spc (x : List Entry) (s : State) : (s.setQueue x).spc = s.spc := rfl
@[simp] theorem State.setQueue_work (x : List Entry) (s : State) : (s.setQueue x).work = s.work := rfl
@[simp] theorem State.setQueue_downs (x : List Entry) (s : State) : (s.setQueue x).downs = s.downs := rfl
@[simp] theorem State.setQueue_pos (x : List Entry) (s : State) : (s.setQueue x).pos = s.pos := rfl
@[simp] theorem State.setQueue_ccu (x : List Entry) (s : State) : (s.setQueue x).ccu = s.ccu := rfl
@[simp] theorem State.setQueue_record (x : List Entry) (s : State) : (s.setQueue x).record = s.record := rfl
@[simp] theorem State.setQueue_fsv (x : List Entry) (s : State) : (s.setQueue x).fsv = s.fsv := rfl
@[simp] theorem State.setQueue_tbs (x : List Entry) (s : State) : (s.setQueue x).tbs = s.tbs := rfl
@[simp] theorem State.setQueue_counters (x : List Entry) (s : State) : (s.setQueue x).counters = s.counters := rfl
@[simp] theorem State.setQueue_atc (x : List Entry) (s : State) : (s.setQueue x).atc = s.atc := rfl
@[simp] theorem State.setQueue_supplyLow (x : List Entry) (s : State) : (s.setQueue x).supplyLow = s.supplyLow := rfl

/-! ## setJob -/

@[simp] theorem State.setJob_pending (x : Job) (s : State) : (s.setJob x).pending = s.pending := rfl
@[simp] theorem State.setJob_dbi (x : Job) (s : State) : (s.setJob x).dbi = s.dbi := rfl
@[simp] theorem State.setJob_queue (x : Job) (s : State) : (s.setJob x).queue = s.queue := rfl
@[simp] theorem State.setJob_job (x : Job) (s : State) : (s.setJob x).job = x := rfl
@[simp] theorem State.setJob_endWith (x : Job) (s : State) : (s.setJob x).endWith = s.endWith := rfl
@[simp] theorem State.setJob_eng (x : Job) (s : State) : (s.setJob x).eng = s.eng := rfl
@[simp] theorem State.setJob_slots (x : Job) (s : State) : (s.setJob x).slots = s.slots := rfl
@[simp] theorem State.setJob_spc (x : Job) (s : State) : (s.setJob x).spc = s.spc := rfl
@[simp] theorem State.setJob_work (x : Job) (s : State) : (s.setJob x).work = s.work := rfl
@[simp] theorem State.setJob_downs (x : Job) (s : State) : (s.setJob x).downs = s.downs := rfl
@[simp] theorem State.setJob_pos (x : Job) (s : State) : (s.setJob x).pos = s.pos := rfl
@[simp] theorem State.setJob_ccu (x : Job) (s : State) : (s.setJob x).ccu = s.ccu := rfl
@[simp] theorem State.setJob_record (x : Job) (s : State) : (s.setJob x).record = s.record := rfl
@[simp] theorem State.setJob_fsv (x : Job) (s : State) : (s.setJob x).fsv = s.fsv := rfl
@[simp] theorem State.setJob_tbs (x : Job) (s : State) : (s.setJob x).tbs = s.tbs := rfl
@[simp] theorem State.setJob_counters (x : Job) (s : State) : (s.setJob x).counters = s.counters := rfl
@[simp] theorem State.setJob_atc (x : Job) (s : State) : (s.setJob x).atc = s.atc := rfl
@[simp] theorem State.setJob_supplyLow (x : Job) (s : State) : (s.setJob x).supplyLow = s.supplyLow := rfl

/-! ## setEnd -/

@[simp] theorem State.setEnd_pending (x : Option Status) (s : State) : (s.setEnd x).pending = s.pending := rfl
@[simp] theorem State.setEnd_dbi (x : Option Status) (s : State) : (s.setEnd x).dbi = s.dbi := rfl
@[simp] theorem State.setEnd_queue (x : Option Status) (s : State) : (s.setEnd x).queue = s.queue := rfl
@[simp] theorem State.setEnd_job (x : Option Status) (s : State) : (s.setEnd x).job = s.job := rfl
@[simp] theorem State.setEnd_endWith (x : Option Status) (s : State) : (s.setEnd x).endWith = x := rfl
@[simp] theorem State.setEnd_eng (x : Option Status) (s : State) : (s.setEnd x).eng = s.eng := rfl
@[simp] theorem State.setEnd_slots (x : Option Status) (s : State) : (s.setEnd x).slots = s.slots := rfl
@[simp] theorem State.setEnd_spc (x : Option Status) (s : State) : (s.setEnd x).spc = s.spc := rfl
@[simp] theorem State.setEnd_work (x : Option Status) (s : State) : (s.setEnd x).work = s.work := rfl
@[simp] theorem State.setEnd_downs (x : Option Status) (s : State) : (s.setEnd x).downs = s.downs := rfl
@[simp] theorem State.setEnd_pos (x : Option Status) (s : State) : (s.setEnd x).pos = s.pos := rfl
@[simp] theorem State.setEnd_ccu (x : Option Status) (s : State) : (s.setEnd x).ccu = s.ccu := rfl
@[simp] theorem State.setEnd_record (x : Option Status) (s : State) : (s.setEnd x).record = s.record := rfl
@[simp] theorem State.setEnd_fsv (x : Option Status) (s : State) : (s.setEnd x).fsv = s.fsv := rfl
@[simp] theorem State.setEnd_tbs (x : Option Status) (s : State) : (s.setEnd x).tbs = s.tbs := rfl
@[simp] theorem State.setEnd_counters (x : Option Status) (s : State) : (s.setEnd x).counters = s.counters := rfl
@[simp] theorem State.setEnd_atc (x : Option Status) (s : State) : (s.setEnd x).atc = s.atc := rfl
@[simp] theorem State.setEnd_supplyLow (x : Option Status) (s : State) : (s.setEnd x).supplyLow = s.supplyLow := rfl

/-! ## setSlots -/

@[simp] theorem State.setSlots_pending (x : List Slot) (s : State) : (s.setSlots x).pending = s.pending := rfl
@[simp] theorem State.setSlots_dbi (x : List Slot) (s : State) : (s.setSlots x).dbi = s.dbi := rfl
@[simp] theorem State.setSlots_queue (x : List Slot) (s : State) : (s.setSlots x).queue = s.queue := rfl
@[simp] theorem State.setSlots_job (x : List Slot) (s : State) : (s.setSlots x).job = s.job := rfl
@[simp] theorem State.setSlots_endWith (x : List Slot) (s : State) : (s.setSlots x).endWith = s.endWith := rfl
@[simp] theorem State.setSlots_eng (x : List Slot) (s : State) : (s.setSlots x).eng = s.eng := rfl
@[simp] theorem State.setSlots_slots (x : List Slot) (s : State) : (s.setSlots x).slots = x := rfl
@[simp] theorem State.setSlots_spc (x : List Slot) (s : State) : (s.setSlots x).spc = s.spc := rfl
@[simp] theorem State.setSlots_work (x : List Slot) (s : State) : (s.setSlots x).work = s.work := rfl
@[simp] theorem State.setSlots_downs (x : List Slot) (s : State) : (s.setSlots x).downs = s.downs := rfl
@[simp] theorem State.setSlots_pos (x : List Slot) (s : State) : (s.setSlots x).pos = s.pos := rfl
@[simp] theorem State.setSlots_ccu (x : List Slot) (s : State) : (s.setSlots x).ccu = s.ccu := rfl
@[simp] theorem State.setSlots_record (x : List Slot) (s : State) : (s.setSlots x).record = s.record := rfl
@[simp] theorem State.setSlots_fsv (x : List Slot) (s : State) : (s.setSlots x).fsv = s.fsv := rfl
@[simp] theorem State.setSlots_tbs (x : List Slot) (s : State) : (s.setSlots x).tbs = s.tbs := rfl
@[simp] theorem State.setSlots_counters (x : List Slot) (s : State) : (s.setSlots x).counters = s.counters := rfl
@[simp] theorem State.setSlots_atc (x : List Slot) (s : State) : (s.setSlots x).atc = s.atc := rfl
@[simp] theorem State.setSlots_supplyLow (x : List Slot) (s : State) : (s.setSlots x).supplyLow = s.supplyLow := rfl

/-! ## setWork -/

@[simp] theorem State.setWork_pending (x : Option SpinUpWork) (s : State) : (s.setWork x).pending = s.pending := rfl
@[simp] theorem State.setWork_dbi (x : Option SpinUpWork) (s : State) : (s.setWork x).dbi = s.dbi := rfl
@[simp] theorem State.setWork_queue (x : Option SpinUpWork) (s : State) : (s.setWork x).queue = s.queue := rfl
@[simp] theorem State.setWork_job (x : Option SpinUpWork) (s : State) : (s.setWork x).job = s.job := rfl
@[simp] theorem State.setWork_endWith (x : Option SpinUpWork) (s : State) : (s.setWork x).endWith = s.endWith := rfl
@[simp] theorem State.setWork_eng (x : Option SpinUpWork) (s : State) : (s.setWork x).eng = s.eng := rfl
@[simp] theorem State.setWork_slots (x : Option SpinUpWork) (s : State) : (s.setWork x).slots = s.slots := rfl
@[simp] theorem State.setWork_spc (x : Option SpinUpWork) (s : State) : (s.setWork x).spc = s.spc := rfl
@[simp] theorem State.setWork_work (x : Option SpinUpWork) (s : State) : (s.setWork x).work = x := rfl
@[simp] theorem State.setWork_downs (x : Option SpinUpWork) (s : State) : (s.setWork x).downs = s.downs := rfl
@[simp] theorem State.setWork_pos (x : Option SpinUpWork) (s : State) : (s.setWork x).pos = s.pos := rfl
@[simp] theorem State.setWork_ccu (x : Option SpinUpWork) (s : State) : (s.setWork x).ccu = s.ccu := rfl
@[simp] theorem State.setWork_record (x : Option SpinUpWork) (s : State) : (s.setWork x).record = s.record := rfl
@[simp] theorem State.setWork_fsv (x : Option SpinUpWork) (s : State) : (s.setWork x).fsv = s.fsv := rfl
@[simp] theorem State.setWork_tbs (x : Option SpinUpWork) (s : State) : (s.setWork x).tbs = s.tbs := rfl
@[simp] theorem State.setWork_counters (x : Option SpinUpWork) (s : State) : (s.setWork x).counters = s.counters := rfl
@[simp] theorem State.setWork_atc (x : Option SpinUpWork) (s : State) : (s.setWork x).atc = s.atc := rfl
@[simp] theorem State.setWork_supplyLow (x : Option SpinUpWork) (s : State) : (s.setWork x).supplyLow = s.supplyLow := rfl

/-! ## Packets, requests, one kind, the inbound assembly -/

@[simp] theorem State.place_pending (p : Packet) (s : State) : (s.place p).pending = s.pending := rfl
@[simp] theorem State.place_queue (p : Packet) (s : State) : (s.place p).queue = s.queue := rfl
@[simp] theorem State.place_job (p : Packet) (s : State) : (s.place p).job = s.job := rfl
@[simp] theorem State.place_endWith (p : Packet) (s : State) : (s.place p).endWith = s.endWith := rfl
@[simp] theorem State.place_eng (p : Packet) (s : State) : (s.place p).eng = s.eng := rfl
@[simp] theorem State.place_slots (p : Packet) (s : State) : (s.place p).slots = s.slots := rfl
@[simp] theorem State.place_spc (p : Packet) (s : State) : (s.place p).spc = s.spc := rfl
@[simp] theorem State.place_work (p : Packet) (s : State) : (s.place p).work = s.work := rfl
@[simp] theorem State.place_downs (p : Packet) (s : State) : (s.place p).downs = s.downs := rfl
@[simp] theorem State.place_pos (p : Packet) (s : State) : (s.place p).pos = s.pos := rfl
@[simp] theorem State.place_ccu (p : Packet) (s : State) : (s.place p).ccu = s.ccu := rfl
@[simp] theorem State.place_record (p : Packet) (s : State) : (s.place p).record = s.record := rfl
@[simp] theorem State.place_fsv (p : Packet) (s : State) : (s.place p).fsv = s.fsv := rfl
@[simp] theorem State.place_tbs (p : Packet) (s : State) : (s.place p).tbs = s.tbs := rfl
@[simp] theorem State.place_counters (p : Packet) (s : State) : (s.place p).counters = s.counters := rfl
@[simp] theorem State.place_atc (p : Packet) (s : State) : (s.place p).atc = s.atc := rfl
@[simp] theorem State.place_supplyLow (p : Packet) (s : State) : (s.place p).supplyLow = s.supplyLow := rfl

@[simp] theorem State.reply_pending (t : Byte) (st : Status) (b : ReplyBody) (s : State) : (s.reply t st b).pending = s.pending := rfl
@[simp] theorem State.reply_queue (t : Byte) (st : Status) (b : ReplyBody) (s : State) : (s.reply t st b).queue = s.queue := rfl
@[simp] theorem State.reply_job (t : Byte) (st : Status) (b : ReplyBody) (s : State) : (s.reply t st b).job = s.job := rfl
@[simp] theorem State.reply_endWith (t : Byte) (st : Status) (b : ReplyBody) (s : State) : (s.reply t st b).endWith = s.endWith := rfl
@[simp] theorem State.reply_eng (t : Byte) (st : Status) (b : ReplyBody) (s : State) : (s.reply t st b).eng = s.eng := rfl
@[simp] theorem State.reply_slots (t : Byte) (st : Status) (b : ReplyBody) (s : State) : (s.reply t st b).slots = s.slots := rfl
@[simp] theorem State.reply_spc (t : Byte) (st : Status) (b : ReplyBody) (s : State) : (s.reply t st b).spc = s.spc := rfl
@[simp] theorem State.reply_work (t : Byte) (st : Status) (b : ReplyBody) (s : State) : (s.reply t st b).work = s.work := rfl
@[simp] theorem State.reply_downs (t : Byte) (st : Status) (b : ReplyBody) (s : State) : (s.reply t st b).downs = s.downs := rfl
@[simp] theorem State.reply_pos (t : Byte) (st : Status) (b : ReplyBody) (s : State) : (s.reply t st b).pos = s.pos := rfl
@[simp] theorem State.reply_ccu (t : Byte) (st : Status) (b : ReplyBody) (s : State) : (s.reply t st b).ccu = s.ccu := rfl
@[simp] theorem State.reply_record (t : Byte) (st : Status) (b : ReplyBody) (s : State) : (s.reply t st b).record = s.record := rfl
@[simp] theorem State.reply_fsv (t : Byte) (st : Status) (b : ReplyBody) (s : State) : (s.reply t st b).fsv = s.fsv := rfl
@[simp] theorem State.reply_tbs (t : Byte) (st : Status) (b : ReplyBody) (s : State) : (s.reply t st b).tbs = s.tbs := rfl
@[simp] theorem State.reply_counters (t : Byte) (st : Status) (b : ReplyBody) (s : State) : (s.reply t st b).counters = s.counters := rfl
@[simp] theorem State.reply_atc (t : Byte) (st : Status) (b : ReplyBody) (s : State) : (s.reply t st b).atc = s.atc := rfl
@[simp] theorem State.reply_supplyLow (t : Byte) (st : Status) (b : ReplyBody) (s : State) : (s.reply t st b).supplyLow = s.supplyLow := rfl

@[simp] theorem State.request_pending (x : Source) (s : State) : (s.request x).pending = s.pending := rfl
@[simp] theorem State.request_dbi (x : Source) (s : State) : (s.request x).dbi = s.dbi := rfl
@[simp] theorem State.request_queue (x : Source) (s : State) : (s.request x).queue = s.queue := rfl
@[simp] theorem State.request_job (x : Source) (s : State) : (s.request x).job = s.job := rfl
@[simp] theorem State.request_endWith (x : Source) (s : State) : (s.request x).endWith = s.endWith := rfl
@[simp] theorem State.request_eng (x : Source) (s : State) : (s.request x).eng = s.eng := rfl
@[simp] theorem State.request_slots (x : Source) (s : State) : (s.request x).slots = s.slots := rfl
@[simp] theorem State.request_spc (x : Source) (s : State) : (s.request x).spc = s.spc := rfl
@[simp] theorem State.request_work (x : Source) (s : State) : (s.request x).work = s.work := rfl
@[simp] theorem State.request_downs (x : Source) (s : State) : (s.request x).downs = s.downs := rfl
@[simp] theorem State.request_pos (x : Source) (s : State) : (s.request x).pos = s.pos := rfl
@[simp] theorem State.request_ccu (x : Source) (s : State) : (s.request x).ccu = s.ccu := rfl
@[simp] theorem State.request_record (x : Source) (s : State) : (s.request x).record = s.record := rfl
@[simp] theorem State.request_fsv (x : Source) (s : State) : (s.request x).fsv = s.fsv := rfl
@[simp] theorem State.request_tbs (x : Source) (s : State) : (s.request x).tbs = s.tbs := rfl
@[simp] theorem State.request_counters (x : Source) (s : State) : (s.request x).counters = s.counters := rfl
@[simp] theorem State.request_supplyLow (x : Source) (s : State) : (s.request x).supplyLow = s.supplyLow := rfl

@[simp] theorem State.absent_pending (k : FaultKind) (s : State) : (s.absent k).pending = s.pending := rfl
@[simp] theorem State.absent_dbi (k : FaultKind) (s : State) : (s.absent k).dbi = s.dbi := rfl
@[simp] theorem State.absent_queue (k : FaultKind) (s : State) : (s.absent k).queue = s.queue := rfl
@[simp] theorem State.absent_job (k : FaultKind) (s : State) : (s.absent k).job = s.job := rfl
@[simp] theorem State.absent_endWith (k : FaultKind) (s : State) : (s.absent k).endWith = s.endWith := rfl
@[simp] theorem State.absent_eng (k : FaultKind) (s : State) : (s.absent k).eng = s.eng := rfl
@[simp] theorem State.absent_slots (k : FaultKind) (s : State) : (s.absent k).slots = s.slots := rfl
@[simp] theorem State.absent_spc (k : FaultKind) (s : State) : (s.absent k).spc = s.spc := rfl
@[simp] theorem State.absent_work (k : FaultKind) (s : State) : (s.absent k).work = s.work := rfl
@[simp] theorem State.absent_downs (k : FaultKind) (s : State) : (s.absent k).downs = s.downs := rfl
@[simp] theorem State.absent_pos (k : FaultKind) (s : State) : (s.absent k).pos = s.pos := rfl
@[simp] theorem State.absent_ccu (k : FaultKind) (s : State) : (s.absent k).ccu = s.ccu := rfl
@[simp] theorem State.absent_record (k : FaultKind) (s : State) : (s.absent k).record = s.record := rfl
@[simp] theorem State.absent_tbs (k : FaultKind) (s : State) : (s.absent k).tbs = s.tbs := rfl
@[simp] theorem State.absent_counters (k : FaultKind) (s : State) : (s.absent k).counters = s.counters := rfl
@[simp] theorem State.absent_atc (k : FaultKind) (s : State) : (s.absent k).atc = s.atc := rfl
@[simp] theorem State.absent_supplyLow (k : FaultKind) (s : State) : (s.absent k).supplyLow = s.supplyLow := rfl

@[simp] theorem State.nowPresent_pending (k : FaultKind) (s : State) : (s.nowPresent k).pending = s.pending := rfl
@[simp] theorem State.nowPresent_dbi (k : FaultKind) (s : State) : (s.nowPresent k).dbi = s.dbi := rfl
@[simp] theorem State.nowPresent_queue (k : FaultKind) (s : State) : (s.nowPresent k).queue = s.queue := rfl
@[simp] theorem State.nowPresent_job (k : FaultKind) (s : State) : (s.nowPresent k).job = s.job := rfl
@[simp] theorem State.nowPresent_endWith (k : FaultKind) (s : State) : (s.nowPresent k).endWith = s.endWith := rfl
@[simp] theorem State.nowPresent_eng (k : FaultKind) (s : State) : (s.nowPresent k).eng = s.eng := rfl
@[simp] theorem State.nowPresent_slots (k : FaultKind) (s : State) : (s.nowPresent k).slots = s.slots := rfl
@[simp] theorem State.nowPresent_spc (k : FaultKind) (s : State) : (s.nowPresent k).spc = s.spc := rfl
@[simp] theorem State.nowPresent_work (k : FaultKind) (s : State) : (s.nowPresent k).work = s.work := rfl
@[simp] theorem State.nowPresent_downs (k : FaultKind) (s : State) : (s.nowPresent k).downs = s.downs := rfl
@[simp] theorem State.nowPresent_pos (k : FaultKind) (s : State) : (s.nowPresent k).pos = s.pos := rfl
@[simp] theorem State.nowPresent_ccu (k : FaultKind) (s : State) : (s.nowPresent k).ccu = s.ccu := rfl
@[simp] theorem State.nowPresent_record (k : FaultKind) (s : State) : (s.nowPresent k).record = s.record := rfl
@[simp] theorem State.nowPresent_tbs (k : FaultKind) (s : State) : (s.nowPresent k).tbs = s.tbs := rfl
@[simp] theorem State.nowPresent_counters (k : FaultKind) (s : State) : (s.nowPresent k).counters = s.counters := rfl
@[simp] theorem State.nowPresent_atc (k : FaultKind) (s : State) : (s.nowPresent k).atc = s.atc := rfl
@[simp] theorem State.nowPresent_supplyLow (k : FaultKind) (s : State) : (s.nowPresent k).supplyLow = s.supplyLow := rfl

@[simp] theorem State.onRecord_pending (k : FaultKind) (f : FaultRecord → FaultRecord) (s : State) : (s.onRecord k f).pending = s.pending := rfl
@[simp] theorem State.onRecord_dbi (k : FaultKind) (f : FaultRecord → FaultRecord) (s : State) : (s.onRecord k f).dbi = s.dbi := rfl
@[simp] theorem State.onRecord_queue (k : FaultKind) (f : FaultRecord → FaultRecord) (s : State) : (s.onRecord k f).queue = s.queue := rfl
@[simp] theorem State.onRecord_job (k : FaultKind) (f : FaultRecord → FaultRecord) (s : State) : (s.onRecord k f).job = s.job := rfl
@[simp] theorem State.onRecord_endWith (k : FaultKind) (f : FaultRecord → FaultRecord) (s : State) : (s.onRecord k f).endWith = s.endWith := rfl
@[simp] theorem State.onRecord_eng (k : FaultKind) (f : FaultRecord → FaultRecord) (s : State) : (s.onRecord k f).eng = s.eng := rfl
@[simp] theorem State.onRecord_slots (k : FaultKind) (f : FaultRecord → FaultRecord) (s : State) : (s.onRecord k f).slots = s.slots := rfl
@[simp] theorem State.onRecord_spc (k : FaultKind) (f : FaultRecord → FaultRecord) (s : State) : (s.onRecord k f).spc = s.spc := rfl
@[simp] theorem State.onRecord_work (k : FaultKind) (f : FaultRecord → FaultRecord) (s : State) : (s.onRecord k f).work = s.work := rfl
@[simp] theorem State.onRecord_downs (k : FaultKind) (f : FaultRecord → FaultRecord) (s : State) : (s.onRecord k f).downs = s.downs := rfl
@[simp] theorem State.onRecord_pos (k : FaultKind) (f : FaultRecord → FaultRecord) (s : State) : (s.onRecord k f).pos = s.pos := rfl
@[simp] theorem State.onRecord_ccu (k : FaultKind) (f : FaultRecord → FaultRecord) (s : State) : (s.onRecord k f).ccu = s.ccu := rfl
@[simp] theorem State.onRecord_record (k : FaultKind) (f : FaultRecord → FaultRecord) (s : State) : (s.onRecord k f).record = s.record := rfl
@[simp] theorem State.onRecord_tbs (k : FaultKind) (f : FaultRecord → FaultRecord) (s : State) : (s.onRecord k f).tbs = s.tbs := rfl
@[simp] theorem State.onRecord_counters (k : FaultKind) (f : FaultRecord → FaultRecord) (s : State) : (s.onRecord k f).counters = s.counters := rfl
@[simp] theorem State.onRecord_atc (k : FaultKind) (f : FaultRecord → FaultRecord) (s : State) : (s.onRecord k f).atc = s.atc := rfl
@[simp] theorem State.onRecord_supplyLow (k : FaultKind) (f : FaultRecord → FaultRecord) (s : State) : (s.onRecord k f).supplyLow = s.supplyLow := rfl

@[simp] theorem State.setInb_pending (i : Inbound) (s : State) : (s.setInb i).pending = s.pending := rfl
@[simp] theorem State.setInb_queue (i : Inbound) (s : State) : (s.setInb i).queue = s.queue := rfl
@[simp] theorem State.setInb_job (i : Inbound) (s : State) : (s.setInb i).job = s.job := rfl
@[simp] theorem State.setInb_endWith (i : Inbound) (s : State) : (s.setInb i).endWith = s.endWith := rfl
@[simp] theorem State.setInb_eng (i : Inbound) (s : State) : (s.setInb i).eng = s.eng := rfl
@[simp] theorem State.setInb_slots (i : Inbound) (s : State) : (s.setInb i).slots = s.slots := rfl
@[simp] theorem State.setInb_spc (i : Inbound) (s : State) : (s.setInb i).spc = s.spc := rfl
@[simp] theorem State.setInb_work (i : Inbound) (s : State) : (s.setInb i).work = s.work := rfl
@[simp] theorem State.setInb_downs (i : Inbound) (s : State) : (s.setInb i).downs = s.downs := rfl
@[simp] theorem State.setInb_pos (i : Inbound) (s : State) : (s.setInb i).pos = s.pos := rfl
@[simp] theorem State.setInb_ccu (i : Inbound) (s : State) : (s.setInb i).ccu = s.ccu := rfl
@[simp] theorem State.setInb_record (i : Inbound) (s : State) : (s.setInb i).record = s.record := rfl
@[simp] theorem State.setInb_fsv (i : Inbound) (s : State) : (s.setInb i).fsv = s.fsv := rfl
@[simp] theorem State.setInb_tbs (i : Inbound) (s : State) : (s.setInb i).tbs = s.tbs := rfl
@[simp] theorem State.setInb_counters (i : Inbound) (s : State) : (s.setInb i).counters = s.counters := rfl
@[simp] theorem State.setInb_atc (i : Inbound) (s : State) : (s.setInb i).atc = s.atc := rfl
@[simp] theorem State.setInb_supplyLow (i : Inbound) (s : State) : (s.setInb i).supplyLow = s.supplyLow := rfl

@[simp] theorem State.reply_replies (t : Byte) (st : Status) (b : ReplyBody) (s : State) :
    (s.reply t st b).dbi.replies = s.dbi.replies ++ [.reply t st b] := rfl

@[simp] theorem State.setInb_inb (i : Inbound) (s : State) : (s.setInb i).dbi.inb = i := rfl

end Sys2Proof.Machine
end

