-- ==== Sys2Proof/Laws/Ops.lean ====
section
/-! SUPPORT. For each shared operation, what it can do, said once: the reactions, the taking of a COMMAND
packet, the interface after an event, the expiry of a timer, a table take. -/

namespace Sys2Proof.Machine

/-! ## The reactions -/

/-- A guarded rule applies only under its guard, and then has its effect. -/
theorem guarded_eq_some {g : Bool} {t u : State} (h : guarded g t = some u) : g = true ∧ u = t := by
  cases g with
  | false => cases h
  | true => exact ⟨rfl, (Option.some.inj h).symm⟩

/-- A reaction is one of the rules, and none happens after a supply-low. -/
theorem react_cases {s t : State} (h : react s = some t) :
    s.supplyLow = false ∧ ∃ r ∈ rules, r s = some t := by
  unfold react at h
  cases hs : s.supplyLow with
  | true => rw [hs, if_pos rfl] at h; cases h
  | false =>
    rw [hs, if_neg Bool.false_ne_true] at h
    obtain ⟨_, r, _, hl, hr, _⟩ := List.findSome?_eq_some_iff.mp h
    exact ⟨rfl, r, by rw [hl]; simp, hr⟩

/-- A relation that every rule keeps holds between a state and the state it settles in. -/
theorem settleN_of_rules {P : State → State → Prop} (refl : ∀ s, P s s)
    (trans : ∀ s t u, P s t → P t u → P s u)
    (rule : ∀ r ∈ rules, ∀ s t, s.supplyLow = false → r s = some t → P s t) (n : Nat) (s : State) :
    P s (settleN n s) := by
  induction n generalizing s with
  | zero => exact refl s
  | succ n ih =>
    unfold settleN
    cases h : react s with
    | none => exact refl s
    | some t =>
      obtain ⟨hs, r, hr, ht⟩ := react_cases h
      exact trans s t _ (rule r hr s t hs ht) (ih t)

/-- A relation that every rule keeps is kept by the settling. -/
theorem settle_of_rules {P : State → State → Prop} (refl : ∀ s, P s s)
    (trans : ∀ s t u, P s t → P t u → P s u)
    (rule : ∀ r ∈ rules, ∀ s t, s.supplyLow = false → r s = some t → P s t) (s : State) :
    P s s.settle :=
  settleN_of_rules refl trans rule 200 s

/-- An invariant that every rule keeps is kept by the settling. -/
theorem settle_invariant {I : State → Prop}
    (rule : ∀ r ∈ rules, ∀ s t, s.supplyLow = false → r s = some t → I s → I t) {s : State}
    (h : I s) : I s.settle :=
  settle_of_rules (P := fun s t => I s → I t) (fun _ h => h) (fun _ _ _ f g h => g (f h))
    (fun r hr s t hs ht => rule r hr s t hs ht) s h

/-- A state in which no rule applies is settled. -/
theorem settle_of_quiet {s : State} (h : react s = none) : s.settle = s := by
  unfold State.settle settleN
  rw [h]

/-- A state after a supply-low is settled. -/
theorem settle_supplyLow {s : State} (h : s.supplyLow = true) : s.settle = s :=
  settle_of_quiet (by unfold react; rw [h, if_pos rfl])

/-! ## The interface -/

/-- The release of a withheld first byte leaves the state, refuses the packet, or goes on with it. -/
theorem releaseWaiting_cases (s : State) :
    s.releaseWaiting = s ∨
    ∃ h : Header, s.dbi.inb = .waiting h ∧ s.canReceive = true ∧ s.replyFull = false ∧
      s.releaseWaiting = s.headerStep h := by
  unfold State.releaseWaiting
  split
  · next h hi =>
    split
    · next hg =>
      simp only [Bool.and_eq_true, Bool.not_eq_true'] at hg
      exact .inr ⟨h, hi, hg.1, hg.2, rfl⟩
    · exact .inl rfl
  · exact .inl rfl

/-- The outbound side leaves the state, or begins the oldest packet or the DATA packet of a slot. -/
theorem startOutbound_cases (s : State) :
    s.startOutbound = s ∨
    s.startOutbound = s.onDbi (fun d => { d with out := .queued, stb := true }) ∨
    ∃ i tag, s.drainSlot = some (i, tag) ∧
      s.startOutbound = (s.onSlot i fun x => { x with state := .draining }).onDbi fun d =>
        { d with out := .data i tag true, stb := true } := by
  unfold State.startOutbound
  split
  · split
    · exact .inr (.inl rfl)
    · split
      · next i tag h => exact .inr (.inr ⟨i, tag, h, rfl⟩)
      · exact .inl rfl
  · exact .inl rfl

/-- After a supply-low the part begins nothing, or the first of the answers that R154 lets the host read. -/
theorem startOutbound_of_supplyLow {s : State} (h : s.supplyLow = true) :
    s.startOutbound = s ∨
    Config.faultListReadable = true ∧ 0 < s.dbi.answers ∧ s.dbi.replies ≠ [] ∧
      s.startOutbound = s.onDbi fun d => { d with out := .queued, stb := true } := by
  unfold State.startOutbound
  split
  · next hg =>
    simp only [State.answersWait, h, Bool.not_true, Bool.false_or, Bool.and_eq_true,
      decide_eq_true_eq] at hg
    obtain ⟨⟨⟨_, ⟨hc, ha⟩, hr⟩, _⟩, _⟩ := hg
    rw [if_pos hr]
    exact .inr ⟨hc, ha, by simpa using hr, rfl⟩
  · exact .inl rfl

/-- While the host holds the turn the part begins no packet. -/
theorem startOutbound_of_turn {s : State} (h : s.dbi.turn = true) : s.startOutbound = s := by
  unfold State.startOutbound
  rw [h]
  rfl

/-! ## The handshake -/

@[simp] theorem driveStb_driveStb (a b : Bool) (s : State) :
    (s.driveStb a).driveStb b = s.driveStb b := rfl
@[simp] theorem driveAck_driveAck (a b : Bool) (s : State) :
    (s.driveAck a).driveAck b = s.driveAck b := rfl

@[simp] theorem driveStb_supplyLow (a : Bool) (s : State) : (s.driveStb a).supplyLow = s.supplyLow := rfl
@[simp] theorem driveAck_supplyLow (a : Bool) (s : State) : (s.driveAck a).supplyLow = s.supplyLow := rfl

/-- The host may send, and no supply-low holds the interface. -/
theorem canReceive_iff {s : State} :
    s.canReceive = true ↔ s.hostSends = true ∧ s.supplyLow = false := by
  simp [State.canReceive]

/-- Bytes cross the bus but after a supply-low (R184). -/
theorem busLives_of_supplied {s : State} (h : s.supplyLow = false) : s.busLives = true := by
  simp [State.busLives, h]

@[simp] theorem driveStb_busLives (a : Bool) (s : State) : (s.driveStb a).busLives = s.busLives := rfl
@[simp] theorem driveAck_busLives (a : Bool) (s : State) : (s.driveAck a).busLives = s.busLives := rfl

/-- Where a supply-low has ended all traffic STB and ACK are held as they are (R184). -/
theorem shake_of_dead {s : State} (h : s.busLives = false) (e : ShakeEvent) : s.shake e = s := by
  simp [State.shake, h]

/-- The handshake of a byte from the host leaves the state with ACK negated, taken or withheld. -/
theorem shakeIn_eq (b : Byte) (parity : Bool) {s : State} (h : s.busLives = true) :
    s.shakeIn b parity = s.driveAck false := by
  cases hc : s.hostSends && !s.withholdsAck <;> simp [State.shakeIn, State.shake, h, hc]

/-- ACK answers a taken byte, whatever its parity. -/
theorem shake_strobe_ack {b : Byte} {parity : Bool} {s : State} (hr : s.canReceive = true)
    (hw : s.withholdsAck = false) : (s.shake (.strobe b parity)).dbi.ack = true := by
  obtain ⟨hh, hs⟩ := canReceive_iff.mp hr
  simp [State.shake, hh, hw, busLives_of_supplied hs, State.driveAck]

/-- Whether or not a byte is still to come, STB negated after it is STB negated. -/
theorem ackEnds_driveStb (more level : Bool) (s : State) :
    (s.shake (.ackEnds more)).driveStb level = s.driveStb level := by
  unfold State.shake
  cases s.busLives <;> cases h : s.dbi.out != .none && more <;> simp [h]

/-- A handshake does not end a supply-low. -/
@[simp] theorem shake_supplyLow (e : ShakeEvent) (s : State) : (s.shake e).supplyLow = s.supplyLow := by
  unfold State.shake
  split
  · rfl
  · cases e <;> simp only <;> (try split) <;> rfl

/-- A handshake does not end the traffic. -/
@[simp] theorem shake_busLives (e : ShakeEvent) (s : State) : (s.shake e).busLives = s.busLives := by
  simp [State.busLives]

/-- The handshakes of a packet's bytes leave the state with STB negated, whatever the bytes. -/
theorem shakeOut_eq (l : List Byte) (s : State) (h : l ≠ []) (hs : s.busLives = true) :
    s.shakeOut l = s.driveStb false := by
  induction l generalizing s with
  | nil => exact absurd rfl h
  | cons b rest ih =>
    cases rest with
    | nil => simp [State.shakeOut, State.shake, hs]
    | cons c rest =>
      rw [State.shakeOut, ih _ (List.cons_ne_nil c rest) (by simpa using hs)]
      simp only [ackEnds_driveStb]
      simp [State.shake, hs]

/-- A whole packet is refused or reaches its owner. -/
theorem wholePacket_cases (h : Header) (act : State → State) (s : State) :
    headerRefused h = true ∧ s.wholePacket h act = s.reply h.tag .badPacket .empty ∨
    headerRefused h = false ∧ s.wholePacket h act = act s := by
  unfold State.wholePacket
  cases headerRefused h
  · exact .inr ⟨rfl, rfl⟩
  · exact .inl ⟨rfl, rfl⟩

/-- What is taken after a supply-low: READ FAULTS or CLEAR FAULTS, by an idle interface with room, where the
free value lets the fault list be read there (R154, R184). -/
theorem takesLate_iff {i : Instr} {s : State} :
    s.takesLate i = true ↔
    s.supplyLow = true ∧ readsFaultList i = true ∧ Config.faultListReadable = true ∧
      s.hostSends = true ∧ s.dbi.inb = .idle ∧ s.replyFull = false := by
  simp [State.takesLate, and_assoc]

/-- One answer placed behind the reply queue leaves before the kept packets. -/
theorem answersFirst_placed (p : Packet) {s t : State} (h : t.dbi.replies = s.dbi.replies ++ [p])
    (ha : t.dbi.answers ≤ s.dbi.replies.length) :
    (t.answersFirst s.dbi.replies.length).dbi.replies =
      s.dbi.replies.take t.dbi.answers ++ p :: s.dbi.replies.drop t.dbi.answers ∧
    (t.answersFirst s.dbi.replies.length).dbi.answers = t.dbi.answers + 1 := by
  simp [State.answersFirst, h, List.take_append_of_le_length ha]

/-- A COMMAND packet leaves the state, is withheld, is refused, or reaches its owner, whole or after its
header, or after a supply-low with its answer sent first. -/
theorem command_cases (i : Instr) (act : State → State) (s : State) :
    s.command i act = s ∨
    ∃ tag p, commandPayload i = some (tag, p) ∧
      (s.canReceive = true ∧
        (s.dbi.inb = .idle ∧
          (s.replyFull = true ∧ s.command i act = s.setInb (.waiting (commandHeader tag p)) ∨
           s.replyFull = false ∧ s.command i act = s.wholePacket (commandHeader tag p) act) ∨
         s.dbi.inb = .payload (commandHeader tag p) ∧ s.command i act = act (s.setInb .idle)) ∨
       s.takesLate i = true ∧ s.command i act =
        (s.wholePacket (commandHeader tag p) act).answersFirst s.dbi.replies.length) := by
  unfold State.command
  cases hp : commandPayload i with
  | none => exact .inl rfl
  | some x =>
    obtain ⟨tag, p⟩ := x
    dsimp only
    cases hr : s.canReceive with
    | false =>
      cases hl : s.takesLate i with
      | false => exact .inl rfl
      | true => exact .inr ⟨tag, p, rfl, .inr ⟨rfl, rfl⟩⟩
    | true =>
      rw [if_pos rfl]
      cases hi : s.dbi.inb with
      | idle =>
        dsimp only
        cases hf : s.replyFull with
        | true => exact .inr ⟨tag, p, rfl, .inl ⟨rfl, .inl ⟨rfl, .inl ⟨rfl, rfl⟩⟩⟩⟩
        | false => exact .inr ⟨tag, p, rfl, .inl ⟨rfl, .inl ⟨rfl, .inr ⟨rfl, rfl⟩⟩⟩⟩
      | payload g =>
        dsimp only
        split
        · next hg => exact .inr ⟨tag, p, rfl, .inl ⟨rfl, .inr ⟨by rw [hg], rfl⟩⟩⟩
        · exact .inl rfl
      | waiting h => exact .inl rfl
      | data t n i => exact .inl rfl
      | discard => exact .inl rfl
      | discardTurn => exact .inl rfl

/-- A listening part gives a COMMAND packet of good framing to its owner. -/
theorem command_listening {i : Instr} {tag : Byte} {p : List Byte} (act : State → State) {s : State}
    (hp : commandPayload i = some (tag, p)) (hr : s.canReceive = true) (hi : s.dbi.inb = .idle)
    (hf : s.replyFull = false) (hg : headerRefused (commandHeader tag p) = false) :
    s.command i act = act s := by
  simp [State.command, State.wholePacket, hp, hr, hi, hf, hg]

/-- After a supply-low no other COMMAND packet is taken (R184). -/
theorem command_of_supplyLow {s : State} {i : Instr} (h : s.supplyLow = true) (hl : s.takesLate i = false)
    (act : State → State) : s.command i act = s := by
  rcases command_cases i act s with hc | ⟨_, _, _, ⟨hr, _⟩ | ⟨ht, _⟩⟩
  · exact hc
  · simp [State.canReceive, h] at hr
  · simp [hl] at ht

/-- After a supply-low a command that is taken meets its owner, and its answer is sent first (R154). -/
theorem command_late {s : State} {i : Instr} {tag : Byte} {p : List Byte} (act : State → State)
    (hp : commandPayload i = some (tag, p)) (hl : s.takesLate i = true)
    (hg : headerRefused (commandHeader tag p) = false) :
    s.command i act = (act s).answersFirst s.dbi.replies.length := by
  have hs := (takesLate_iff.mp hl).1
  simp [State.canReceive, hs, State.command, State.wholePacket, hp, hl, hg]

/-! ## The internal spin-down of standby -/

/-- An eject request lets the head entry go, and keeps the step of the work (R54, R132). -/
@[simp] theorem Downs.leaveStandby_standby (d : Downs) : d.leaveStandby.standby = d.standby := rfl
@[simp] theorem Downs.leaveStandby_cmd (d : Downs) : d.leaveStandby.cmd = d.cmd := rfl
@[simp] theorem Downs.leaveStandby_orphan (d : Downs) : d.leaveStandby.orphan = d.orphan := rfl
@[simp] theorem Downs.endStandby_standby (d : Downs) : d.endStandby.standby = none := rfl
@[simp] theorem Downs.endStandby_standbyLeft (d : Downs) : d.endStandby.standbyLeft = false := rfl
@[simp] theorem Downs.endStandby_cmd (d : Downs) : d.endStandby.cmd = d.cmd := rfl
@[simp] theorem Downs.endStandby_orphan (d : Downs) : d.endStandby.orphan = d.orphan := rfl

/-- Once an eject request has met the internal spin-down it holds the head entry no longer. -/
theorem standbyHolds_leaveStandby (s : State) : (s.onDowns Downs.leaveStandby).standbyHolds = false := by
  cases h : s.downs.standby <;> simp [State.standbyHolds, Downs.leaveStandby, h]

/-! ## The choice of a DATA packet -/

/-- The slot of the next DATA packet is a FULL one of the EXECUTING READ, and no eject is cutting the queue
(R181, R182). -/
theorem drainSlot_spec {s : State} {i : Nat} {t : Byte} (h : s.drainSlot = some (i, t)) :
    s.cutByEject = false ∧
    ∃ go l x, s.executing = some ⟨t, .xfer .read go l, true⟩ ∧ s.slots[i]? = some x ∧
      x.state = .full ∧ x.tag = some t := by
  unfold State.drainSlot at h
  split at h
  case h_2 => cases h
  case h_1 u go l ex he =>
    split at h
    case isTrue => cases h
    case isFalse hc =>
      refine ⟨by simpa using hc, ?_⟩
      split at h
      case h_2 => cases h
      case h_1 q _ =>
        obtain ⟨j, hj, hp⟩ := Option.map_eq_some_iff.mp h
        cases hp
        obtain ⟨hl, hx, _⟩ := List.findIdx?_eq_some_iff_getElem.mp hj
        simp only [Bool.and_eq_true, beq_iff_eq] at hx
        have hex : ex = true := by
          unfold State.executing at he
          split at he
          · split at he
            · next hx' => cases he; exact hx'
            · cases he
          · cases he
        subst hex
        exact ⟨go, l, _, he, List.getElem?_eq_getElem hl, hx.1.1, hx.1.2⟩

/-! ## Timers and tables -/

/-- An expiry acts on an armed timer only, after the ticks left to it. -/
theorem expire_cases (t : Option Timer) (act : State → State) (s : State) :
    t = none ∧ s.expire t act = s ∨
    ∃ x, t = some x ∧ s.expire t act = (act (s.elapse x.left)).event := by
  cases t with
  | none => exact .inl ⟨rfl, rfl⟩
  | some x => exact .inr ⟨x, rfl, rfl⟩

/-- A take leaves the state, or moves every staged copy, clamps the held current and asks for
attention. -/
theorem takeTables_cases (s : State) :
    s.takeTables = s ∨
    s.anyStaged = true ∧ s.tbs.hold = false ∧ s.supplyLow = false ∧
      s.takeTables = ((s.onTbs fun t => { t with
        profile := t.stagedProfile.getD t.profile, actions := t.stagedActions.getD t.actions,
        params := t.stagedParams.getD t.params, stagedProfile := none, stagedActions := none,
        stagedParams := none }).clampCurrent).request .tablesTaken := by
  unfold State.takeTables
  cases ha : s.anyStaged <;> cases hh : s.tbs.hold <;> cases hs : s.supplyLow <;> simp

/-- A clamped value lies within its bound. -/
theorem clampTo_bound (m : Nat) (x : Int) : (clampTo m x).natAbs ≤ m := by
  unfold clampTo
  split
  · omega
  · split <;> omega

/-- A value within the bound is not changed by the clamp. -/
theorem clampTo_of_bound {m : Nat} {x : Int} (h : x.natAbs ≤ m) : clampTo m x = x := by
  unfold clampTo
  split
  · omega
  · split <;> omega

/-! ## What is kept for each kind -/

/-- A kind's value after a replacement. -/
@[simp] theorem PerKind.get_set {α : Type} (m : PerKind α) (k : FaultKind) (v : α) :
    (m.set k v).get k = v := by
  cases k <;> rfl

/-- Another kind's value stays. -/
theorem PerKind.get_set_ne {α : Type} (m : PerKind α) {j k : FaultKind} (h : j ≠ k) (v : α) :
    (m.set k v).get j = m.get j := by
  cases j <;> cases k <;> first | rfl | exact absurd rfl h

/-- The same change for every kind. -/
@[simp] theorem PerKind.get_map {α β : Type} (f : α → β) (m : PerKind α) (k : FaultKind) :
    (m.map f).get k = f (m.get k) := by
  cases k <;> rfl

/-- The same value for every kind. -/
@[simp] theorem PerKind.get_fill {α : Type} (v : α) (k : FaultKind) :
    (PerKind.fill v).get k = v := by
  cases k <;> rfl

end Sys2Proof.Machine
end

