-- ==== Sys2Proof/Laws/PerInstr.lean ====
section
/-! SUPPORT. The payload of every command that a COMMAND packet carries is not empty and fits the two-byte
length field of its header (R177, R187): one lemma per command. -/

namespace Sys2Proof.Laws.Payload

/-- A well-formed command's payload has a length that a packet header can carry. -/
def Statement (i : Instr) : Prop :=
  i.wf = true → ∀ t p, commandPayload i = some (t, p) → 0 < p.length ∧ p.length < 65536

/-- A row that is no COMMAND packet has no payload. -/
theorem of_none (i : Instr) (h : commandPayload i = none) : Statement i := by
  intro _ t p hp
  rw [h] at hp
  cases hp

/-- A payload of a length below 65,536. -/
theorem of_length (i : Instr) (n : Nat) (hn : 0 < n ∧ n < 65536)
    (h : ∀ t p, commandPayload i = some (t, p) → p.length = n) : Statement i := by
  intro _ t p hp
  rw [h t p hp]
  exact hn

/-- The extents of a transfer take six bytes each. -/
theorem extents_length (l : List RawExtent) : (l.flatMap extentBytes).length = 6 * l.length := by
  induction l with
  | nil => rfl
  | cons e rest ih =>
    simp only [List.flatMap_cons, List.length_append, List.length_cons, ih, extentBytes, be32, be16]
    simp only [List.length_nil]
    omega

/-- A transfer's payload takes three bytes and its extents. -/
theorem of_transfer (i : Instr) (t : Byte) (c f : Byte) (l : List RawExtent)
    (h : commandPayload i = some (t, transferPayload c f l)) (hw : i.wf = extentsOk l) :
    Statement i := by
  intro wf t' p hp
  rw [h] at hp
  cases hp
  rw [hw] at wf
  have hl : l.length ≤ 255 := of_decide_eq_true wf
  simp only [transferPayload, List.length_append, List.length_cons, List.length_nil, extents_length]
  omega

theorem powerOnReset (cartridgePresent writeProtect parkOnRamp : Bool) : Statement (.powerOnReset cartridgePresent writeProtect parkOnRamp) :=
  of_none _ rfl

theorem supplyLow : Statement .supplyLow :=
  of_none _ rfl

theorem overTempShutdown : Statement .overTempShutdown :=
  of_none _ rfl

theorem overTempShutdownCeases : Statement .overTempShutdownCeases :=
  of_none _ rfl

theorem busReset : Statement .busReset :=
  of_none _ rfl

theorem busResetRelease : Statement .busResetRelease :=
  of_none _ rfl

theorem indexArrival (timer : Nat) (warning : Bool) : Statement (.indexArrival timer warning) :=
  of_none _ rfl

theorem stoppedRevolutionBoundary (warning : Bool) : Statement (.stoppedRevolutionBoundary warning) :=
  of_none _ rfl

theorem purgeComplete : Statement .purgeComplete :=
  of_none _ rfl

theorem wedgeTime (overCurrent : Bool) : Statement (.wedgeTime overCurrent) :=
  of_none _ rfl

theorem servoSample (valid : Bool) (cylinder head : Nat) (pes : Int) : Statement (.servoSample valid cylinder head pes) :=
  of_none _ rfl

theorem firstIndexWatchExpiry : Statement .firstIndexWatchExpiry :=
  of_none _ rfl

theorem spinUpTimerExpiry : Statement .spinUpTimerExpiry :=
  of_none _ rfl

theorem lostIndexWatchExpiry : Statement .lostIndexWatchExpiry :=
  of_none _ rfl

theorem reversePhaseTimeout : Statement .reversePhaseTimeout :=
  of_none _ rfl

theorem stopWindowExpiry : Statement .stopWindowExpiry :=
  of_none _ rfl

theorem standbyExpiry : Statement .standbyExpiry :=
  of_none _ rfl

theorem loadTimeout : Statement .loadTimeout :=
  of_none _ rfl

theorem unloadWatchExpiry : Statement .unloadWatchExpiry :=
  of_none _ rfl

theorem parkSensorOnRamp : Statement .parkSensorOnRamp :=
  of_none _ rfl

theorem retractWindowExpiry : Statement .retractWindowExpiry :=
  of_none _ rfl

theorem seekTimerExpiry : Statement .seekTimerExpiry :=
  of_none _ rfl

theorem retryDelayExpiry (kind : FaultKind) : Statement (.retryDelayExpiry kind) :=
  of_none _ rfl

theorem recoveryWatchEnd (kind : FaultKind) : Statement (.recoveryWatchEnd kind) :=
  of_none _ rfl

theorem cartridgeSensorPresent (writeProtect : Bool) : Statement (.cartridgeSensorPresent writeProtect) :=
  of_none _ rfl

theorem cartridgeSensorAbsent : Statement .cartridgeSensorAbsent :=
  of_none _ rfl

theorem ejectButtonPress : Statement .ejectButtonPress :=
  of_none _ rfl

theorem ejectorPulseEnd : Statement .ejectorPulseEnd :=
  of_none _ rfl

theorem ejectWindowExpiry : Statement .ejectWindowExpiry :=
  of_none _ rfl

theorem sectorArrival (sector : Nat) : Statement (.sectorArrival sector) :=
  of_none _ rfl

theorem sectorEnd (good : Bool) (data : List Byte) : Statement (.sectorEnd good data) :=
  of_none _ rfl

theorem inboundPacketHeader (kind tag : Byte) (length : BitVec 16) (b4 b5 b6 : Byte) : Statement (.inboundPacketHeader kind tag length b4 b5 b6) :=
  of_none _ rfl

theorem inboundParityError (place : ParityPlace) : Statement (.inboundParityError place) :=
  of_none _ rfl

theorem turnNegated (cut : HeaderPart) : Statement (.turnNegated cut) :=
  of_none _ rfl

theorem turnAsserted : Statement .turnAsserted :=
  of_none _ rfl

theorem outboundPacketAcked : Statement .outboundPacketAcked :=
  of_none _ rfl

theorem dataPacketIndex (tag : Byte) (index : BitVec 16) : Statement (.dataPacketIndex tag index) :=
  of_none _ rfl

theorem dataPacketEnd (data : List Byte) : Statement (.dataPacketEnd data) :=
  of_none _ rfl

theorem read (tag flags : Byte) (extents : List RawExtent) : Statement (.read tag flags extents) :=
  of_transfer _ tag 0x20 flags extents rfl rfl

theorem write (tag flags : Byte) (extents : List RawExtent) : Statement (.write tag flags extents) :=
  of_transfer _ tag 0x21 flags extents rfl rfl

theorem verify (tag flags : Byte) (extents : List RawExtent) : Statement (.verify tag flags extents) :=
  of_transfer _ tag 0x22 flags extents rfl rfl

theorem seek (tag : Byte) (cylinder : BitVec 16) : Statement (.seek tag cylinder) :=
  of_length _ 3 (by decide) fun _ _ hp => by cases hp; rfl

theorem spinUp (tag : Byte) : Statement (.spinUp tag) :=
  of_length _ 1 (by decide) fun _ _ hp => by cases hp; rfl

theorem spinDown (tag : Byte) : Statement (.spinDown tag) :=
  of_length _ 1 (by decide) fun _ _ hp => by cases hp; rfl

theorem flushRecord (tag : Byte) : Statement (.flushRecord tag) :=
  of_length _ 1 (by decide) fun _ _ hp => by cases hp; rfl

theorem reassignBlock (tag : Byte) (lba : BitVec 32) : Statement (.reassignBlock tag lba) :=
  of_length _ 5 (by decide) fun _ _ hp => by cases hp; rfl

theorem abort (tag target mode : Byte) : Statement (.abort tag target mode) :=
  of_length _ 3 (by decide) fun _ _ hp => by cases hp; rfl

theorem eject (tag mode force : Byte) : Statement (.eject tag mode force) :=
  of_length _ 3 (by decide) fun _ _ hp => by cases hp; rfl

theorem holdEject (tag : Byte) : Statement (.holdEject tag) :=
  of_length _ 1 (by decide) fun _ _ hp => by cases hp; rfl

theorem releaseEject (tag : Byte) : Statement (.releaseEject tag) :=
  of_length _ 1 (by decide) fun _ _ hp => by cases hp; rfl

theorem clearFaults (tag : Byte) : Statement (.clearFaults tag) :=
  of_length _ 1 (by decide) fun _ _ hp => by cases hp; rfl

theorem readFaults (tag : Byte) : Statement (.readFaults tag) :=
  of_length _ 1 (by decide) fun _ _ hp => by cases hp; rfl

theorem loadTable (tag selector : Byte) (body : List Byte) : Statement (.loadTable tag selector body) :=
  fun wf t p hp => by
    cases hp
    have h : body.length + 2 < 65536 := of_decide_eq_true wf
    simp only [List.length_cons]
    omega

theorem readTable (tag selector copy : Byte) (first : BitVec 16) : Statement (.readTable tag selector copy first) :=
  of_length _ 5 (by decide) fun _ _ hp => by cases hp; rfl

theorem tableHold (tag value : Byte) : Statement (.tableHold tag value) :=
  of_length _ 2 (by decide) fun _ _ hp => by cases hp; rfl

theorem latch (tag groups clear : Byte) : Statement (.latch tag groups clear) :=
  of_length _ 3 (by decide) fun _ _ hp => by cases hp; rfl

theorem readLatched (tag : Byte) : Statement (.readLatched tag) :=
  of_length _ 1 (by decide) fun _ _ hp => by cases hp; rfl

theorem status (tag : Byte) : Statement (.status tag) :=
  of_length _ 1 (by decide) fun _ _ hp => by cases hp; rfl

theorem attentionAck (tag : Byte) : Statement (.attentionAck tag) :=
  of_length _ 1 (by decide) fun _ _ hp => by cases hp; rfl

theorem endAttention (tag source : Byte) : Statement (.endAttention tag source) :=
  of_length _ 2 (by decide) fun _ _ hp => by cases hp; rfl

theorem setAttentionMask (tag : Byte) (mask : BitVec 16) : Statement (.setAttentionMask tag mask) :=
  of_length _ 3 (by decide) fun _ _ hp => by cases hp; rfl

theorem discardedPacketEnd : Statement .discardedPacketEnd :=
  of_none _ rfl

end Sys2Proof.Laws.Payload
end

