-- ==== Sys2Proof/Tests/Slice0.lean ====
section
/-! SUPPORT. Tests, with expected values from the manual's rules and worked tables, and a witness for
the hypotheses of every statement. -/

namespace Sys2Proof.Tests

open Sys2Proof Sys2Proof.Machine

-- One theorem at a time: each check by the kernel would hold a thread of its own.
set_option Elab.async false

/-! ## Helpers -/

/-- The state after a command. -/
def after (i : Instr) (s : State) : State :=
  match exec i s with
  | .next t => t
  | _ => s

/-- Whether a step answers a next state. -/
def runs (s : State) : Bool :=
  match step s with
  | .next _ => true
  | _ => false

/-- The worked cartridge (00_scope.md), with the slip entries of its worked translations. -/
def worked : Image :=
  { formatMark := 412, generation := 41, serial := 77,
    zones := [⟨0, 40, 2⟩, ⟨400, 34, 2⟩, ⟨800, 28, 2⟩],
    slips := [⟨533, 5⟩, ⟨533, 30⟩], reassigns := [], nextAlternate := 3 }

/-- The worked cartridge mounted: AT_SPEED, TRACKING on physical cylinder 537, head 0, PES 0. -/
def ready : State :=
  { State.reset with
    spc := { State.reset.spc with
      state := .atSpeed, demand := .none, stopWindow := none, lastPeriod := 16667,
      indexSeen := true, lostIndexWatch := some ⟨0, 33334⟩ },
    pos := { State.reset.pos with
      state := .tracking, fix := some ⟨537, 0, 137472, 137472, 0, 1⟩, target := some 537,
      current := 0, parkSensor := false, window := .waiting },
    ccu := { State.reset.ccu with state := .latched, releasePending := false, present := true },
    record := { State.reset.record with state := .valid, image := some worked } }

/-- The worked cartridge with the spindle in a state and the heads on the ramp. -/
def spun (st : SpindleState) : State :=
  { ready with spc := { ready.spc with state := st }, pos := State.reset.pos }

/-- `ready` with the heads in a state. -/
def heads (st : PosState) : State := ready.onPos fun p => { p with state := st }

/-- Heads that move from a position with a velocity to a physical cylinder (R59). -/
def seekingTo (target : Nat) (previous : Int) (since : Nat) : State :=
  (heads .seeking).onPos fun p => { p with
    target := some target, timerOn := true, timerLength := 30, requester := .engine,
    fix := some ⟨537, 0, previous, previous, 0, since⟩ }

/-- Heads that settle on physical cylinder 2 (worked loading of chapter 4). -/
def settlingOn2 (previous : Int) (since count : Nat) : State :=
  (heads .settling).onPos fun p => { p with
    target := some 2, settleCount := count, fix := some ⟨2, 0, previous, previous, 0, since⟩ }

def acts (f : FaultActions → FaultActions) (s : State) : State :=
  s.onTbs fun t => { t with actions := f t.actions }

def params (f : DriveParams → DriveParams) (s : State) : State :=
  s.onTbs fun t => { t with params := f t.params }

/-- A transfer of two blocks under tag 7, waiting for its first sector: block 40,042 of the worked read
of chapter 6 lies on physical cylinder 537, head 1, sector 32. -/
def transferring (k : XferKind) (st : EngineState) (f : Option Flight) (seq : Nat) : State :=
  { ready with
    queue := [⟨7, .xfer k false [⟨40042, 2⟩], true⟩], job := .transfer,
    pos := { ready.pos with head := 1 },
    eng := { Engine.none with
      state := st, place := (translation worked (40042 + seq)), block := seq, seq := seq, flight := f } }

/-- Eight FULL slots. -/
def allFull : List Slot := List.replicate 8 ⟨.full, some 7, 9, 0, 0, []⟩

/-- The state with one slot holding a block of tag 7. -/
def withSlot (i : Nat) (st : SlotState) (seq : Nat) (s : State) : State :=
  { s with slots := s.slots.modify i fun _ => ⟨st, some 7, seq, 40042, 0, []⟩ }

/-- The state with an inbound assembly. -/
def arriving (b : Inbound) (s : State) : State := s.onDbi fun d => { d with inb := b }

/-- `ready` with a DIRTY record. -/
def dirty : State := ready.onRec fun r => { r with state := .dirty }

/-- A LATCHED record of SERVO_LOST. -/
def lost : FaultRecord :=
  ⟨.servoLost, .latched, none, 1, 10000, 10000, some 537, .atSpeed, .tracking, 0, none⟩

/-! ## WellFormed: an ill-formed command for each check -/

theorem test_wf_cylinder : (Instr.servoSample true 1232 0 0).wf = false := by decide
theorem test_wf_head : (Instr.servoSample true 0 2 0).wf = false := by decide
theorem test_wf_pes_low : (Instr.servoSample true 0 0 (-129)).wf = false := by decide
theorem test_wf_pes_high : (Instr.servoSample true 0 0 128).wf = false := by decide
theorem test_wf_sample : (Instr.servoSample true 1231 1 (-128)).wf = true := by decide
theorem test_wf_sector : (Instr.sectorArrival 48).wf = false := by decide
theorem test_wf_sector_data : (Instr.sectorEnd true []).wf = false := by decide
theorem test_wf_packet_data : (Instr.dataPacketEnd (List.replicate 513 0)).wf = false := by
  decide +kernel
theorem test_wf_read : (Instr.read 1 0 (List.replicate 256 ⟨0, 1⟩)).wf = false := by decide +kernel
theorem test_wf_write : (Instr.write 1 0 (List.replicate 256 ⟨0, 1⟩)).wf = false := by
  decide +kernel
theorem test_wf_verify : (Instr.verify 1 0 (List.replicate 256 ⟨0, 1⟩)).wf = false := by
  decide +kernel
theorem test_wf_parity : (Instr.inboundParityError (.lead 1 9 1 [0x24])).wf = false ∧
    (Instr.inboundParityError (.lead 1 9 4 [0x24, 0, 0])).wf = false := by decide
theorem test_wf_table : (Instr.loadTable 1 1 (List.replicate 65534 0)).wf = false := by
  decide +kernel

/-! ## COMMAND payloads (R187, command summary) -/

theorem test_payload_write :
    decodeCommand 7 [0x21, 0, 1, 0x00, 0x00, 0x9C, 0x40, 0x00, 0x02] =
      some (.write 7 0 [⟨40000, 2⟩]) := by decide
theorem test_payload_eject : decodeCommand 9 [0x41, 1, 0] = some (.eject 9 1 0) := by decide
theorem test_payload_latch : decodeCommand 9 [0x58, 7, 1] = some (.latch 9 7 1) := by decide
theorem test_payload_end : decodeCommand 9 [0x61, 15] = some (.endAttention 9 15) := by decide
theorem test_payload_hold : decodeCommand 9 [0x52, 1] = some (.tableHold 9 1) := by decide
theorem test_payload_short : decodeCommand 9 [0x20, 0, 1, 0, 0, 0, 1] = none := by decide
theorem test_word : decodeTableWord 32 0 = none := by decide

/-! ## Block addressing: the worked translations of chapter 2 -/

theorem test_capacity : capacityOf worked.zones = 80496 ∧ alternateCount worked.zones = 224 := by
  decide
theorem test_bases : (zoneBases 0 worked.zones).map Prod.snd = [0, 31200, 57600] := by decide
theorem test_translate_slipped : (translation worked 40000).map
    (fun p => (p.cylinder, p.head, p.sector)) = some (537, 0, 23) := by decide
theorem test_translate_last_of_cylinder : (translation worked 40043).map
    (fun p => (p.cylinder, p.head, p.sector)) = some (537, 1, 33) := by decide
theorem test_translate_zone_end : (translation worked 31199).map
    (fun p => (p.cylinder, p.head, p.sector)) = some (403, 1, 37) := by decide
theorem test_translate_last : (translation worked 80495).map
    (fun p => (p.cylinder, p.head, p.sector)) = some (1227, 1, 25) := by decide
theorem test_translate_reassigned : (translation { worked with reassigns := [⟨40000, 3⟩] } 40000).map
    (fun p => (p.cylinder, p.head, p.sector)) = some (1228, 0, 3) := by decide
theorem test_alternate_100 : (alternatePlace worked 100).cylinder = 1229 ∧
    (alternatePlace worked 100).head = 1 ∧ (alternatePlace worked 100).sector = 16 := by decide
theorem test_slip_cascade : slipStage [⟨533, 5⟩, ⟨533, 23⟩] 533 22 = 24 := by decide

/-! ## Seek and servo arithmetic: the worked figures of chapters 4 and 5 -/

theorem test_demand_768 : demandSpeed SeekProfile.defaults.rows 768 = 50 := by decide
theorem test_demand_4095 : demandSpeed SeekProfile.defaults.rows 4095 = 159 := by decide
theorem test_demand_last : demandSpeed SeekProfile.defaults.rows 256000 = 512 := by decide
theorem test_seek_raw_limit :
    seekRaw { SeekProfile.defaults with ilim := 1000 } 1100 25600 0 = 1280 := by decide
theorem test_seek_truncates : seekRaw SeekProfile.defaults 547 137472 135 = -57 := by decide
theorem test_seek_step : (after (.servoSample true 537 0 40) (seekingTo 540 137482 1)).pos.current =
    45 := by decide +kernel
theorem test_seek_after_drop :
    (after (.servoSample true 538 0 (-10)) (seekingTo 540 137622 2)).pos.current = -27 := by
  decide +kernel
theorem test_seek_ends : (after (.servoSample true 540 0 (-101)) (seekingTo 540 138104 1)).pos.state =
    .settling ∧ (after (.servoSample true 540 0 (-101)) (seekingTo 540 138104 1)).pos.current =
    303 := by decide +kernel
theorem test_settle_across_drop :
    (after (.servoSample true 2 0 (-3)) (settlingOn2 521 2 0)).pos.fix.map Fix.velocity =
      some (-6) ∧
    (after (.servoSample true 2 0 (-3)) (settlingOn2 521 2 0)).pos.current = 9 := by decide +kernel
theorem test_settle_ends : (after (.servoSample true 2 0 4) (settlingOn2 511 1 3)).pos.state =
    .tracking ∧ (after (.servoSample true 2 0 4) (settlingOn2 511 1 3)).pos.current = -12 := by
  decide +kernel

/-! ## Events, from the worked tables -/

/-- Chapter 3, cold spin-up: the first index after the start. -/
theorem test_first_index : (after (.indexArrival 5000 false)
    (State.onSpc (fun p => { p with indexSeen := false, lastPeriod := 0 }) (spun .starting))).spc.state =
    .accelerating := by decide +kernel
/-- Chapter 3: the eighth period in the lock window. -/
theorem test_lock : (after (.indexArrival 16750 false)
    ((spun .accelerating).onSpc fun p => { p with lockCount := 7 })).spc.state = .purging := by
  decide +kernel
/-- Chapter 3: 16,583 is outside the lock window. -/
theorem test_unlock : (after (.indexArrival 16583 false)
    ((spun .accelerating).onSpc fun p => { p with lockCount := 1 })).spc.lockCount = 0 := by
  decide +kernel
/-- Chapter 3: the 300th revolution of the purge. -/
theorem test_purge_ends : (after (.indexArrival 16667 false)
    ((spun .purging).onSpc fun p => { p with purgeCount := 299 })).spc.state = .atSpeed := by
  decide +kernel
/-- R48: a default stop window is a second long, and its end is STOPPED. -/
theorem test_stopped : (after .stopWindowExpiry
    ((spun .coasting).onSpc fun p => { p with stopWindow := some ⟨3, 1000000⟩ })).spc.state =
    .stopped := by decide +kernel
/-- Chapter 7, cold insertion: the cartridge is seated and CARTRIDGE_INSERTED is requested. -/
theorem test_insertion : (after (.cartridgeSensorPresent false)
    { spun .stopped with ccu := { State.reset.ccu with latch := false, releasePending := false } }).ccu.state
    = .seated := by decide +kernel
/-- R128: the media change count wraps after 255. -/
theorem test_media_change : (after .cartridgeSensorAbsent
    ((spun .stopped).onCcu fun c => { c with state := .seated, mediaChange := 255 })).ccu.mediaChange
    = 0 := by decide +kernel
/-- Chapter 4: the head switch of the worked sequence settles on the same cylinder. -/
theorem test_read_switches_head : (after (.read 7 0 [⟨40042, 10⟩]) ready).pos.state = .settling ∧
    (after (.read 7 0 [⟨40042, 10⟩]) ready).pos.head = 1 := by decide +kernel
/-- Chapter 6: sector 32 ends good and the cursor stands at block 1. -/
theorem test_sector_good : (after (.sectorEnd true (List.replicate 512 1))
    (withSlot 0 .filling 0 (transferring .read .transferring (some ⟨.read, some 0, false, false⟩) 0))).eng.seq
    = 1 := by decide +kernel
/-- Chapter 10: the reply queue of 13 packets takes the QUEUED reply, and the DATA packet's first byte
is withheld. -/
theorem test_full_queue :
    (after (.inboundPacketHeader 2 7 514 0 0 0)
      { transferring .write .rotateWait none 0 with
        dbi := { ready.dbi with replies := List.replicate 14 (.reply 1 .ok .empty) } }).dbi.inb =
      .waiting ⟨2, 7, 514, [0, 0, 0]⟩ := by decide +kernel
/-- R178, R179: the code byte of a COMMAND in error is BUS_PARITY under the tag; an error after a code
that is not in the command summary comes too late. -/
theorem test_parity_lead :
    (after (.inboundParityError (.lead 1 9 3 [])) ready).dbi.replies =
      [.reply 9 .busParity .empty] ∧
    (after (.inboundParityError (.lead 1 9 3 [0x28])) ready).dbi.replies =
      [.reply 9 .badPacket .empty] := by decide +kernel
/-- R174: the part asserts ACK to a byte of even parity too, and negates it when the strobe ends. -/
theorem test_shake : goodParity 0x01 true = false ∧
    (ready.shake (.strobe 0x01 true)).dbi.ack = true ∧
    (ready.shakeIn 0x01 true).dbi.ack = false := by decide +kernel
/-- A FLUSH RECORD whose work of SPIN UP ends FAULTED completes with that code (R99) or with
RECORD_WRITE_FAILED (R11), as the free value says (log 15). -/
theorem test_flush_work_fails :
    let s := { dirty with queue := [⟨9, .flush, true⟩], job := .work }
    (State.workEndsHead .faulted s).hasDone 9
      (if Config.flushTakesWorkCode then .faulted else .recordWriteFailed) = true := by
  intro s
  have h : s.workEndsHead .faulted = s.completeHead (flushCode .faulted) := rfl
  rw [h]
  unfold flushCode
  cases Config.flushTakesWorkCode <;> decide +kernel
/-- R118 (log 72): a FLUSH RECORD waits for the sector of a command that has left the queue. -/
theorem test_flush_waits :
    let s := { dirty with queue := [⟨9, .flush, true⟩], job := .ready }
    (reactReady (s.onEng fun e => { e with flight := some ⟨.write, some 0, false, true⟩ })).isNone ∧
    (reactReady s).isSome := by decide +kernel
/-- A part after a supply-low, with a packet kept in its reply queue. -/
def supplyLost : State :=
  after .supplyLow (ready.onDbi fun d => { d with replies := [.reply 1 .ok .empty] })

/-- R154, R184: after a supply-low the record stays in the list, CLEAR FAULTS leaves it, and STATUS is not
taken. -/
theorem test_supply_low_faults :
    after (.status 9) supplyLost = supplyLost ∧
    supplyLost.fsv.records.map FaultRecord.kind = [.supplyLow] ∧
    (supplyLost.clearFaults 9).fsv.records = supplyLost.fsv.records := by decide +kernel
/-- R154 or R184, as the free value says (log 58): READ FAULTS is answered before the kept packet, or not
taken. -/
theorem test_supply_low_read :
    (after (.readFaults 9) supplyLost).dbi.replies =
      if Config.faultListReadable then
        [.reply 9 .ok (.faults supplyLost.fsv.records), .reply 1 .ok .empty]
      else [.reply 1 .ok .empty] := by
  have h : after (.readFaults 9) supplyLost =
    supplyLost.command (.readFaults 9) fun u => u.readFaults 9 := rfl
  rw [h]
  cases hc : Config.faultListReadable with
  | false =>
    rw [command_of_supplyLow (by decide +kernel) (by simp [State.takesLate, hc])]
    decide +kernel
  | true =>
    rw [command_late _ rfl (takesLate_iff.mpr ⟨by decide +kernel, rfl, hc, by decide +kernel⟩) rfl]
    decide +kernel
/-- R181, R115: while an ABORT in mode SECTOR_END waits for the sector in flight, the part goes on sending. -/
theorem test_abort_drains :
    let s := after (.abort 9 7 0) (withSlot 1 .full 0
      (withSlot 0 .filling 1 (transferring .read .transferring (some ⟨.read, some 0, false, false⟩) 1)))
    let t := after .outboundPacketAcked (after (.turnNegated .nothing) s)
    t.endWith = some .aborted ∧ t.dbi.out = .data 1 7 true ∧
    (after (.sectorEnd true []) t).hasDone 7 .aborted = true := by decide +kernel
/-- R182: none of its DATA packets begins after an eject with mode CUT. -/
theorem test_cut_drains_none :
    let s := after (.eject 9 1 0) (withSlot 1 .full 0
      (withSlot 0 .filling 1 (transferring .read .transferring (some ⟨.read, some 0, false, false⟩) 1)))
    let t := after .outboundPacketAcked (after (.turnNegated .nothing) s)
    t.endWith = some .ejectAborted ∧ t.dbi.out = .none := by decide +kernel
/-- Chapter 11: the non-specific END ATTENTION ends the more urgent source. -/
theorem test_end_attention : (after (.endAttention 9 15)
    (ready.onAtc fun a => { a with inService := [.faultReported, .dataReady] })).atc.inService =
    [.dataReady] := by decide +kernel
/-- Chapter 9: Ilim 3,000 is clamped to 2,047, one field. -/
theorem test_load_clamps : (after (.loadTable 9 1
    [2, 0, 0, 0, 0, 0, 1, 0, 24, 40, 48, 0x0B, 0xB8]) ready).dbi.replies =
    [.reply 9 .okClamped (.clamped 1)] := by decide +kernel
/-- Chapter 2: REASSIGN BLOCK 40,000 gives slot 3 and raises the counter to 4. -/
theorem test_reassign : (after (.reassignBlock 9 40000) ready).record.image =
    some { worked with reassigns := [⟨40000, 3⟩], nextAlternate := 4 } := by decide +kernel
/-- Chapter 2: 80,496 is refused. -/
theorem test_reassign_refused : (after (.reassignBlock 9 80496) ready).dbi.replies =
    [.reply 9 .badAddress .empty] := by decide +kernel
/-- Chapter 8: a READ with a LATCHED record completes FAULTED at once. -/
theorem test_faulted : ((after (.read 8 0 [⟨5, 1⟩])
    { ready with fsv := { ready.fsv with records := [lost] } }).hasDone 8 .faulted) = true := by
  decide +kernel

/-- Chapter 9: AUTO_SPIN lists yes before no, and attention auto-end too (R163, R187). -/
theorem test_yes_no : (paramsBytes DriveParams.defaults).drop 12 = [0, 0, 1] ∧
    (paramsOf (paramsBytes DriveParams.defaults)).map (fun x => x.1.autoSpin) = some true := by
  decide +kernel
/-- Chapter 3: a fault LATCHED before whose actions are both NONE does not cut a work of SPIN UP. -/
theorem test_latched_again : (State.recognise .overTempWarn none
    { ready with
      work := some ⟨.heads, false, true, false, false, false, none⟩,
      fsv := { ready.fsv with records := [{ lost with
        kind := .overTempWarn, kept := some ⟨.latch, .none, .none, 8, 1, 60⟩ }] } }).work.isSome =
    true := by decide +kernel
/-- Chapters 3 and 7: an eject ends the internal spin-down, whose work runs on, and the entry begins (R54,
R132). -/
theorem test_eject_leaves_standby : (let t := (after (.eject 9 0 0)
    { ready with downs := ⟨none, some .work, none, false⟩, queue := [⟨3, .seek 533, false⟩],
                 work := some ⟨.heads, false, true, false, false, false, none⟩ });
    t.downs = ⟨none, some .unload, none, true⟩ ∧ t.pos.state = .unloading ∧
    t.queue = [⟨3, .seek 533, true⟩] ∧ t.job = .work) := by
  decide +kernel
/-- R54, R99 (log 80): a READ that began at the eject meets the unload after the write-back, and AUTO_SPIN. -/
theorem test_stranded :
    let t := State.settle { ready with
      downs := ⟨none, some .ask, none, true⟩, job := .ready,
      queue := [⟨3, .xfer .read false [⟨5, 1⟩], true⟩],
      ccu := { ready.ccu with
        state := .ejectPending, eject := some ⟨some .draining, .drain, false, [9], .undecided⟩ } }
    t.pos.state = .unloading ∧ t.job = .work ∧ t.pos.loadByWork = true ∧ t.queue.length = 1 := by
  decide +kernel
/-- Chapters 3 and 7: a work of SPIN UP left by a bus reset outlives an eject's UNLOADING, and waits in
EJECTING for the end of the eject. -/
theorem test_lost_work_ejected : (let t := (after .stopWindowExpiry
    { ready with work := some ⟨.spindle, false, false, false, false, true, none⟩,
                 spc := { ready.spc with
                   state := .coasting, startByWork := true, stopWindow := some ⟨0, 1000000⟩ },
                 pos := { ready.pos with state := .unloaded },
                 ccu := { ready.ccu with
                   state := .ejectPending,
                   eject := some ⟨some .unloading, .cut, true, [], .undecided⟩ } });
    t.ccu.state = .ejecting ∧ t.spc.state = .stopped ∧
    t.work = some ⟨.cartridge, false, false, false, false, true, none⟩) := by decide +kernel
/-- Chapter 6: a fault lets the record read that a READ waits for run to its end, and ends the READ then. -/
theorem test_waiter_faults : (let t := (State.recognise .overTempWarn none
      { ready with queue := [⟨3, .xfer .read false [⟨5, 1⟩], true⟩], job := .ready,
                   record := { ready.record with
                     state := .notRead, image := none,
                     op := .reading ⟨List.replicate 22 none, List.replicate 22 0⟩ },
                   tbs := { ready.tbs with actions := { ready.tbs.actions with
                     overTempWarn := ⟨.latch, .none, .none, 8, 1, 60⟩ } } });
    t.endWith = some .faulted ∧ t.queue.length = 1 ∧ t.recordReading = true ∧
    (t.dropRecordOp.settle.hasDone 3 .faulted) = true) := by decide +kernel
/-- Chapter 10: after a supply-low STB and ACK are held as they are, where no byte moves then (log 58). -/
theorem test_supply_holds :
    (State.shake .strobeEnds
      { ready with supplyLow := true, dbi := { ready.dbi with ack := true } }).dbi.ack =
        !Config.faultListReadable := by
  unfold State.shake State.busLives
  cases Config.faultListReadable <;> rfl

/-! ## Witnesses: the hypotheses of each statement are met -/

theorem witness_StepRunsFrontCommand :
    ({ ready with pending := [.turnAsserted] } : State).pending = .turnAsserted :: [] := by decide
theorem witness_EmptyQueueTicks : State.reset.pending = [] := by decide
theorem witness_PayloadRoundTrip :
    (Instr.read 1 255 (List.replicate 255 ⟨4294967295, 65535⟩)).wf = true ∧
    (commandPayload (.read 1 255 (List.replicate 255 ⟨4294967295, 65535⟩))).isSome = true := by
  decide +kernel
theorem witness_CurrentStaysBounded :
    (ready.onPos fun p => { p with current := -1600 }).currentBounded ∧
    runs (ready.onPos fun p => { p with current := -1600 }) = true ∧
    SeekProfile.defaults.inLimits = true := by
  unfold State.currentBounded; decide +kernel

/-- States at the limits of the laws: two records, four entries, full counts. -/
def twoRecords : State :=
  ready.onFsv fun v => { v with records := [lost, { lost with kind := .seekTimeout }] }
def fourEntries : State :=
  { ready with
    queue := [⟨1, .spinUp, true⟩, ⟨2, .flush, false⟩, ⟨3, .spinDown, false⟩, ⟨4, .seek 0, false⟩],
    pending := [.spinUp 5] }
def fullCounts : State :=
  { ready with
    counters := ⟨65535, 65535, 65535, 65535, 65535, 65535⟩,
    ccu := { ready.ccu with
      holdCount := 15, mediaChange := 255,
      eject := some ⟨none, .drain, false, [1, 2, 3, 4], .undecided⟩ } }
def stagedProfile : State :=
  ready.onTbs fun t => { t with stagedProfile := some SeekProfile.defaults }

/-- A CLEAR FAULTS that removes the first of two records. -/
def clearing : State :=
  { twoRecords with
    pending := [.clearFaults 9],
    fsv := { twoRecords.fsv with records := [lost, { lost with kind := .seekTimeout, state := .retrying }] } }

theorem witness_OneRecordPerKindStays :
    twoRecords.oneRecordPerKind ∧ runs twoRecords = true ∧ twoRecords.pending.head? = none ∧
    clearing.oneRecordPerKind ∧ runs clearing = true ∧
    clearing.pending.head? = some (.clearFaults 9) ∧
    (clearing.fsv.records.filter clearing.keepsRecord).map FaultRecord.kind = [.seekTimeout] := by
  unfold State.oneRecordPerKind; decide +kernel
theorem witness_QueueStaysSound : fourEntries.queueSound ∧ runs fourEntries = true := by
  unfold State.queueSound; decide +kernel
theorem witness_BrakeStaysSafe :
    (spun .braking).brakeSafe ∧ runs (spun .braking) = true := by
  unfold State.brakeSafe; decide +kernel
theorem witness_TablesStayInLimits :
    stagedProfile.tablesInLimits ∧ runs stagedProfile = true := by
  unfold State.tablesInLimits; decide +kernel
theorem witness_CountsStayInRange : fullCounts.countsInRange ∧ runs fullCounts = true := by
  unfold State.countsInRange; decide +kernel

theorem worked_sound : worked.sound := by unfold Image.sound; decide +kernel

/-- A WRITE with a DATA packet filling slot 0. -/
def filling : State :=
  arriving (.data 7 0 0) (withSlot 0 .filling 0 (transferring .write .rotateWait none 0))

theorem filling_slots (i : Nat) : filling.slotState i = if i = 0 then some .filling
    else if i < 8 then some .empty else none := by
  match i with
  | 0 | 1 | 2 | 3 | 4 | 5 | 6 | 7 => decide +kernel
  | n + 8 => simp [State.slotState, filling, arriving, withSlot, transferring, State.onDbi, ready,
      State.reset, State.powerOn, Config.slotCount]

theorem witness_SlotsStayAccounted : filling.slotsAccounted ∧ runs filling = true := by
  have hf : filling.eng.flight = none := by decide +kernel
  have hi : filling.dbi.inb.slot = some 0 := by decide +kernel
  have ho : filling.dbi.out.slot = none := by decide +kernel
  have hr : filling.record.op.slot = none := by decide +kernel
  refine ⟨⟨by unfold State.eightSlots; decide +kernel, fun _ => ?_⟩, by decide +kernel⟩
  simp only [hf, hi, ho, hr, filling_slots]
  refine ⟨fun i h => ?_, fun i h => ?_, fun i h => ?_, ?_, ?_, ?_, ?_, ?_, ?_⟩
  · right; split at h
    · simp_all
    · split at h <;> simp at h
  · split at h
    · simp at h
    · split at h <;> simp at h
  · simp_all
  · simp
  · exact .inr trivial
  · simp
  · simp
  · simp
  · intro h; exact absurd h (by decide +kernel)

/-- A reply queue with room for one packet's REPLY and DONE, and one with none left. -/
theorem witness_RepliesFindRoom :
    (arriving (.payload ⟨1, 7, 1, [0x24]⟩) (ready.onDbi fun d => { d with
      replies := List.replicate 14 (.reply 1 .ok .empty) })).repliesFit ∧
    (ready.onDbi fun d => { d with replies := List.replicate 16 (.reply 1 .ok .empty) }).repliesFit ∧
    runs (ready.onDbi fun d => { d with replies := List.replicate 16 (.reply 1 .ok .empty) }) =
      true := by
  unfold State.repliesFit; decide +kernel

/-- The last sector of a record passes under the head. -/
def lastRecordSector : State :=
  { ready with
    pending := [.sectorEnd true (List.replicate 512 0)],
    record := ⟨.notRead, none, none, none, .reading
      ⟨(List.replicate 21 (some (List.replicate 512 0))) ++ [none], List.replicate 22 0⟩, false⟩,
    eng := { Engine.none with flight := some ⟨.recordRead 21, some 0, false, false⟩ },
    slots := ready.slots.modify 0 fun _ => ⟨.filling, none, 0, 0, 0, []⟩ }

theorem witness_RecordStaysSound :
    (∀ i ∈ lastRecordSector.pending.head?, i.wf = true) ∧ lastRecordSector.recordSound ∧
    runs lastRecordSector = true := by
  refine ⟨?_, ⟨?_, ?_, ?_, ?_⟩, by decide +kernel⟩
  · intro i h
    cases h
    decide +kernel
  · intro img h; cases h
  · intro _; rfl
  · intro r h
    cases h
    decide +kernel
  · intro w h; cases h
theorem witness_RecordStaysSound_mounted :
    ready.record.image = some worked ∧ (after .turnAsserted ready).record.image = some worked ∧
    runs ready = true := by decide +kernel

/-- A WRITE whose block waits FULL for its sector, and a write-back whose sector 0 waits. -/
def writesNow : State :=
  { withSlot 0 .full 0 (transferring .write .rotateWait none 0) with
    pending := [.sectorArrival 32] }
def writesRecord : State :=
  { ready with
    pending := [.sectorArrival 0],
    pos := { ready.pos with target := some 0, fix := some ⟨0, 24, 24, 24, 0, 1⟩ },
    record := { ready.record with
      state := .dirty, op := .writing ⟨.lost, List.replicate 22 [], 42, 0, 0, some 0, true⟩ },
    slots := ready.slots.modify 0 fun _ => ⟨.full, none, 0, 0, 0, []⟩ }

/-- The state after a step. -/
def stepped (s : State) : State :=
  match step s with
  | .next t => t
  | _ => s

theorem witness_WritesBeginGated :
    writesNow.settled = true ∧ runs writesNow = true ∧
    (stepped writesNow).eng.flight = some ⟨.write, some 0, false, false⟩ ∧
    writesRecord.settled = true ∧ runs writesRecord = true ∧
    (stepped writesRecord).eng.flight = some ⟨.recordWrite, some 0, false, false⟩ := by
  decide +kernel

/-- A load that the work of SPIN UP asks for as the purge ends. -/
def loadsNow : State :=
  { spun .purging with
    pending := [.purgeComplete], spc := { (spun .purging).spc with purgeCount := 300 },
    pos := { State.reset.pos with loadByWork := true } }
theorem witness_LoadsBeginAtSpeed :
    runs loadsNow = true ∧ loadsNow.pos.state ≠ .loading ∧
    (stepped loadsNow).pos.state = .loading := by decide +kernel

/-- STOP_CHECK ends as the disk stops. -/
def stopsNow : State :=
  { (spun .coasting).onCcu fun c => { c with state := .stopCheck } with
    pending := [.stopWindowExpiry],
    spc := { (spun .coasting).spc with stopWindow := some ⟨1000000, 1000000⟩ } }
theorem witness_LatchReleasesAtRest :
    stopsNow.settled = true ∧ stopsNow.pendingStart = false ∧
    (stopsNow.ccu.state = .seated → stopsNow.ccu.latch = false) ∧
    (stopsNow.spc.stopWindow ≠ none → stopsNow.spc.state.powered = false) ∧
    runs stopsNow = true ∧ stopsNow.ccu.latch = true ∧ (stepped stopsNow).ccu.latch = false := by
  decide +kernel

theorem witness_AlternateLayout : worked.sound ∧ 0 < alternateCount worked.zones ∧
    223 < alternateCount worked.zones := ⟨worked_sound, by decide⟩
theorem witness_SlipStage :
    worked.sound ∧ zoneOfCylinder worked.zones 533 = some ⟨400, 34, 2⟩ ∧ 533 < 1224 ∧
    65 < Zone.lpc ⟨400, 34, 2⟩ ∧ zoneOfCylinder worked.zones 1223 = some ⟨800, 28, 2⟩ ∧
    1223 < 1224 ∧ 0 < Zone.lpc ⟨800, 28, 2⟩ := ⟨worked_sound, by decide⟩
theorem witness_TranslationInjective : worked.sound ∧ 0 < capacityOf worked.zones ∧
    80495 < capacityOf worked.zones := ⟨worked_sound, by decide⟩
theorem witness_RecordRoundTrip : worked.sound := worked_sound

/-- A record image whose reassign table is full, with a slot left, and a drive that holds it. -/
def fullTable : Image :=
  { worked with reassigns := (List.range 64).map fun n => ⟨n, n⟩, nextAlternate := 64 }
def fullDrive : State := ready.onRec fun r => { r with image := some fullTable }

theorem fullTable_sound : fullTable.sound := by unfold Image.sound; decide +kernel

theorem witness_ReassignChanges :
    worked.sound ∧ ready.listens = true ∧ ready.calm = true ∧ ready.readyDrive = true ∧
    (9 : Byte) ≠ 0 ∧ ready.record.image = some worked ∧ ready.ccu.protect = false ∧
    (80495 : BitVec 32).toNat < capacityOf worked.zones ∧
    worked.nextAlternate < alternateCount worked.zones ∧ worked.reassigns.length < 64 ∧
    (∀ x ∈ ready.slots, x.tag ≠ some 9) := ⟨worked_sound, by decide +kernel⟩
theorem witness_ReassignChanges_fullTable :
    fullTable.sound ∧ fullDrive.listens = true ∧ fullDrive.calm = true ∧
    fullDrive.readyDrive = true ∧ fullDrive.record.image = some fullTable ∧
    fullDrive.ccu.protect = false ∧ (63 : BitVec 32).toNat < capacityOf fullTable.zones ∧
    fullTable.nextAlternate < alternateCount fullTable.zones ∧
    (∃ e ∈ fullTable.reassigns, e.lba = (63 : BitVec 32).toNat) ∧
    (∀ x ∈ fullDrive.slots, x.tag ≠ some 9) := ⟨fullTable_sound, by decide +kernel⟩

/-- The common hypotheses of IndexArrives, in a spindle state. -/
def indexReady (s : State) (st : SpindleState) : Bool :=
  s.calm && !s.pos.timerOn && !s.anyStaged && s.spc.state == st && s.spc.revTimer == 0

/-- ACCELERATING with a lock count, and AT_SPEED with an excursion count. -/
def locking (n : Nat) : State := (spun .accelerating).onSpc fun p => { p with lockCount := n }
def wandering (n : Nat) : State := ready.onSpc fun p => { p with excursionCount := n }
/-- A disk that has just been started, as the start leaves it. -/
def started : State := (spun .stopped).enterStarting

theorem witness_IndexArrives :
    indexReady (spun .stopped) .stopped = true ∧ indexReady (spun .coasting) .coasting = true ∧
    indexReady (spun .braking) .braking = true ∧ (spun .braking).spc.indexSeen = true ∧
    indexReady started .starting = true ∧ started.spc.indexSeen = false ∧
    indexReady (locking 7) .accelerating = true ∧ 8 ≤ (locking 7).spc.lockCount + 1 ∧
    indexReady (locking 6) .accelerating = true ∧ (locking 6).spc.lockCount + 1 < 8 ∧
    indexReady (spun .purging) .purging = true ∧ indexReady ready .atSpeed = true ∧
    indexReady (wandering 2) .atSpeed = true ∧
    (wandering 2).spc.excursionCount + 1 < (wandering 2).tbs.actions.speedOutOfRange.deglitch := by
  decide +kernel
/-- The periods where the clauses of IndexArrives meet, for a revolution timer of 0. -/
theorem witness_IndexArrives_periods :
    (∀ t ∈ [16584, 16750], 16584 ≤ min 1048575 (max t 0) ∧ min 1048575 (max t 0) ≤ 16750) ∧
    (∀ t ∈ [16583, 16751], min 1048575 (max t 0) < 16584 ∨ 16750 < min 1048575 (max t 0)) ∧
    (∀ t ∈ [16334, 17000], 16334 ≤ min 1048575 (max t 0) ∧ min 1048575 (max t 0) ≤ 17000) ∧
    (∀ t ∈ [16333, 17001], ¬ (16334 ≤ min 1048575 (max t 0) ∧ min 1048575 (max t 0) ≤ 17000)) := by
  decide

/-- A seek with a timer count, a recovery watch with a count, a retry delay of a coasting disk, and a record
of SPEED_OUT_OF_RANGE whose retries have been counted. -/
def indexTimer (n : Nat) : State :=
  acts (fun t => { t with seekTimeout := { t.seekTimeout with deglitch := 2 } })
    ((seekingTo 540 137472 1).onPos fun p => { p with timerCount := n })
def indexWatch (n : Nat) : State := ready.onKind .servoLost fun x => { x with watch := some n }
def retryRow : FaultRow := ⟨.retry, .coast, .none, 1, 2, 30⟩
def retrying (n : Nat) : FaultRecord :=
  ⟨.speedOutOfRange, .retrying, none, 1, 1, 1, some 537, .atSpeed, .tracking, n, some retryRow⟩
def indexDelay (n : Nat) (c : CartState) : State :=
  { ((spun .coasting).onKind .speedOutOfRange fun x => { x with delay := some ⟨n, 30⟩ }) with
    ccu := { ready.ccu with state := c },
    fsv := { ready.fsv with
      records := [retrying 0],
      kinds := ready.fsv.kinds.set .speedOutOfRange
        { KindStatus.none with delay := some ⟨n, 30⟩ } } }
def straying (l : List FaultRecord) : State :=
  acts (fun t => { t with speedOutOfRange := retryRow }) { ready with fsv := { ready.fsv with records := l } }

theorem witness_IndexArrives_counts :
    (indexTimer 28).calm = true ∧ (indexTimer 28).spc.state = .atSpeed ∧
    (indexTimer 28).pos.state.flying = true ∧ (indexTimer 28).anyStaged = false ∧
    (indexTimer 28).retryWait = false ∧ (indexTimer 28).pos.timerOn = true ∧
    (indexTimer 28).pos.timerCount + 1 < (indexTimer 28).pos.timerLength ∧
    (indexTimer 29).calm = true ∧
    (indexTimer 29).pos.timerLength ≤ (indexTimer 29).pos.timerCount + 1 ∧
    (indexTimer 29).pos.seekTimeoutCount + 1 < (indexTimer 29).tbs.actions.seekTimeout.deglitch ∧
    (∀ n ∈ [62, 63], (indexWatch n).calm = true ∧ (indexWatch n).pos.timerOn = false ∧
      ((indexWatch n).fsv.kinds.get .servoLost).watch = some n ∧
      ((indexWatch n).fsv.kinds.get .servoLost).present = false) := by decide +kernel
theorem witness_IndexArrives_delay :
    (∀ n ∈ [28, 29], ∀ c ∈ [CartState.latched, .seated],
      (indexDelay n c).calm = true ∧ (indexDelay n c).spc.state = .coasting ∧
      (indexDelay n c).pos.state = .unloaded ∧ (indexDelay n c).pos.timerOn = false ∧
      (indexDelay n c).anyStaged = false ∧
      ((indexDelay n c).fsv.kinds.get .speedOutOfRange).delay = some ⟨n, 30⟩ ∧
      (indexDelay n c).recordOf .speedOutOfRange = some (retrying 0) ∧
      (indexDelay n c).anyLatched = false ∧ (indexDelay n c).ccu.state = c) ∧
    (retrying 0).kept = some retryRow ∧ retryRow.spindle ≠ .none := by decide +kernel
theorem witness_IndexArrives_retry :
    (∀ l ∈ [[], [retrying 1], [retrying 2]],
      (straying l).calm = true ∧ (straying l).spc.state = .atSpeed ∧
      (straying l).spc.indexSeen = true ∧ (straying l).pos.timerOn = false ∧
      (straying l).anyStaged = false ∧ (straying l).retryWait = false ∧
      (straying l).tbs.actions.speedOutOfRange = retryRow ∧
      retryRow.deglitch ≤ (straying l).spc.excursionCount + 1) ∧
    (straying []).recordOf .speedOutOfRange = none ∧ retryRow.mode = .retry ∧
    (straying [retrying 1]).recordOf .speedOutOfRange = some (retrying 1) ∧
    (retrying 1).retries + 1 ≤ retryRow.budget ∧
    (straying [retrying 2]).recordOf .speedOutOfRange = some (retrying 2) ∧
    retryRow.budget < (retrying 2).retries + 1 ∧ max 17001 (straying []).spc.revTimer = 17001 := by
  decide +kernel

/-- A stopped disk with a count of the warning comparator. -/
def warned (n : Nat) : State := (spun .stopped).onFsv fun v => { v with otwCount := n }

theorem witness_BoundaryAndWedge_boundary :
    ready.spc.state ≠ .stopped ∧ (warned 6).calm = true ∧ (warned 6).spc.state = .stopped ∧
    (warned 6).pos.timerOn = false ∧
    (warned 6).fsv.otwCount + 1 < (warned 6).tbs.actions.overTempWarn.deglitch := by decide +kernel

/-- A purge with a count of revolutions, and one with a count of overcurrent wedges. -/
def purged (n : Nat) : State := (spun .purging).onSpc fun p => { p with purgeCount := n }
def strained (n : Nat) : State := (spun .purging).onSpc fun p => { p with overcurrentCount := n }

theorem witness_PurgeAndStandby_purge :
    (purged 300).calm = true ∧ (purged 300).spc.state = .purging ∧
    (purged 300).tbs.params.purgeRevs ≤ (purged 300).spc.purgeCount := by decide +kernel
theorem witness_BoundaryAndWedge_wedge :
    (strained 1).calm = true ∧ (strained 1).takesSamples = false ∧
    (strained 1).spc.overcurrentCount + 1 <
      (strained 1).tbs.actions.spindleOvercurrent.deglitch ∧
    (spun .starting).calm = true ∧ (spun .starting).takesSamples = false ∧
    (spun .starting).spc.state.supervised = false := by decide +kernel

/-- A disk with its watches running, and deglitch counts of 2. -/
def watched (st : SpindleState) (l : Timer) : State :=
  acts (fun t => { t with
      noRotation := { t.noRotation with deglitch := 2 },
      spinUpTimeout := { t.spinUpTimeout with deglitch := 2 },
      lostIndex := { t.lostIndex with deglitch := 2 } })
    ((spun st).onSpc fun p => { p with
      firstIndexWatch := some l, spinUpTimer := some l, lostIndexWatch := some l })

theorem witness_TimedWatches :
    (watched .starting ⟨0, 2000000⟩).calm = true ∧
    (watched .starting ⟨0, 2000000⟩).spc.firstIndexWatch = some ⟨0, 2000000⟩ ∧
    (watched .starting ⟨0, 2000000⟩).spc.state = .starting ∧
    (watched .starting ⟨0, 2000000⟩).spc.noRotationCount + 1 <
      (watched .starting ⟨0, 2000000⟩).tbs.actions.noRotation.deglitch ∧
    (watched .accelerating ⟨0, 20000000⟩).calm = true ∧
    (watched .accelerating ⟨0, 20000000⟩).spc.spinUpTimer = some ⟨0, 20000000⟩ ∧
    (watched .accelerating ⟨0, 20000000⟩).spc.state = .accelerating ∧
    (watched .accelerating ⟨0, 20000000⟩).spc.spinUpTimeoutCount + 1 <
      (watched .accelerating ⟨0, 20000000⟩).tbs.actions.spinUpTimeout.deglitch ∧
    (watched .purging ⟨33334, 33334⟩).calm = true ∧
    (watched .purging ⟨33334, 33334⟩).spc.lostIndexWatch = some ⟨33334, 33334⟩ ∧
    (watched .purging ⟨33334, 33334⟩).spc.state.supervised = true ∧
    (watched .purging ⟨33334, 33334⟩).spc.lostIndexCount + 1 <
      (watched .purging ⟨33334, 33334⟩).tbs.actions.lostIndex.deglitch := by decide +kernel

/-- A starting disk whose first-index watch latches NO_ROTATION. -/
def latching : State :=
  acts (fun t => { t with noRotation := ⟨.latch, .coast, .none, 1, 2, 120⟩ })
    ((spun .starting).onSpc fun p => { p with firstIndexWatch := some ⟨2000000, 2000000⟩ })

theorem witness_TimedWatches_latch :
    latching.calm = true ∧ latching.spc.firstIndexWatch = some ⟨2000000, 2000000⟩ ∧
    latching.spc.state = .starting ∧ latching.pos.state = .unloaded ∧
    latching.tbs.actions.noRotation.deglitch ≤ latching.spc.noRotationCount + 1 ∧
    latching.tbs.actions.noRotation.mode = .latch ∧
    latching.tbs.actions.noRotation.spindle = .coast ∧
    latching.tbs.actions.noRotation.positioner = .none ∧ latching.recordOf .noRotation = none := by
  decide +kernel

/-- A REVERSE brake, and a coasting disk at the end of its stop window. -/
def reversing : State := (spun .braking).onSpc fun p => { p with brakeMode := .reverse }
def coasted : State :=
  (spun .coasting).onSpc fun p => { p with stopWindow := some ⟨1000000, 1000000⟩ }

theorem witness_SpindleStops :
    reversing.calm = true ∧ reversing.spc.state = .braking ∧ reversing.spc.brakeMode = .reverse ∧
    coasted.calm = true ∧ coasted.spc.stopWindow = some ⟨1000000, 1000000⟩ ∧
    coasted.pos.state = .unloaded ∧ coasted.anyStaged = false ∧
    (coasted.onTbs fun t => { t with stagedParams := some t.params }).calm = true ∧
    (coasted.onTbs fun t => { t with stagedParams := some t.params }).anyStaged = true ∧
    (coasted.onTbs fun t => { t with stagedParams := some t.params }).tbs.hold = false := by
  decide +kernel

/-- A coasting disk at the end of its stop window, with the cartridge in a state. -/
def coasting (c : CartState) (release start : Bool) : State :=
  (coasted.onSpc fun p => { p with startByWork := start }).onCcu fun x => { x with
    state := c, releasePending := release }

/-- The common hypotheses of the second half of SpindleStops. -/
def stopsIdle (s : State) : Bool :=
  s.idleDrive && s.dbi.turn && s.dbi.inb == .idle && s.spc.stopWindow == some ⟨1000000, 1000000⟩ &&
  s.pos.state == .unloaded && !s.pendingLoad

theorem witness_SpindleStops_cartridge :
    stopsIdle (coasting .stopCheck false false) = true ∧
    (coasting .stopCheck false false).ccu.state = .stopCheck ∧
    (coasting .stopCheck false false).pendingStart = false ∧
    stopsIdle (coasting .absent true false) = true ∧
    (coasting .absent true false).ccu.releasePending = true ∧
    stopsIdle (coasting .latched false true) = true ∧
    (coasting .latched false true).ccu.state = .latched ∧
    (coasting .latched false true).pendingStart = true := by decide +kernel
theorem witness_PurgeAndStandby_standby :
    (spun .stopped).standbyArmed = false ∧ ready.readyDrive = true ∧ ready.calm = true ∧
    ready.pos.parkSensor = false ∧ 0 < ready.tbs.params.standby ∧ ready.needsWriteBack = false := by
  decide +kernel
theorem witness_StopDemandCombines :
    StopDemand.dynamic ≠ .none ∧ ready.spc.state ≠ .stopped ∧ ready.spc.state.powered = true ∧
    StopDemand.dynamic ≠ .coast ∧ ready.spc.demand ≠ .coast := by decide

/-! ### Positioner -/

/-- The hypotheses on a sample's state that several statements share. -/
def sampled (s : State) (st : PosState) (target : Nat) (f : Fix) : Bool :=
  s.calm && s.spc.state == .atSpeed && s.pos.state == st && s.pos.window == .waiting &&
  s.pos.target == some target && s.pos.head == 0 && s.pos.fix == some f

/-- `ready` in a wedge window already taken, and with the hold flag set. -/
def taken : State := ready.onPos fun p => { p with window := .taken }
def held : State := ready.onPos fun p => { p with hold := true }

theorem witness_TrackingSamples :
    taken.calm = true ∧ taken.takesSamples = true ∧ taken.pos.window = .taken ∧
    sampled ready .tracking 537 ⟨537, 0, 137472, 137472, 0, 1⟩ = true := by decide +kernel
theorem witness_TrackingSamples_slip :
    sampled ready .tracking 537 ⟨537, 0, 137472, 137472, 0, 1⟩ = true ∧ (538 : Nat) ≠ 537 ∧
    (-128 : Int) ≤ -128 ∧ (127 : Int) ≤ 127 ∧ ready.pos.hold = false ∧
    1 < ready.tbs.actions.actuatorSaturation.deglitch ∧ ready.pos.clampCount = 0 ∧
    1 < ready.tbs.params.settleCount ∧
    sampled held .tracking 537 ⟨537, 0, 137472, 137472, 0, 1⟩ = true ∧ held.pos.hold = true := by
  decide +kernel
theorem witness_SettlingSample :
    sampled (settlingOn2 511 1 3) .settling 2 ⟨2, 0, 511, 511, 0, 1⟩ = true ∧
    (settlingOn2 511 1 3).tbs.params.settleCount ≤ (settlingOn2 511 1 3).pos.settleCount + 1 ∧
    (16 : Int).natAbs ≤ (settlingOn2 511 1 3).tbs.params.settleWindow ∧
    sampled (settlingOn2 511 1 2) .settling 2 ⟨2, 0, 511, 511, 0, 1⟩ = true ∧
    (settlingOn2 511 1 2).pos.settleCount + 1 < (settlingOn2 511 1 2).tbs.params.settleCount ∧
    (settlingOn2 511 1 3).pos.restartLoad = false := by decide +kernel

/-- Heads that settle on cylinder 2, or on `c`, at the end of a restart's load under a NOT_READ record. -/
def restartLoads (c count : Nat) : State :=
  let s := (settlingOn2 511 1 count).onPos fun p =>
    { p with target := some c, fix := some ⟨c, 0, c * 256, c * 256, 0, 1⟩, restartLoad := true,
             timerOn := false }
  { s.onKind .servoLost (fun x => { x with restarting := true, wantsLoad := true }) with
    record := ⟨.notRead, none, none, none, .idle, false⟩ }

theorem witness_SettlingSample_restart :
    (∀ x ∈ [(2, 2), (2, 3), (0, 3)],
      (restartLoads x.1 x.2).withdrawLoads.calm = true ∧ (restartLoads x.1 x.2).pendingLoad = true ∧
      (restartLoads x.1 x.2).spc.state = .atSpeed ∧ (restartLoads x.1 x.2).pos.state = .settling ∧
      (restartLoads x.1 x.2).pos.window = .waiting ∧
      (restartLoads x.1 x.2).pos.target = some x.1 ∧ (restartLoads x.1 x.2).pos.head = 0 ∧
      (restartLoads x.1 x.2).pos.restartLoad = true ∧
      (restartLoads x.1 x.2).record.state = .notRead ∧
      (restartLoads x.1 x.2).pos.hold = false ∧ (restartLoads x.1 x.2).pos.clampCount = 0 ∧
      1 < (restartLoads x.1 x.2).tbs.actions.actuatorSaturation.deglitch ∧
      (-16 : Int).natAbs ≤ (restartLoads x.1 x.2).tbs.params.settleWindow) ∧
    (restartLoads 2 2).pos.settleCount + 1 < (restartLoads 2 2).tbs.params.settleCount ∧
    (restartLoads 2 3).tbs.params.settleCount ≤ (restartLoads 2 3).pos.settleCount + 1 ∧
    128 < (2 : Int) * 256 + -16 := by decide +kernel
/-- The third sample of the worked seek lies 728 short of the target; the sample (539, +127) lies 129
short, the least distance of the statement. -/
theorem witness_SeekingSample :
    sampled (seekingTo 540 137482 1) .seeking 540 ⟨537, 0, 137482, 137482, 0, 1⟩ = true ∧
    128 < ((540 : Int) * 256 - (537 * 256 + 40)).natAbs ∧
    (Int.tdiv (40 * ((demandSpeed SeekProfile.defaults.rows 728 : Int) - 30)) 16).natAbs ≤
      (seekingTo 540 137482 1).tbs.profile.ilim ∧
    128 < ((540 : Int) * 256 - (539 * 256 + 127)).natAbs ∧
    (Int.tdiv (40 * ((demandSpeed SeekProfile.defaults.rows 129 : Int) - 629)) 16).natAbs ≤
      (seekingTo 540 137482 1).tbs.profile.ilim := by decide +kernel
theorem witness_DemandSpeed :
    SeekProfile.defaults.inLimits = true ∧ SeekProfile.defaults.rows[0]? = some ⟨0, 0⟩ ∧
    0 * 256 ≤ 255 ∧ 255 ≤ 65536 ∧ SeekProfile.defaults.rows[1]? = some ⟨1, 24⟩ ∧ 255 < 1 * 256 ∧
    SeekProfile.defaults.rows[5]? = some ⟨256, 512⟩ ∧ 256 * 256 ≤ 65536 ∧
    SeekProfile.defaults.rows[6]? = none := by decide

/-- `ready` after two dropped samples. -/
def dropped : State := ready.onPos fun p => { p with dropCount := 2 }

theorem witness_DroppedSample :
    sampled dropped .tracking 537 ⟨537, 0, 137472, 137472, 0, 1⟩ = true ∧
    min 255 (dropped.pos.dropCount + 1) < dropped.tbs.actions.servoLost.deglitch ∧
    sampled (seekingTo 540 137472 1) .seeking 540 ⟨537, 0, 137472, 137472, 0, 1⟩ = true ∧
    min 255 ((seekingTo 540 137472 1).pos.dropCount + 1) <
      (seekingTo 540 137472 1).tbs.actions.servoLost.deglitch := by decide +kernel
theorem witness_DroppedSample_settling :
    sampled (settlingOn2 511 1 3) .settling 2 ⟨2, 0, 511, 511, 0, 1⟩ = true ∧
    min 255 ((settlingOn2 511 1 3).pos.dropCount + 1) <
      (settlingOn2 511 1 3).tbs.actions.servoLost.deglitch ∧
    (settlingOn2 511 1 3).pos.settleCount = 3 := by decide +kernel
theorem witness_DroppedSample_loading :
    (∀ n ∈ [0, 126, 127],
      let s := (heads .loading).onPos fun p => { p with
        fix := none, loadWindows := n, dropCount := if n = 127 then 255 else n }
      s.calm = true ∧ s.spc.state = .atSpeed ∧ s.pos.state = .loading ∧ s.pos.fix = none ∧
      s.pos.window = .waiting) ∧ 126 + 1 < 128 := by decide +kernel

/-- Heads that load, with SERVO_LOST reported, and heads on their way to the ramp. -/
def loadingHeads : State :=
  acts (fun t => { t with servoLost := { t.servoLost with mode := .report } })
    ((heads .loading).onPos fun p => { p with loadWindows := 128 })
def toRamp : State :=
  acts (fun t => { t with unloadFailed := { t.unloadFailed with deglitch := 2 } })
    ((heads .unloading).onPos fun p => { p with
      phase := .toRamp, unloadWatch := some ⟨33334, 33334⟩ })
def retracting : State :=
  (heads .retracting).onPos fun p => { p with
    retractWindow := some ⟨16667, 16667⟩, causing := some .servoLost }

theorem witness_RampEvents_watches :
    loadingHeads.calm = true ∧ loadingHeads.pos.state = .loading ∧
    128 ≤ loadingHeads.pos.loadWindows ∧ loadingHeads.pos.parkSensor = false ∧
    loadingHeads.recordOf .servoLost = none ∧ loadingHeads.tbs.actions.servoLost.mode = .report ∧
    toRamp.calm = true ∧ toRamp.pos.state = .unloading ∧
    toRamp.pos.unloadWatch = some ⟨33334, 33334⟩ ∧
    toRamp.pos.unloadFailedCount + 1 < toRamp.tbs.actions.unloadFailed.deglitch := by decide +kernel
theorem witness_RampEvents_arrival :
    toRamp.calm = true ∧ toRamp.pos.state = .unloading ∧ toRamp.pos.phase = .toRamp ∧
    retracting.calm = true ∧ retracting.pos.state = .retracting ∧
    retracting.pos.retractWindow = some ⟨16667, 16667⟩ ∧
    retracting.pos.causing = some .servoLost ∧ ready.calm = true ∧ ready.pos.state = .tracking := by
  decide +kernel

/-- A seek with a timer count, with a deglitch count of 2. -/
def timing (n : Nat) : State :=
  acts (fun t => { t with seekTimeout := { t.seekTimeout with deglitch := 2 } })
    ((seekingTo 540 137472 1).onPos fun p => { p with timerCount := n })
/-- A retry delay at its end, and a recovery watch at its end. -/
def delayed : State := ready.onKind .servoLost fun x => { x with delay := some ⟨30, 30⟩ }
def recovering : State := ready.onKind .servoLost fun x => { x with watch := some 64 }

theorem witness_CountedExpiries :
    (timing 29).pos.timerCount < (timing 29).pos.timerLength ∧ (timing 30).calm = true ∧
    (timing 30).pos.state = .seeking ∧ (timing 30).pos.timerOn = true ∧
    (timing 30).pos.timerLength ≤ (timing 30).pos.timerCount ∧
    (timing 30).pos.seekTimeoutCount + 1 < (timing 30).tbs.actions.seekTimeout.deglitch ∧
    delayed.calm = true ∧ (delayed.fsv.kinds.get .servoLost).delay = some ⟨30, 30⟩ ∧
    recovering.calm = true ∧ (recovering.fsv.kinds.get .servoLost).watch = some 64 := by
  decide +kernel
theorem witness_CountedExpiries_suppressed :
    (delayed.onFsv fun v => { v with records := [lost] }).calm = true ∧
    (delayed.onFsv fun v => { v with records := [lost] }).anyLatched = true := by decide +kernel

/-! ### Cartridge -/

/-- An ABSENT drive at rest, its latch release pending or not; and one whose disk still turns. -/
def empty (release : Bool) : State :=
  { spun .stopped with ccu := { State.reset.ccu with releasePending := release } }
def emptyTurning : State :=
  { spun .coasting with ccu := { State.reset.ccu with releasePending := true } }
/-- A SEATED cartridge with a count of holds. -/
def seated (n : Nat) : State :=
  (spun .stopped).onCcu fun c => { c with state := .seated, holdCount := n }

/-- The common hypotheses of an insertion. -/
def inserts (s : State) : Bool :=
  s.idleDrive && s.dbi.turn && s.dbi.inb == .idle && !s.pendingStart && !s.pendingLoad &&
  s.ccu.state == .absent && s.pos.state != .loading && !s.pos.state.flying

theorem witness_CartridgeSensor :
    ready.calm = true ∧ ready.ccu.state ≠ .absent ∧ inserts (empty true) = true ∧
    (empty true).ccu.releasePending = true ∧ (empty true).atRest = true ∧
    inserts (empty false) = true ∧ (empty false).ccu.releasePending = false ∧
    inserts emptyTurning = true ∧ emptyTurning.atRest = false := by decide +kernel

/-- A cartridge being pushed out, with no phase left and four waiting tags. -/
def leaving : State :=
  (spun .stopped).onCcu fun c => { c with
    state := .ejecting, latch := false, ejector := true, ejectWindow := some ⟨0, 2000000⟩,
    eject := some ⟨none, .drain, false, [1, 2, 3, 4], .undecided⟩ }

theorem witness_CartridgeSensor_absent :
    (seated 15).dbi.turn = true ∧ (seated 15).dbi.inb = .idle ∧ (seated 15).calm = true ∧
    (seated 15).ccu.state = .seated ∧ ready.dbi.turn = true ∧ ready.dbi.inb = .idle ∧
    ready.calm = true ∧ ready.ccu.state = .latched ∧ ready.spc.state = .atSpeed ∧
    ready.pos.state = .tracking ∧ ready.pos.parkSensor = false ∧
    ready.recordOf .doorForced = none ∧ leaving.dbi.turn = true ∧ leaving.dbi.inb = .idle ∧
    ({ leaving with ccu := { leaving.ccu with eject := none } } : State).calm = true ∧
    leaving.ccu.eject = some ⟨none, .drain, false, [1, 2, 3, 4], .undecided⟩ ∧
    leaving.ccu.state = .ejecting := by decide +kernel
theorem witness_EjectEvents :
    (empty false).ccu.state = .absent ∧ (empty false).settled = true ∧
    (empty false).dbi.turn = true ∧ (empty false).dbi.inb = .idle ∧ leaving.settled = true ∧
    (seated 1).calm = true ∧ (seated 1).ccu.state = .seated ∧ 0 < (seated 1).ccu.holdCount ∧
    (seated 0).calm = true ∧ (seated 0).ccu.state = .seated ∧ (seated 0).ccu.holdCount = 0 := by
  decide +kernel
theorem witness_EjectEvents_ends :
    ({ leaving with ccu := { leaving.ccu with eject := none } } : State).calm = true ∧
    leaving.ccu.eject = some ⟨none, .drain, false, [1, 2, 3, 4], .undecided⟩ ∧
    leaving.ccu.state = .ejecting ∧ leaving.ccu.ejector = true ∧
    leaving.ccu.ejectWindow = some ⟨0, 2000000⟩ := by decide +kernel

/-! ### Read channel -/

/-- The common hypotheses of SectorArrives. -/
def awaits (s : State) : Bool :=
  s.settled && s.dbi.turn && s.dbi.inb == .idle && !s.supplyLow && s.eng.flight == none &&
  s.record.op == .idle && s.job == .transfer
/-- The common hypotheses of SectorEnds. -/
def passes (s : State) (k : XferKind) : Bool :=
  s.settled && s.dbi.turn && s.dbi.inb == .idle && !s.supplyLow && s.job == .transfer &&
  s.endWith == none && s.executing == some ⟨7, .xfer k false [⟨40042, 2⟩], true⟩ &&
  s.record.op == .idle && !s.record.readWanted && s.eng.state == .transferring

/-- A READ and a WRITE that wait for sector 32, and a READ that finds no slot EMPTY. -/
def reading : State := transferring .read .rotateWait none 0
def writing : State := transferring .write .rotateWait none 0
def noSlot : State := { reading with slots := allFull }

theorem witness_SectorArrives :
    awaits reading = true ∧ reading.eng.place.map Placement.sector = some 32 ∧
    reading.eng.place.map Placement.sector ≠ some 31 ∧ reading.eng.state = .rotateWait ∧
    reading.executing = some ⟨7, .xfer .read false [⟨40042, 2⟩], true⟩ ∧
    reading.emptySlot = some 0 ∧ awaits noSlot = true ∧ noSlot.emptySlot = none ∧
    noSlot.executing = some ⟨7, .xfer .read false [⟨40042, 2⟩], true⟩ ∧
    noSlot.eng.place.map Placement.sector = some 32 ∧ noSlot.eng.state = .rotateWait ∧
    awaits writing = true ∧ writing.eng.place.map Placement.sector = some 32 ∧
    writing.eng.state = .rotateWait ∧
    writing.executing = some ⟨7, .xfer .write false [⟨40042, 2⟩], true⟩ ∧
    writing.slotOf 7 0 .full = none := by decide +kernel

/-- A READ's first block at its last retry but one, and the last block of each transfer. -/
def retried : State :=
  (withSlot 0 .filling 0
    (transferring .read .transferring (some ⟨.read, some 0, false, false⟩) 0)).onEng fun e =>
      { e with retry := 7 }
def lastRead : State :=
  withSlot 7 .filling 1 (transferring .read .transferring (some ⟨.read, some 7, false, false⟩) 1)
def lastVerify : State :=
  transferring .verify .transferring (some ⟨.verify, none, false, false⟩) 1
def lastWrite : State :=
  withSlot 0 .draining 1 (transferring .write .transferring (some ⟨.write, some 0, false, false⟩) 1)

theorem witness_SectorEnds :
    passes retried .read = true ∧ retried.eng.flight = some ⟨.read, some 0, false, false⟩ ∧
    retried.eng.retry < retried.tbs.params.readRetries ∧ passes lastVerify .verify = true ∧
    lastVerify.queue = [⟨7, .xfer .verify false [⟨40042, 2⟩], true⟩] ∧
    lastVerify.eng.seq + 1 = blocksOf [⟨40042, 2⟩] ∧ lastVerify.eng.errors = 0 ∧
    lastVerify.work = none ∧ lastVerify.downs = ⟨none, none, none, false⟩ ∧ lastVerify.ccu.eject = none ∧
    lastVerify.eng.flight = some ⟨.verify, none, false, false⟩ := by decide +kernel
theorem witness_SectorEnds_data :
    passes lastWrite .write = true ∧
    lastWrite.queue = [⟨7, .xfer .write false [⟨40042, 2⟩], true⟩] ∧
    lastWrite.eng.seq + 1 = blocksOf [⟨40042, 2⟩] ∧ lastWrite.eng.errors = 0 ∧
    lastWrite.work = none ∧ lastWrite.downs = ⟨none, none, none, false⟩ ∧ lastWrite.ccu.eject = none ∧
    lastWrite.eng.flight = some ⟨.write, some 0, false, false⟩ ∧ passes lastRead .read = true ∧
    lastRead.eng.flight = some ⟨.read, some 7, false, false⟩ ∧
    lastRead.eng.seq + 1 = blocksOf [⟨40042, 2⟩] ∧ lastRead.eng.errors = 0 ∧
    7 < lastRead.slots.length ∧ (lastRead.slots[7]?).map Slot.tag = some (some 7) ∧
    lastRead.work = none ∧ lastRead.downs = ⟨none, none, none, false⟩ ∧ lastRead.ccu.eject = none := by
  decide +kernel

/-- A WRITE whose block waits FULL, with the gate and under the hold flag, and a VERIFY. -/
def gated (hold : Bool) : State :=
  (withSlot 0 .full 0 writing).onPos fun p => { p with hold := hold }
def verifying : State := transferring .verify .rotateWait none 0

theorem witness_SectorEnds_arrivals :
    awaits verifying = true ∧ verifying.eng.state = .rotateWait ∧
    verifying.eng.place.map Placement.sector = some 32 ∧
    verifying.executing = some ⟨7, .xfer .verify false [⟨40042, 2⟩], true⟩ ∧
    awaits (gated false) = true ∧ (gated false).eng.state = .rotateWait ∧
    (gated false).eng.place.map Placement.sector = some 32 ∧
    (gated false).executing = some ⟨7, .xfer .write false [⟨40042, 2⟩], true⟩ ∧
    (gated false).slotOf 7 0 .full = some 0 ∧ (gated false).eng.seq = 0 ∧
    (gated false).writeGate = true ∧ awaits (gated true) = true ∧
    (gated true).eng.state = .rotateWait ∧ (gated true).eng.place.map Placement.sector = some 32 ∧
    (gated true).executing = some ⟨7, .xfer .write false [⟨40042, 2⟩], true⟩ ∧
    (gated true).slotOf 7 0 .full = some 0 ∧ (gated true).writeGate = false ∧
    (gated true).slots[0]? = some ⟨.full, some 7, 0, 40042, 0, []⟩ ∧
    0 < (gated true).tbs.params.writeRetries := by decide +kernel

/-- The heads on cylinder 0, and a record read whose sectors are `got`, with sector `n` in flight. -/
def onZero (s : State) : State :=
  s.onPos fun p => { p with target := some 0, fix := some ⟨0, 0, 0, 0, 0, 1⟩ }
def recordRead (got : List (Option (List Byte))) (retries : Nat) : State :=
  onZero { ready with
    record := ⟨.notRead, none, none, none, .reading ⟨got, List.replicate 22 retries⟩, false⟩,
    eng := { Engine.none with flight := some ⟨.recordRead 21, some 0, false, false⟩ },
    slots := ready.slots.modify 0 fun _ => ⟨.filling, none, 0, 0, 0, []⟩ }
/-- The sectors of the worked record but the last. -/
def allButLast : List (Option (List Byte)) :=
  ((sectorsOf 22 (recordBytes worked)).take 21).map some ++ [none]
def lastSector : List Byte := (sectorsOf 22 (recordBytes worked)).getD 21 []

/-- The common hypotheses of the record read in SectorEnds. -/
def readsRecord (s : State) : Bool :=
  { s with record := { s.record with op := .idle }, eng := Engine.none }.calm && s.settled &&
  s.spc.state == .atSpeed && s.pos.state == .tracking && s.record.state == .notRead &&
  s.eng == { Engine.none with flight := some ⟨.recordRead 21, some 0, false, false⟩ }

theorem witness_SectorEnds_recordRead :
    readsRecord (recordRead (List.replicate 22 none) 0) = true ∧
    (List.replicate 22 (none : Option (List Byte)))[21]? = some none ∧
    (∃ x ∈ (List.replicate 22 (none : Option (List Byte))).set 21 (some []), x = none) ∧
    (List.replicate 22 0).getD 21 0 < ready.tbs.params.readRetries ∧
    readsRecord (recordRead allButLast 15) = true ∧ allButLast[21]? = some none ∧
    (∀ x ∈ allButLast.set 21 (some lastSector), x ≠ none) ∧
    ready.tbs.params.readRetries ≤ (List.replicate 22 15).getD 21 0 := by decide +kernel

/-- A FLUSH RECORD whose sector `next` is FULL, or in flight, under the hold flag or not. -/
def flushing (next deferrals : Nat) (flight hold : Bool) : State :=
  (onZero { ready with
    queue := [⟨9, .flush, true⟩], job := .flush,
    record := ⟨.dirty, none, some worked, some 7, .writing
      ⟨.cmd, sectorsOf 22 (recordBytes { worked with generation := 42 }), 42, next, deferrals, some 0,
        true⟩, false⟩,
    eng := if flight then { Engine.none with flight := some ⟨.recordWrite, some 0, false, false⟩ }
      else Engine.none,
    slots := ready.slots.modify 0 fun _ =>
      ⟨if flight then .draining else .full, none, next, 0, 0, []⟩ }).onPos fun p =>
        { p with hold := hold }

/-- The common hypotheses of the write-back in SectorEnds. -/
def flushes (s : State) : Bool :=
  { s with queue := [], job := .idle, record := { s.record with op := .idle },
           eng := Engine.none }.calm && s.settled && s.ccu.state == .latched &&
  s.record.image == some worked && s.trackingOn 0 0 && s.spc.state == .atSpeed &&
  s.slots.all fun x => x.tag == none

theorem witness_SectorEnds_writeBack :
    flushes (flushing 21 0 true false) = true ∧ flushes (flushing 0 0 false false) = true ∧
    (flushing 0 0 false false).writeGate = true ∧ flushes (flushing 0 3 false true) = true ∧
    (flushing 0 3 false true).writeGate = false ∧
    3 < (flushing 0 3 false true).tbs.params.writeRetries ∧
    flushes (flushing 0 4 false true) = true ∧ (flushing 0 4 false true).writeGate = false ∧
    (flushing 0 4 false true).tbs.params.writeRetries ≤ 4 := by decide +kernel

/-! ### Drive bus -/

/-- `ready` with packets in its reply queue, and with the payload of a SEEK arriving. -/
def holding (n : Nat) : State :=
  ready.onDbi fun d => { d with replies := List.replicate n (.reply 1 .ok .empty) }
def seekHeader : Header := ⟨1, 7, 3, [0x23, 0, 0]⟩

theorem witness_InboundFraming :
    (holding 15).canReceive = true ∧ (holding 15).dbi.inb = .idle ∧ (holding 15).replyFull = true ∧
    (holding 14).canReceive = true ∧ (holding 14).dbi.inb = .idle ∧
    (holding 14).replyFull = false ∧ (514 : BitVec 16).toNat = 514 ∧ (1 : BitVec 16).toNat = 1 ∧
    (63 : BitVec 16).toNat = 3 + 6 * (10 : Byte).toNat ∧ (63 : BitVec 16).toNat ≤ 64 ∧
    ¬ (3 + 6 * (11 : Byte).toNat ≤ 64) ∧ (256 : BitVec 16).toNat ≤ 256 ∧
    ¬ ((257 : BitVec 16).toNat ≤ 256) ∧ (255 : BitVec 16).toNat = 7 + 4 * (62 : Byte).toNat ∧
    ¬ (7 + 4 * (63 : Byte).toNat ≤ 256) ∧ ¬ (2 ≤ (0 : BitVec 16).toNat) := by decide +kernel
theorem witness_InboundFraming_parity :
    ready.canReceive = true ∧ ready.dbi.inb = .idle ∧ ready.replyFull = false ∧
    (arriving (.payload seekHeader) ready).canReceive = true ∧
    (arriving (.payload seekHeader) ready).dbi.inb = .payload seekHeader ∧
    (arriving (.data 7 0 7) ready).canReceive = true ∧
    (arriving (.data 7 0 7) ready).dbi.inb = .data 7 0 7 ∧
    (arriving .discard ready).canReceive = true ∧
    (arriving .discardTurn ready).canReceive = true ∧
    (256 : BitVec 16) = BitVec.ofNat 16 256 := by decide +kernel

/-- The host's turn over, with packets to send. -/
def sending (n : Nat) : State :=
  (holding n).onDbi fun d => { d with turn := false, out := .queued, stb := true }

theorem witness_TurnsAndPackets :
    (sending 1).dbi.turn = false ∧ (arriving (.payload seekHeader) ready).canReceive = true ∧
    (arriving (.payload seekHeader) ready).dbi.inb = .payload seekHeader ∧
    (arriving (.waiting seekHeader) (holding 15)).canReceive = true ∧
    (arriving (.waiting seekHeader) (holding 15)).dbi.inb = .waiting seekHeader ∧
    (arriving (.waiting seekHeader) (holding 15)).dbi.replies ≠ [] ∧ ready.canReceive = true ∧
    ready.dbi.inb = .idle ∧ ready.dbi.replies = [] ∧ ready.executing = none ∧
    (arriving (.data 7 0 7) filling).canReceive = true ∧
    (arriving (.data 7 0 7) filling).dbi.inb = .data 7 0 7 ∧ ready.replyFull = false ∧
    (holding 14).replyFull = false := by decide +kernel
theorem witness_TurnsAndPackets_sent :
    ((holding 1).onDbi fun d => { d with out := .queued }).calm = true ∧
    (ready.onDbi fun d => { d with out := .data 7 7 false }).calm = true ∧
    (sending 2).settled = true ∧ (sending 2).dbi.out = .queued ∧ (sending 2).dbi.turn = false ∧
    (sending 2).dbi.busReset = false ∧ (sending 2).supplyLow = false ∧
    (sending 2).dbi.inb = .idle ∧
    (sending 2).dbi.replies = [.reply 1 .ok .empty, .reply 1 .ok .empty] ∧
    (arriving .discard ready).canReceive = true ∧ (arriving .discard ready).dbi.inb = .discard := by
  decide +kernel

/-- A READ with two FULL slots, the later block in the lower slot, that an ending or an eject meets. -/
def sends (e : Option Status) (c : CartState) (m : EjectMode) : State :=
  { withSlot 1 .full 0 (withSlot 0 .full 1 (transferring .read .rotateWait none 1)) with
    endWith := e,
    ccu := { ready.ccu with
      state := c, eject := if c = .latched then none else some ⟨some .draining, m, false, [], .undecided⟩ } }

theorem witness_TurnsAndPackets_data :
    (∀ s ∈ [sends none .latched .drain, sends (some .aborted) .latched .drain,
        sends (some .ejectAborted) .ejectPending .cut],
      s.canReceive = true ∧ s.dbi.inb = .idle ∧ s.dbi.replies = [] ∧
      s.queue = [⟨7, .xfer .read false [⟨40042, 2⟩], true⟩] ∧
      s.slots[1]? = some ⟨.full, some 7, 0, 40042, 0, []⟩ ∧
      ∀ p ∈ s.slots.zipIdx, p.1.state = .full → p.1.tag = some 7 → p.2 ≠ 1 → 0 < p.1.seq) ∧
    (sends none .latched .drain).cutByEject = false ∧
    (sends (some .aborted) .latched .drain).cutByEject = false ∧
    (sends (some .ejectAborted) .ejectPending .cut).cutByEject = true := by decide +kernel

/-- A DATA packet of tag 7 taken to its sixth byte. -/
def sixth (index : BitVec 16) (s : State) : State :=
  arriving (.payload ⟨2, 7, 514, be16 index ++ [0]⟩) s
/-- A WRITE that waits behind nothing but has not begun. -/
def waitingWrite : State := { writing with queue := [⟨7, .xfer .write false [⟨40042, 2⟩], false⟩] }

/-- A WRITE under a NOT_READ record, with `n` slots FULL. -/
def unread (n : Nat) : State :=
  { writing with
    record := { writing.record with state := .notRead, image := none },
    slots := List.replicate n ⟨.full, some 7, 9, 0, 0, []⟩ ++ List.replicate (8 - n) Slot.none }
/-- A READ whose DATA packet of slot 0 is in flight, in its transfer and in its last drain. -/
def sendingData (job : Job) : State :=
  { withSlot 0 .draining 0 (transferring .read (if job == .transfer then .rotateWait else .idle) none 0) with
    job := job, dbi := { ready.dbi with out := .data 0 7 true, stb := true } }

theorem witness_DataPackets_acked :
    (∀ j ∈ [Job.transfer, .drain .ok], (sendingData j).settled = true ∧
      (sendingData j).supplyLow = false ∧ (sendingData j).dbi.turn = true ∧
      (sendingData j).dbi.inb = .idle ∧ (sendingData j).record.op = .idle ∧
      (sendingData j).dbi.out = .data 0 7 true ∧ (sendingData j).job = j ∧
      (sendingData j).queue = [⟨7, .xfer .read false [⟨40042, 2⟩], true⟩] ∧
      (sendingData j).endWith = none ∧ (sendingData j).work = none ∧
      (sendingData j).downs = ⟨none, none, none, false⟩ ∧ (sendingData j).ccu.eject = none ∧
      (sendingData j).record.readWanted = false ∧ (sendingData j).eng.flight = none ∧
      0 < (sendingData j).slots.length ∧
      (∀ p ∈ (sendingData j).slots.zipIdx, p.1.tag = some 7 → p.2 = 0)) := by decide +kernel
theorem witness_DataPackets :
    (sixth 0 ready).canReceive = true ∧ (∀ e ∈ (sixth 0 ready).queue, e.tag ≠ 7) ∧
    (sixth 0 waitingWrite).canReceive = true ∧ (sixth 1 writing).canReceive = true ∧
    (sixth 0 writing).canReceive = true ∧
    (sixth 0 writing).queue = [⟨7, .xfer .write false [⟨40042, 2⟩], true⟩] ∧
    (1 : BitVec 16).toNat ≠ writing.eng.nextIndex ∧ (0 : BitVec 16).toNat = writing.eng.nextIndex ∧
    (0 : BitVec 16).toNat < blocksOf [⟨40042, 2⟩] ∧ blocksOf [⟨40042, 2⟩] ≤ (2 : BitVec 16).toNat ∧
    writing.emptySlot = some 0 ∧ writing.record.state ≠ .notRead ∧
    (be16 (1 : BitVec 16) ++ [0]).take 2 = be16 1 ∧
    (sixth 0 { writing with slots := allFull }).canReceive = true ∧
    (({ writing with slots := allFull } : State).slots.filter fun y => y.state == .empty).length = 0 ∧
    (sixth 0 (unread 7)).canReceive = true ∧ (unread 7).record.state = .notRead ∧
    ((unread 7).slots.filter fun y => y.state == .empty).length = 1 ∧
    (sixth 0 (unread 6)).canReceive = true ∧ (unread 6).emptySlot = some 6 ∧
    2 ≤ ((unread 6).slots.filter fun y => y.state == .empty).length ∧ filling.canReceive = true ∧
    filling.settled = true ∧ filling.dbi.inb = .data 7 0 0 ∧
    filling.slots[0]? = some ⟨.filling, some 7, 0, 40042, 0, []⟩ := by decide +kernel

/-! ### Medium commands -/

/-- A drive whose cartridge is in a state, and one whose queue holds `n` entries of tag 7. -/
def closing (c : CartState) : State := ready.onCcu fun x => { x with state := c }
def queued (n : Nat) : State := { ready with queue := List.replicate n ⟨7, .flush, false⟩ }

theorem witness_MediumAdmission :
    packetFramed (.flushRecord 7) = true ∧ mediumOf (.flushRecord 7) = some (7, .flush) ∧
    (closing .ejectPending).listens = true ∧ (closing .ejecting).listens = true ∧
    (queued 4).listens = true ∧ 4 ≤ (queued 4).queue.length ∧ (queued 3).listens = true ∧
    (queued 3).queue.length < 4 ∧ (∃ e ∈ (queued 3).queue, e.tag = 7) ∧ (queued 0).listens = true ∧
    (¬ ∃ e ∈ (queued 0).queue, e.tag = 7) := by decide +kernel
theorem witness_MediumAdmission_operands :
    (empty false).listens = true ∧ (empty false).ccu.state = .absent ∧
    packetFramed (.seek 7 1224) = true ∧ 1223 < (1224 : BitVec 16).toNat ∧
    mediumOf (.seek 7 1224) = some (7, .seek 1224) ∧ (MediumCmd.seek 1224).needsCartridge = true ∧
    packetFramed (.reassignBlock 7 80496) = true ∧ (MediumCmd.reassign 80496).writes = true ∧
    (ready.onCcu fun c => { c with protect := true }).listens = true ∧ ready.listens = true ∧
    ready.ccu.state ≠ .absent ∧ ready.ccu.protect = false ∧ ready.record.image = some worked ∧
    capacityOf worked.zones ≤ 80496 ∧ packetFramed (.read 7 0 []) = true ∧
    mediumOf (.read 7 0 []) = some (7, .xfer .read false []) ∧
    packetFramed (.read 7 0 (List.replicate 9 ⟨0, 1⟩)) = true ∧
    packetFramed (.read 7 0 [⟨0, 257⟩]) = true ∧ 256 < (257 : BitVec 16).toNat ∧
    packetFramed (.write 7 0 [⟨80495, 2⟩]) = true ∧
    mediumOf (.write 7 0 [⟨80495, 2⟩]) = some (7, .xfer .write false [⟨80495, 2⟩]) ∧
    extentsBad [⟨80495, 2⟩] = false ∧ capacityOf worked.zones < 80495 + 2 := by decide +kernel

/-- A SPIN DOWN that waits for the ramp, before a command that is admitted. -/
def behind : State :=
  { toRamp with queue := [⟨7, .spinDown, true⟩], job := .down, downs := ⟨some .unload, none, none, false⟩ }

theorem witness_MediumAdmission_queued :
    mediumOf (.verify 8 1 [⟨80495, 1⟩]) = some (8, .xfer .verify true [⟨80495, 1⟩]) ∧
    packetFramed (.verify 8 1 [⟨80495, 1⟩]) = true ∧ behind.listens = true ∧
    behind.settled = true ∧ behind.ccu.state = .latched ∧ behind.ccu.protect = false ∧
    behind.queue ≠ [] ∧ behind.queue.length < 4 ∧ (∀ e ∈ behind.queue, e.tag ≠ 8) ∧
    (MediumCmd.xfer .verify true [⟨80495, 1⟩]).malformed = false ∧
    behind.outOfRange (.xfer .verify true [⟨80495, 1⟩]) = false := by decide +kernel

/-- The drive with an UNREADABLE record, the drive at rest with a LATCHED record, and the drive at rest
with auto-spin off. -/
def unreadable : State :=
  ready.onRec fun r => { r with state := .unreadable, reason := some .check, image := none }
def faulted : State := (spun .stopped).onFsv fun v => { v with records := [lost] }
def noSpin : State := params (fun p => { p with autoSpin := false }) (spun .stopped)

/-- The common hypotheses of CompletesAtOnce, for tag 9. -/
def atOnce (s : State) : Bool :=
  s.listens && s.calm && !s.retryWait && s.slots.all fun x => x.tag != some 9

theorem witness_CompletesAtOnce :
    atOnce ready = true ∧ ready.readyDrive = true ∧ ready.record.state = .valid ∧
    atOnce unreadable = true ∧ unreadable.readyDrive = true ∧
    unreadable.record.state = .unreadable ∧ atOnce (spun .stopped) = true ∧
    (spun .stopped).atRest = true ∧ (spun .stopped).spc.demand = .none ∧
    (spun .stopped).anyLatched = false ∧ (spun .stopped).needsWriteBack = false ∧
    (spun .stopped).ccu.state = .latched ∧ ready.anyLatched = false ∧
    ready.needsWriteBack = false ∧ ready.ccu.state = .latched := by decide +kernel
theorem witness_CompletesAtOnce_seek :
    (533 : BitVec 16).toNat ≤ 1223 ∧ (1223 : BitVec 16).toNat ≤ 1223 ∧ atOnce ready = true ∧
    ready.pos.target = some ((533 : BitVec 16).toNat + 4) ∧ ready.pos.hold = false ∧
    atOnce held = true ∧ held.readyDrive = true ∧ held.pos.hold = true ∧ atOnce faulted = true ∧
    faulted.anyLatched = true ∧ faulted.ccu.state = .latched ∧ atOnce noSpin = true ∧
    noSpin.anyLatched = false ∧ noSpin.spindleReady = false ∧
    noSpin.tbs.params.autoSpin = false ∧ noSpin.ccu.state = .latched := by decide +kernel
theorem witness_HeadsAndDiskMove :
    ready.listens = true ∧ ready.calm = true ∧ ready.readyDrive = true ∧
    ready.pos.fix = some ⟨537, 0, 137472, 137472, 0, 1⟩ ∧ ready.pos.target = some 537 ∧
    ready.pos.hold = false ∧ withinHalfTrack ((1223 : BitVec 16).toNat + 4) 137472 = false ∧
    isClamped ready.tbs.profile (seekRaw ready.tbs.profile 1227 137472 0) = false ∧
    withinHalfTrack ((0 : BitVec 16).toNat + 4) 137472 = false ∧
    isClamped ready.tbs.profile (seekRaw ready.tbs.profile 4 137472 0) = false ∧
    ready.needsWriteBack = false ∧ ready.pos.parkSensor = false := by decide +kernel
theorem witness_WorksBegin :
    worked.sound ∧ mediumOf (.write 7 1 [⟨80400, 96⟩]) = some (7, .xfer .write true [⟨80400, 96⟩]) ∧
    packetFramed (.write 7 1 [⟨80400, 96⟩]) = true ∧ ready.listens = true ∧ ready.calm = true ∧
    ready.readyDrive = true ∧ ready.ccu.protect = false ∧ ready.pos.hold = false ∧
    ready.record.state = .valid ∧ ready.record.image = some worked ∧
    extentsBad [⟨80400, 96⟩] = false ∧
    pastCapacity (capacityOf worked.zones) [⟨80400, 96⟩] = false ∧
    2 ≤ ready.tbs.actions.actuatorSaturation.deglitch ∧ ready.pos.clampCount = 0 :=
  ⟨worked_sound, by decide +kernel⟩
theorem witness_WorksBegin_spinUp :
    (seated 0).listens = true ∧ (seated 0).calm = true ∧ (seated 0).anyLatched = false ∧
    (seated 0).retryWait = false ∧ (seated 0).ccu.state = .seated ∧ (seated 0).atRest = true ∧
    (spun .stopped).listens = true ∧ (spun .stopped).calm = true ∧
    (spun .stopped).anyLatched = false ∧ (spun .stopped).retryWait = false ∧
    (spun .stopped).ccu.state = .latched ∧ (spun .stopped).atRest = true ∧ dirty.listens = true ∧
    dirty.calm = true ∧ dirty.anyLatched = false ∧ dirty.retryWait = false ∧
    dirty.readyDrive = true ∧ dirty.needsWriteBack = true ∧ dirty.record.image = some worked ∧
    dirty.pos.hold = false ∧ 2 ≤ dirty.tbs.actions.actuatorSaturation.deglitch ∧
    dirty.pos.clampCount = 0 := by decide +kernel

/-- Heads that load with no sample yet, a seek with Ilim 20, and drops next to SERVO_LOST under REPORT. -/
def firstSample : State := (heads .loading).onPos fun p => { p with fix := none }
def weak (n : Nat) (m : FaultMode) : State :=
  acts (fun t => { t with actuatorSaturation := { t.actuatorSaturation with deglitch := 2, mode := m } })
    (((seekingTo 1000 137472 1).onPos fun p => { p with clampCount := n }).onTbs fun t =>
      { t with profile := { t.profile with ilim := 20 } })
def dropping : State :=
  acts (fun t => { t with servoLost := { t.servoLost with deglitch := 3, mode := .report } }) dropped

theorem witness_WorksBegin_heads :
    firstSample.calm = true ∧ firstSample.spc.state = .atSpeed ∧
    firstSample.pos.window = .waiting ∧ firstSample.pos.head = 0 ∧
    firstSample.pos.state = .loading ∧ firstSample.pos.fix = none ∧
    1 < firstSample.tbs.params.settleCount ∧
    sampled (settlingOn2 511 1 3) .settling 2 ⟨2, 0, 511, 511, 0, 1⟩ = true ∧
    (settlingOn2 511 1 3).pos.hold = false ∧
    128 < (((2 : Nat) : Int) * 256 - (((3 : Nat) : Int) * 256 + 0)).natAbs ∧
    (settlingOn2 511 1 3).pos.clampCount = 0 ∧
    1 < (settlingOn2 511 1 3).tbs.actions.actuatorSaturation.deglitch ∧
    dropping.calm = true ∧ dropping.spc.state = .atSpeed ∧ dropping.pos.window = .waiting ∧
    dropping.pos.state = .tracking ∧ dropping.pos.fix = some ⟨537, 0, 137472, 137472, 0, 1⟩ ∧
    dropping.tbs.actions.servoLost.deglitch ≤ min 255 (dropping.pos.dropCount + 1) ∧
    dropping.tbs.actions.servoLost.mode = .report ∧ dropping.recordOf .servoLost = none := by
  decide +kernel
theorem witness_WorksBegin_clamped :
    (∀ n ∈ [0, 1], sampled (weak n .report) .seeking 1000 ⟨537, 0, 137472, 137472, 0, 1⟩ = true ∧
      (weak n .report).recordOf .actuatorSaturation = none) ∧
    128 < (((1000 : Nat) : Int) * 256 - (((537 : Nat) : Int) * 256 + 0)).natAbs ∧
    (weak 0 .report).tbs.profile.ilim <
      (seekRaw (weak 0 .report).tbs.profile 1000 137472 (Int.tdiv (137472 - 137472) 1)).natAbs ∧
    (weak 0 .report).pos.clampCount + 1 <
      (weak 0 .report).tbs.actions.actuatorSaturation.deglitch ∧
    (weak 1 .report).tbs.actions.actuatorSaturation.deglitch ≤ (weak 1 .report).pos.clampCount + 1 ∧
    (weak 1 .report).tbs.actions.actuatorSaturation.mode = .report := by decide +kernel

/-- Heads in a load, or settling on cylinder 2, that a SPIN UP of tag 9 waits for. -/
def upLoads (s : State) : State :=
  { s.onPos (fun p => { p with loadByWork := true, restartLoad := false }) with
    work := some ⟨.heads, true, false, false, false, false, none⟩, queue := [⟨9, .spinUp, true⟩],
    job := .work }
/-- The common hypotheses of a SPIN UP's load. -/
def upWaits (s : State) (p : PosState) : Bool :=
  { s.withdrawLoads with work := none, queue := [], job := .idle }.calm && s.pos.loadByWork &&
  s.work == some ⟨.heads, true, false, false, false, false, none⟩ &&
  s.queue == [⟨9, .spinUp, true⟩] && s.job == .work && s.spc.state == .atSpeed &&
  s.ccu.state == .latched && s.pos.state == p

theorem witness_WorksBegin_load :
    upWaits (upLoads firstSample) .loading = true ∧ (upLoads firstSample).pos.fix = none ∧
    (upLoads firstSample).pos.window = .waiting ∧ (upLoads firstSample).pos.head = 0 ∧
    1 < (upLoads firstSample).tbs.params.settleCount ∧
    (∀ x ∈ (upLoads firstSample).slots, x.tag ≠ some 9) ∧
    (∀ x ∈ (upLoads loadingHeads).slots, x.tag ≠ some 9) ∧
    upWaits (upLoads loadingHeads) .loading = true ∧
    128 ≤ (upLoads loadingHeads).pos.loadWindows ∧
    (upLoads loadingHeads).pos.parkSensor = false ∧
    (upLoads loadingHeads).recordOf .servoLost = none ∧
    (upLoads loadingHeads).tbs.actions.servoLost.mode = .report := by decide +kernel
theorem witness_WorksBegin_loaded :
    (∀ r ∈ [(settlingOn2 511 1 3).record, ⟨.unreadable, some .check, none, none, .idle, false⟩,
        ⟨.notRead, none, none, none, .idle, false⟩],
      let s := { upLoads (settlingOn2 511 1 3) with record := r }
      upWaits s .settling = true ∧ s.pos.target = some 2 ∧ s.pos.window = .waiting ∧
      s.pos.head = 0 ∧ (16 : Int).natAbs ≤ s.tbs.params.settleWindow ∧
      s.tbs.params.settleCount ≤ s.pos.settleCount + 1 ∧ s.pos.hold = false ∧
      s.pos.clampCount = 0 ∧ 1 < s.tbs.actions.actuatorSaturation.deglitch ∧
      ∀ x ∈ s.slots, x.tag ≠ some 9) ∧
    (settlingOn2 511 1 3).record.state = .valid := by decide +kernel

/-! ### Immediate commands, attention and resets -/

/-- A SEEK that executes, and a command that waits behind a SPIN DOWN. -/
def seeking : State :=
  { seekingTo 540 137472 1 with
    queue := [⟨7, .seek 536, true⟩], job := .seeking,
    pos := { (seekingTo 540 137472 1).pos with requester := .seekCommand } }
def twoQueued : State := { behind with queue := behind.queue ++ [⟨8, .flush, false⟩] }

theorem witness_AbortAnswers :
    ready.listens = true ∧ 1 < (2 : Byte).toNat ∧ (1 : Byte).toNat ≤ 1 ∧
    (∀ y ∈ ready.queue, y.tag ≠ 7) ∧ twoQueued.listens = true ∧ twoQueued.settled = true ∧
    twoQueued.queue = [⟨7, .spinDown, true⟩, ⟨8, .flush, false⟩] := by decide +kernel
theorem witness_AbortAnswers_seek :
    seeking.listens = true ∧ seeking.settled = true ∧ seeking.supplyLow = false ∧
    seeking.queue = [⟨7, .seek 536, true⟩] ∧ seeking.job = .seeking ∧ seeking.work = none ∧
    seeking.downs = ⟨none, none, none, false⟩ ∧ seeking.ccu.eject = none ∧ seeking.record.op = .idle ∧
    seeking.record.readWanted = false ∧ seeking.pos.requester = .seekCommand ∧
    seeking.eng = Engine.none := by decide +kernel

/-- A transfer of tag 7 with its sector in flight, its next block in slot 1, and an ending to come. -/
def moving (k : XferKind) (e : Option Status) : State :=
  let s := fun (f : FlightKind) (i : Option Nat) =>
    { transferring k .transferring (some ⟨f, i, false, false⟩) 0 with endWith := e }
  match k with
  | .read => withSlot 0 .filling 0 (s .read (some 0))
  | .write => withSlot 1 .full 1 (withSlot 0 .draining 0 (s .write (some 0)))
  | .verify => s .verify none
/-- The common hypotheses of an ABORT of the EXECUTING transfer of tag 7. -/
def cuts (s : State) (k : XferKind) : Bool :=
  s.settled && !s.supplyLow && s.dbi.turn && s.dbi.inb == .idle &&
  s.queue == [⟨7, .xfer k false [⟨40042, 2⟩], true⟩] && s.job == .transfer && s.work == none &&
  s.downs == ⟨none, none, none, false⟩ && s.ccu.eject == none && s.record.op == .idle &&
  !s.record.readWanted &&
  (List.range 8).all fun j => match s.slots[j]? with
    | some y => y.tag != some 7 || s.eng.flight.bind Flight.slot == some j || y.state == .full
    | none => true

theorem witness_AbortAnswers_transfer :
    cuts reading .read = true ∧ reading.listens = true ∧ reading.eng.flight = none ∧
    cuts (withSlot 0 .full 0 writing) .write = true ∧
    (withSlot 0 .full 0 writing).eng.flight = none ∧ cuts verifying .verify = true ∧
    verifying.eng.flight = none := by decide +kernel
theorem witness_AbortAnswers_sectorEnd :
    (∀ k ∈ [XferKind.read, .write, .verify], cuts (moving k none) k = true ∧
      (moving k none).listens = true ∧ (moving k none).ownFlight = true) ∧
    (∀ k ∈ [XferKind.write, .verify], cuts (moving k (some .aborted)) k = true ∧
      (moving k (some .aborted)).endWith = some .aborted) ∧
    (moving .write (some .aborted)).eng.flight = some ⟨.write, some 0, false, false⟩ ∧
    (moving .verify (some .aborted)).eng.flight = some ⟨.verify, none, false, false⟩ ∧
    (moving .write (some .aborted)).slots[0]?.map Slot.tag = some (some 7) := by decide +kernel
theorem witness_AbortAnswers_immediate :
    (∀ e ∈ [none, some Status.aborted], ∀ k ∈ [XferKind.read, .write, .verify],
      cuts (moving k e) k = true ∧ (moving k e).listens = true) ∧
    (moving .read none).eng.flight = some ⟨.read, some 0, false, false⟩ ∧
    (moving .write none).eng.flight = some ⟨.write, some 0, false, false⟩ ∧
    (moving .verify none).eng.flight = some ⟨.verify, none, false, false⟩ ∧
    (∀ k ∈ [XferKind.read, .write],
      (moving k none).slots[0]?.map Slot.tag = some (some 7)) := by decide +kernel
theorem witness_EjectAnswers :
    1 < (2 : Byte).toNat ∧ (1 : Byte).toNat ≤ 1 ∧ (empty false).listens = true ∧
    (empty false).ccu.eject = none ∧ (empty false).ccu.state = .absent ∧ leaving.listens = true ∧
    leaving.ccu.eject.map (fun e => e.tags.length) = some 4 ∧ (seated 1).listens = true ∧
    (seated 1).ccu.eject = none ∧ (seated 1).ccu.state = .seated ∧ 0 < (seated 1).ccu.holdCount ∧
    (seated 1).calm = true ∧ ready.listens = true ∧ ready.calm = true ∧
    ready.readyDrive = true ∧ ready.ccu.holdCount = 0 ∧ ready.needsWriteBack = false ∧
    ready.pos.parkSensor = false ∧ (seated 0).listens = true ∧ (seated 0).calm = true ∧
    (seated 0).ccu.state = .seated ∧ (seated 0).ccu.holdCount = 0 := by decide +kernel

/-- An eject of three EJECT tags in a phase. -/
def ejectAt (p : Option EjectPhase) (s : State) : State :=
  s.onCcu fun c => { c with
    state := if p = none then .ejecting else .ejectPending,
    eject := some ⟨p, .drain, false, [1, 2, 3], .undecided⟩ }
theorem witness_EjectAnswers_merged :
    (∀ s ∈ [ejectAt none (seated 0) |>.onCcu fun c => { c with
          ejector := true, latch := false, ejectWindow := some ⟨0, 2000000⟩ },
        ejectAt (some .unloading) toRamp,
        ejectAt (some .stopping) ((spun .coasting).onSpc fun p => { p with demand := .coast })],
      s.listens = true ∧ s.settled = true ∧ (s.ccu.eject.map fun e => e.tags.length) = some 3) ∧
    (4 : Nat) ≤ 4 ∧ ¬ (4 : Nat) < 4 := by decide +kernel
/-- A transfer with two commands that wait behind it. -/
def followed (s : State) : State :=
  { s with queue := s.queue ++ [⟨8, .flush, false⟩, ⟨9, .seek 5, false⟩] }
theorem witness_EjectAnswers_cut :
    (∀ s ∈ [followed reading, followed (moving .read none)],
      s.listens = true ∧ s.ccu.holdCount = 0 ∧ s.settled = true ∧ s.ccu.state = .latched ∧
      s.ccu.eject = none ∧ s.queue = [⟨7, .xfer .read false [⟨40042, 2⟩], true⟩,
        ⟨8, .flush, false⟩, ⟨9, .seek 5, false⟩] ∧ (s.queue.map Entry.tag).Nodup ∧
      s.job = .transfer ∧ s.work = none ∧ s.downs = ⟨none, none, none, false⟩ ∧ s.record.op = .idle ∧
      s.record.readWanted = false) ∧
    (followed (moving .read none)).ownFlight = true ∧
    (followed reading).eng.flight = none ∧ (followed reading).spc.state = .atSpeed ∧
    (followed reading).pos.state = .tracking ∧ (followed reading).pos.parkSensor = false ∧
    (followed reading).needsWriteBack = false := by decide +kernel
/-- The unload of the internal spin-down, with a head entry that it holds. -/
def standing (c : MediumCmd) : State :=
  { toRamp with downs := ⟨none, some .unload, none, false⟩, queue := [⟨3, c, false⟩] }
theorem witness_EjectAnswers_standby :
    (∀ c ∈ [MediumCmd.spinUp, .seek 533],
      let s := standing c
      s.listens = true ∧ s.ccu.holdCount = 0 ∧ s.settled = true ∧ s.supplyLow = false ∧
      s.ccu.state = .latched ∧ s.ccu.eject = none ∧ s.downs = ⟨none, some .unload, none, false⟩ ∧
      s.spc.state = .atSpeed ∧ s.pos.state = .unloading ∧ s.job = .idle ∧ s.endWith = none ∧
      s.work = none ∧ s.retryWait = false ∧ s.anyLatched = false ∧
      s.tbs.params.autoSpin = true) ∧
    (standing (.seek 533)).needsSpindle (.seek 533) = true := by decide +kernel
theorem witness_HoldsCounted :
    (empty false).listens = true ∧ (empty false).ccu.state = .absent ∧ leaving.listens = true ∧
    leaving.ccu.state = .ejecting ∧ (seated 0).listens = true ∧ (seated 1).listens = true ∧
    (seated 2).listens = true ∧ (seated 14).listens = true ∧ (seated 15).listens = true ∧
    (seated 15).ccu.holdCount = 15 ∧ (seated 14).ccu.holdCount < 15 ∧
    1 < (seated 2).ccu.holdCount := by decide +kernel
theorem witness_FaultCommands :
    faulted.listens = true ∧ (9 : Byte) ≠ 0 ∧ faulted.calm = true := by decide +kernel

/-- A staged table that a cleared table-hold flag lets in. -/
def heldTables : State :=
  (spun .stopped).onTbs fun t => { t with
    hold := true, stagedParams := some { t.params with readRetries := 3 } }

/-- The three tables of the defaults as bodies, and a body of DRIVE PARAMETERS with a clamped field. -/
theorem witness_TableCommands :
    ready.listens = true ∧ packetFramed (.loadTable 9 0 [1, 2]) = true ∧ tableOf 0 [1, 2] = none ∧
    packetFramed (.loadTable 9 3 (paramsBytes DriveParams.defaults)) = true ∧
    tableOf 3 (paramsBytes DriveParams.defaults) = some (.params DriveParams.defaults, 0) ∧
    (tableOf 3 (paramsBytes { DriveParams.defaults with readRetries := 16 })) =
      some (.params { DriveParams.defaults with readRetries := 15 }, 1) ∧
    ready.spc.state.powered = true ∧ (spun .stopped).listens = true ∧
    (spun .stopped).spc.state.powered = false ∧ (spun .stopped).tbs.hold = false ∧
    (spun .stopped).supplyLow = false := by decide +kernel
theorem witness_TableCommands_read :
    State.reset.listens = true ∧ State.reset.record.image = none ∧ ready.listens = true ∧
    ready.record.image = some worked ∧ 65535 < 65536 ∧ 6 < (7 : Byte).toNat ∧
    (0 : Byte).toNat = 0 ∧ ready.anyStaged = false ∧ stagedProfile.listens = true ∧
    stagedProfile.spc.state.powered = true ∧ heldTables.listens = true ∧
    heldTables.tbs.hold = true ∧ heldTables.anyStaged = true ∧
    heldTables.spc.state.powered = false := by decide +kernel
theorem witness_SnapshotCommands : ready.listens = true ∧ (9 : Byte) ≠ 0 := by decide +kernel
theorem witness_StatusAndTableLoads :
    ready.listens = true ∧ (9 : Byte) ≠ 0 ∧ ready.atn = true ∧ fullCounts.listens = true ∧
    ready.spc.state.powered = true ∧ SeekProfile.defaults.rows.length ≤ 62 ∧
    (∀ r ∈ SeekProfile.defaults.rows, r.dist < 65536 ∧ r.speed < 65536) ∧
    SeekProfile.defaults.inLimits = true ∧
    profileOk [⟨0, 0⟩, ⟨1, 5⟩, ⟨1, 6⟩] = false ∧ profileOk [⟨0, 0⟩, ⟨1, 5⟩, ⟨2, 4⟩] = false ∧
    profileOk [⟨0, 0⟩, ⟨1231, 4095⟩] = true ∧ profileOk [⟨0, 0⟩, ⟨1232, 4095⟩] = false ∧
    FaultActions.defaults.inLimits = true ∧ DriveParams.defaults.inLimits = true := by
  decide +kernel

/-- No source requests attention, and one is in service. -/
def quiet : State := ready.onAtc fun a => { a with requests := [] }
def serving : State := ready.onAtc fun a => { a with inService := [.commandDone, .ejectFailed] }

theorem witness_AttentionAcked :
    ready.listens = true ∧ ready.requested .partReset = true ∧ Source.partReset ∉ ready.atc.mask ∧
    (∀ z ∈ ready.atc.inService, Source.partReset.code < z.code) ∧
    (∀ y ∈ Source.all, ready.requested y = true → Source.partReset.code ≤ y.code) ∧
    quiet.listens = true ∧ (∀ y ∈ Source.all, quiet.requested y = false) := by decide +kernel
theorem witness_AttentionEnded :
    serving.listens = true ∧ (11 : Byte).toNat = Source.ejectFailed.code ∧
    Source.ejectFailed ∈ serving.atc.inService ∧ (0 : Byte).toNat = Source.faultLatched.code ∧
    Source.faultLatched ∉ serving.atc.inService ∧
    (∀ y ∈ serving.atc.inService, Source.commandDone.code ≤ y.code) ∧
    ready.listens = true ∧ ready.atc.inService = [] ∧ 11 < (12 : Byte).toNat ∧
    (12 : Byte) ≠ 15 := by decide +kernel
theorem witness_MaskSet : ready.listens = true ∧ (9 : Byte) ≠ 0 := by decide +kernel
theorem witness_Comparators :
    ready.supplyLow = false ∧ ready.recordOf .supplyLow = none ∧ ready.pos.state = .tracking ∧
    ready.pos.parkSensor = false ∧ (spun .stopped).supplyLow = false ∧
    (spun .stopped).recordOf .supplyLow = none ∧ (spun .stopped).pos.state = .unloaded ∧
    ready.calm = true ∧ ready.spc.state = .atSpeed ∧ ready.spc.demand = .none ∧
    ready.recordOf .overTempShutdown = none ∧ (9 : Byte) ≠ 0 ∧ ready.dbi.turn = true ∧
    ready.dbi.busReset = false ∧ ready.replyFull = false ∧ commandPayload (.status 9) ≠ none ∧
    readsFaultList (.status 9) = false := by decide +kernel

/-- A FLUSH RECORD whose work of SPIN UP waits for AT_SPEED. -/
def flushSpinsUp : State :=
  { spun .starting with
    queue := [⟨9, .flush, true⟩], job := .work,
    work := some ⟨.spindle, true, false, false, false, false, none⟩,
    record := { ready.record with state := .dirty } }

theorem witness_Comparators_flush :
    flushSpinsUp.supplyLow = false ∧ flushSpinsUp.recordOf .overTempShutdown = none ∧
    flushSpinsUp.queue = [⟨9, .flush, true⟩] ∧ flushSpinsUp.job = .work ∧
    flushSpinsUp.endWith = none ∧
    flushSpinsUp.work = some ⟨.spindle, true, false, false, false, false, none⟩ ∧
    flushSpinsUp.record.op = .idle ∧ flushSpinsUp.needsWriteBack = true ∧
    flushSpinsUp.ccu.eject = none := by decide +kernel

/-- R155, R98, R101: the shutdown ends that work, and its entry, with the record still DIRTY. -/
theorem test_shutdown_ends_flush :
    let t := after .overTempShutdown flushSpinsUp
    t.queue = [] ∧ t.work = none ∧ t.record.state = .dirty := by decide +kernel
/-- R99 or R11 (log 15): its DONE. -/
theorem test_shutdown_flush_done :
    (after .overTempShutdown flushSpinsUp).dbi.replies =
      [.done 9 (flushCode .faulted) 0 0 0 none none] := by
  apply Eq.refl

/-- BUS_RESET asserted. -/
def inReset : State := ready.onDbi fun d => { d with busReset := true }

/-- A queue and EJECT tags to be dropped. -/
def busy : State :=
  { reading with ccu := { reading.ccu with
      state := .ejectPending, eject := some ⟨some .draining, .drain, false, [3, 4], .undecided⟩ } }

theorem witness_BusResets :
    inReset.dbi.busReset = true ∧ inReset.dbi.turn = true ∧ inReset.dbi.inb = .idle ∧
    ready.dbi.busReset = false ∧ ready.calm = true ∧ ready.anyStaged = false ∧
    busy.dbi.busReset = false ∧ busy.supplyLow = false ∧ busy.queue.length = 1 ∧ busy.reserved = 3 ∧
    heldTables.dbi.busReset = false ∧ heldTables.calm = true ∧ heldTables.anyStaged = true ∧
    heldTables.spc.state.powered = false ∧
    (inReset.onDbi fun d => { d with turn := false }).dbi.replies = [] ∧
    (inReset.onDbi fun d => { d with turn := false }).drainSlot = none := by decide +kernel

end Sys2Proof.Tests
end

section
/-! PROOFS. Block addressing (chapter 2): what the structure checks of R6 give of a sound image, the zone
and cylinder stages (R21, R22), the slip stage (R23), the alternate layout (R20) and the translation
(R17, R26). -/

namespace Sys2Proof.Machine

/-! ## What the structure checks give -/

/-- A chain of a transitive relation relates every earlier element to every later one. -/
theorem pairwise_of_chainOk {α : Type} {r : α → α → Bool}
    (trans : ∀ a b c, r a b = true → r b c = true → r a c = true) :
    ∀ l : List α, chainOk r l = true → l.Pairwise fun a b => r a b = true
  | [], _ => .nil
  | [a], _ => List.pairwise_singleton _ a
  | a :: b :: rest, h => by
    obtain ⟨hab, hrest⟩ : r a b = true ∧ chainOk r (b :: rest) = true := by
      simpa [chainOk] using h
    have ih := pairwise_of_chainOk trans (b :: rest) hrest
    refine List.pairwise_cons.2 ⟨fun x hx => ?_, ih⟩
    rcases List.mem_cons.1 hx with rfl | hx
    · exact hab
    · exact trans a b x hab (List.rel_of_pairwise_cons ih hx)

theorem nodup_of_noRepeats : ∀ l : List Nat, noRepeats l = true → l.Nodup
  | [], _ => .nil
  | a :: rest, h => by
    obtain ⟨ha, hrest⟩ : a ∉ rest ∧ noRepeats rest = true := by simpa [noRepeats] using h
    exact List.nodup_cons.2 ⟨ha, nodup_of_noRepeats rest hrest⟩

/-- A map whose values on a list do not repeat tells the list's elements apart. It is stated here because
the package's modules import core Lean only. -/
theorem eq_of_nodup_map {α β : Type} {f : α → β} {l : List α} (h : (l.map f).Nodup) {a b : α}
    (ha : a ∈ l) (hb : b ∈ l) (heq : f a = f b) : a = b := by
  induction l with
  | nil => cases ha
  | cons x rest ih =>
    rw [List.map_cons, List.nodup_cons] at h
    obtain ⟨hx, hrest⟩ := h
    rcases List.mem_cons.1 ha with rfl | har <;> rcases List.mem_cons.1 hb with rfl | hbr
    · rfl
    · exact absurd (heq ▸ List.mem_map_of_mem hbr) hx
    · exact absurd (heq ▸ List.mem_map_of_mem har) hx
    · exact ih hrest har hbr

/-- A part of a zone table as stage 3 of R6 admits it: first cylinders ascending, each zone inside its
bounds. -/
structure ZonesAscend (zones : List Zone) : Prop where
  sorted : zones.Pairwise fun a b => a.first < b.first
  first_lt : ∀ z ∈ zones, z.first < Config.dataCylinders
  lpc_pos : ∀ z ∈ zones, 0 < z.lpc

theorem ZonesAscend.tail {z : Zone} {rest : List Zone} (h : ZonesAscend (z :: rest)) :
    ZonesAscend rest where
  sorted := h.sorted.of_cons
  first_lt y hy := h.first_lt y (List.mem_cons_of_mem z hy)
  lpc_pos y hy := h.lpc_pos y (List.mem_cons_of_mem z hy)

theorem zonesAscend_of_zonesOk {n : Nat} {zones : List Zone} (h : zonesOk n zones = true) :
    ZonesAscend zones := by
  simp only [zonesOk, Bool.and_eq_true, List.all_eq_true, decide_eq_true_eq] at h
  obtain ⟨⟨_, hchain⟩, hall⟩ := h
  refine ⟨?_, fun z hz => ?_, fun z hz => ?_⟩
  · simpa using pairwise_of_chainOk (by simp only [decide_eq_true_eq]; omega) zones hchain
  · obtain ⟨⟨⟨hfirst, _⟩, _⟩, _⟩ := hall z hz
    exact hfirst
  · obtain ⟨⟨⟨_, hspt⟩, _⟩, hsp⟩ := hall z hz
    unfold Zone.lpc
    omega

theorem Image.sound.zonesAscend {img : Image} (h : img.sound) : ZonesAscend img.zones :=
  zonesAscend_of_zonesOk h.1

/-- The slip entries of a cylinder stand in ascending order of slot (R6). -/
theorem Image.sound.slips_sorted {img : Image} (h : img.sound) (d : Nat) :
    (img.slips.filter fun e => e.cylinder == d).Pairwise fun a b => a.slot < b.slot := by
  obtain ⟨_, hslips, _⟩ := h
  simp only [slipsOk, Bool.and_eq_true] at hslips
  obtain ⟨⟨_, hchain⟩, _⟩ := hslips
  have hsorted : img.slips.Pairwise fun a b => slipBefore a b = true :=
    pairwise_of_chainOk (by simp [slipBefore]; omega) img.slips hchain
  refine (hsorted.filter _).imp_of_mem fun {a b} ha hb hab => ?_
  simp only [List.mem_filter, beq_iff_eq] at ha hb
  simp only [slipBefore, Bool.or_eq_true, Bool.and_eq_true, decide_eq_true_eq] at hab
  omega

/-- A cylinder has at most as many slip entries as its zone has spare slots (R6). -/
theorem Image.sound.slips_length_le {img : Image} (h : img.sound) {d : Nat} {z : Zone}
    (hz : zoneOfCylinder img.zones d = some z) :
    (img.slips.filter fun e => e.cylinder == d).length ≤ z.sp := by
  obtain ⟨_, hslips, _⟩ := h
  simp only [slipsOk, Bool.and_eq_true, List.all_eq_true] at hslips
  rcases List.eq_nil_or_concat (img.slips.filter fun e => e.cylinder == d) with hnil | ⟨es, e, hes⟩
  · simp [hnil]
  · have he : e ∈ img.slips.filter fun e => e.cylinder == d := by simp [hes]
    obtain ⟨hmem, hd⟩ : e ∈ img.slips ∧ e.cylinder = d := by simpa using he
    have hok := hslips.2 e hmem
    simp only [slipOk, hd, hz, Bool.and_eq_true, decide_eq_true_eq] at hok
    exact hok.2

theorem Image.sound.alternate_lt {img : Image} (h : img.sound) {e : Reassign}
    (he : e ∈ img.reassigns) : e.alternate < alternateCount img.zones := by
  obtain ⟨_, _, hre, _⟩ := h
  simp only [reassignsOk, Bool.and_eq_true, List.all_eq_true, decide_eq_true_eq] at hre
  obtain ⟨⟨_, hall⟩, hnext⟩ := hre
  exact Nat.lt_of_lt_of_le (hall e he).2 hnext

/-- No two reassign entries share an alternate slot (R6). -/
theorem Image.sound.alternate_inj {img : Image} (h : img.sound) {e f : Reassign}
    (he : e ∈ img.reassigns) (hf : f ∈ img.reassigns) (heq : e.alternate = f.alternate) : e = f := by
  obtain ⟨_, _, hre, _⟩ := h
  simp only [reassignsOk, Bool.and_eq_true] at hre
  obtain ⟨⟨⟨_, hrepeats⟩, _⟩, _⟩ := hre
  exact eq_of_nodup_map (nodup_of_noRepeats _ hrepeats) he hf heq

/-! ## The zone stage and the cylinder stage -/

/-- The cylinder one past a zone that the zones of `rest` follow. -/
def zoneEnd (rest : List Zone) : Nat := (rest.head?.map Zone.first).getD Config.dataCylinders

theorem zoneCylinders_eq (z : Zone) (rest : List Zone) :
    zoneCylinders z rest = zoneEnd rest - z.first := by
  cases rest <;> rfl

theorem ZonesAscend.zoneEnd_le {rest : List Zone} (h : ZonesAscend rest) :
    zoneEnd rest ≤ Config.dataCylinders := by
  cases rest with
  | nil => exact Nat.le_refl _
  | cons y rest => exact Nat.le_of_lt (h.first_lt y (by simp))

theorem ZonesAscend.zoneEnd_le_first {rest : List Zone} (h : ZonesAscend rest) :
    ∀ y ∈ rest, zoneEnd rest ≤ y.first := by
  cases rest with
  | nil => simp
  | cons x rest =>
    intro y hy
    rcases List.mem_cons.1 hy with rfl | hy
    · exact Nat.le_refl _
    · exact Nat.le_of_lt (List.rel_of_pairwise_cons h.sorted hy)

theorem zoneOfCylinder_cons {z : Zone} {d : Nat} (rest : List Zone) (h : z.first ≤ d) :
    zoneOfCylinder (z :: rest) d = some ((zoneOfCylinder rest d).getD z) := by
  simp [zoneOfCylinder, h, List.getLast?_cons]

theorem ZonesAscend.zoneOfCylinder_eq_none {rest : List Zone} (h : ZonesAscend rest) {d : Nat}
    (hd : d < zoneEnd rest) : zoneOfCylinder rest d = none := by
  have hnil : (rest.filter fun z => decide (z.first ≤ d)) = [] := by
    simpa [List.filter_eq_nil_iff] using fun y hy => Nat.lt_of_lt_of_le hd (h.zoneEnd_le_first y hy)
  simp [zoneOfCylinder, hnil]

theorem zoneOfCylinder_mem {zones : List Zone} {d : Nat} {z : Zone}
    (h : zoneOfCylinder zones d = some z) : z ∈ zones ∧ z.first ≤ d := by
  simpa using List.mem_of_getLast? h

/-- An address below the first base of a list of zones lies in none of them. -/
theorem zoneStage_eq_none {l : Nat} (zones : List Zone) :
    ∀ n b, l < b → zoneStage n l (zoneBases b zones) = none := by
  induction zones with
  | nil => intros; rfl
  | cons z rest ih =>
    intro n b hlb
    simp only [zoneBases, zoneStage, ih (n + 1) _ (Nat.lt_of_lt_of_le hlb (Nat.le_add_right b _))]
    exact if_neg (Nat.not_le_of_lt hlb)

/-- The zone stage of an address inside the capacity finds the zone whose cylinders hold the address, as
the cylinder stage counts them from its base. -/
theorem zoneStage_spec {l : Nat} (zones : List Zone) :
    ∀ n b, ZonesAscend zones → b ≤ l → l < capacityFrom b zones →
      ∃ n' z b', zoneStage n l (zoneBases b zones) = some (n', z, b') ∧
        (z, b') ∈ zoneBases b zones ∧ b' ≤ l ∧ z.first + (l - b') / z.lpc < Config.dataCylinders ∧
        zoneOfCylinder zones (z.first + (l - b') / z.lpc) = some z := by
  induction zones with
  | nil => exact fun n b _ hb hl => absurd hl (Nat.not_lt_of_le hb)
  | cons z rest ih =>
    intro n b h hb hl
    rcases Nat.lt_or_ge l (b + zoneCylinders z rest * z.lpc) with hin | hout
    · have hc : (l - b) / z.lpc < zoneCylinders z rest :=
        (Nat.div_lt_iff_lt_mul (h.lpc_pos z (by simp))).2 (by omega)
      have hd : z.first + (l - b) / z.lpc < zoneEnd rest :=
        Nat.add_lt_of_lt_sub' (zoneCylinders_eq z rest ▸ hc)
      refine ⟨n, z, b, ?_, by simp [zoneBases], hb, Nat.lt_of_lt_of_le hd h.tail.zoneEnd_le, ?_⟩
      · simp [zoneBases, zoneStage, zoneStage_eq_none rest _ _ hin, hb]
      · simp [zoneOfCylinder_cons, h.tail.zoneOfCylinder_eq_none hd]
    · obtain ⟨n', y, b', hstage, hmem, hb', hd, hy⟩ := ih (n + 1) _ h.tail hout hl
      have hz : z.first ≤ y.first + (l - b') / y.lpc :=
        Nat.le_add_right_of_le <|
          Nat.le_of_lt (List.rel_of_pairwise_cons h.sorted (zoneOfCylinder_mem hy).1)
      refine ⟨n', y, b', ?_, List.mem_cons_of_mem _ hmem, hb', hd, ?_⟩
      · simp [zoneBases, zoneStage, hstage]
      · simp [zoneOfCylinder_cons rest hz, hy]

theorem zoneBases_map_fst (zones : List Zone) : ∀ b, (zoneBases b zones).map Prod.fst = zones := by
  induction zones with
  | nil => intro b; rfl
  | cons z rest ih => intro b; simp [zoneBases, ih]

/-- A zone has one base. -/
theorem ZonesAscend.base_unique {zones : List Zone} (h : ZonesAscend zones) {z : Zone}
    {b b₁ b₂ : Nat} (h₁ : (z, b₁) ∈ zoneBases b zones) (h₂ : (z, b₂) ∈ zoneBases b zones) :
    b₁ = b₂ := by
  have hnodup : ((zoneBases b zones).map Prod.fst).Nodup := by
    rw [zoneBases_map_fst]
    exact h.sorted.imp fun hlt heq => by simp [heq] at hlt
  exact congrArg Prod.snd (eq_of_nodup_map hnodup h₁ h₂ rfl)

/-- Address `l` is logical position `k` of data cylinder `d`, which lies in zone `z` (R21, R22). -/
structure LogicalAt (img : Image) (l d : Nat) (z : Zone) (k : Nat) : Prop where
  zone : zoneOfCylinder img.zones d = some z
  cylinder_lt : d < Config.dataCylinders
  position_lt : k < z.lpc
  address : ∃ b, (z, b) ∈ zoneBases 0 img.zones ∧ l = b + (d - z.first) * z.lpc + k

/-- A position of a data cylinder belongs to one address. -/
theorem LogicalAt.address_unique {img : Image} (h : img.sound) {l m d k : Nat} {y z : Zone}
    (hl : LogicalAt img l d z k) (hm : LogicalAt img m d y k) : l = m := by
  obtain rfl : z = y := Option.some.inj (hl.zone.symm.trans hm.zone)
  obtain ⟨b, hb, rfl⟩ := hl.address
  obtain ⟨c, hc, rfl⟩ := hm.address
  rw [h.zonesAscend.base_unique hb hc]

/-! ## The slip stage -/

/-- How one slip entry moves a position (R23). -/
def passSlip (s : Nat) (e : SlipEntry) : Nat := if e.slot ≤ s then s + 1 else s

theorem slipStage_eq_foldl (slips : List SlipEntry) (d k : Nat) :
    slipStage slips d k = (slips.filter fun e => e.cylinder == d).foldl passSlip k := rfl

theorem passSlip_bounds (s : Nat) (e : SlipEntry) : s ≤ passSlip s e ∧ passSlip s e ≤ s + 1 := by
  unfold passSlip
  split <;> omega

theorem passSlip_ne (s : Nat) (e : SlipEntry) : passSlip s e ≠ e.slot := by
  unfold passSlip
  split <;> omega

theorem passSlip_of_lt {s : Nat} {e : SlipEntry} (h : s < e.slot) : passSlip s e = s :=
  if_neg (Nat.not_le_of_lt h)

theorem passSlip_injective (e : SlipEntry) : Function.Injective fun s => passSlip s e := by
  intro s t h
  simp only [passSlip] at h
  split at h <;> split at h <;> omega

theorem foldl_passSlip_bounds (es : List SlipEntry) :
    ∀ k, k ≤ es.foldl passSlip k ∧ es.foldl passSlip k ≤ k + es.length := by
  induction es with
  | nil => simp
  | cons e es ih =>
    intro k
    have hstep := passSlip_bounds k e
    have hrest := ih (passSlip k e)
    simp only [List.foldl_cons, List.length_cons]
    omega

theorem foldl_passSlip_injective (es : List SlipEntry) :
    Function.Injective fun k => es.foldl passSlip k := by
  induction es with
  | nil => exact fun _ _ h => h
  | cons e es ih => exact ih.comp (passSlip_injective e)

theorem foldl_passSlip_of_lt {s : Nat} (es : List SlipEntry) (h : ∀ e ∈ es, s < e.slot) :
    es.foldl passSlip s = s := by
  induction es with
  | nil => rfl
  | cons e es ih =>
    rw [List.foldl_cons, passSlip_of_lt (h e (by simp))]
    exact ih fun f hf => h f (List.mem_cons_of_mem e hf)

/-- Ascending slip entries move a position off every slot they list: what stands below an entry stays,
and what stands above it only rises. -/
theorem foldl_passSlip_ne (es : List SlipEntry) (h : es.Pairwise fun a b => a.slot < b.slot) :
    ∀ k, ∀ e ∈ es, es.foldl passSlip k ≠ e.slot := by
  induction es with
  | nil => simp
  | cons f es ih =>
    intro k e he
    have hlater : ∀ g ∈ es, f.slot < g.slot := fun g hg => List.rel_of_pairwise_cons h hg
    rw [List.foldl_cons]
    rcases List.mem_cons.1 he with rfl | he
    · rcases Nat.lt_or_gt_of_ne (passSlip_ne k e) with hlt | hgt
      · rw [foldl_passSlip_of_lt es fun g hg => Nat.lt_trans hlt (hlater g hg)]
        exact Nat.ne_of_lt hlt
      · exact Nat.ne_of_gt (Nat.lt_of_lt_of_le hgt (foldl_passSlip_bounds es _).1)
    · exact ih h.of_cons _ e he

theorem slipStage_injective (slips : List SlipEntry) (d : Nat) :
    Function.Injective (slipStage slips d) :=
  foldl_passSlip_injective _

/-- The slip stage leaves a position of a cylinder inside the cylinder. -/
theorem LogicalAt.slipStage_lt {img : Image} (h : img.sound) {l d k : Nat} {z : Zone}
    (hl : LogicalAt img l d z k) : slipStage img.slips d k < 2 * z.spt := by
  have hlen := h.slips_length_le hl.zone
  have hle := (foldl_passSlip_bounds (img.slips.filter fun e => e.cylinder == d) k).2
  have hk := hl.position_lt
  rw [slipStage_eq_foldl]
  unfold Zone.lpc at hk
  omega

theorem Image.sound.slipStage_ne {img : Image} (h : img.sound) (d k : Nat) {e : SlipEntry}
    (he : e ∈ img.slips) (hd : e.cylinder = d) : slipStage img.slips d k ≠ e.slot :=
  foldl_passSlip_ne _ (h.slips_sorted d) k e (by simp [he, hd])

/-! ## The alternate layout -/

@[simp] theorem alternatePlace_alternate (img : Image) (a : Nat) :
    (alternatePlace img a).alternate = true := rfl
@[simp] theorem alternatePlace_dataCylinder (img : Image) (a : Nat) :
    (alternatePlace img a).dataCylinder = none := rfl
theorem alternatePlace_cylinder (img : Image) (a : Nat) :
    (alternatePlace img a).cylinder = 1228 + a / (2 * lastSpt img.zones) := rfl

/-- Head and sector count the slots of an alternate cylinder. -/
theorem alternatePlace_slot (img : Image) (a : Nat) :
    (alternatePlace img a).head * lastSpt img.zones + (alternatePlace img a).sector =
      a % (2 * lastSpt img.zones) :=
  Nat.div_add_mod' _ _

theorem alternatePlace_cylinder_le {img : Image} {a : Nat} (h : a < alternateCount img.zones) :
    (alternatePlace img a).cylinder ≤ 1231 := by
  have hq : a / (2 * lastSpt img.zones) < 4 := Nat.div_lt_of_lt_mul (by rwa [Nat.mul_comm])
  rw [alternatePlace_cylinder]
  omega

theorem lastSpt_pos {zones : List Zone} {a : Nat} (h : a < alternateCount zones) :
    0 < lastSpt zones := by
  unfold alternateCount at h
  omega

theorem alternatePlace_head_le {img : Image} {a : Nat} (h : a < alternateCount img.zones) :
    (alternatePlace img a).head ≤ 1 := by
  have hpos := lastSpt_pos h
  exact Nat.lt_succ_iff.1 <| Nat.div_lt_of_lt_mul <| by
    rw [Nat.mul_comm]
    exact Nat.mod_lt _ (by omega)

theorem alternatePlace_sector_lt {img : Image} {a : Nat} (h : a < alternateCount img.zones) :
    (alternatePlace img a).sector < lastSpt img.zones :=
  Nat.mod_lt _ (lastSpt_pos h)

/-- A sector holds one alternate slot: its cylinder gives the quotient of the slot number, its head and
sector the remainder. -/
theorem alternatePlace_inj {img : Image} {a b : Nat}
    (hcyl : (alternatePlace img a).cylinder = (alternatePlace img b).cylinder)
    (hhead : (alternatePlace img a).head = (alternatePlace img b).head)
    (hsector : (alternatePlace img a).sector = (alternatePlace img b).sector) : a = b := by
  have hquot : a / (2 * lastSpt img.zones) = b / (2 * lastSpt img.zones) := by
    simpa [alternatePlace_cylinder] using hcyl
  have hrem : a % (2 * lastSpt img.zones) = b % (2 * lastSpt img.zones) := by
    rw [← alternatePlace_slot img a, ← alternatePlace_slot img b, hhead, hsector]
  rw [← Nat.div_add_mod a (2 * lastSpt img.zones), hquot, hrem, Nat.div_add_mod]

/-- Settles O19: quotient and remainder of the slot number by the slots of an alternate cylinder. -/
theorem alternateLayout : Obligations.AlternateLayout := by
  intro img a _ ha
  exact ⟨alternatePlace_cylinder img a, alternatePlace_cylinder_le ha, alternatePlace_head_le ha,
    alternatePlace_sector_lt ha, alternatePlace_slot img a,
    fun _ _ hcyl hhead hsector => alternatePlace_inj hcyl hhead hsector⟩

/-! ## The translation -/

/-- The place of slot `s` of data cylinder `d` in zone `z`, the zone of number `n` (R18, R23). -/
def slotPlace (n d : Nat) (z : Zone) (s : Nat) : Placement :=
  { alternate := false, cylinder := d + 4, head := s / z.spt, sector := s % z.spt,
    dataCylinder := some d, zone := some n, alternateSlot := none }

/-- The slot can be read off the place. -/
theorem slotPlace_slot (n d : Nat) (z : Zone) (s : Nat) :
    (slotPlace n d z s).head * z.spt + (slotPlace n d z s).sector = s :=
  Nat.div_add_mod' _ _

/-- The data stages take an address inside the capacity to its position's slot. -/
theorem dataPlace_spec {img : Image} (h : img.sound) {l : Nat} (hl : l < capacityOf img.zones) :
    ∃ n d z k, LogicalAt img l d z k ∧
      dataPlace img l = some (slotPlace n d z (slipStage img.slips d k)) := by
  obtain ⟨n, z, b, hstage, hmem, hb, hd, hz⟩ :=
    zoneStage_spec img.zones 0 0 h.zonesAscend l.zero_le hl
  refine ⟨n, z.first + (l - b) / z.lpc, z, (l - b) % z.lpc, ⟨hz, hd, ?_, b, hmem, ?_⟩, ?_⟩
  · exact Nat.mod_lt _ (h.zonesAscend.lpc_pos z (zoneOfCylinder_mem hz).1)
  · rw [Nat.add_sub_cancel_left, Nat.add_assoc, Nat.div_add_mod', Nat.add_sub_cancel' hb]
  · simp only [dataPlace, hstage, slotPlace]

/-- The translation of an address inside the capacity: the alternate slot of its reassign entry (R19), or
the slot of its position on a data cylinder. -/
theorem translation_cases {img : Image} (h : img.sound) {l : Nat} (hl : l < capacityOf img.zones) :
    (∃ e ∈ img.reassigns, e.lba = l ∧ translation img l = some (alternatePlace img e.alternate)) ∨
    ∃ n d z k, LogicalAt img l d z k ∧
      translation img l = some (slotPlace n d z (slipStage img.slips d k)) := by
  unfold translation
  split
  next e he =>
    exact .inl ⟨e, List.mem_of_find?_eq_some he, by simpa using List.find?_some he, rfl⟩
  next => exact .inr (dataPlace_spec h hl)

/-- Two positions on data cylinders with one slot are positions of one address. -/
theorem LogicalAt.eq_of_slotPlace {img : Image} (h : img.sound) {l m n n' d d' k k' : Nat}
    {z z' : Zone} (hl : LogicalAt img l d z k) (hm : LogicalAt img m d' z' k')
    (hcyl : (slotPlace n d z (slipStage img.slips d k)).cylinder =
      (slotPlace n' d' z' (slipStage img.slips d' k')).cylinder)
    (hhead : (slotPlace n d z (slipStage img.slips d k)).head =
      (slotPlace n' d' z' (slipStage img.slips d' k')).head)
    (hsector : (slotPlace n d z (slipStage img.slips d k)).sector =
      (slotPlace n' d' z' (slipStage img.slips d' k')).sector) : l = m := by
  obtain rfl : d = d' := Nat.add_right_cancel hcyl
  obtain rfl : z = z' := Option.some.inj (hl.zone.symm.trans hm.zone)
  have hslot : slipStage img.slips d k = slipStage img.slips d k' := by
    rw [← slotPlace_slot n d z (slipStage img.slips d k), hhead, hsector, slotPlace_slot]
  obtain rfl := slipStage_injective img.slips d hslot
  exact hl.address_unique h hm

/-- A data slot lies on a data cylinder, an alternate slot behind all of them. -/
theorem LogicalAt.slotPlace_cylinder_lt {img : Image} {l n d k s : Nat} {z : Zone}
    (hl : LogicalAt img l d z k) (a : Nat) :
    (slotPlace n d z s).cylinder < (alternatePlace img a).cylinder := by
  have hd : d + 4 < 1228 := Nat.add_lt_add_right hl.cylinder_lt 4
  exact Nat.lt_of_lt_of_le hd (Nat.le_add_right _ _)

/-- The translation maps distinct addresses to distinct sectors (R26). -/
theorem translation_inj {img : Image} (h : img.sound) {l m : Nat} {p q : Placement}
    (hl : l < capacityOf img.zones) (hm : m < capacityOf img.zones)
    (hp : translation img l = some p) (hq : translation img m = some q)
    (hcyl : p.cylinder = q.cylinder) (hhead : p.head = q.head) (hsector : p.sector = q.sector) :
    l = m := by
  rcases translation_cases h hl with ⟨e, he, rfl, hpl⟩ | ⟨n, d, z, k, hat, hpl⟩ <;>
  rcases translation_cases h hm with ⟨f, hf, rfl, hqm⟩ | ⟨n', d', z', k', hat', hqm⟩ <;>
  obtain rfl := Option.some.inj (hpl.symm.trans hp) <;>
  obtain rfl := Option.some.inj (hqm.symm.trans hq)
  · rw [h.alternate_inj he hf (alternatePlace_inj hcyl hhead hsector)]
  · exact absurd hcyl (Nat.ne_of_gt (hat'.slotPlace_cylinder_lt _))
  · exact absurd hcyl (Nat.ne_of_lt (hat.slotPlace_cylinder_lt _))
  · exact hat.eq_of_slotPlace h hat' hcyl hhead hsector

/-- Settles O21, by the two cases of the translation. -/
theorem translationInjective : Obligations.TranslationInjective := by
  intro img l h hl
  rcases translation_cases h hl with ⟨e, he, -, hp⟩ | ⟨n, d, z, k, hat, hp⟩
  · have hge : 1228 ≤ (alternatePlace img e.alternate).cylinder := Nat.le_add_right _ _
    refine ⟨_, hp, rfl, by omega, ?_, by simp, fun m q hm hq => translation_inj h hl hm hp hq⟩
    simpa using ⟨hge, alternatePlace_cylinder_le (h.alternate_lt he)⟩
  · have hd : d < 1224 := hat.cylinder_lt
    have hs := hat.slipStage_lt h
    refine ⟨_, hp, rfl, Nat.le_add_left 4 d, ?_, ?_, fun m q hm hq => translation_inj h hl hm hp hq⟩
    · show d + 4 ≤ 1227
      omega
    · rintro _ ⟨⟩ y hy
      obtain rfl : z = y := Option.some.inj (hat.zone.symm.trans hy)
      refine ⟨rfl, ?_, Nat.mod_lt _ (by omega), fun e he hed => ?_⟩
      · exact Nat.lt_succ_iff.1 (Nat.div_lt_of_lt_mul (by rwa [Nat.mul_comm]))
      · rw [slotPlace_slot]
        exact (h.slipStage_ne d k he hed).symm

end Sys2Proof.Machine
end

section
/-! PROOFS. The motion of the drive: the states of the spindle and of the Positioner, and the operations
that leave both as they are, in the order of the model's files. -/

namespace Sys2Proof.Machine

/-- The spindle state and the Positioner state. -/
def State.motion (s : State) : SpindleState × PosState := (s.spc.state, s.pos.state)

theorem motion_eq_iff {s t : State} :
    t.motion = s.motion ↔ t.spc.state = s.spc.state ∧ t.pos.state = s.pos.state := by
  simp [State.motion]

/-! ## Changing one part of the state -/

@[simp] theorem State.onDbi_motion (f : Bus → Bus) (s : State) : (s.onDbi f).motion = s.motion := rfl
@[simp] theorem State.onEng_motion (f : Engine → Engine) (s : State) : (s.onEng f).motion = s.motion := rfl
@[simp] theorem State.onDowns_motion (f : Downs → Downs) (s : State) :
    (s.onDowns f).motion = s.motion := rfl
@[simp] theorem State.onCcu_motion (f : Cartridge → Cartridge) (s : State) :
    (s.onCcu f).motion = s.motion := rfl
@[simp] theorem State.onRec_motion (f : RecordUnit → RecordUnit) (s : State) :
    (s.onRec f).motion = s.motion := rfl
@[simp] theorem State.onFsv_motion (f : Supervisor → Supervisor) (s : State) :
    (s.onFsv f).motion = s.motion := rfl
@[simp] theorem State.onTbs_motion (f : TableStore → TableStore) (s : State) :
    (s.onTbs f).motion = s.motion := rfl
@[simp] theorem State.onCounters_motion (f : Counters → Counters) (s : State) :
    (s.onCounters f).motion = s.motion := rfl
@[simp] theorem State.onAtc_motion (f : Attention → Attention) (s : State) :
    (s.onAtc f).motion = s.motion := rfl
@[simp] theorem State.setQueue_motion (q : List Entry) (s : State) : (s.setQueue q).motion = s.motion := rfl
@[simp] theorem State.setJob_motion (j : Job) (s : State) : (s.setJob j).motion = s.motion := rfl
@[simp] theorem State.setEnd_motion (st : Option Status) (s : State) : (s.setEnd st).motion = s.motion := rfl
@[simp] theorem State.setSlots_motion (l : List Slot) (s : State) : (s.setSlots l).motion = s.motion := rfl
@[simp] theorem State.setWork_motion (w : Option SpinUpWork) (s : State) :
    (s.setWork w).motion = s.motion := rfl

/-- A change of the spindle that keeps its state keeps the motion. -/
@[simp] theorem State.onSpc_motion {f : Spindle → Spindle} {s : State}
    (h : ∀ p, (f p).state = p.state) : (s.onSpc f).motion = s.motion := motion_eq_iff.mpr ⟨h _, rfl⟩

/-- A change of the Positioner that keeps its state keeps the motion. -/
@[simp] theorem State.onPos_motion {f : Positioner → Positioner} {s : State}
    (h : ∀ p, (f p).state = p.state) : (s.onPos f).motion = s.motion := motion_eq_iff.mpr ⟨rfl, h _⟩

/-- Operations that each keep the motion keep it one after another. -/
theorem foldl_motion {α : Type} {f : State → α → State} (h : ∀ s a, (f s a).motion = s.motion)
    (l : List α) (s : State) : (l.foldl f s).motion = s.motion := by
  induction l generalizing s with
  | nil => rfl
  | cons a l ih => rw [List.foldl_cons, ih, h]

/-! ## Operations of one block -/

@[simp] theorem State.onSlot_motion (i : Nat) (f : Slot → Slot) (s : State) :
    (s.onSlot i f).motion = s.motion := rfl
@[simp] theorem State.emptySlotAt_motion (i : Nat) (s : State) : (s.emptySlotAt i).motion = s.motion := rfl
@[simp] theorem State.reply_motion (t : Byte) (st : Status) (b : ReplyBody) (s : State) :
    (s.reply t st b).motion = s.motion := rfl
@[simp] theorem State.request_motion (x : Source) (s : State) : (s.request x).motion = s.motion := rfl
@[simp] theorem State.countReadRetry_motion (s : State) : s.countReadRetry.motion = s.motion := rfl
@[simp] theorem State.countDeferral_motion (s : State) : s.countDeferral.motion = s.motion := rfl
@[simp] theorem State.countDrop_motion (s : State) : s.countDrop.motion = s.motion := rfl
@[simp] theorem State.countTrackSlip_motion (s : State) : s.countTrackSlip.motion = s.motion := rfl
@[simp] theorem State.countSeek_motion (s : State) : s.countSeek.motion = s.motion := rfl
@[simp] theorem State.onKind_motion (k : FaultKind) (f : KindStatus → KindStatus) (s : State) :
    (s.onKind k f).motion = s.motion := rfl
@[simp] theorem State.absent_motion (k : FaultKind) (s : State) : (s.absent k).motion = s.motion := rfl
@[simp] theorem State.nowPresent_motion (k : FaultKind) (s : State) :
    (s.nowPresent k).motion = s.motion := rfl
@[simp] theorem State.cancelRestarts_motion (s : State) : s.cancelRestarts.motion = s.motion := rfl
@[simp] theorem State.withdrawLoads_motion (s : State) : s.withdrawLoads.motion = s.motion := rfl
@[simp] theorem State.clearStarts_motion (s : State) : s.clearStarts.motion = s.motion := rfl
@[simp] theorem State.endRetries_motion (s : State) : s.endRetries.motion = s.motion := rfl
@[simp] theorem State.onRecord_motion (k : FaultKind) (f : FaultRecord → FaultRecord) (s : State) :
    (s.onRecord k f).motion = s.motion := rfl
@[simp] theorem State.elapse_motion (n : Nat) (s : State) : (s.elapse n).motion = s.motion := rfl

@[simp] theorem State.absents_motion (l : List FaultKind) (s : State) :
    (s.absents l).motion = s.motion := foldl_motion (fun s k => s.absent_motion k) l s

@[simp] theorem State.beginWatch_motion (k : FaultKind) (s : State) :
    (s.beginWatch k).motion = s.motion := by
  unfold State.beginWatch
  dsimp only
  split <;> rfl

@[simp] theorem State.successPoint_motion (spindle : Bool) (s : State) :
    (s.successPoint spindle).motion = s.motion := foldl_motion (fun s k => s.beginWatch_motion k) _ s

@[simp] theorem State.takeTables_motion (s : State) : s.takeTables.motion = s.motion := by
  obtain h | ⟨-, -, -, h⟩ := takeTables_cases s <;> rw [h]
  rfl

@[simp] theorem State.startByWork_motion (s : State) : s.startByWork.motion = s.motion := by
  unfold State.startByWork
  split <;> rfl

/-! ## The queue, the works and the record operations -/

@[simp] theorem State.orphanSeek_motion (s : State) : s.orphanSeek.motion = s.motion := rfl
@[simp] theorem State.releaseCommand_motion (t : Byte) (s : State) :
    (s.releaseCommand t).motion = s.motion := rfl
@[simp] theorem State.placeDone_motion (t : Byte) (st : Status) (e : Engine) (s : State) :
    (s.placeDone t st e).motion = s.motion := rfl
@[simp] theorem State.withdrawWork_motion (s : State) : s.withdrawWork.motion = s.motion := rfl
@[simp] theorem State.completeWaiting_motion (t : Byte) (st : Status) (s : State) :
    (s.completeWaiting t st).motion = s.motion := rfl
@[simp] theorem State.abandonStandby_motion (s : State) : s.abandonStandby.motion = s.motion := rfl
@[simp] theorem State.placeEjectDone_motion (t : Byte) (st : Status) (s : State) :
    (s.placeEjectDone t st).motion = s.motion := rfl
@[simp] theorem State.ejectUnloads_motion (s : State) : s.ejectUnloads.motion = s.motion := rfl
@[simp] theorem State.endLater_motion (st : Status) (s : State) : (s.endLater st).motion = s.motion := rfl

@[simp] theorem State.leaveWork_motion (who : Who) (s : State) : (s.leaveWork who).motion = s.motion := by
  unfold State.leaveWork
  split
  · rfl
  · split <;> rfl

@[simp] theorem State.joinWork_motion (who : Who) (s : State) : (s.joinWork who).motion = s.motion := by
  unfold State.joinWork
  split <;> rfl

@[simp] theorem State.completeHead_motion (st : Status) (s : State) :
    (s.completeHead st).motion = s.motion := by
  unfold State.completeHead
  split <;> simp

@[simp] theorem State.endTransfer_motion (st : Status) (s : State) :
    (s.endTransfer st).motion = s.motion := by
  unfold State.endTransfer
  split <;> simp

@[simp] theorem State.cutWrite_motion (s : State) : s.cutWrite.motion = s.motion := by
  unfold State.cutWrite
  split <;> rfl

@[simp] theorem State.endEject_motion (st : Status) (s : State) : (s.endEject st).motion = s.motion :=
  foldl_motion (fun v t => v.placeEjectDone_motion t st) _ s

@[simp] theorem State.failEject_motion (st : Status) (next : CartState) (s : State) :
    (s.failEject st next).motion = s.motion := by
  simp [State.failEject]

@[simp] theorem State.workEndsHead_motion (st : Status) (s : State) :
    (s.workEndsHead st).motion = s.motion := by
  unfold State.workEndsHead
  repeat' split
  all_goals simp

@[simp] theorem State.workEndsFor_motion (who : Who) (st : Status) (s : State) :
    (s.workEndsFor who st).motion = s.motion := by
  unfold State.workEndsFor
  repeat' split
  all_goals simp

@[simp] theorem State.endWork_motion (st : Status) (s : State) : (s.endWork st).motion = s.motion := by
  unfold State.endWork
  split
  · rfl
  · simp only [apply_ite State.motion, State.workEndsFor_motion, State.withdrawWork_motion,
      State.setWork_motion, ite_self]

@[simp] theorem State.emptySlotOpt_motion (i : Option Nat) (s : State) :
    (s.emptySlotOpt i).motion = s.motion := by
  cases i <;> rfl

@[simp] theorem State.dropRecordOp_motion (s : State) : s.dropRecordOp.motion = s.motion := by
  unfold State.dropRecordOp
  dsimp only
  split
  · split <;> simp
  · simp

@[simp] theorem State.writeBackEnds_motion (owner : Who) (good : Bool) (s : State) :
    (s.writeBackEnds owner good).motion = s.motion := by
  unfold State.writeBackEnds
  dsimp only
  repeat' split
  all_goals simp

@[simp] theorem State.failWriteBack_motion (s : State) : s.failWriteBack.motion = s.motion := by
  unfold State.failWriteBack
  split <;> simp

@[simp] theorem State.finishWriteBack_motion (w : WriteBack) (s : State) :
    (s.finishWriteBack w).motion = s.motion := by
  simp [State.finishWriteBack]

@[simp] theorem State.orphanWriteBack_motion (who heir : Who) (s : State) :
    (s.orphanWriteBack who heir).motion = s.motion := by
  unfold State.orphanWriteBack
  repeat' split
  all_goals simp

@[simp] theorem State.waiterSeekFailed_motion (held : Bool) (s : State) :
    (s.waiterSeekFailed held).motion = s.motion := by
  unfold State.waiterSeekFailed
  dsimp only
  repeat' split
  all_goals simp

/-- A seek reported failed moves nothing: what its requester does about it is with the queue, the record
operation and the works. -/
@[simp] theorem State.seekFailed_motion (byHold : Bool) (s : State) :
    (s.seekFailed byHold).motion = s.motion := by
  unfold State.seekFailed
  dsimp only
  repeat' split
  all_goals simp

@[simp] theorem State.loseRecordOp_motion (s : State) : s.loseRecordOp.motion = s.motion := by
  unfold State.loseRecordOp
  split <;> simp

/-! ## A fault meets the queue -/

@[simp] theorem State.transferMeetsFault_motion (s : State) : s.transferMeetsFault.motion = s.motion := by
  unfold State.transferMeetsFault
  repeat' split
  all_goals simp

@[simp] theorem State.headMeetsFault_motion (s : State) : s.headMeetsFault.motion = s.motion := by
  unfold State.headMeetsFault
  repeat' split
  all_goals simp

@[simp] theorem State.workMeetsFault_motion (s : State) : s.workMeetsFault.motion = s.motion := by
  unfold State.workMeetsFault
  repeat' split
  all_goals simp

@[simp] theorem State.downsMeetFault_motion (reaches : Bool) (s : State) :
    (s.downsMeetFault reaches).motion = s.motion := by
  unfold State.downsMeetFault
  dsimp only
  repeat' split
  all_goals simp

@[simp] theorem State.meetFault_motion (reaches : Bool) (s : State) :
    (s.meetFault reaches).motion = s.motion := by
  unfold State.meetFault
  repeat' split
  all_goals simp

/-! ## The Positioner and the Fault Supervisor -/

@[simp] theorem State.leaveSeekLaw_motion (s : State) : s.leaveSeekLaw.motion = s.motion := rfl
@[simp] theorem State.startSeekTimer_motion (s : State) : s.startSeekTimer.motion = s.motion := rfl
@[simp] theorem State.startDelay_motion (k : FaultKind) (r : FaultRow) (s : State) :
    (s.startDelay k r).motion = s.motion := rfl
@[simp] theorem State.endRetry_motion (k : FaultKind) (s : State) : (s.endRetry k).motion = s.motion := rfl
@[simp] theorem State.restart_motion (k : FaultKind) (r : FaultRow) (s : State) :
    (s.restart k r).motion = s.motion := rfl
@[simp] theorem State.recovers_motion (k : FaultKind) (s : State) : (s.recovers k).motion = s.motion := rfl

@[simp] theorem State.loadByWork_motion (s : State) : s.loadByWork.motion = s.motion := by
  unfold State.loadByWork
  split <;> rfl

@[simp] theorem State.putRecord_motion (k : FaultKind) (sub : Option SubCause) (st : FaultState)
    (retries : Nat) (kept : Option FaultRow) (s : State) :
    (s.putRecord k sub st retries kept).motion = s.motion := by
  unfold State.putRecord
  split <;> rfl

@[simp] theorem State.delayExpires_motion (k : FaultKind) (s : State) :
    (s.delayExpires k).motion = s.motion := by
  unfold State.delayExpires
  dsimp only
  repeat' split
  all_goals simp

@[simp] theorem State.countDelay_motion (s : State) (k : FaultKind) :
    (s.countDelay k).motion = s.motion := by
  unfold State.countDelay
  repeat' split
  all_goals simp

@[simp] theorem State.countDelays_motion (s : State) : s.countDelays.motion = s.motion :=
  foldl_motion State.countDelay_motion _ s

@[simp] theorem State.countWatch_motion (s : State) (k : FaultKind) :
    (s.countWatch k).motion = s.motion := by
  unfold State.countWatch
  dsimp only
  repeat' split
  all_goals simp

@[simp] theorem State.countWatches_motion (l : List FaultKind) (s : State) :
    (s.countWatches l).motion = s.motion :=
  foldl_motion State.countWatch_motion l s

@[simp] theorem State.replaceSeek_motion (req : Requester) (s : State) :
    (s.replaceSeek req).motion = s.motion := by
  unfold State.replaceSeek
  split <;> simp

/-! ## The Transfer Engine, the cartridge and the head entry -/

@[simp] theorem State.awaitPass_motion (s : State) : s.awaitPass.motion = s.motion := rfl
@[simp] theorem State.slips_motion (s : State) : s.slips.motion = s.motion := rfl
@[simp] theorem State.forgetRecord_motion (s : State) : s.forgetRecord.motion = s.motion := rfl
@[simp] theorem State.clearHolds_motion (s : State) : s.clearHolds.motion = s.motion := rfl
@[simp] theorem State.workAt_motion (w : SpinUpWork) (x : WorkStep) (s : State) :
    (s.workAt w x).motion = s.motion := rfl

@[simp] theorem State.endPending_motion (st : Status) (s : State) :
    (s.endPending st).motion = s.motion := by
  unfold State.endPending
  split <;> simp

@[simp] theorem State.recordSeekFails_motion (s : State) : s.recordSeekFails.motion = s.motion := by
  unfold State.recordSeekFails
  repeat' split
  all_goals simp

@[simp] theorem State.finishRecordRead_motion (r : RecordRead) (s : State) :
    (s.finishRecordRead r).motion = s.motion := by
  unfold State.finishRecordRead
  dsimp only
  split <;> simp

@[simp] theorem State.recordSectorRead_motion (r : RecordRead) (i : Nat) (good : Bool)
    (data : List Byte) (s : State) : (s.recordSectorRead r i good data).motion = s.motion := by
  unfold State.recordSectorRead
  dsimp only
  repeat' split
  all_goals simp

@[simp] theorem State.recordSectorWritten_motion (w : WriteBack) (s : State) :
    (s.recordSectorWritten w).motion = s.motion := by
  unfold State.recordSectorWritten
  dsimp only
  split <;> simp

@[simp] theorem State.recordSectorDeferred_motion (w : WriteBack) (s : State) :
    (s.recordSectorDeferred w).motion = s.motion := by
  unfold State.recordSectorDeferred
  split <;> simp

@[simp] theorem State.cartridgeLeaves_motion (s : State) : s.cartridgeLeaves.motion = s.motion := by
  simp [State.cartridgeLeaves]

@[simp] theorem State.completeAll_motion (st : Status) (n : Nat) (s : State) :
    (s.completeAll st n).motion = s.motion := by
  induction n generalizing s with
  | zero => rfl
  | succ n ih => rw [State.completeAll, ih, State.completeHead_motion]

@[simp] theorem State.workAwaitsEject_motion (s : State) : s.workAwaitsEject.motion = s.motion := by
  unfold State.workAwaitsEject
  split <;> simp

@[simp] theorem State.enterEjecting_motion (s : State) : s.enterEjecting.motion = s.motion := by
  simp [State.enterEjecting]

@[simp] theorem State.abortWaiting_motion (s : State) : s.abortWaiting.motion = s.motion :=
  foldl_motion (fun t g => t.completeWaiting_motion g _) _ s

@[simp] theorem State.stopExecuting_motion (st : Status) (s : State) :
    (s.stopExecuting st).motion = s.motion := by
  unfold State.stopExecuting
  repeat' split
  all_goals simp

@[simp] theorem State.cutQueue_motion (s : State) : s.cutQueue.motion = s.motion := by
  unfold State.cutQueue
  split <;> simp

@[simp] theorem State.beginEject_motion (mode : EjectMode) (force : Bool) (tags : List Byte) (s : State) :
    (s.beginEject mode force tags).motion = s.motion := by
  unfold State.beginEject
  dsimp only
  repeat' split
  all_goals simp

@[simp] theorem State.forceFlush_motion (s : State) : s.forceFlush.motion = s.motion := by
  unfold State.forceFlush
  split <;> simp

@[simp] theorem State.mergeEject_motion (tag : Byte) (mode : EjectMode) (force : Bool) (s : State) :
    (s.mergeEject tag mode force).motion = s.motion := by
  unfold State.mergeEject
  dsimp only
  split <;> simp

@[simp] theorem State.cutFlight_motion (f : Flight) (s : State) : (s.cutFlight f).motion = s.motion := by
  unfold State.cutFlight State.refill
  repeat' split
  all_goals simp

@[simp] theorem State.beginEntry_motion (c : MediumCmd) (s : State) :
    (s.beginEntry c).motion = s.motion := by
  unfold State.beginEntry
  repeat' split
  all_goals simp

@[simp] theorem State.runReassign_motion (l : Nat) (s : State) : (s.runReassign l).motion = s.motion := by
  unfold State.runReassign
  split <;> simp

/-! ## The drive bus -/

@[simp] theorem State.setInb_motion (i : Inbound) (s : State) : (s.setInb i).motion = s.motion := rfl
@[simp] theorem State.driveStb_motion (level : Bool) (s : State) :
    (s.driveStb level).motion = s.motion := rfl
@[simp] theorem State.answersFirst_motion (n : Nat) (s : State) :
    (s.answersFirst n).motion = s.motion := rfl

@[simp] theorem State.headerStep_motion (h : Header) (s : State) :
    (s.headerStep h).motion = s.motion := by
  unfold State.headerStep
  split <;> simp

@[simp] theorem State.beginPacket_motion (h : Header) (s : State) :
    (s.beginPacket h).motion = s.motion := by
  unfold State.beginPacket
  split <;> simp

@[simp] theorem State.releaseWaiting_motion (s : State) : s.releaseWaiting.motion = s.motion := by
  obtain h | ⟨_, -, -, -, h⟩ := releaseWaiting_cases s <;> rw [h]
  exact State.headerStep_motion _ s

@[simp] theorem State.startOutbound_motion (s : State) : s.startOutbound.motion = s.motion := by
  obtain h | h | ⟨_, _, -, h⟩ := startOutbound_cases s <;> rw [h] <;> rfl

@[simp] theorem State.commit_motion (s : State) : s.commit.motion = s.motion := by
  simp [State.commit]

@[simp] theorem State.refuseRest_motion (t : Byte) (st : Status) (s : State) :
    (s.refuseRest t st).motion = s.motion := by
  simp [State.refuseRest, State.dropFilling]

@[simp] theorem State.cutPacket_motion (cut : HeaderPart) (s : State) :
    (s.cutPacket cut).motion = s.motion := by
  unfold State.cutPacket State.dropFilling
  repeat' split
  all_goals simp

@[simp] theorem State.packetSent_motion (s : State) : s.packetSent.motion = s.motion := by
  unfold State.packetSent
  dsimp only
  repeat' split
  all_goals simp

@[simp] theorem State.dataIndex_motion (t : Byte) (n : Nat) (s : State) :
    (s.dataIndex t n).motion = s.motion := by
  unfold State.dataIndex
  split <;> simp

@[simp] theorem State.payloadParity_motion (s : State) : s.payloadParity.motion = s.motion := by
  unfold State.payloadParity
  split <;> simp

@[simp] theorem State.parityError_motion (p : ParityPlace) (s : State) :
    (s.parityError p).motion = s.motion := by
  unfold State.parityError State.leadParity
  repeat' split
  all_goals simp

@[simp] theorem State.dataEnds_motion (t : Byte) (n i : Nat) (data : List Byte) (s : State) :
    (s.dataEnds t n i data).motion = s.motion := by
  unfold State.dataEnds
  dsimp only
  split <;> simp

/-! ## Events and immediate commands -/

@[simp] theorem State.measureIndex_motion (s : State) : s.measureIndex.motion = s.motion := rfl
@[simp] theorem State.armStopWindow_motion (s : State) : s.armStopWindow.motion = s.motion := rfl
@[simp] theorem State.insertCartridge_motion (protect : Bool) (s : State) :
    (s.insertCartridge protect).motion = s.motion := by
  simp [State.insertCartridge]
@[simp] theorem State.badOperand_motion (t : Byte) (s : State) : (s.badOperand t).motion = s.motion := rfl
@[simp] theorem State.fly_motion (k : FlightKind) (slot : Option Nat) (s : State) :
    (s.fly k slot).motion = s.motion := rfl
@[simp] theorem State.land_motion (s : State) : s.land.motion = s.motion := rfl

@[simp] theorem State.indexResets_motion (s : State) : s.indexResets.motion = s.motion := by
  simp [State.indexResets]

@[simp] theorem State.brakeIndex_motion (measured : Bool) (s : State) :
    (s.brakeIndex measured).motion = s.motion := by
  unfold State.brakeIndex
  split <;> simp

@[simp] theorem State.sensorPresent_motion (protect : Bool) (s : State) :
    (s.sensorPresent protect).motion = s.motion := by
  unfold State.sensorPresent
  dsimp only
  split <;> simp

@[simp] theorem State.pressButton_motion (s : State) : s.pressButton.motion = s.motion := by
  unfold State.pressButton
  repeat' split
  all_goals simp

@[simp] theorem State.abortExecuting_motion (immediate : Bool) (s : State) :
    (s.abortExecuting immediate).motion = s.motion := by
  unfold State.abortExecuting State.abortNow
  dsimp only
  repeat' split
  all_goals simp

@[simp] theorem State.holdEject_motion (t : Byte) (s : State) : (s.holdEject t).motion = s.motion := by
  unfold State.holdEject
  repeat' split
  all_goals simp

@[simp] theorem State.releaseEject_motion (t : Byte) (s : State) :
    (s.releaseEject t).motion = s.motion := by
  unfold State.releaseEject
  repeat' split
  all_goals simp

@[simp] theorem State.loadTable_motion (t selector : Byte) (body : List Byte) (s : State) :
    (s.loadTable t selector body).motion = s.motion := by
  unfold State.loadTable State.stage
  dsimp only
  repeat' split
  all_goals simp

@[simp] theorem State.readTable_motion (t : Byte) (selector : Nat) (staged : Bool) (first : Nat)
    (s : State) : (s.readTable t selector staged first).motion = s.motion := by
  unfold State.readTable
  repeat' split
  all_goals simp

@[simp] theorem State.tableHold_motion (t : Byte) (set : Bool) (s : State) :
    (s.tableHold t set).motion = s.motion := by
  unfold State.tableHold
  dsimp only
  split <;> simp

@[simp] theorem State.latch_motion (t : Byte) (g : Groups) (clear : Bool) (s : State) :
    (s.latch t g clear).motion = s.motion := by
  unfold State.latch
  dsimp only
  split <;> simp

@[simp] theorem State.attentionAck_motion (t : Byte) (s : State) :
    (s.attentionAck t).motion = s.motion := by
  unfold State.attentionAck
  split <;> simp

@[simp] theorem State.endAttention_motion (t : Byte) (x : Option Source) (s : State) :
    (s.endAttention t x).motion = s.motion := by
  unfold State.endAttention
  split <;> simp

/-! ## Resets and sectors -/

@[simp] theorem State.resetBus_motion (s : State) : s.resetBus.motion = s.motion := rfl
@[simp] theorem State.resetHolds_motion (s : State) : s.resetHolds.motion = s.motion := rfl
@[simp] theorem State.resetAttention_motion (s : State) : s.resetAttention.motion = s.motion := rfl

@[simp] theorem State.dropQueue_motion (s : State) : s.dropQueue.motion = s.motion := by
  simp [State.dropQueue, State.resetSlots]

@[simp] theorem State.supplyRecord_motion (s : State) : s.supplyRecord.motion = s.motion := by
  simp [State.supplyRecord]

@[simp] theorem State.orphanWorks_motion (s : State) : s.orphanWorks.motion = s.motion := by
  unfold State.orphanWorks
  split <;> simp

@[simp] theorem State.resetTables_motion (s : State) : s.resetTables.motion = s.motion := by
  unfold State.resetTables
  dsimp only
  split <;> simp

@[simp] theorem State.recordReadArrives_motion (r : RecordRead) (n : Nat) (s : State) :
    (s.recordReadArrives r n).motion = s.motion := by
  unfold State.recordReadArrives
  repeat' split
  all_goals simp

@[simp] theorem State.recordWriteArrives_motion (w : WriteBack) (n : Nat) (s : State) :
    (s.recordWriteArrives w n).motion = s.motion := by
  unfold State.recordWriteArrives
  repeat' split
  all_goals simp

@[simp] theorem State.readArrives_motion (t : Byte) (s : State) : (s.readArrives t).motion = s.motion := by
  unfold State.readArrives
  dsimp only
  split <;> simp

end Sys2Proof.Machine
end

section
/-! PROOFS. The law of R36: STARTING, ACCELERATING and an applied brake find the positioner UNLOADED. The
Positioner leaves UNLOADED for a load alone, which finds the disk AT_SPEED, and the spindle enters the three
states where it finds the heads on the ramp; every other operation follows from the heads' being away
already, which leaves the spindle outside the three. -/

namespace Sys2Proof.Machine

/-! ## The law, read off the motion -/

/-- The spindle states that find the heads on the ramp (R36). -/
def SpindleState.needsRamp : SpindleState → Bool
  | .starting | .accelerating | .braking => true
  | _ => false

/-- The spindle is in a state that lets the heads be anywhere. -/
def State.mayFly (s : State) : Prop := s.motion.1.needsRamp = false

theorem brakeSafe_iff {s : State} :
    s.brakeSafe ↔ (s.motion.1.needsRamp = true → s.motion.2 = .unloaded) := by
  unfold State.brakeSafe State.motion
  cases s.spc.state <;> simp [SpindleState.needsRamp]

theorem brakeSafe_of_unloaded {s : State} (h : s.motion.2 = .unloaded) : s.brakeSafe :=
  brakeSafe_iff.mpr fun _ => h

theorem State.mayFly.brakeSafe {s : State} (h : s.mayFly) : s.brakeSafe :=
  brakeSafe_iff.mpr fun hn => absurd (h.symm.trans hn) Bool.false_ne_true

/-- Heads off the ramp leave the spindle outside the three states. -/
theorem State.brakeSafe.mayFly {s : State} (h : s.brakeSafe) (hp : s.pos.state ≠ .unloaded) :
    s.mayFly :=
  Bool.eq_false_iff.mpr fun hn => hp (brakeSafe_iff.mp h hn)

theorem State.brakeSafe.of_motion {s t : State} (h : s.brakeSafe) (e : t.motion = s.motion) :
    t.brakeSafe := by
  rw [brakeSafe_iff] at h ⊢
  rwa [e]

theorem State.mayFly.of_spindle {s t : State} (h : s.mayFly) (e : t.motion.1 = s.motion.1) :
    t.mayFly := by
  unfold State.mayFly at h ⊢
  rwa [e]

theorem ite_brakeSafe {c : Prop} [Decidable c] {t u : State} (ht : t.brakeSafe) (hu : u.brakeSafe) :
    (if c then t else u).brakeSafe := by
  split
  · exact ht
  · exact hu

@[simp] theorem State.onPos_spindle (f : Positioner → Positioner) (s : State) :
    (s.onPos f).motion.1 = s.motion.1 := rfl

/-- The law holds of every state that an answer brings. -/
def BrakeSafeAnswer (o : Option State) : Prop := ∀ t, o = some t → t.brakeSafe

theorem brakeSafeAnswer_none : BrakeSafeAnswer none := fun _ h => absurd h.symm (Option.some_ne_none _)

theorem brakeSafeAnswer_some {t : State} (h : t.brakeSafe) : BrakeSafeAnswer (some t) :=
  fun _ hu => Option.some.inj hu ▸ h

theorem brakeSafeAnswer_guarded {g : Bool} {t : State} (h : g = true → t.brakeSafe) :
    BrakeSafeAnswer (guarded g t) := fun u hu => by
  obtain ⟨hg, rfl⟩ := guarded_eq_some hu
  exact h hg

/-! ## The spindle -/

@[simp] theorem State.leavePowered_motion (st : SpindleState) (brake : Bool) (d : StopDemand)
    (s : State) : (s.leavePowered st brake d).motion = (st, s.motion.2) := by
  unfold State.leavePowered
  rw [State.absents_motion]
  rfl

/-- A stop request applies a brake at once only where the heads are on the ramp (R45). -/
theorem State.brakeSafe.stopRequest {s : State} (h : s.brakeSafe) (d : StopDemand) :
    (s.stopRequest d).brakeSafe := by
  unfold State.stopRequest
  dsimp only
  split
  case h_1 => exact h.of_motion (by simp)
  case h_2 => exact h.of_motion (by simp)
  case h_3 =>
    split
    · exact State.mayFly.brakeSafe rfl
    · exact h.of_motion (by simp)
  case h_4 =>
    have coasts (brake : Bool) (d' : StopDemand) : (s.leavePowered .coasting brake d').mayFly := by
      simp [State.mayFly, SpindleState.needsRamp]
    split
    · exact (coasts _ _).brakeSafe
    · split
      next hp => exact brakeSafe_of_unloaded (by rw [State.leavePowered_motion]; exact eq_of_beq hp)
      next => exact (coasts _ _).brakeSafe

theorem applyBrake_brakeSafe {s : State} (h : s.pos.state = .unloaded) : s.applyBrake.brakeSafe :=
  brakeSafe_of_unloaded h

theorem enterStarting_brakeSafe {s : State} (h : s.pos.state = .unloaded) :
    s.enterStarting.brakeSafe := brakeSafe_of_unloaded h

theorem enterStopped_mayFly (s : State) : s.enterStopped.mayFly := by
  simp only [State.mayFly, State.enterStopped, State.takeTables_motion]
  rfl

theorem enterAtSpeed_mayFly (s : State) : s.enterAtSpeed.mayFly := by
  simp only [State.mayFly, State.enterAtSpeed, State.successPoint_motion]
  rfl

theorem enterPurging_mayFly (s : State) : s.enterPurging.mayFly := by
  unfold State.enterPurging
  dsimp only
  split
  · exact enterAtSpeed_mayFly _
  · rfl

theorem coastDown_mayFly (s : State) : s.coastDown.mayFly := by
  have h : s.coastDown.motion = (s.leavePowered .coasting false .coast).motion := by
    simp [State.coastDown]
  simp [State.mayFly, h, SpindleState.needsRamp]

/-! ## The Positioner's states

Each entry leaves the spindle as it is. -/

@[simp] theorem State.enterUnloaded_motion (s : State) :
    s.enterUnloaded.motion = (s.motion.1, .unloaded) := by
  unfold State.enterUnloaded
  rw [State.onRec_motion, State.absents_motion]
  rfl

@[simp] theorem State.beginToRamp_spindle (s : State) : s.beginToRamp.motion.1 = s.motion.1 := rfl

theorem State.brakeSafe.rampReached {s : State} (h : s.brakeSafe) : s.rampReached.brakeSafe := by
  unfold State.rampReached
  split
  · exact brakeSafe_of_unloaded (by simp)
  · exact h

@[simp] theorem State.rampReached_spindle (s : State) : s.rampReached.motion.1 = s.motion.1 := by
  unfold State.rampReached
  split <;> simp

@[simp] theorem State.enterToRamp_spindle (s : State) : s.enterToRamp.motion.1 = s.motion.1 := by
  simp [State.enterToRamp]

@[simp] theorem State.enterToCylinder0_spindle (s : State) :
    s.enterToCylinder0.motion.1 = s.motion.1 := by
  unfold State.enterToCylinder0
  dsimp only
  split <;> simp

@[simp] theorem State.enterRetracting_spindle (cause : Option FaultKind) (s : State) :
    (s.enterRetracting cause).motion.1 = s.motion.1 := by
  unfold State.enterRetracting
  dsimp only
  split <;> simp

/-! ## Unload, retract and hold requests -/

theorem State.brakeSafe.beginUnload {s : State} (h : s.brakeSafe) : s.beginUnload.brakeSafe := by
  unfold State.beginUnload
  split
  case h_5 => exact h
  all_goals next hp => exact ((h.mayFly (by simp [hp])).of_spindle (by simp)).brakeSafe

theorem State.brakeSafe.unloadRequest {s : State} (h : s.brakeSafe) : s.unloadRequest.brakeSafe :=
  (h.of_motion s.withdrawLoads_motion).beginUnload

theorem State.brakeSafe.retractRequest {s : State} (h : s.brakeSafe) (cause : FaultKind) :
    (s.retractRequest cause).brakeSafe := by
  have hw : s.withdrawLoads.brakeSafe := h.of_motion (by simp)
  unfold State.retractRequest
  dsimp only
  split
  case h_1 => exact hw
  case h_2 => exact hw
  case h_3 hp _ => exact ((hw.mayFly hp).of_spindle (by simp)).brakeSafe

/-- The heads of a seek in flight are off the ramp. -/
theorem seekInFlight_off_ramp {s : State} (h : s.seekInFlight = true) : s.pos.state ≠ .unloaded := by
  intro hp
  simp [State.seekInFlight, hp] at h

theorem State.brakeSafe.holdRequest {s : State} (h : s.brakeSafe) : s.holdRequest.brakeSafe := by
  unfold State.holdRequest
  dsimp only
  split
  · exact h
  · split
    next hf => exact ((h.mayFly (seekInFlight_off_ramp hf)).of_spindle (by simp)).brakeSafe
    next => exact h.of_motion (by simp)

/-! ## Recognition of a fault -/

theorem State.brakeSafe.spindleAction {s : State} (h : s.brakeSafe) (r : FaultRow) :
    (s.spindleAction r).brakeSafe := by
  unfold State.spindleAction
  split
  · exact h
  · exact h.stopRequest _

theorem State.brakeSafe.positionerAction {s : State} (h : s.brakeSafe) (k : FaultKind) (r : FaultRow) :
    (s.positionerAction k r).brakeSafe := by
  unfold State.positionerAction
  dsimp only
  split
  case h_1 => exact ite_brakeSafe h.unloadRequest h
  case h_2 => exact ite_brakeSafe h.holdRequest.unloadRequest h.holdRequest
  case h_3 => exact h.unloadRequest
  case h_4 => exact h.retractRequest k

theorem State.brakeSafe.ejectRetracts {s : State} (h : s.brakeSafe) (k : FaultKind) :
    (s.ejectRetracts k).brakeSafe := by
  unfold State.ejectRetracts
  split
  · exact h.retractRequest _
  · exact h

/-- The action of a row makes its spindle request before the heads move, and no request of the Positioner
takes the heads off the ramp. -/
theorem State.brakeSafe.act {s : State} (h : s.brakeSafe) (k : FaultKind) (r : FaultRow)
    (latched : Bool) : (s.act k r latched).brakeSafe := by
  have hc : (if r.reaches then s.cancelRestarts else s).brakeSafe :=
    h.of_motion (by split <;> simp)
  have ha := ((hc.spindleAction r).positionerAction k r).ejectRetracts k
  unfold State.act
  dsimp only
  split
  · exact ha.of_motion (by simp)
  · exact ha

theorem State.brakeSafe.latchFault {s : State} (h : s.brakeSafe) (k : FaultKind)
    (sub : Option SubCause) (retries : Nat) (r : FaultRow) :
    (s.latchFault k sub retries r).brakeSafe :=
  State.brakeSafe.act (h.of_motion (by simp)) k r true

theorem State.brakeSafe.retryFault {s : State} (h : s.brakeSafe) (k : FaultKind)
    (sub : Option SubCause) (retries : Nat) (r : FaultRow) :
    (s.retryFault k sub retries r).brakeSafe :=
  State.brakeSafe.act (h.of_motion (by simp)) k r false

/-- A recognition meets the law by the action that it takes. -/
theorem State.brakeSafe.recognise {s : State} (h : s.brakeSafe) (k : FaultKind)
    (sub : Option SubCause) : (s.recognise k sub).brakeSafe := by
  unfold State.recognise
  extract_lets row t fresh
  have ht : t.brakeSafe := h.of_motion (by simp [t])
  have hfresh : fresh.brakeSafe := by
    unfold fresh
    split
    · exact ht
    · exact ht.of_motion (by simp)
    · exact ht.retryFault _ _ _ _
    · exact ht.latchFault _ _ _ _
  split
  · exact hfresh
  · split
    · exact hfresh
    · exact hfresh
    · exact State.brakeSafe.act (ht.of_motion (by simp)) _ _ _
    · exact ite_brakeSafe (ht.retryFault _ _ _ _) (ht.latchFault _ _ _ _)

theorem State.brakeSafe.sampleWarning {s : State} (h : s.brakeSafe) (warning : Bool) :
    (s.sampleWarning warning).brakeSafe := by
  unfold State.sampleWarning
  dsimp only
  split
  · split
    · exact State.brakeSafe.recognise (h.of_motion (by simp)) _ _
    · exact h.of_motion (by simp)
  · exact h.of_motion (by simp)

theorem State.brakeSafe.observe {s : State} (h : s.brakeSafe) (k : FaultKind) (n : Nat)
    {put : Nat → Spindle → Spindle} (hput : ∀ m p, (put m p).state = p.state) :
    (s.observe k n put).brakeSafe := by
  unfold State.observe
  split
  · exact State.brakeSafe.recognise (h.of_motion (State.onSpc_motion (hput _))) _ _
  · exact h.of_motion (State.onSpc_motion (hput _))

/-- A seek timer's expiry drives the heads on to the ramp only where they are still unloading. -/
theorem State.brakeSafe.seekTimerExpires {s : State} (h : s.brakeSafe) :
    s.seekTimerExpires.brakeSafe := by
  have toRamp {t : State} (ht : t.brakeSafe) (unloading : Bool) :
      (if unloading && t.pos.state == .unloading && t.pos.phase == .toCylinder0 then t.enterToRamp
        else t).brakeSafe := by
    split
    next hg =>
      simp only [Bool.and_eq_true, beq_iff_eq] at hg
      exact ((ht.mayFly (by simp [hg])).of_spindle (by simp)).brakeSafe
    next => exact ht
  refine toRamp ?_ _
  split
  · exact State.brakeSafe.recognise (h.of_motion (by simp)) _ _
  · exact h.of_motion (by simp)

theorem State.brakeSafe.countSeekTimer {s : State} (h : s.brakeSafe) : s.countSeekTimer.brakeSafe := by
  unfold State.countSeekTimer
  split
  · split
    · exact h.seekTimerExpires
    · exact h.of_motion (by simp)
  · exact h

/-! ## Servo samples and seeks -/

theorem State.brakeSafe.seekCompute {s : State} (h : s.brakeSafe) : s.seekCompute.brakeSafe := by
  unfold State.seekCompute
  dsimp only
  repeat' split
  · exact State.brakeSafe.recognise (h.of_motion (by simp)) _ _
  · exact h.of_motion (by simp)
  · exact h.of_motion (by simp)
  · exact h

@[simp] theorem State.enterSettling_spindle (s : State) : s.enterSettling.motion.1 = s.motion.1 := by
  simp [State.enterSettling]

@[simp] theorem State.enterTracking_spindle (s : State) : s.enterTracking.motion.1 = s.motion.1 := by
  unfold State.enterTracking
  dsimp only
  repeat' split
  all_goals simp

theorem State.mayFly.startSeek {s : State} (h : s.mayFly) (req : Requester) (cylinder head : Nat) :
    (s.startSeek req cylinder head).brakeSafe := by
  unfold State.startSeek
  dsimp only
  split
  · exact (h.of_spindle (by simp)).brakeSafe
  · exact (h.of_spindle (by simp)).brakeSafe.seekCompute

theorem State.mayFly.settleSample {s : State} (h : s.mayFly) (f : Fix) :
    (s.settleSample f).brakeSafe := by
  unfold State.settleSample
  dsimp only
  split
  · exact h.brakeSafe
  · split
    · exact ite_brakeSafe (h.of_spindle (by simp)).brakeSafe (h.of_spindle (by simp)).brakeSafe
    · split
      · split <;> exact (h.of_spindle (by simp)).brakeSafe
      · refine State.brakeSafe.seekCompute (h.of_spindle ?_).brakeSafe
        split <;> simp

theorem State.mayFly.trackSample {s : State} (h : s.mayFly) (f : Fix) :
    (s.trackSample f).brakeSafe := by
  unfold State.trackSample State.trackSlip
  dsimp only
  repeat' split
  · exact (h.of_spindle (by simp)).brakeSafe
  · exact (h.of_spindle (by simp)).brakeSafe
  · exact State.mayFly.settleSample (h.of_spindle (by simp)) f
  · exact (h.of_spindle (by simp)).brakeSafe.seekCompute

theorem State.mayFly.seekSample {s : State} (h : s.mayFly) (f : Fix) : (s.seekSample f).brakeSafe := by
  unfold State.seekSample
  split
  · exact State.mayFly.settleSample (h.of_spindle (by simp)) f
  · exact h.brakeSafe.seekCompute

theorem State.brakeSafe.validSample {s : State} (h : s.brakeSafe) (cylinder : Nat) (pes : Int) :
    (s.validSample cylinder pes).brakeSafe := by
  unfold State.validSample
  extract_lets f t
  have ht : t.brakeSafe := h.of_motion (by simp [t])
  split
  case h_1 hp =>
    exact State.mayFly.settleSample ((ht.mayFly (by simp [hp])).of_spindle (by simp)) f
  case h_2 hp => exact (ht.mayFly (by simp [hp])).settleSample f
  case h_3 hp => exact (ht.mayFly (by simp [hp])).trackSample f
  case h_4 hp => exact (ht.mayFly (by simp [hp])).seekSample f
  case h_5 hp =>
    have hf := ht.mayFly (by simp [hp])
    exact ite_brakeSafe (hf.of_spindle (by simp)).brakeSafe hf.brakeSafe.seekCompute
  case h_6 => exact ht

/-- A dropped sample in LOADING raises nothing (R60). -/
theorem dropSample_motion_of_loading {s : State} (h : s.pos.state = .loading) :
    s.dropSample.motion = s.motion := by
  simp [State.dropSample, h]

theorem State.brakeSafe.dropSample {s : State} (h : s.brakeSafe) : s.dropSample.brakeSafe := by
  unfold State.dropSample
  extract_lets n loading raise t
  have ht : t.brakeSafe := h.of_motion (by simp [t])
  exact ite_brakeSafe (ht.recognise _ _) ht

theorem State.mayFly.loadTimesOut {s : State} (h : s.mayFly) : s.loadTimesOut.brakeSafe :=
  ((h.of_spindle s.beginToRamp_spindle).brakeSafe.recognise _ _).rampReached

theorem State.brakeSafe.takeSample {s : State} (h : s.brakeSafe) (valid : Bool) (cylinder head : Nat)
    (pes : Int) : (s.takeSample valid cylinder head pes).brakeSafe := by
  unfold State.takeSample
  extract_lets t
  have ht : t.brakeSafe := h.of_motion (by simp [t])
  exact ite_brakeSafe (ite_brakeSafe (ht.validSample _ _) ht.dropSample) h

/-- The load timeout of a closing window finds the heads LOADING, which a drop in that window leaves. -/
theorem State.brakeSafe.nextWindow {s : State} (h : s.brakeSafe) : s.nextWindow.brakeSafe := by
  unfold State.nextWindow
  extract_lets t n u
  have ht : t.brakeSafe := ite_brakeSafe h.dropSample h
  have hu : u.brakeSafe := by
    unfold u
    split
    next hl =>
      have hl : s.pos.state = .loading := eq_of_beq hl
      have hm : t.motion = s.motion := by
        unfold t
        split
        · exact dropSample_motion_of_loading hl
        · rfl
      have hf : t.mayFly := (h.mayFly (by simp [hl])).of_spindle (by rw [hm])
      exact ite_brakeSafe hf.loadTimesOut (hf.of_spindle (by simp)).brakeSafe
    next => exact ht
  exact ite_brakeSafe (ite_brakeSafe (hu.of_motion (by simp)) hu) h

theorem State.brakeSafe.headSwitch {s : State} (h : s.brakeSafe) (head : Nat) :
    (s.headSwitch head).brakeSafe := by
  unfold State.headSwitch
  split
  · exact h
  · split
    case h_3 => exact h.of_motion (by simp)
    case h_4 => exact h
    all_goals next hp => exact ((h.mayFly (by simp [hp])).of_spindle (by simp)).brakeSafe

theorem State.brakeSafe.joinSeek {s : State} (h : s.brakeSafe) (req : Requester) (head : Nat) :
    (s.joinSeek req head).brakeSafe := (h.headSwitch head).of_motion (State.onPos_motion fun _ => rfl)

/-- A seek request is taken where the heads fly. -/
theorem State.brakeSafe.seekRequest {s : State} (h : s.brakeSafe) (req : Requester)
    (cylinder head : Nat) : BrakeSafeAnswer (s.seekRequest req cylinder head) := by
  have replaced (hp : s.pos.state ≠ .unloaded) : (s.replaceSeek req).mayFly :=
    (h.mayFly hp).of_spindle (by simp)
  unfold State.seekRequest
  extract_lets same
  split
  · exact brakeSafeAnswer_none
  · split
    case h_1 hp =>
      exact brakeSafeAnswer_some
        (ite_brakeSafe (h.headSwitch head) ((h.mayFly (by simp [hp])).startSeek _ _ _))
    case h_2 hp =>
      exact brakeSafeAnswer_some
        (ite_brakeSafe (h.joinSeek req head) ((replaced (by simp [hp])).startSeek _ _ _))
    case h_3 hp =>
      exact brakeSafeAnswer_some
        (ite_brakeSafe (h.joinSeek req head) ((replaced (by simp [hp])).of_spindle (by simp)).brakeSafe)
    case h_4 => exact brakeSafeAnswer_none

/-! ## The Transfer Engine and the record operations -/

theorem State.brakeSafe.approach {s : State} (h : s.brakeSafe) (cylinder head : Nat) :
    BrakeSafeAnswer (s.approach cylinder head) := by
  unfold State.approach
  repeat' split
  · exact brakeSafeAnswer_some h
  · exact brakeSafeAnswer_some (h.joinSeek _ _)
  · exact h.seekRequest _ _ _

theorem State.brakeSafe.engineSeek {s : State} (h : s.brakeSafe) : s.engineSeek.brakeSafe := by
  unfold State.engineSeek
  split
  · exact h
  · extract_lets t
    have ht : t.brakeSafe := h.of_motion (by simp [t])
    split
    next u hu => exact ht.approach _ _ u hu
    next => exact ht.of_motion (by simp)

theorem State.brakeSafe.takeBlock {s : State} (h : s.brakeSafe) : s.takeBlock.brakeSafe := by
  unfold State.takeBlock
  split
  · exact State.brakeSafe.engineSeek (h.of_motion (by simp))
  · exact h.of_motion (by simp)

theorem State.brakeSafe.finishBlock {s : State} (h : s.brakeSafe) : s.finishBlock.brakeSafe := by
  unfold State.finishBlock
  split
  · exact h.of_motion (by simp)
  · exact ite_brakeSafe (State.brakeSafe.takeBlock (h.of_motion (by simp))) (h.of_motion (by simp))

theorem State.brakeSafe.unrecoverable {s : State} (h : s.brakeSafe) (slot : Option Nat) :
    (s.unrecoverable slot).brakeSafe := by
  unfold State.unrecoverable
  extract_lets l t
  have ht : t.brakeSafe := h.of_motion (by simp [t])
  split
  · exact ht.of_motion (by simp)
  · exact State.brakeSafe.finishBlock (ht.of_motion (by simp))
  · exact ht.of_motion (by simp)

theorem State.brakeSafe.readFails {s : State} (h : s.brakeSafe) : s.readFails.brakeSafe := by
  unfold State.readFails
  split
  · extract_lets t
    have ht : t.brakeSafe := h.of_motion (by simp [t])
    split
    · exact ht.of_motion (by simp)
    · exact ht
  · exact h.unrecoverable none

theorem State.brakeSafe.recordSeek {s : State} (h : s.brakeSafe) : s.recordSeek.brakeSafe := by
  unfold State.recordSeek
  split
  next t ht => exact h.seekRequest _ _ _ t ht
  next => exact h.of_motion (by simp)

theorem State.brakeSafe.startRecordRead {s : State} (h : s.brakeSafe) : s.startRecordRead.brakeSafe :=
  State.brakeSafe.recordSeek (h.of_motion (by simp))

theorem State.brakeSafe.startWriteBack {s : State} (h : s.brakeSafe) (who : Who) :
    (s.startWriteBack who).brakeSafe := by
  unfold State.startWriteBack
  split
  · exact h
  · exact State.brakeSafe.recordSeek (h.of_motion (by simp))

/-! ## The reactions -/

/-- A rule whose every answer keeps the law. -/
def KeepsBrakeSafe (r : State → Option State) : Prop := ∀ s : State, s.brakeSafe → BrakeSafeAnswer (r s)

theorem brakeSafeAnswer_guarded_of_motion {s t : State} (h : s.brakeSafe) (e : t.motion = s.motion)
    {g : Bool} : BrakeSafeAnswer (guarded g t) := brakeSafeAnswer_guarded fun _ => h.of_motion e

theorem brakeSafeAnswer_some_of_motion {s t : State} (h : s.brakeSafe) (e : t.motion = s.motion) :
    BrakeSafeAnswer (some t) := brakeSafeAnswer_some (h.of_motion e)

theorem atRest_iff {s : State} :
    s.atRest = true ↔ s.spc.state = .stopped ∧ s.pos.state = .unloaded := by
  simp [State.atRest]

theorem reactOwnUnload_brakeSafe : KeepsBrakeSafe reactOwnUnload := fun _ h =>
  brakeSafeAnswer_guarded fun _ => h.beginUnload

theorem reactFlight_brakeSafe : KeepsBrakeSafe reactFlight := fun s h => by
  unfold reactFlight
  repeat' split
  · exact brakeSafeAnswer_none
  · exact brakeSafeAnswer_guarded_of_motion h (by simp)
  · exact brakeSafeAnswer_guarded_of_motion h (by simp)

theorem reactRecordLost_brakeSafe : KeepsBrakeSafe reactRecordLost := fun _ h =>
  brakeSafeAnswer_guarded_of_motion h (by simp)

theorem reactStopCheck_brakeSafe : KeepsBrakeSafe reactStopCheck := fun _ h =>
  brakeSafeAnswer_guarded_of_motion h (by simp)

theorem reactRelease_brakeSafe : KeepsBrakeSafe reactRelease := fun _ h =>
  brakeSafeAnswer_guarded_of_motion h (by simp)

theorem reactEjecting_brakeSafe : KeepsBrakeSafe reactEjecting := fun _ h =>
  brakeSafeAnswer_guarded_of_motion h (by simp)

theorem reactStopped_brakeSafe : KeepsBrakeSafe reactStopped := fun s h => by
  unfold reactStopped
  repeat' split
  · exact brakeSafeAnswer_some_of_motion h (by simp)
  · exact brakeSafeAnswer_some_of_motion h (by simp)
  · exact brakeSafeAnswer_some_of_motion h (by simp)
  · exact brakeSafeAnswer_none
  · exact brakeSafeAnswer_none

theorem reactParked_brakeSafe : KeepsBrakeSafe reactParked := fun s h => by
  have stop (who : Who) :
      ((s.onDowns fun d => d.at (some .stop) who).stopRequest s.brakeDemand).brakeSafe :=
    State.brakeSafe.stopRequest (h.of_motion (by simp)) _
  unfold reactParked
  repeat' split
  · exact brakeSafeAnswer_some (stop .cmd)
  · exact brakeSafeAnswer_some (stop .standby)
  · exact brakeSafeAnswer_some (stop .orphan)
  · exact brakeSafeAnswer_none
  · exact brakeSafeAnswer_none

theorem reactEjectParked_brakeSafe : KeepsBrakeSafe reactEjectParked := fun _ h =>
  brakeSafeAnswer_guarded fun _ => ite_brakeSafe (h.of_motion (by simp))
    (State.brakeSafe.stopRequest (h.of_motion (by simp)) _)

/-- A pending brake waits for the heads (R46). -/
theorem reactBrake_brakeSafe : KeepsBrakeSafe reactBrake := fun _ _ =>
  brakeSafeAnswer_guarded fun hg => by
    simp only [Bool.and_eq_true, beq_iff_eq] at hg
    exact applyBrake_brakeSafe hg.2

/-- A pending start waits for the heads (R35). -/
theorem reactStart_brakeSafe : KeepsBrakeSafe reactStart := fun _ _ =>
  brakeSafeAnswer_guarded fun hg =>
    enterStarting_brakeSafe (atRest_iff.mp (Bool.and_eq_true_iff.mp hg).1).2

/-- A pending load waits for AT_SPEED (R62). -/
theorem reactLoad_brakeSafe : KeepsBrakeSafe reactLoad := fun s _ =>
  brakeSafeAnswer_guarded fun hg => by
    simp only [State.loadAllowed, Bool.and_eq_true, beq_iff_eq] at hg
    obtain ⟨⟨⟨-, hspeed⟩, -⟩, -⟩ := hg
    have hf : s.mayFly := congrArg SpindleState.needsRamp hspeed
    exact (hf.of_spindle (by simp [State.enterLoading])).brakeSafe

theorem reactWorkCut_brakeSafe : KeepsBrakeSafe reactWorkCut := fun s h => by
  unfold reactWorkCut
  split
  · exact brakeSafeAnswer_guarded_of_motion h (by simp)
  · exact brakeSafeAnswer_none

theorem reactEnd_brakeSafe : KeepsBrakeSafe reactEnd := fun s h => by
  unfold reactEnd
  split
  · exact brakeSafeAnswer_guarded fun _ =>
      ite_brakeSafe (h.of_motion (by simp)) (h.of_motion (by simp))
  · exact brakeSafeAnswer_none

theorem workCartridge_brakeSafe (w : SpinUpWork) : KeepsBrakeSafe (workCartridge w) := fun s h => by
  unfold workCartridge
  split
  · exact brakeSafeAnswer_some_of_motion h (by simp)
  · exact brakeSafeAnswer_some_of_motion h (by simp)
  · exact brakeSafeAnswer_some_of_motion h (by simp)
  · exact brakeSafeAnswer_none

theorem workSpindle_brakeSafe (w : SpinUpWork) : KeepsBrakeSafe (workSpindle w) := fun s h => by
  unfold workSpindle
  split
  · exact brakeSafeAnswer_some_of_motion h (by simp)
  · exact brakeSafeAnswer_guarded_of_motion h (by simp)

theorem workHeads_brakeSafe (w : SpinUpWork) : KeepsBrakeSafe (workHeads w) := fun s h => by
  unfold workHeads
  repeat' split
  · exact brakeSafeAnswer_some_of_motion h (by simp)
  · exact brakeSafeAnswer_some_of_motion h (by simp)
  · exact brakeSafeAnswer_guarded_of_motion h (by simp)

theorem workRecord_brakeSafe (w : SpinUpWork) : KeepsBrakeSafe (workRecord w) := fun s h => by
  unfold workRecord
  repeat' split
  · exact brakeSafeAnswer_none
  · exact brakeSafeAnswer_some_of_motion h (by simp)
  · exact brakeSafeAnswer_guarded fun _ => h.startRecordRead
  · exact brakeSafeAnswer_some_of_motion h (by simp)
  · exact brakeSafeAnswer_some_of_motion h (by simp)

theorem reactWork_brakeSafe : KeepsBrakeSafe reactWork := fun s h => by
  unfold reactWork
  repeat' split
  · exact brakeSafeAnswer_none
  · exact brakeSafeAnswer_some_of_motion h (by simp)
  · exact workCartridge_brakeSafe _ s h
  · exact workSpindle_brakeSafe _ s h
  · exact workHeads_brakeSafe _ s h
  · exact workRecord_brakeSafe _ s h

theorem reactReadDue_brakeSafe : KeepsBrakeSafe reactReadDue := fun _ h =>
  brakeSafeAnswer_guarded fun _ => ite_brakeSafe h.startRecordRead (h.of_motion (by simp))

theorem reactReached_brakeSafe : KeepsBrakeSafe reactReached := fun s h => by
  unfold reactReached
  split
  · exact brakeSafeAnswer_guarded_of_motion h (by simp)
  · exact brakeSafeAnswer_none

theorem reactRecordSeek_brakeSafe : KeepsBrakeSafe reactRecordSeek := fun _ h =>
  brakeSafeAnswer_guarded fun _ => h.recordSeek

theorem reactRecordSlot_brakeSafe : KeepsBrakeSafe reactRecordSlot := fun s h => by
  unfold reactRecordSlot
  split
  · exact brakeSafeAnswer_guarded_of_motion h (by simp)
  · exact brakeSafeAnswer_none

theorem reactEngine_brakeSafe : KeepsBrakeSafe reactEngine := fun s h => by
  unfold reactEngine
  repeat' split
  · exact brakeSafeAnswer_none
  · exact brakeSafeAnswer_none
  · exact brakeSafeAnswer_some_of_motion h (by simp)
  · exact brakeSafeAnswer_guarded fun _ => h.engineSeek
  · exact brakeSafeAnswer_guarded_of_motion h (by simp)

theorem reactDrain_brakeSafe : KeepsBrakeSafe reactDrain := fun s h => by
  unfold reactDrain
  split
  · exact brakeSafeAnswer_guarded_of_motion h (by simp)
  · exact brakeSafeAnswer_none

theorem reactDown_brakeSafe (who : Who) : KeepsBrakeSafe (reactDown who) := fun s h => by
  have go (x : DownStep) : (s.onDowns fun d => d.at (some x) who).brakeSafe := h.of_motion (by simp)
  unfold reactDown
  dsimp only
  repeat' split
  · exact brakeSafeAnswer_some (go .ask)
  · exact brakeSafeAnswer_guarded fun _ => (go .writeBack).startWriteBack who
  · exact brakeSafeAnswer_some_of_motion h (by simp)
  · exact brakeSafeAnswer_some (go .unload)
  · exact brakeSafeAnswer_some (go .unload).unloadRequest
  · exact brakeSafeAnswer_none

theorem ejectFlush_brakeSafe (e : EjectRecord) : KeepsBrakeSafe (ejectFlush e) := fun s h => by
  unfold ejectFlush
  dsimp only
  repeat' split
  · exact brakeSafeAnswer_some_of_motion h (by simp)
  · exact brakeSafeAnswer_some_of_motion h (by simp)
  · exact brakeSafeAnswer_guarded fun _ => State.brakeSafe.startWriteBack (h.of_motion (by simp)) _
  · exact brakeSafeAnswer_some_of_motion h (by simp)
  · exact brakeSafeAnswer_none

theorem reactEject_brakeSafe : KeepsBrakeSafe reactEject := fun s h => by
  unfold reactEject
  repeat' split
  · exact brakeSafeAnswer_none
  · exact brakeSafeAnswer_guarded_of_motion h (by simp)
  · exact ejectFlush_brakeSafe _ s h
  · exact brakeSafeAnswer_guarded fun _ => h.unloadRequest
  · exact brakeSafeAnswer_none

theorem reactBegin_brakeSafe : KeepsBrakeSafe reactBegin := fun s h => by
  unfold reactBegin
  split
  · exact brakeSafeAnswer_none
  · exact brakeSafeAnswer_guarded fun _ =>
      ite_brakeSafe (h.of_motion (by simp)) (h.of_motion (by simp))

theorem reactStranded_brakeSafe : KeepsBrakeSafe reactStranded := fun s h => by
  unfold reactStranded
  split
  · exact brakeSafeAnswer_none
  · exact brakeSafeAnswer_guarded_of_motion h (by simp)

theorem State.brakeSafe.runSeek {s : State} (h : s.brakeSafe) (c : Nat) : (s.runSeek c).brakeSafe := by
  unfold State.runSeek
  extract_lets here t
  have ht : t.brakeSafe := h.of_motion (by simp [t])
  repeat' split
  · exact ht.of_motion (by simp)
  next u hu => exact ht.seekRequest _ _ _ u hu
  · exact ht.of_motion (by simp)

theorem State.brakeSafe.runFlush {s : State} (h : s.brakeSafe) : s.runFlush.brakeSafe :=
  ite_brakeSafe (State.brakeSafe.startWriteBack (h.of_motion (by simp)) _) (h.of_motion (by simp))

theorem reactReady_brakeSafe : KeepsBrakeSafe reactReady := fun s h => by
  unfold reactReady
  split
  · exact brakeSafeAnswer_none
  · refine brakeSafeAnswer_guarded fun _ => ?_
    repeat' split
    · exact h.of_motion (by simp)
    · exact h.of_motion (by simp)
    · exact h.runSeek _
    · exact h.of_motion (by simp)
    · exact h.runFlush
    · exact h.of_motion (by simp)

theorem reactTransfer_brakeSafe : KeepsBrakeSafe reactTransfer := fun _ h =>
  brakeSafeAnswer_guarded fun _ => State.brakeSafe.takeBlock (h.of_motion (by simp))

/-- Every reaction keeps the law. -/
theorem rules_brakeSafe : ∀ r ∈ rules, KeepsBrakeSafe r := by
  simp only [rules, List.forall_mem_cons]
  exact ⟨reactOwnUnload_brakeSafe, reactFlight_brakeSafe, reactRecordLost_brakeSafe,
    reactStopCheck_brakeSafe, reactRelease_brakeSafe, reactEjecting_brakeSafe, reactStopped_brakeSafe,
    reactParked_brakeSafe, reactEjectParked_brakeSafe, reactBrake_brakeSafe, reactStart_brakeSafe,
    reactLoad_brakeSafe, reactWorkCut_brakeSafe, reactEnd_brakeSafe, reactWork_brakeSafe,
    reactReadDue_brakeSafe, reactReached_brakeSafe, reactRecordSeek_brakeSafe,
    reactRecordSlot_brakeSafe, reactEngine_brakeSafe, reactDrain_brakeSafe, reactDown_brakeSafe _,
    reactDown_brakeSafe _, reactDown_brakeSafe _, reactEject_brakeSafe, reactBegin_brakeSafe,
    reactStranded_brakeSafe, reactReady_brakeSafe, reactTransfer_brakeSafe, nofun⟩

theorem State.brakeSafe.settle {s : State} (h : s.brakeSafe) : s.settle.brakeSafe :=
  settle_invariant (fun r hr s t _ ht hs => rules_brakeSafe r hr s hs t ht) h

theorem State.brakeSafe.event {s : State} (h : s.brakeSafe) : s.event.brakeSafe :=
  h.settle.of_motion s.settle.commit_motion

/-- An event whose effect leaves the motion as it is. -/
theorem State.brakeSafe.event_of_motion {s t : State} (h : s.brakeSafe) (e : t.motion = s.motion) :
    t.event.brakeSafe := (h.of_motion e).event

/-! ## The events -/

theorem State.brakeSafe.lockIndex {s : State} (h : s.brakeSafe) (measured : Bool) :
    (s.lockIndex measured).brakeSafe := by
  unfold State.lockIndex
  repeat' split
  · exact (enterPurging_mayFly s).brakeSafe
  · exact h.of_motion (by simp)
  · exact h.of_motion (by simp)
  · exact h

theorem State.brakeSafe.rangeIndex {s : State} (h : s.brakeSafe) (measured : Bool) :
    (s.rangeIndex measured).brakeSafe := by
  unfold State.rangeIndex
  extract_lets t
  have ht : t.brakeSafe := h.of_motion (by simp [t])
  exact ite_brakeSafe (ite_brakeSafe (ht.of_motion (by simp)) (ht.observe _ _ fun _ _ => rfl)) ht

theorem State.brakeSafe.purgeIndex {s : State} (h : s.brakeSafe) : s.purgeIndex.brakeSafe :=
  ite_brakeSafe (ite_brakeSafe (enterAtSpeed_mayFly _).brakeSafe (h.of_motion (by simp))) h

/-- An index takes the spindle from STOPPED to COASTING, and from STARTING, which finds the heads on the
ramp, to ACCELERATING. -/
theorem State.brakeSafe.indexByState {s : State} (h : s.brakeSafe) (measured : Bool) :
    (s.indexByState measured).brakeSafe := by
  unfold State.indexByState
  split
  case h_1 => exact State.mayFly.brakeSafe rfl
  case h_2 hs => exact brakeSafe_of_unloaded (h (.inl hs))
  case h_3 => exact h.lockIndex measured
  case h_4 => exact (h.rangeIndex measured).purgeIndex
  case h_5 => exact h.rangeIndex measured
  case h_6 => exact h.of_motion (by simp)
  case h_7 => exact h.of_motion (by simp)

theorem State.brakeSafe.boundaryCounts {s : State} (h : s.brakeSafe) : s.boundaryCounts.brakeSafe :=
  (h.of_motion s.countDelays_motion).countSeekTimer

theorem State.brakeSafe.indexArrives {s : State} (h : s.brakeSafe) (timer : Nat) (warning : Bool) :
    (s.indexArrives timer warning).brakeSafe := by
  unfold State.indexArrives
  extract_lets measured watched t u v w
  have hu : u.brakeSafe := ite_brakeSafe (h.of_motion (by simp [t])) (h.of_motion (by simp [t]))
  have hv : v.brakeSafe := hu.boundaryCounts.of_motion (by simp [v])
  exact ((hv.indexByState measured).sampleWarning warning).of_motion (by simp [w])

theorem State.brakeSafe.stoppedBoundary {s : State} (h : s.brakeSafe) (warning : Bool) :
    (s.stoppedBoundary warning).brakeSafe := by
  unfold State.stoppedBoundary
  extract_lets watched t u
  have ht : t.brakeSafe := h.of_motion (by simp [t])
  exact (ht.boundaryCounts.sampleWarning warning).of_motion (by simp [u])

theorem State.brakeSafe.senseCurrent {s : State} (h : s.brakeSafe) (high : Bool) :
    (s.senseCurrent high).brakeSafe := by
  unfold State.senseCurrent
  repeat' split
  · exact h.observe _ _ fun _ _ => rfl
  · exact h.of_motion (by simp)
  · exact h.of_motion (by simp)
  · exact h

theorem State.brakeSafe.wedge {s : State} (h : s.brakeSafe) (high : Bool) : (s.wedge high).brakeSafe :=
  (State.brakeSafe.senseCurrent (h.of_motion (by simp)) high).nextWindow

theorem State.brakeSafe.expire {s : State} (h : s.brakeSafe) (x : Option Timer) {act : State → State}
    (hact : ∀ t : State, t.brakeSafe → (act t).brakeSafe) : (s.expire x act).brakeSafe := by
  obtain ⟨-, he⟩ | ⟨y, -, he⟩ := expire_cases x act s <;> rw [he]
  · exact h
  · exact (hact _ (h.of_motion (by simp))).event

theorem State.brakeSafe.unloadLate {s : State} (h : s.brakeSafe) : s.unloadLate.brakeSafe := by
  unfold State.unloadLate
  extract_lets n raise t
  have ht : t.brakeSafe := h.of_motion (by simp [t])
  exact ite_brakeSafe (ht.recognise _ _) ht

theorem State.brakeSafe.parkOnRamp {s : State} (h : s.brakeSafe) : s.parkOnRamp.brakeSafe := by
  unfold State.parkOnRamp
  extract_lets t
  split
  · exact brakeSafe_of_unloaded (by simp)
  · exact brakeSafe_of_unloaded (by simp)
  · exact h.of_motion (by simp [t])

theorem retractExpires_brakeSafe (s : State) : s.retractExpires.brakeSafe := by
  unfold State.retractExpires
  extract_lets t
  have ht : t.motion.2 = .unloaded := by simp [t]
  split
  · exact brakeSafe_of_unloaded (by simpa using ht)
  · exact brakeSafe_of_unloaded ht

theorem State.brakeSafe.doorForced {s : State} (h : s.brakeSafe) : s.doorForced.brakeSafe := by
  unfold State.doorForced
  extract_lets k t u v left w x y
  have hy : y.brakeSafe := h.of_motion (by simp [t, u, v, w, x, y])
  exact (hy.retractRequest k).stopRequest .coast

theorem State.brakeSafe.sensorAbsent {s : State} (h : s.brakeSafe) : s.sensorAbsent.brakeSafe := by
  unfold State.sensorAbsent
  extract_lets t
  have ht : t.brakeSafe := h.of_motion (by simp [t])
  repeat' split
  · exact ht
  · exact ht
  · exact ht.of_motion (by simp)
  · exact ht.doorForced
  · exact ht.doorForced
  · exact ht.doorForced
  · exact ht.of_motion (by simp [State.cartridgeLeft])

/-! ## Sectors -/

theorem State.brakeSafe.writeArrives {s : State} (h : s.brakeSafe) (t : Byte) :
    (s.writeArrives t).brakeSafe := by
  unfold State.writeArrives State.deferWrite
  repeat' split
  · exact h.of_motion (by simp)
  · exact h.of_motion (by simp)
  · exact h.unrecoverable _
  · exact h.of_motion (by simp)

theorem State.brakeSafe.transferArrives {s : State} (h : s.brakeSafe) (n : Nat) :
    (s.transferArrives n).brakeSafe := by
  unfold State.transferArrives
  dsimp only
  repeat' split
  · exact h.of_motion (by simp)
  · exact h.writeArrives _
  · exact h.of_motion (by simp)
  · exact h
  · exact h

theorem State.brakeSafe.sectorArrives {s : State} (h : s.brakeSafe) (n : Nat) :
    (s.sectorArrives n).brakeSafe := by
  unfold State.sectorArrives
  repeat' split
  · exact h
  · exact h.of_motion (by simp)
  · exact h.of_motion (by simp)
  · exact h.transferArrives n

theorem State.brakeSafe.flightEnds {s : State} (h : s.brakeSafe) (f : Flight) (good : Bool)
    (data : List Byte) : (s.flightEnds f good data).brakeSafe := by
  unfold State.flightEnds State.readEnds State.verifyEnds State.writeEnds
  extract_lets ok t
  have ht : t.brakeSafe := h.of_motion (by simp [t])
  repeat' split
  · exact ht.of_motion (by simp)
  · exact State.brakeSafe.finishBlock (ht.of_motion (by simp))
  · exact State.brakeSafe.readFails (ht.of_motion (by simp))
  · exact State.brakeSafe.finishBlock (ht.of_motion (by simp))
  · exact ht.readFails
  · exact State.brakeSafe.finishBlock (ht.of_motion (by simp))
  · exact ht.of_motion (by simp)
  · exact ht.of_motion (by simp)
  · exact ht.of_motion (by simp)

theorem State.brakeSafe.sectorEnds {s : State} (h : s.brakeSafe) (good : Bool) (data : List Byte) :
    (s.sectorEnds good data).brakeSafe := by
  unfold State.sectorEnds
  split
  · exact h
  · exact h.flightEnds _ _ _

/-! ## The commands -/

/-- A COMMAND packet keeps the law where its owner does. -/
theorem State.brakeSafe.command {s : State} (h : s.brakeSafe) (i : Instr) {act : State → State}
    (hact : ∀ t : State, t.brakeSafe → (act t).brakeSafe) : (s.command i act).brakeSafe := by
  have whole (x : Header) : (s.wholePacket x act).brakeSafe := by
    obtain ⟨-, he⟩ | ⟨-, he⟩ := wholePacket_cases x act s <;> rw [he]
    · exact h.of_motion (by simp)
    · exact hact s h
  obtain he | ⟨tag, p, -, ⟨-, ⟨-, ⟨-, he⟩ | ⟨-, he⟩⟩ | ⟨-, he⟩⟩ | ⟨-, he⟩⟩ := command_cases i act s <;>
    rw [he]
  · exact h
  · exact h.of_motion (by simp)
  · exact whole _
  · exact hact _ (h.of_motion (by simp))
  · exact (whole (commandHeader tag p)).of_motion (by simp)

/-- A COMMAND packet whose owner moves nothing. -/
theorem State.brakeSafe.command_of_motion {s : State} (h : s.brakeSafe) (i : Instr)
    {act : State → State} (hact : ∀ t, (act t).motion = t.motion) : (s.command i act).brakeSafe :=
  h.command i fun t ht => ht.of_motion (hact t)

theorem State.brakeSafe.enqueue {s : State} (h : s.brakeSafe) (t : Byte) (c : MediumCmd) :
    (s.enqueue t c).brakeSafe := by
  unfold State.enqueue
  split
  · exact h.of_motion (by simp)
  · exact State.brakeSafe.settle (h.of_motion (by simp))

theorem State.brakeSafe.abort {s : State} (h : s.brakeSafe) (t target : Byte) (immediate : Bool) :
    (s.abort t target immediate).brakeSafe := by
  unfold State.abort
  split
  · exact h.of_motion (by simp)
  · exact State.brakeSafe.settle (ite_brakeSafe (h.of_motion (by simp)) (h.of_motion (by simp)))

theorem State.brakeSafe.ejectCommand {s : State} (h : s.brakeSafe) (t : Byte) (mode : EjectMode)
    (force : Bool) : (s.ejectCommand t mode force).brakeSafe := by
  unfold State.ejectCommand
  repeat' split
  · exact h.of_motion (by simp)
  · exact State.brakeSafe.settle (h.of_motion (by simp))
  · exact h.of_motion (by simp)
  · exact h.of_motion (by simp)
  · exact State.brakeSafe.settle (h.of_motion (by simp))

theorem State.brakeSafe.clearFaults {s : State} (h : s.brakeSafe) (t : Byte) :
    (s.clearFaults t).brakeSafe :=
  State.brakeSafe.settle (h.of_motion (by simp))

/-! ## Every instruction -/

theorem powerOn_brakeSafe (cause : ResetCause) (present protect park turn bus : Bool)
    (waiting : List Instr) : (State.powerOn cause present protect park turn bus waiting).brakeSafe :=
  State.mayFly.brakeSafe rfl

/-- A supply-low makes the disk coast, wherever the heads are (R55). -/
theorem State.brakeSafe.supplyLow {s : State} (h : s.brakeSafe) :
    s.completes .supplyLow State.brakeSafe :=
  ⟨_, rfl, ite_brakeSafe (h.of_motion (by simp)) (coastDown_mayFly _).brakeSafe⟩

/-- Every instruction completes with the law kept. -/
theorem State.brakeSafe.completes {s : State} (h : s.brakeSafe) (i : Instr) :
    s.completes i State.brakeSafe := by
  cases i with
  | powerOnReset present protect park => exact ⟨_, rfl, powerOn_brakeSafe _ _ _ _ _ _ _⟩
  | supplyLow => exact h.supplyLow
  | overTempShutdown => exact ⟨_, rfl, (h.recognise _ _).event⟩
  | overTempShutdownCeases => exact ⟨_, rfl, h.of_motion (by simp)⟩
  | busReset => exact ⟨_, rfl, ite_brakeSafe h
      (ite_brakeSafe (h.of_motion (by simp)) (h.event_of_motion (by simp)))⟩
  | busResetRelease => exact ⟨_, rfl, ite_brakeSafe (h.of_motion (by simp)) h⟩
  | indexArrival timer warning => exact ⟨_, rfl, (h.indexArrives timer warning).event⟩
  | stoppedRevolutionBoundary warning => exact ⟨_, rfl, ite_brakeSafe (h.stoppedBoundary warning).event h⟩
  | purgeComplete => exact ⟨_, rfl, ite_brakeSafe (enterAtSpeed_mayFly s).brakeSafe.event h⟩
  | wedgeTime high => exact ⟨_, rfl, (h.wedge high).event⟩
  | servoSample valid cylinder head pes => exact ⟨_, rfl, (h.takeSample valid cylinder head pes).event⟩
  | firstIndexWatchExpiry => exact ⟨_, rfl, h.expire _ fun t ht =>
      State.brakeSafe.observe (ht.of_motion (by simp)) _ _ fun _ _ => rfl⟩
  | spinUpTimerExpiry => exact ⟨_, rfl, h.expire _ fun t ht =>
      State.brakeSafe.observe (ht.of_motion (by simp)) _ _ fun _ _ => rfl⟩
  | lostIndexWatchExpiry => exact ⟨_, rfl, h.expire _ fun t ht =>
      State.brakeSafe.observe (ht.of_motion (by simp)) _ _ fun _ _ => rfl⟩
  | reversePhaseTimeout => exact ⟨_, rfl, ite_brakeSafe (h.event_of_motion (by simp)) h⟩
  | stopWindowExpiry => exact ⟨_, rfl, h.expire _ fun t _ => (enterStopped_mayFly t).brakeSafe⟩
  | standbyExpiry =>
    -- by name: after `simp` the kernel would count the ticks of the standby period
    exact ⟨_, rfl, ite_brakeSafe
      (h.event_of_motion ((State.onDowns_motion _ _).trans (State.elapse_motion _ _))) h⟩
  | loadTimeout =>
    refine ⟨_, rfl, ?_⟩
    split
    next hg =>
      simp only [Bool.and_eq_true, beq_iff_eq] at hg
      exact (h.mayFly (by simp [hg])).loadTimesOut.event
    next => exact h
  | unloadWatchExpiry => exact ⟨_, rfl, h.expire _ fun _ ht => ht.unloadLate⟩
  | parkSensorOnRamp => exact ⟨_, rfl, h.parkOnRamp.event⟩
  | retractWindowExpiry => exact ⟨_, rfl, h.expire _ fun t _ => retractExpires_brakeSafe t⟩
  | seekTimerExpiry => exact ⟨_, rfl, ite_brakeSafe h.seekTimerExpires.event h⟩
  | retryDelayExpiry kind => exact ⟨_, rfl, ite_brakeSafe (h.event_of_motion (by simp)) h⟩
  | recoveryWatchEnd kind => exact ⟨_, rfl, ite_brakeSafe (h.event_of_motion (by simp)) h⟩
  | cartridgeSensorPresent protect => exact ⟨_, rfl, h.event_of_motion (by simp)⟩
  | cartridgeSensorAbsent => exact ⟨_, rfl, h.sensorAbsent.event⟩
  | ejectButtonPress => exact ⟨_, rfl, ite_brakeSafe h (h.event_of_motion (by simp))⟩
  | ejectorPulseEnd => exact ⟨_, rfl, ite_brakeSafe (h.event_of_motion (by simp)) h⟩
  | ejectWindowExpiry => exact ⟨_, rfl, ite_brakeSafe h
      (h.expire _ fun _ ht => ht.of_motion (by simp))⟩
  | sectorArrival sector => exact ⟨_, rfl, (h.sectorArrives sector).event⟩
  | sectorEnd good data => exact ⟨_, rfl, (h.sectorEnds good data).event⟩
  | inboundPacketHeader kind tag length b4 b5 b6 =>
    exact ⟨_, rfl, ite_brakeSafe (h.of_motion (by simp)) h⟩
  | inboundParityError place => exact ⟨_, rfl, ite_brakeSafe (h.of_motion (by simp)) h⟩
  | turnNegated cut =>
    have hcut : (if s.supplyLow || s.dbi.busReset then s else s.cutPacket cut).brakeSafe :=
      ite_brakeSafe h (h.of_motion (by simp))
    exact ⟨_, rfl, ite_brakeSafe (hcut.of_motion (by simp)) h⟩
  | turnAsserted => exact ⟨_, rfl, h.of_motion (by simp)⟩
  | outboundPacketAcked => exact ⟨_, rfl, h.event_of_motion (by simp)⟩
  | dataPacketIndex tag index =>
    refine ⟨_, rfl, ite_brakeSafe ?_ h⟩
    split
    · exact ite_brakeSafe (h.of_motion (by simp)) h
    · exact h
  | dataPacketEnd data =>
    refine ⟨_, rfl, ite_brakeSafe ?_ h⟩
    split
    · exact h.event_of_motion (by simp)
    · exact h
  | discardedPacketEnd => exact ⟨_, rfl, ite_brakeSafe (h.of_motion (by simp)) h⟩
  | read tag flags extents => exact ⟨_, rfl, h.command _ fun _ ht => ht.enqueue _ _⟩
  | write tag flags extents => exact ⟨_, rfl, h.command _ fun _ ht => ht.enqueue _ _⟩
  | verify tag flags extents => exact ⟨_, rfl, h.command _ fun _ ht => ht.enqueue _ _⟩
  | seek tag cylinder => exact ⟨_, rfl, h.command _ fun _ ht => ht.enqueue _ _⟩
  | spinUp tag => exact ⟨_, rfl, h.command _ fun _ ht => ht.enqueue _ _⟩
  | spinDown tag => exact ⟨_, rfl, h.command _ fun _ ht => ht.enqueue _ _⟩
  | flushRecord tag => exact ⟨_, rfl, h.command _ fun _ ht => ht.enqueue _ _⟩
  | reassignBlock tag lba => exact ⟨_, rfl, h.command _ fun _ ht => ht.enqueue _ _⟩
  | abort tag target mode =>
    refine ⟨_, rfl, h.command _ fun t ht => ?_⟩
    split
    · exact ht.abort _ _ _
    · exact ht.of_motion (by simp)
  | eject tag mode force =>
    refine ⟨_, rfl, h.command _ fun t ht => ?_⟩
    split
    · exact ht.ejectCommand _ _ _
    · exact ht.of_motion (by simp)
  | clearFaults tag => exact ⟨_, rfl, h.command _ fun _ ht => ht.clearFaults tag⟩
  | holdEject tag => exact ⟨_, rfl, h.command_of_motion _ fun t => t.holdEject_motion tag⟩
  | releaseEject tag => exact ⟨_, rfl, h.command_of_motion _ fun t => t.releaseEject_motion tag⟩
  | readFaults tag => exact ⟨_, rfl, h.command_of_motion _ fun _ => rfl⟩
  | loadTable tag selector body =>
    exact ⟨_, rfl, h.command_of_motion _ fun t => t.loadTable_motion tag selector body⟩
  | readTable tag selector copy first =>
    refine ⟨_, rfl, h.command_of_motion _ fun t => ?_⟩
    repeat' split
    all_goals simp
  | tableHold tag value =>
    refine ⟨_, rfl, h.command_of_motion _ fun t => ?_⟩
    split <;> simp
  | latch tag groups clear =>
    refine ⟨_, rfl, h.command_of_motion _ fun t => ?_⟩
    split <;> simp
  | readLatched tag => exact ⟨_, rfl, h.command_of_motion _ fun _ => rfl⟩
  | status tag => exact ⟨_, rfl, h.command_of_motion _ fun _ => rfl⟩
  | attentionAck tag => exact ⟨_, rfl, h.command_of_motion _ fun t => t.attentionAck_motion tag⟩
  | endAttention tag source =>
    refine ⟨_, rfl, h.command_of_motion _ fun t => ?_⟩
    split <;> simp
  | setAttentionMask tag mask => exact ⟨_, rfl, h.command_of_motion _ fun _ => rfl⟩

/-- Settles O9: an instruction keeps the law, and a tick of the timebase leaves the motion as it is. -/
theorem brakeStaysSafe : Obligations.BrakeStaysSafe := by
  intro s t h hstep
  unfold step at hstep
  split at hstep
  next =>
    obtain rfl := Host.Outcome.next.inj hstep
    exact h.of_motion rfl
  next i rest _ =>
    have hrest : ({ s with pending := rest } : State).brakeSafe := h
    obtain ⟨u, hu, hsafe⟩ := hrest.completes i
    obtain rfl := Host.Outcome.next.inj (hu.symm.trans hstep)
    exact hsafe

end Sys2Proof.Machine
end

section
/-! PROOFS. The coil of the actuator: the current command held at the power stage with the active SEEK
PROFILE, and the operations that leave both as they are, in the order of the model's files. -/

namespace Sys2Proof.Machine

/-- The current command held at the power stage, and the active SEEK PROFILE, whose Ilim bounds it (R85). -/
def State.coil (s : State) : Int × SeekProfile := (s.pos.current, s.tbs.profile)

theorem coil_eq_iff {s t : State} :
    t.coil = s.coil ↔ t.pos.current = s.pos.current ∧ t.tbs.profile = s.tbs.profile := by
  simp [State.coil]

/-! ## Changing one part of the state -/

@[simp] theorem State.onDbi_coil (f : Bus → Bus) (s : State) : (s.onDbi f).coil = s.coil := rfl
@[simp] theorem State.onEng_coil (f : Engine → Engine) (s : State) : (s.onEng f).coil = s.coil := rfl
@[simp] theorem State.onDowns_coil (f : Downs → Downs) (s : State) :
    (s.onDowns f).coil = s.coil := rfl
@[simp] theorem State.onCcu_coil (f : Cartridge → Cartridge) (s : State) :
    (s.onCcu f).coil = s.coil := rfl
@[simp] theorem State.onRec_coil (f : RecordUnit → RecordUnit) (s : State) :
    (s.onRec f).coil = s.coil := rfl
@[simp] theorem State.onFsv_coil (f : Supervisor → Supervisor) (s : State) :
    (s.onFsv f).coil = s.coil := rfl
@[simp] theorem State.onCounters_coil (f : Counters → Counters) (s : State) :
    (s.onCounters f).coil = s.coil := rfl
@[simp] theorem State.onAtc_coil (f : Attention → Attention) (s : State) :
    (s.onAtc f).coil = s.coil := rfl
@[simp] theorem State.setQueue_coil (q : List Entry) (s : State) : (s.setQueue q).coil = s.coil := rfl
@[simp] theorem State.setJob_coil (j : Job) (s : State) : (s.setJob j).coil = s.coil := rfl
@[simp] theorem State.setEnd_coil (st : Option Status) (s : State) : (s.setEnd st).coil = s.coil := rfl
@[simp] theorem State.setSlots_coil (l : List Slot) (s : State) : (s.setSlots l).coil = s.coil := rfl
@[simp] theorem State.setWork_coil (w : Option SpinUpWork) (s : State) :
    (s.setWork w).coil = s.coil := rfl

@[simp] theorem State.onSpc_coil (f : Spindle → Spindle) (s : State) : (s.onSpc f).coil = s.coil := rfl

/-- A change of the Positioner that keeps the current command. -/
@[simp] theorem State.onPos_coil {f : Positioner → Positioner} {s : State}
    (h : ∀ p, (f p).current = p.current) : (s.onPos f).coil = s.coil := coil_eq_iff.mpr ⟨h _, rfl⟩

/-- A change of the Table Store that keeps the active profile. -/
@[simp] theorem State.onTbs_coil {f : TableStore → TableStore} {s : State}
    (h : ∀ x, (f x).profile = x.profile) : (s.onTbs f).coil = s.coil := coil_eq_iff.mpr ⟨rfl, h _⟩

/-- Operations that each keep the coil keep it one after another. -/
theorem foldl_coil {α : Type} {f : State → α → State} (h : ∀ s a, (f s a).coil = s.coil)
    (l : List α) (s : State) : (l.foldl f s).coil = s.coil := by
  induction l generalizing s with
  | nil => rfl
  | cons a l ih => rw [List.foldl_cons, ih, h]

/-! ## Operations of one block -/

@[simp] theorem State.onSlot_coil (i : Nat) (f : Slot → Slot) (s : State) :
    (s.onSlot i f).coil = s.coil := rfl
@[simp] theorem State.emptySlotAt_coil (i : Nat) (s : State) : (s.emptySlotAt i).coil = s.coil := rfl
@[simp] theorem State.reply_coil (t : Byte) (st : Status) (b : ReplyBody) (s : State) :
    (s.reply t st b).coil = s.coil := rfl
@[simp] theorem State.request_coil (x : Source) (s : State) : (s.request x).coil = s.coil := rfl
@[simp] theorem State.countReadRetry_coil (s : State) : s.countReadRetry.coil = s.coil := rfl
@[simp] theorem State.countDeferral_coil (s : State) : s.countDeferral.coil = s.coil := rfl
@[simp] theorem State.countDrop_coil (s : State) : s.countDrop.coil = s.coil := rfl
@[simp] theorem State.countTrackSlip_coil (s : State) : s.countTrackSlip.coil = s.coil := rfl
@[simp] theorem State.countSeek_coil (s : State) : s.countSeek.coil = s.coil := rfl
@[simp] theorem State.onKind_coil (k : FaultKind) (f : KindStatus → KindStatus) (s : State) :
    (s.onKind k f).coil = s.coil := rfl
@[simp] theorem State.absent_coil (k : FaultKind) (s : State) : (s.absent k).coil = s.coil := rfl
@[simp] theorem State.nowPresent_coil (k : FaultKind) (s : State) :
    (s.nowPresent k).coil = s.coil := rfl
@[simp] theorem State.cancelRestarts_coil (s : State) : s.cancelRestarts.coil = s.coil := rfl
@[simp] theorem State.withdrawLoads_coil (s : State) : s.withdrawLoads.coil = s.coil := rfl
@[simp] theorem State.clearStarts_coil (s : State) : s.clearStarts.coil = s.coil := rfl
@[simp] theorem State.endRetries_coil (s : State) : s.endRetries.coil = s.coil := rfl
@[simp] theorem State.onRecord_coil (k : FaultKind) (f : FaultRecord → FaultRecord) (s : State) :
    (s.onRecord k f).coil = s.coil := rfl
@[simp] theorem State.elapse_coil (n : Nat) (s : State) : (s.elapse n).coil = s.coil := rfl

@[simp] theorem State.absents_coil (l : List FaultKind) (s : State) :
    (s.absents l).coil = s.coil := foldl_coil (fun s k => s.absent_coil k) l s

@[simp] theorem State.beginWatch_coil (k : FaultKind) (s : State) :
    (s.beginWatch k).coil = s.coil := by
  unfold State.beginWatch
  dsimp only
  split <;> rfl

@[simp] theorem State.successPoint_coil (spindle : Bool) (s : State) :
    (s.successPoint spindle).coil = s.coil := foldl_coil (fun s k => s.beginWatch_coil k) _ s

@[simp] theorem State.startByWork_coil (s : State) : s.startByWork.coil = s.coil := by
  unfold State.startByWork
  split <;> rfl

/-! ## The queue, the works and the record operations -/

@[simp] theorem State.orphanSeek_coil (s : State) : s.orphanSeek.coil = s.coil := rfl
@[simp] theorem State.releaseCommand_coil (t : Byte) (s : State) :
    (s.releaseCommand t).coil = s.coil := rfl
@[simp] theorem State.placeDone_coil (t : Byte) (st : Status) (e : Engine) (s : State) :
    (s.placeDone t st e).coil = s.coil := rfl
@[simp] theorem State.withdrawWork_coil (s : State) : s.withdrawWork.coil = s.coil := rfl
@[simp] theorem State.completeWaiting_coil (t : Byte) (st : Status) (s : State) :
    (s.completeWaiting t st).coil = s.coil := rfl
@[simp] theorem State.abandonStandby_coil (s : State) : s.abandonStandby.coil = s.coil := rfl
@[simp] theorem State.placeEjectDone_coil (t : Byte) (st : Status) (s : State) :
    (s.placeEjectDone t st).coil = s.coil := rfl
@[simp] theorem State.ejectUnloads_coil (s : State) : s.ejectUnloads.coil = s.coil := rfl
@[simp] theorem State.endLater_coil (st : Status) (s : State) : (s.endLater st).coil = s.coil := rfl

@[simp] theorem State.leaveWork_coil (who : Who) (s : State) : (s.leaveWork who).coil = s.coil := by
  unfold State.leaveWork
  split
  · rfl
  · split <;> rfl

@[simp] theorem State.joinWork_coil (who : Who) (s : State) : (s.joinWork who).coil = s.coil := by
  unfold State.joinWork
  split <;> rfl

@[simp] theorem State.completeHead_coil (st : Status) (s : State) :
    (s.completeHead st).coil = s.coil := by
  unfold State.completeHead
  split <;> simp

@[simp] theorem State.endTransfer_coil (st : Status) (s : State) :
    (s.endTransfer st).coil = s.coil := by
  unfold State.endTransfer
  split <;> simp

@[simp] theorem State.cutWrite_coil (s : State) : s.cutWrite.coil = s.coil := by
  unfold State.cutWrite
  split <;> rfl

@[simp] theorem State.endEject_coil (st : Status) (s : State) : (s.endEject st).coil = s.coil :=
  foldl_coil (fun v t => v.placeEjectDone_coil t st) _ s

@[simp] theorem State.failEject_coil (st : Status) (next : CartState) (s : State) :
    (s.failEject st next).coil = s.coil := by
  simp [State.failEject]

@[simp] theorem State.workEndsHead_coil (st : Status) (s : State) :
    (s.workEndsHead st).coil = s.coil := by
  unfold State.workEndsHead
  repeat' split
  all_goals simp

@[simp] theorem State.workEndsFor_coil (who : Who) (st : Status) (s : State) :
    (s.workEndsFor who st).coil = s.coil := by
  unfold State.workEndsFor
  repeat' split
  all_goals simp

@[simp] theorem State.endWork_coil (st : Status) (s : State) : (s.endWork st).coil = s.coil := by
  unfold State.endWork
  split
  · rfl
  · simp only [apply_ite State.coil, State.workEndsFor_coil, State.withdrawWork_coil,
      State.setWork_coil, ite_self]

@[simp] theorem State.emptySlotOpt_coil (i : Option Nat) (s : State) :
    (s.emptySlotOpt i).coil = s.coil := by
  cases i <;> rfl

@[simp] theorem State.dropRecordOp_coil (s : State) : s.dropRecordOp.coil = s.coil := by
  unfold State.dropRecordOp
  dsimp only
  split
  · split <;> simp
  · simp

@[simp] theorem State.writeBackEnds_coil (owner : Who) (good : Bool) (s : State) :
    (s.writeBackEnds owner good).coil = s.coil := by
  unfold State.writeBackEnds
  dsimp only
  repeat' split
  all_goals simp

@[simp] theorem State.failWriteBack_coil (s : State) : s.failWriteBack.coil = s.coil := by
  unfold State.failWriteBack
  split <;> simp

@[simp] theorem State.finishWriteBack_coil (w : WriteBack) (s : State) :
    (s.finishWriteBack w).coil = s.coil := by
  simp [State.finishWriteBack]

@[simp] theorem State.orphanWriteBack_coil (who heir : Who) (s : State) :
    (s.orphanWriteBack who heir).coil = s.coil := by
  unfold State.orphanWriteBack
  repeat' split
  all_goals simp

@[simp] theorem State.waiterSeekFailed_coil (held : Bool) (s : State) :
    (s.waiterSeekFailed held).coil = s.coil := by
  unfold State.waiterSeekFailed
  dsimp only
  repeat' split
  all_goals simp

/-- A seek reported failed drives nothing: what its requester does about it is with the queue, the record
operation and the works. -/
@[simp] theorem State.seekFailed_coil (byHold : Bool) (s : State) :
    (s.seekFailed byHold).coil = s.coil := by
  unfold State.seekFailed
  dsimp only
  repeat' split
  all_goals simp

@[simp] theorem State.loseRecordOp_coil (s : State) : s.loseRecordOp.coil = s.coil := by
  unfold State.loseRecordOp
  split <;> simp

/-! ## A fault meets the queue -/

@[simp] theorem State.transferMeetsFault_coil (s : State) : s.transferMeetsFault.coil = s.coil := by
  unfold State.transferMeetsFault
  repeat' split
  all_goals simp

@[simp] theorem State.headMeetsFault_coil (s : State) : s.headMeetsFault.coil = s.coil := by
  unfold State.headMeetsFault
  repeat' split
  all_goals simp

@[simp] theorem State.workMeetsFault_coil (s : State) : s.workMeetsFault.coil = s.coil := by
  unfold State.workMeetsFault
  repeat' split
  all_goals simp

@[simp] theorem State.downsMeetFault_coil (reaches : Bool) (s : State) :
    (s.downsMeetFault reaches).coil = s.coil := by
  unfold State.downsMeetFault
  dsimp only
  repeat' split
  all_goals simp

@[simp] theorem State.meetFault_coil (reaches : Bool) (s : State) :
    (s.meetFault reaches).coil = s.coil := by
  unfold State.meetFault
  repeat' split
  all_goals simp

/-! ## The Positioner and the Fault Supervisor -/

@[simp] theorem State.leaveSeekLaw_coil (s : State) : s.leaveSeekLaw.coil = s.coil := rfl
@[simp] theorem State.startSeekTimer_coil (s : State) : s.startSeekTimer.coil = s.coil := rfl
@[simp] theorem State.startDelay_coil (k : FaultKind) (r : FaultRow) (s : State) :
    (s.startDelay k r).coil = s.coil := rfl
@[simp] theorem State.endRetry_coil (k : FaultKind) (s : State) : (s.endRetry k).coil = s.coil := rfl
@[simp] theorem State.restart_coil (k : FaultKind) (r : FaultRow) (s : State) :
    (s.restart k r).coil = s.coil := rfl
@[simp] theorem State.recovers_coil (k : FaultKind) (s : State) : (s.recovers k).coil = s.coil := rfl

@[simp] theorem State.loadByWork_coil (s : State) : s.loadByWork.coil = s.coil := by
  unfold State.loadByWork
  split <;> rfl

@[simp] theorem State.putRecord_coil (k : FaultKind) (sub : Option SubCause) (st : FaultState)
    (retries : Nat) (kept : Option FaultRow) (s : State) :
    (s.putRecord k sub st retries kept).coil = s.coil := by
  unfold State.putRecord
  split <;> rfl

@[simp] theorem State.delayExpires_coil (k : FaultKind) (s : State) :
    (s.delayExpires k).coil = s.coil := by
  unfold State.delayExpires
  dsimp only
  repeat' split
  all_goals simp

@[simp] theorem State.countDelay_coil (s : State) (k : FaultKind) :
    (s.countDelay k).coil = s.coil := by
  unfold State.countDelay
  repeat' split
  all_goals simp

@[simp] theorem State.countDelays_coil (s : State) : s.countDelays.coil = s.coil :=
  foldl_coil State.countDelay_coil _ s

@[simp] theorem State.countWatch_coil (s : State) (k : FaultKind) :
    (s.countWatch k).coil = s.coil := by
  unfold State.countWatch
  dsimp only
  repeat' split
  all_goals simp

@[simp] theorem State.countWatches_coil (l : List FaultKind) (s : State) :
    (s.countWatches l).coil = s.coil :=
  foldl_coil State.countWatch_coil l s

@[simp] theorem State.replaceSeek_coil (req : Requester) (s : State) :
    (s.replaceSeek req).coil = s.coil := by
  unfold State.replaceSeek
  split <;> simp

/-! ## The Transfer Engine, the cartridge and the head entry -/

@[simp] theorem State.awaitPass_coil (s : State) : s.awaitPass.coil = s.coil := rfl
@[simp] theorem State.slips_coil (s : State) : s.slips.coil = s.coil := rfl
@[simp] theorem State.forgetRecord_coil (s : State) : s.forgetRecord.coil = s.coil := rfl
@[simp] theorem State.clearHolds_coil (s : State) : s.clearHolds.coil = s.coil := rfl
@[simp] theorem State.workAt_coil (w : SpinUpWork) (x : WorkStep) (s : State) :
    (s.workAt w x).coil = s.coil := rfl

@[simp] theorem State.endPending_coil (st : Status) (s : State) :
    (s.endPending st).coil = s.coil := by
  unfold State.endPending
  split <;> simp

@[simp] theorem State.recordSeekFails_coil (s : State) : s.recordSeekFails.coil = s.coil := by
  unfold State.recordSeekFails
  repeat' split
  all_goals simp

@[simp] theorem State.finishRecordRead_coil (r : RecordRead) (s : State) :
    (s.finishRecordRead r).coil = s.coil := by
  unfold State.finishRecordRead
  dsimp only
  split <;> simp

@[simp] theorem State.recordSectorRead_coil (r : RecordRead) (i : Nat) (good : Bool)
    (data : List Byte) (s : State) : (s.recordSectorRead r i good data).coil = s.coil := by
  unfold State.recordSectorRead
  dsimp only
  repeat' split
  all_goals simp

@[simp] theorem State.recordSectorWritten_coil (w : WriteBack) (s : State) :
    (s.recordSectorWritten w).coil = s.coil := by
  unfold State.recordSectorWritten
  dsimp only
  split <;> simp

@[simp] theorem State.recordSectorDeferred_coil (w : WriteBack) (s : State) :
    (s.recordSectorDeferred w).coil = s.coil := by
  unfold State.recordSectorDeferred
  split <;> simp

@[simp] theorem State.cartridgeLeaves_coil (s : State) : s.cartridgeLeaves.coil = s.coil := by
  simp [State.cartridgeLeaves]

@[simp] theorem State.completeAll_coil (st : Status) (n : Nat) (s : State) :
    (s.completeAll st n).coil = s.coil := by
  induction n generalizing s with
  | zero => rfl
  | succ n ih => rw [State.completeAll, ih, State.completeHead_coil]

@[simp] theorem State.workAwaitsEject_coil (s : State) : s.workAwaitsEject.coil = s.coil := by
  unfold State.workAwaitsEject
  split <;> simp

@[simp] theorem State.enterEjecting_coil (s : State) : s.enterEjecting.coil = s.coil := by
  simp [State.enterEjecting]

@[simp] theorem State.abortWaiting_coil (s : State) : s.abortWaiting.coil = s.coil :=
  foldl_coil (fun t g => t.completeWaiting_coil g _) _ s

@[simp] theorem State.stopExecuting_coil (st : Status) (s : State) :
    (s.stopExecuting st).coil = s.coil := by
  unfold State.stopExecuting
  repeat' split
  all_goals simp

@[simp] theorem State.cutQueue_coil (s : State) : s.cutQueue.coil = s.coil := by
  unfold State.cutQueue
  split <;> simp

@[simp] theorem State.beginEject_coil (mode : EjectMode) (force : Bool) (tags : List Byte) (s : State) :
    (s.beginEject mode force tags).coil = s.coil := by
  unfold State.beginEject
  dsimp only
  repeat' split
  all_goals simp

@[simp] theorem State.forceFlush_coil (s : State) : s.forceFlush.coil = s.coil := by
  unfold State.forceFlush
  split <;> simp

@[simp] theorem State.mergeEject_coil (tag : Byte) (mode : EjectMode) (force : Bool) (s : State) :
    (s.mergeEject tag mode force).coil = s.coil := by
  unfold State.mergeEject
  dsimp only
  split <;> simp

@[simp] theorem State.cutFlight_coil (f : Flight) (s : State) : (s.cutFlight f).coil = s.coil := by
  unfold State.cutFlight State.refill
  repeat' split
  all_goals simp

@[simp] theorem State.beginEntry_coil (c : MediumCmd) (s : State) :
    (s.beginEntry c).coil = s.coil := by
  unfold State.beginEntry
  repeat' split
  all_goals simp

@[simp] theorem State.runReassign_coil (l : Nat) (s : State) : (s.runReassign l).coil = s.coil := by
  unfold State.runReassign
  split <;> simp

/-! ## The drive bus -/

@[simp] theorem State.setInb_coil (i : Inbound) (s : State) : (s.setInb i).coil = s.coil := rfl
@[simp] theorem State.driveStb_coil (level : Bool) (s : State) :
    (s.driveStb level).coil = s.coil := rfl
@[simp] theorem State.answersFirst_coil (n : Nat) (s : State) :
    (s.answersFirst n).coil = s.coil := rfl

@[simp] theorem State.headerStep_coil (h : Header) (s : State) :
    (s.headerStep h).coil = s.coil := by
  unfold State.headerStep
  split <;> simp

@[simp] theorem State.beginPacket_coil (h : Header) (s : State) :
    (s.beginPacket h).coil = s.coil := by
  unfold State.beginPacket
  split <;> simp

@[simp] theorem State.releaseWaiting_coil (s : State) : s.releaseWaiting.coil = s.coil := by
  obtain h | ⟨_, -, -, -, h⟩ := releaseWaiting_cases s <;> rw [h]
  exact State.headerStep_coil _ s

@[simp] theorem State.startOutbound_coil (s : State) : s.startOutbound.coil = s.coil := by
  obtain h | h | ⟨_, _, -, h⟩ := startOutbound_cases s <;> rw [h] <;> rfl

@[simp] theorem State.commit_coil (s : State) : s.commit.coil = s.coil := by
  simp [State.commit]

@[simp] theorem State.refuseRest_coil (t : Byte) (st : Status) (s : State) :
    (s.refuseRest t st).coil = s.coil := by
  simp [State.refuseRest, State.dropFilling]

@[simp] theorem State.cutPacket_coil (cut : HeaderPart) (s : State) :
    (s.cutPacket cut).coil = s.coil := by
  unfold State.cutPacket State.dropFilling
  repeat' split
  all_goals simp

@[simp] theorem State.packetSent_coil (s : State) : s.packetSent.coil = s.coil := by
  unfold State.packetSent
  dsimp only
  repeat' split
  all_goals simp

@[simp] theorem State.dataIndex_coil (t : Byte) (n : Nat) (s : State) :
    (s.dataIndex t n).coil = s.coil := by
  unfold State.dataIndex
  split <;> simp

@[simp] theorem State.payloadParity_coil (s : State) : s.payloadParity.coil = s.coil := by
  unfold State.payloadParity
  split <;> simp

@[simp] theorem State.parityError_coil (p : ParityPlace) (s : State) :
    (s.parityError p).coil = s.coil := by
  unfold State.parityError State.leadParity
  repeat' split
  all_goals simp

@[simp] theorem State.dataEnds_coil (t : Byte) (n i : Nat) (data : List Byte) (s : State) :
    (s.dataEnds t n i data).coil = s.coil := by
  unfold State.dataEnds
  dsimp only
  split <;> simp

/-! ## Events and immediate commands -/

@[simp] theorem State.measureIndex_coil (s : State) : s.measureIndex.coil = s.coil := rfl
@[simp] theorem State.armStopWindow_coil (s : State) : s.armStopWindow.coil = s.coil := rfl
@[simp] theorem State.insertCartridge_coil (protect : Bool) (s : State) :
    (s.insertCartridge protect).coil = s.coil := by
  simp [State.insertCartridge]
@[simp] theorem State.badOperand_coil (t : Byte) (s : State) : (s.badOperand t).coil = s.coil := rfl
@[simp] theorem State.fly_coil (k : FlightKind) (slot : Option Nat) (s : State) :
    (s.fly k slot).coil = s.coil := rfl
@[simp] theorem State.land_coil (s : State) : s.land.coil = s.coil := rfl

@[simp] theorem State.indexResets_coil (s : State) : s.indexResets.coil = s.coil := by
  simp [State.indexResets]

@[simp] theorem State.brakeIndex_coil (measured : Bool) (s : State) :
    (s.brakeIndex measured).coil = s.coil := by
  unfold State.brakeIndex
  split <;> simp

@[simp] theorem State.sensorPresent_coil (protect : Bool) (s : State) :
    (s.sensorPresent protect).coil = s.coil := by
  unfold State.sensorPresent
  dsimp only
  split <;> simp

@[simp] theorem State.pressButton_coil (s : State) : s.pressButton.coil = s.coil := by
  unfold State.pressButton
  repeat' split
  all_goals simp

@[simp] theorem State.abortExecuting_coil (immediate : Bool) (s : State) :
    (s.abortExecuting immediate).coil = s.coil := by
  unfold State.abortExecuting State.abortNow
  dsimp only
  repeat' split
  all_goals simp

@[simp] theorem State.holdEject_coil (t : Byte) (s : State) : (s.holdEject t).coil = s.coil := by
  unfold State.holdEject
  repeat' split
  all_goals simp

@[simp] theorem State.releaseEject_coil (t : Byte) (s : State) :
    (s.releaseEject t).coil = s.coil := by
  unfold State.releaseEject
  repeat' split
  all_goals simp

@[simp] theorem State.readTable_coil (t : Byte) (selector : Nat) (staged : Bool) (first : Nat)
    (s : State) : (s.readTable t selector staged first).coil = s.coil := by
  unfold State.readTable
  repeat' split
  all_goals simp

@[simp] theorem State.latch_coil (t : Byte) (g : Groups) (clear : Bool) (s : State) :
    (s.latch t g clear).coil = s.coil := by
  unfold State.latch
  dsimp only
  split <;> simp

@[simp] theorem State.attentionAck_coil (t : Byte) (s : State) :
    (s.attentionAck t).coil = s.coil := by
  unfold State.attentionAck
  split <;> simp

@[simp] theorem State.endAttention_coil (t : Byte) (x : Option Source) (s : State) :
    (s.endAttention t x).coil = s.coil := by
  unfold State.endAttention
  split <;> simp

/-! ## Resets and sectors -/

@[simp] theorem State.resetBus_coil (s : State) : s.resetBus.coil = s.coil := rfl
@[simp] theorem State.resetHolds_coil (s : State) : s.resetHolds.coil = s.coil := rfl
@[simp] theorem State.resetAttention_coil (s : State) : s.resetAttention.coil = s.coil := rfl

@[simp] theorem State.dropQueue_coil (s : State) : s.dropQueue.coil = s.coil := by
  simp [State.dropQueue, State.resetSlots]

@[simp] theorem State.supplyRecord_coil (s : State) : s.supplyRecord.coil = s.coil := by
  simp [State.supplyRecord]

@[simp] theorem State.orphanWorks_coil (s : State) : s.orphanWorks.coil = s.coil := by
  unfold State.orphanWorks
  split <;> simp

@[simp] theorem State.recordReadArrives_coil (r : RecordRead) (n : Nat) (s : State) :
    (s.recordReadArrives r n).coil = s.coil := by
  unfold State.recordReadArrives
  repeat' split
  all_goals simp

@[simp] theorem State.recordWriteArrives_coil (w : WriteBack) (n : Nat) (s : State) :
    (s.recordWriteArrives w n).coil = s.coil := by
  unfold State.recordWriteArrives
  repeat' split
  all_goals simp

@[simp] theorem State.readArrives_coil (t : Byte) (s : State) : (s.readArrives t).coil = s.coil := by
  unfold State.readArrives
  dsimp only
  split <;> simp

end Sys2Proof.Machine
end

section
/-! PROOFS. The law of R85. The current command changes where the Positioner enters a state with a drive of
its own, at a servo sample, at a seek computation and at a table take, and each of these clamps it to the
active Ilim or sets it to 0; every other operation leaves the command and the active profile as they are. The
demand speed of a rising profile stays below the speed of its last row. -/

namespace Sys2Proof.Machine

/-! ## The law, read off the coil -/

theorem currentBounded_iff {s : State} : s.currentBounded ↔ s.coil.1.natAbs ≤ s.coil.2.ilim := Iff.rfl

theorem State.currentBounded.of_coil {s t : State} (h : s.currentBounded) (e : t.coil = s.coil) :
    t.currentBounded := by
  rw [currentBounded_iff] at h ⊢
  rwa [e]

/-- A command clamped to the active Ilim meets the law, whatever the command before it. -/
theorem currentBounded_of_clamped {s : State} {p : SeekProfile} {i : Int}
    (e : s.coil = (clampTo p.ilim i, p)) : s.currentBounded := by
  rw [currentBounded_iff, e]
  exact clampTo_bound _ _

theorem ite_currentBounded {c : Prop} [Decidable c] {t u : State} (ht : t.currentBounded)
    (hu : u.currentBounded) : (if c then t else u).currentBounded := by
  split
  · exact ht
  · exact hu

/-- The law holds of every state that an answer brings. -/
def BoundedAnswer (o : Option State) : Prop := ∀ t, o = some t → t.currentBounded

theorem boundedAnswer_none : BoundedAnswer none := fun _ h => absurd h.symm (Option.some_ne_none _)

theorem boundedAnswer_some {t : State} (h : t.currentBounded) : BoundedAnswer (some t) :=
  fun _ hu => Option.some.inj hu ▸ h

theorem boundedAnswer_guarded {g : Bool} {t : State} (h : t.currentBounded) :
    BoundedAnswer (guarded g t) := fun _ hu => by
  obtain ⟨-, rfl⟩ := guarded_eq_some hu
  exact h

/-! ## Table takes -/

/-- A take clamps the held command to the Ilim that it makes active. -/
theorem State.currentBounded.takeTables {s : State} (h : s.currentBounded) :
    s.takeTables.currentBounded := by
  obtain he | ⟨-, -, -, he⟩ := takeTables_cases s <;> rw [he]
  · exact h
  · exact currentBounded_of_clamped rfl

theorem State.currentBounded.enterStopped {s : State} (h : s.currentBounded) :
    s.enterStopped.currentBounded := State.currentBounded.takeTables (h.of_coil rfl)

theorem State.currentBounded.resetTables {s : State} (h : s.currentBounded) :
    s.resetTables.currentBounded := by
  unfold State.resetTables
  extract_lets t
  have ht : t.currentBounded := h.of_coil rfl
  exact ite_currentBounded ht.takeTables ht

theorem State.currentBounded.loadTable {s : State} (h : s.currentBounded) (t selector : Byte)
    (body : List Byte) : (s.loadTable t selector body).currentBounded := by
  unfold State.loadTable
  split
  · exact h.of_coil (by simp)
  next x n _ =>
    have hx : (s.stage x).currentBounded := h.of_coil (by cases x <;> rfl)
    have hu : (if s.spc.state.idle then (s.stage x).takeTables else s.stage x).currentBounded :=
      ite_currentBounded hx.takeTables hx
    exact ite_currentBounded (hu.of_coil (by simp)) (hu.of_coil (by simp))

theorem State.currentBounded.tableHold {s : State} (h : s.currentBounded) (t : Byte) (set : Bool) :
    (s.tableHold t set).currentBounded := by
  unfold State.tableHold
  extract_lets u v
  have hu : u.currentBounded := h.of_coil rfl
  have hv : v.currentBounded := ite_currentBounded hu.takeTables hu
  exact hv.of_coil (by simp)

/-! ## The spindle -/

@[simp] theorem State.leavePowered_coil (st : SpindleState) (brake : Bool) (d : StopDemand) (s : State) :
    (s.leavePowered st brake d).coil = s.coil := by
  simp [State.leavePowered]

@[simp] theorem State.stopRequest_coil (d : StopDemand) (s : State) : (s.stopRequest d).coil = s.coil := by
  unfold State.stopRequest
  dsimp only
  repeat' split
  all_goals simp

@[simp] theorem State.enterAtSpeed_coil (s : State) : s.enterAtSpeed.coil = s.coil := by
  simp [State.enterAtSpeed]

@[simp] theorem State.enterPurging_coil (s : State) : s.enterPurging.coil = s.coil := by
  unfold State.enterPurging
  dsimp only
  split <;> simp

@[simp] theorem State.lockIndex_coil (measured : Bool) (s : State) :
    (s.lockIndex measured).coil = s.coil := by
  unfold State.lockIndex
  repeat' split
  all_goals simp

@[simp] theorem State.purgeIndex_coil (s : State) : s.purgeIndex.coil = s.coil := by
  unfold State.purgeIndex
  dsimp only
  repeat' split
  all_goals simp

/-! ## The Positioner's states -/

@[simp] theorem State.enterUnloaded_coil (s : State) : s.enterUnloaded.coil = (0, s.tbs.profile) := by
  unfold State.enterUnloaded
  rw [State.onRec_coil, State.absents_coil]
  rfl

theorem enterUnloaded_currentBounded (s : State) : s.enterUnloaded.currentBounded := by
  simp [currentBounded_iff]

/-- The fixed drives of LOADING, UNLOADING and RETRACTING are clamped (R56). In these proofs the drive is a
variable: its value is not computed with. -/
theorem enterLoading_currentBounded (s : State) : s.enterLoading.currentBounded := by
  unfold State.enterLoading
  generalize Config.loadDrive = i
  exact currentBounded_of_clamped rfl

theorem beginToRamp_currentBounded (s : State) : s.beginToRamp.currentBounded := by
  unfold State.beginToRamp
  generalize Config.rampDrive = i
  exact currentBounded_of_clamped rfl

theorem State.currentBounded.rampReached {s : State} (h : s.currentBounded) :
    s.rampReached.currentBounded := ite_currentBounded (enterUnloaded_currentBounded s) h

theorem enterToRamp_currentBounded (s : State) : s.enterToRamp.currentBounded :=
  (beginToRamp_currentBounded s).rampReached

theorem State.currentBounded.enterToCylinder0 {s : State} (h : s.currentBounded) :
    s.enterToCylinder0.currentBounded :=
  ite_currentBounded (enterToRamp_currentBounded _) (h.of_coil rfl)

theorem enterRetracting_currentBounded (cause : Option FaultKind) (s : State) :
    (s.enterRetracting cause).currentBounded := by
  unfold State.enterRetracting
  generalize Config.retractDrive = i
  extract_lets j t
  have ht : t.currentBounded := currentBounded_of_clamped rfl
  exact ite_currentBounded ((enterUnloaded_currentBounded t).of_coil (by simp)) ht

theorem State.currentBounded.beginUnload {s : State} (h : s.currentBounded) :
    s.beginUnload.currentBounded := by
  have hfailed : (s.seekFailed false).currentBounded := h.of_coil (by simp)
  unfold State.beginUnload
  split
  case h_1 => exact enterToRamp_currentBounded s
  case h_5 => exact h
  all_goals exact hfailed.enterToCylinder0

theorem State.currentBounded.unloadRequest {s : State} (h : s.currentBounded) :
    s.unloadRequest.currentBounded := (h.of_coil s.withdrawLoads_coil).beginUnload

theorem State.currentBounded.retractRequest {s : State} (h : s.currentBounded) (cause : FaultKind) :
    (s.retractRequest cause).currentBounded := by
  have hw : s.withdrawLoads.currentBounded := h.of_coil (by simp)
  unfold State.retractRequest
  dsimp only
  split
  case h_1 => exact hw
  case h_2 => exact hw
  case h_3 => exact enterRetracting_currentBounded _ _

/-- A hold leaves the last seek current in force (log 50). -/
@[simp] theorem State.holdRequest_coil (s : State) : s.holdRequest.coil = s.coil := by
  unfold State.holdRequest
  dsimp only
  repeat' split
  all_goals simp

theorem State.currentBounded.parkOnRamp {s : State} (h : s.currentBounded) :
    s.parkOnRamp.currentBounded := by
  unfold State.parkOnRamp
  dsimp only
  split
  · exact enterUnloaded_currentBounded _
  · exact enterUnloaded_currentBounded _
  · exact h.of_coil (by simp)

theorem retractExpires_currentBounded (s : State) : s.retractExpires.currentBounded := by
  unfold State.retractExpires
  split <;> exact State.currentBounded.of_coil (enterUnloaded_currentBounded s) rfl

/-! ## Recognition of a fault -/

@[simp] theorem State.spindleAction_coil (r : FaultRow) (s : State) :
    (s.spindleAction r).coil = s.coil := by
  unfold State.spindleAction
  split <;> simp

theorem State.currentBounded.positionerAction {s : State} (h : s.currentBounded) (k : FaultKind)
    (r : FaultRow) : (s.positionerAction k r).currentBounded := by
  have hheld : s.holdRequest.currentBounded := h.of_coil s.holdRequest_coil
  unfold State.positionerAction
  dsimp only
  split
  case h_1 => exact ite_currentBounded h.unloadRequest h
  case h_2 => exact ite_currentBounded hheld.unloadRequest hheld
  case h_3 => exact h.unloadRequest
  case h_4 => exact h.retractRequest k

theorem State.currentBounded.ejectRetracts {s : State} (h : s.currentBounded) (k : FaultKind) :
    (s.ejectRetracts k).currentBounded := ite_currentBounded (h.retractRequest _) h

theorem State.currentBounded.act {s : State} (h : s.currentBounded) (k : FaultKind) (r : FaultRow)
    (latched : Bool) : (s.act k r latched).currentBounded := by
  have hc : ((if r.reaches then s.cancelRestarts else s).spindleAction r).currentBounded :=
    h.of_coil (by split <;> simp)
  have ha := (hc.positionerAction k r).ejectRetracts k
  exact ite_currentBounded (ha.of_coil (by simp)) ha

theorem State.currentBounded.latchFault {s : State} (h : s.currentBounded) (k : FaultKind)
    (sub : Option SubCause) (retries : Nat) (r : FaultRow) :
    (s.latchFault k sub retries r).currentBounded :=
  State.currentBounded.act (h.of_coil (by simp)) k r true

theorem State.currentBounded.retryFault {s : State} (h : s.currentBounded) (k : FaultKind)
    (sub : Option SubCause) (retries : Nat) (r : FaultRow) :
    (s.retryFault k sub retries r).currentBounded :=
  State.currentBounded.act (h.of_coil (by simp)) k r false

/-- A recognition moves the current by the action that it takes. -/
theorem State.currentBounded.recognise {s : State} (h : s.currentBounded) (k : FaultKind)
    (sub : Option SubCause) : (s.recognise k sub).currentBounded := by
  unfold State.recognise
  extract_lets row t fresh
  have ht : t.currentBounded := h.of_coil rfl
  have hfresh : fresh.currentBounded := by
    unfold fresh
    split
    case h_1 => exact ht
    case h_2 => exact ht.of_coil (by simp)
    case h_3 => exact ht.retryFault _ _ _ _
    case h_4 => exact ht.latchFault _ _ _ _
  split
  · exact hfresh
  · split
    · exact hfresh
    · exact hfresh
    · exact State.currentBounded.act (ht.of_coil (by simp)) _ _ _
    · exact ite_currentBounded (ht.retryFault _ _ _ _) (ht.latchFault _ _ _ _)

theorem State.currentBounded.sampleWarning {s : State} (h : s.currentBounded) (warning : Bool) :
    (s.sampleWarning warning).currentBounded := by
  unfold State.sampleWarning
  exact ite_currentBounded (ite_currentBounded (State.currentBounded.recognise (h.of_coil (by simp)) _ _)
    (h.of_coil (by simp))) (h.of_coil (by simp))

theorem State.currentBounded.observe {s : State} (h : s.currentBounded) (k : FaultKind) (n : Nat)
    (put : Nat → Spindle → Spindle) : (s.observe k n put).currentBounded :=
  ite_currentBounded (State.currentBounded.recognise (h.of_coil (by simp)) _ _) (h.of_coil (by simp))

theorem State.currentBounded.seekTimerExpires {s : State} (h : s.currentBounded) :
    s.seekTimerExpires.currentBounded := by
  unfold State.seekTimerExpires
  extract_lets unloading n raise t u
  have ht : t.currentBounded := h.of_coil rfl
  exact ite_currentBounded (enterToRamp_currentBounded _) (ite_currentBounded (ht.recognise _ _) ht)

theorem State.currentBounded.boundaryCounts {s : State} (h : s.currentBounded) :
    s.boundaryCounts.currentBounded := by
  have hd : s.countDelays.currentBounded := h.of_coil s.countDelays_coil
  exact ite_currentBounded (ite_currentBounded hd.seekTimerExpires (hd.of_coil rfl)) hd

/-! ## Servo samples and seeks -/

/-- The seek computation clamps I_raw (R84). -/
theorem State.currentBounded.seekCompute {s : State} (h : s.currentBounded) :
    s.seekCompute.currentBounded := by
  unfold State.seekCompute
  dsimp only
  split
  · split
    · exact ite_currentBounded (State.currentBounded.recognise (currentBounded_of_clamped rfl) _ _)
        (currentBounded_of_clamped rfl)
    · exact currentBounded_of_clamped rfl
  · exact h

@[simp] theorem State.enterSettling_coil (s : State) : s.enterSettling.coil = s.coil := rfl

@[simp] theorem State.enterTracking_coil (s : State) : s.enterTracking.coil = s.coil := by
  unfold State.enterTracking
  dsimp only
  repeat' split
  all_goals simp

theorem State.currentBounded.startSeek {s : State} (h : s.currentBounded) (req : Requester)
    (cylinder head : Nat) : (s.startSeek req cylinder head).currentBounded :=
  ite_currentBounded (h.of_coil (by simp)) (State.currentBounded.seekCompute (h.of_coil (by simp)))

/-- A sample in SETTLING sets a current by the following law, which clamps it (R65), or by a seek
computation. -/
theorem State.currentBounded.settleSample {s : State} (h : s.currentBounded) (f : Fix) :
    (s.settleSample f).currentBounded := by
  unfold State.settleSample
  split
  · exact h
  next target _ =>
    extract_lets i good n u i' u' v
    have hu : u.currentBounded := currentBounded_of_clamped rfl
    have hu' : u'.currentBounded := currentBounded_of_clamped rfl
    have hv : (if s.pos.timerOn then v else v.startSeekTimer).currentBounded :=
      ite_currentBounded (h.of_coil rfl) (h.of_coil rfl)
    exact ite_currentBounded (ite_currentBounded (hu.of_coil (by simp)) hu)
      (ite_currentBounded (ite_currentBounded (hu'.of_coil (by simp)) hu') hv.seekCompute)

theorem State.currentBounded.trackSlip {s : State} (h : s.currentBounded) (f : Fix) :
    (s.trackSlip f).currentBounded := by
  unfold State.trackSlip
  extract_lets t i u
  have hu : u.currentBounded := h.of_coil rfl
  exact ite_currentBounded (currentBounded_of_clamped rfl)
    (ite_currentBounded (State.currentBounded.settleSample (hu.of_coil (by simp)) f) hu.seekCompute)

theorem State.currentBounded.trackSample {s : State} (h : s.currentBounded) (f : Fix) :
    (s.trackSample f).currentBounded :=
  ite_currentBounded (currentBounded_of_clamped rfl) (h.trackSlip f)

theorem State.currentBounded.seekSample {s : State} (h : s.currentBounded) (f : Fix) :
    (s.seekSample f).currentBounded :=
  ite_currentBounded (State.currentBounded.settleSample (h.of_coil (by simp)) f) h.seekCompute

theorem State.currentBounded.validSample {s : State} (h : s.currentBounded) (cylinder : Nat) (pes : Int) :
    (s.validSample cylinder pes).currentBounded := by
  unfold State.validSample
  extract_lets f t
  have ht : t.currentBounded := h.of_coil rfl
  split
  case h_1 => exact State.currentBounded.settleSample (ht.of_coil (by simp)) f
  case h_2 => exact ht.settleSample f
  case h_3 => exact ht.trackSample f
  case h_4 => exact ht.seekSample f
  case h_5 => exact ite_currentBounded (enterToRamp_currentBounded _) ht.seekCompute
  case h_6 => exact ht

/-- A dropped sample repeats the current (R60). -/
theorem State.currentBounded.dropSample {s : State} (h : s.currentBounded) :
    s.dropSample.currentBounded :=
  ite_currentBounded (State.currentBounded.recognise (h.of_coil (by simp)) _ _) (h.of_coil (by simp))

theorem loadTimesOut_currentBounded (s : State) : s.loadTimesOut.currentBounded :=
  ((beginToRamp_currentBounded s).recognise _ _).rampReached

theorem State.currentBounded.takeSample {s : State} (h : s.currentBounded) (valid : Bool)
    (cylinder head : Nat) (pes : Int) : (s.takeSample valid cylinder head pes).currentBounded := by
  unfold State.takeSample
  extract_lets t
  have ht : t.currentBounded := h.of_coil rfl
  exact ite_currentBounded (ite_currentBounded (ht.validSample _ _) ht.dropSample) h

theorem State.currentBounded.nextWindow {s : State} (h : s.currentBounded) :
    s.nextWindow.currentBounded := by
  unfold State.nextWindow
  extract_lets t n u
  have ht : t.currentBounded := ite_currentBounded h.dropSample h
  have hu : u.currentBounded := ite_currentBounded
    (ite_currentBounded (loadTimesOut_currentBounded t) (ht.of_coil rfl)) ht
  exact ite_currentBounded (ite_currentBounded (hu.of_coil rfl) hu) h

@[simp] theorem State.headSwitch_coil (head : Nat) (s : State) : (s.headSwitch head).coil = s.coil := by
  unfold State.headSwitch
  repeat' split
  all_goals rfl

@[simp] theorem State.joinSeek_coil (req : Requester) (head : Nat) (s : State) :
    (s.joinSeek req head).coil = s.coil :=
  (State.onPos_coil fun _ => rfl).trans (s.headSwitch_coil head)

theorem State.currentBounded.seekRequest {s : State} (h : s.currentBounded) (req : Requester)
    (cylinder head : Nat) : BoundedAnswer (s.seekRequest req cylinder head) := by
  have hr : (s.replaceSeek req).currentBounded := h.of_coil (by simp)
  have hj : (s.joinSeek req head).currentBounded := h.of_coil (by simp)
  unfold State.seekRequest
  extract_lets same
  split
  · exact boundedAnswer_none
  · split
    case h_1 => exact boundedAnswer_some (ite_currentBounded (h.of_coil (by simp)) (h.startSeek _ _ _))
    case h_2 => exact boundedAnswer_some (ite_currentBounded hj (hr.startSeek _ _ _))
    case h_3 => exact boundedAnswer_some (ite_currentBounded hj (hr.of_coil (by simp)))
    case h_4 => exact boundedAnswer_none

/-! ## The Transfer Engine and the record operations -/

theorem State.currentBounded.approach {s : State} (h : s.currentBounded) (cylinder head : Nat) :
    BoundedAnswer (s.approach cylinder head) := by
  unfold State.approach
  repeat' split
  · exact boundedAnswer_some h
  · exact boundedAnswer_some (h.of_coil (by simp))
  · exact h.seekRequest _ _ _

theorem State.currentBounded.engineSeek {s : State} (h : s.currentBounded) :
    s.engineSeek.currentBounded := by
  unfold State.engineSeek
  split
  · exact h
  · extract_lets t
    have ht : t.currentBounded := h.of_coil rfl
    split
    next u hu => exact ht.approach _ _ u hu
    next => exact ht.of_coil (by simp)

theorem State.currentBounded.takeBlock {s : State} (h : s.currentBounded) :
    s.takeBlock.currentBounded := by
  unfold State.takeBlock
  split
  · exact State.currentBounded.engineSeek (h.of_coil (by simp))
  · exact h.of_coil (by simp)

theorem State.currentBounded.finishBlock {s : State} (h : s.currentBounded) :
    s.finishBlock.currentBounded := by
  unfold State.finishBlock
  split
  · exact h.of_coil (by simp)
  · exact ite_currentBounded (State.currentBounded.takeBlock (h.of_coil (by simp)))
      (h.of_coil (by simp))

theorem State.currentBounded.unrecoverable {s : State} (h : s.currentBounded) (slot : Option Nat) :
    (s.unrecoverable slot).currentBounded := by
  unfold State.unrecoverable
  dsimp only
  split
  · exact h.of_coil (by simp)
  · exact State.currentBounded.finishBlock (h.of_coil (by simp))
  · exact h.of_coil (by simp)

theorem State.currentBounded.readFails {s : State} (h : s.currentBounded) :
    s.readFails.currentBounded := by
  unfold State.readFails
  dsimp only
  split
  · split <;> exact h.of_coil (by simp)
  · exact h.unrecoverable none

theorem State.currentBounded.recordSeek {s : State} (h : s.currentBounded) :
    s.recordSeek.currentBounded := by
  unfold State.recordSeek
  split
  next t ht => exact h.seekRequest _ _ _ t ht
  next => exact h.of_coil (by simp)

theorem State.currentBounded.startRecordRead {s : State} (h : s.currentBounded) :
    s.startRecordRead.currentBounded := State.currentBounded.recordSeek (h.of_coil (by simp))

theorem State.currentBounded.startWriteBack {s : State} (h : s.currentBounded) (who : Who) :
    (s.startWriteBack who).currentBounded := by
  unfold State.startWriteBack
  split
  · exact h
  · exact State.currentBounded.recordSeek (h.of_coil (by simp))

/-! ## The reactions -/

/-- A rule whose every answer keeps the law. -/
def KeepsBound (r : State → Option State) : Prop := ∀ s : State, s.currentBounded → BoundedAnswer (r s)

theorem reactOwnUnload_bounded : KeepsBound reactOwnUnload := fun _ h =>
  boundedAnswer_guarded h.beginUnload

theorem reactFlight_bounded : KeepsBound reactFlight := fun s h => by
  unfold reactFlight
  repeat' split
  · exact boundedAnswer_none
  · exact boundedAnswer_guarded (h.of_coil (by simp))
  · exact boundedAnswer_guarded (h.of_coil (by simp))

theorem reactRecordLost_bounded : KeepsBound reactRecordLost := fun _ h =>
  boundedAnswer_guarded (h.of_coil (by simp))

theorem reactStopCheck_bounded : KeepsBound reactStopCheck := fun _ h =>
  boundedAnswer_guarded (h.of_coil (by simp))

theorem reactRelease_bounded : KeepsBound reactRelease := fun _ h =>
  boundedAnswer_guarded (h.of_coil (by simp))

theorem reactEjecting_bounded : KeepsBound reactEjecting := fun _ h =>
  boundedAnswer_guarded (h.of_coil (by simp))

theorem reactStopped_bounded : KeepsBound reactStopped := fun s h => by
  unfold reactStopped
  repeat' split
  · exact boundedAnswer_some (h.of_coil (by simp))
  · exact boundedAnswer_some (h.of_coil (by simp))
  · exact boundedAnswer_some (h.of_coil (by simp))
  · exact boundedAnswer_none
  · exact boundedAnswer_none

theorem reactParked_bounded : KeepsBound reactParked := fun s h => by
  unfold reactParked
  repeat' split
  · exact boundedAnswer_some (h.of_coil (by simp))
  · exact boundedAnswer_some (h.of_coil (by simp))
  · exact boundedAnswer_some (h.of_coil (by simp))
  · exact boundedAnswer_none
  · exact boundedAnswer_none

theorem reactEjectParked_bounded : KeepsBound reactEjectParked := fun _ h =>
  boundedAnswer_guarded (ite_currentBounded (h.of_coil (by simp)) (h.of_coil (by simp)))

theorem reactBrake_bounded : KeepsBound reactBrake := fun _ h =>
  boundedAnswer_guarded (h.of_coil rfl)

theorem reactStart_bounded : KeepsBound reactStart := fun _ h =>
  boundedAnswer_guarded (h.of_coil rfl)

theorem reactLoad_bounded : KeepsBound reactLoad := fun s _ =>
  boundedAnswer_guarded (enterLoading_currentBounded s)

theorem reactWorkCut_bounded : KeepsBound reactWorkCut := fun s h => by
  unfold reactWorkCut
  split
  · exact boundedAnswer_guarded (h.of_coil (by simp))
  · exact boundedAnswer_none

theorem reactEnd_bounded : KeepsBound reactEnd := fun s h => by
  unfold reactEnd
  split
  · exact boundedAnswer_guarded (ite_currentBounded (h.of_coil (by simp)) (h.of_coil (by simp)))
  · exact boundedAnswer_none

theorem workCartridge_bounded (w : SpinUpWork) : KeepsBound (workCartridge w) := fun s h => by
  unfold workCartridge
  split
  · exact boundedAnswer_some (h.of_coil (by simp))
  · exact boundedAnswer_some (h.of_coil (by simp))
  · exact boundedAnswer_some (h.of_coil (by simp))
  · exact boundedAnswer_none

theorem workSpindle_bounded (w : SpinUpWork) : KeepsBound (workSpindle w) := fun s h => by
  unfold workSpindle
  split
  · exact boundedAnswer_some (h.of_coil (by simp))
  · exact boundedAnswer_guarded (h.of_coil (by simp))

theorem workHeads_bounded (w : SpinUpWork) : KeepsBound (workHeads w) := fun s h => by
  unfold workHeads
  repeat' split
  · exact boundedAnswer_some (h.of_coil (by simp))
  · exact boundedAnswer_some (h.of_coil (by simp))
  · exact boundedAnswer_guarded (h.of_coil (by simp))

theorem workRecord_bounded (w : SpinUpWork) : KeepsBound (workRecord w) := fun s h => by
  unfold workRecord
  repeat' split
  · exact boundedAnswer_none
  · exact boundedAnswer_some (h.of_coil (by simp))
  · exact boundedAnswer_guarded h.startRecordRead
  · exact boundedAnswer_some (h.of_coil (by simp))
  · exact boundedAnswer_some (h.of_coil (by simp))

theorem reactWork_bounded : KeepsBound reactWork := fun s h => by
  unfold reactWork
  repeat' split
  · exact boundedAnswer_none
  · exact boundedAnswer_some (h.of_coil (by simp))
  · exact workCartridge_bounded _ s h
  · exact workSpindle_bounded _ s h
  · exact workHeads_bounded _ s h
  · exact workRecord_bounded _ s h

theorem reactReadDue_bounded : KeepsBound reactReadDue := fun _ h =>
  boundedAnswer_guarded (ite_currentBounded h.startRecordRead (h.of_coil (by simp)))

theorem reactReached_bounded : KeepsBound reactReached := fun s h => by
  unfold reactReached
  split
  · exact boundedAnswer_guarded (h.of_coil (by simp))
  · exact boundedAnswer_none

theorem reactRecordSeek_bounded : KeepsBound reactRecordSeek := fun _ h =>
  boundedAnswer_guarded h.recordSeek

theorem reactRecordSlot_bounded : KeepsBound reactRecordSlot := fun s h => by
  unfold reactRecordSlot
  split
  · exact boundedAnswer_guarded (h.of_coil (by simp))
  · exact boundedAnswer_none

theorem reactEngine_bounded : KeepsBound reactEngine := fun s h => by
  unfold reactEngine
  repeat' split
  · exact boundedAnswer_none
  · exact boundedAnswer_none
  · exact boundedAnswer_some (h.of_coil (by simp))
  · exact boundedAnswer_guarded h.engineSeek
  · exact boundedAnswer_guarded (h.of_coil (by simp))

theorem reactDrain_bounded : KeepsBound reactDrain := fun s h => by
  unfold reactDrain
  split
  · exact boundedAnswer_guarded (h.of_coil (by simp))
  · exact boundedAnswer_none

theorem reactDown_bounded (who : Who) : KeepsBound (reactDown who) := fun s h => by
  have go (x : DownStep) : (s.onDowns fun d => d.at (some x) who).currentBounded := h.of_coil (by simp)
  unfold reactDown
  dsimp only
  repeat' split
  · exact boundedAnswer_some (go .ask)
  · exact boundedAnswer_guarded ((go .writeBack).startWriteBack who)
  · exact boundedAnswer_some (h.of_coil (by simp))
  · exact boundedAnswer_some (go .unload)
  · exact boundedAnswer_some (go .unload).unloadRequest
  · exact boundedAnswer_none

theorem ejectFlush_bounded (e : EjectRecord) : KeepsBound (ejectFlush e) := fun s h => by
  unfold ejectFlush
  dsimp only
  repeat' split
  · exact boundedAnswer_some (h.of_coil (by simp))
  · exact boundedAnswer_some (h.of_coil (by simp))
  · exact boundedAnswer_guarded (State.currentBounded.startWriteBack (h.of_coil (by simp)) _)
  · exact boundedAnswer_some (h.of_coil (by simp))
  · exact boundedAnswer_none

theorem reactEject_bounded : KeepsBound reactEject := fun s h => by
  unfold reactEject
  repeat' split
  · exact boundedAnswer_none
  · exact boundedAnswer_guarded (h.of_coil (by simp))
  · exact ejectFlush_bounded _ s h
  · exact boundedAnswer_guarded h.unloadRequest
  · exact boundedAnswer_none

theorem reactBegin_bounded : KeepsBound reactBegin := fun s h => by
  unfold reactBegin
  split
  · exact boundedAnswer_none
  · exact boundedAnswer_guarded (ite_currentBounded (h.of_coil (by simp)) (h.of_coil (by simp)))

theorem reactStranded_bounded : KeepsBound reactStranded := fun s h => by
  unfold reactStranded
  split
  · exact boundedAnswer_none
  · exact boundedAnswer_guarded (h.of_coil (by simp))

theorem State.currentBounded.runSeek {s : State} (h : s.currentBounded) (c : Nat) :
    (s.runSeek c).currentBounded := by
  unfold State.runSeek
  extract_lets here t
  have ht : t.currentBounded := h.of_coil rfl
  repeat' split
  · exact ht.of_coil (by simp)
  next u hu => exact ht.seekRequest _ _ _ u hu
  · exact ht.of_coil (by simp)

theorem State.currentBounded.runFlush {s : State} (h : s.currentBounded) : s.runFlush.currentBounded :=
  ite_currentBounded (State.currentBounded.startWriteBack (h.of_coil (by simp)) _) (h.of_coil (by simp))

theorem reactReady_bounded : KeepsBound reactReady := fun s h => by
  unfold reactReady
  split
  · exact boundedAnswer_none
  · refine boundedAnswer_guarded ?_
    repeat' split
    · exact h.of_coil (by simp)
    · exact h.of_coil (by simp)
    · exact h.runSeek _
    · exact h.of_coil (by simp)
    · exact h.runFlush
    · exact h.of_coil (by simp)

theorem reactTransfer_bounded : KeepsBound reactTransfer := fun _ h =>
  boundedAnswer_guarded (State.currentBounded.takeBlock (h.of_coil (by simp)))

/-- Every reaction keeps the law. -/
theorem rules_bounded : ∀ r ∈ rules, KeepsBound r := by
  simp only [rules, List.forall_mem_cons]
  exact ⟨reactOwnUnload_bounded, reactFlight_bounded, reactRecordLost_bounded, reactStopCheck_bounded,
    reactRelease_bounded, reactEjecting_bounded, reactStopped_bounded, reactParked_bounded,
    reactEjectParked_bounded, reactBrake_bounded, reactStart_bounded, reactLoad_bounded,
    reactWorkCut_bounded, reactEnd_bounded, reactWork_bounded, reactReadDue_bounded, reactReached_bounded,
    reactRecordSeek_bounded, reactRecordSlot_bounded, reactEngine_bounded, reactDrain_bounded,
    reactDown_bounded _, reactDown_bounded _, reactDown_bounded _, reactEject_bounded, reactBegin_bounded,
    reactStranded_bounded, reactReady_bounded, reactTransfer_bounded, nofun⟩

theorem State.currentBounded.settle {s : State} (h : s.currentBounded) : s.settle.currentBounded :=
  settle_invariant (fun r hr s t _ ht hs => rules_bounded r hr s hs t ht) h

theorem State.currentBounded.event {s : State} (h : s.currentBounded) : s.event.currentBounded :=
  h.settle.of_coil s.settle.commit_coil

/-- An event whose effect leaves the coil as it is. -/
theorem State.currentBounded.event_of_coil {s t : State} (h : s.currentBounded) (e : t.coil = s.coil) :
    t.event.currentBounded := (h.of_coil e).event

/-! ## The events -/

theorem State.currentBounded.rangeIndex {s : State} (h : s.currentBounded) (measured : Bool) :
    (s.rangeIndex measured).currentBounded := by
  unfold State.rangeIndex
  extract_lets t
  have ht : t.currentBounded := h.of_coil rfl
  exact ite_currentBounded (ite_currentBounded (ht.of_coil (by simp)) (ht.observe _ _ _)) ht

theorem State.currentBounded.indexByState {s : State} (h : s.currentBounded) (measured : Bool) :
    (s.indexByState measured).currentBounded := by
  unfold State.indexByState
  split
  case h_4 => exact (h.rangeIndex measured).of_coil (by simp)
  case h_5 => exact h.rangeIndex measured
  all_goals exact h.of_coil (by simp)

theorem State.currentBounded.indexArrives {s : State} (h : s.currentBounded) (timer : Nat)
    (warning : Bool) : (s.indexArrives timer warning).currentBounded := by
  unfold State.indexArrives
  extract_lets measured watched t u v w
  have ht : t.currentBounded := h.of_coil rfl
  have hu : u.currentBounded := ite_currentBounded ht ht.takeTables
  have hv : v.currentBounded := hu.boundaryCounts.of_coil (by simp [v])
  exact ((hv.indexByState measured).sampleWarning warning).of_coil (by simp [w])

theorem State.currentBounded.stoppedBoundary {s : State} (h : s.currentBounded) (warning : Bool) :
    (s.stoppedBoundary warning).currentBounded := by
  unfold State.stoppedBoundary
  extract_lets watched t u
  have ht : t.currentBounded := h.of_coil rfl
  exact (ht.boundaryCounts.sampleWarning warning).of_coil (by simp [u])

theorem State.currentBounded.senseCurrent {s : State} (h : s.currentBounded) (high : Bool) :
    (s.senseCurrent high).currentBounded :=
  ite_currentBounded (ite_currentBounded (h.observe _ _ _) (h.of_coil (by simp)))
    (ite_currentBounded (h.of_coil (by simp)) h)

theorem State.currentBounded.wedge {s : State} (h : s.currentBounded) (high : Bool) :
    (s.wedge high).currentBounded :=
  (State.currentBounded.senseCurrent (h.of_coil (by simp)) high).nextWindow

theorem State.currentBounded.expire {s : State} (h : s.currentBounded) (x : Option Timer)
    {act : State → State} (hact : ∀ t : State, t.currentBounded → (act t).currentBounded) :
    (s.expire x act).currentBounded := by
  obtain ⟨-, he⟩ | ⟨y, -, he⟩ := expire_cases x act s <;> rw [he]
  · exact h
  · exact (hact _ (h.of_coil (by simp))).event

theorem State.currentBounded.unloadLate {s : State} (h : s.currentBounded) :
    s.unloadLate.currentBounded :=
  ite_currentBounded (State.currentBounded.recognise (h.of_coil (by simp)) _ _) (h.of_coil (by simp))

theorem State.currentBounded.doorForced {s : State} (h : s.currentBounded) :
    s.doorForced.currentBounded := by
  unfold State.doorForced
  extract_lets k t u v left w x y
  have hy : y.currentBounded := h.of_coil (by simp [t, u, v, w, x, y])
  exact (hy.retractRequest k).of_coil (by simp)

theorem State.currentBounded.sensorAbsent {s : State} (h : s.currentBounded) :
    s.sensorAbsent.currentBounded := by
  unfold State.sensorAbsent
  extract_lets t
  have ht : t.currentBounded := h.of_coil rfl
  split
  · exact ht
  · split
    case h_1 => exact ht
    case h_2 => exact ht.of_coil (by simp)
    case h_6 => exact ht.of_coil (by simp [State.cartridgeLeft])
    all_goals exact ht.doorForced

/-! ## Sectors -/

theorem State.currentBounded.writeArrives {s : State} (h : s.currentBounded) (t : Byte) :
    (s.writeArrives t).currentBounded := by
  unfold State.writeArrives State.deferWrite
  repeat' split
  · exact h.of_coil (by simp)
  · exact h.of_coil (by simp)
  · exact h.unrecoverable _
  · exact h.of_coil (by simp)

theorem State.currentBounded.transferArrives {s : State} (h : s.currentBounded) (n : Nat) :
    (s.transferArrives n).currentBounded := by
  unfold State.transferArrives
  dsimp only
  repeat' split
  · exact h.of_coil (by simp)
  · exact h.writeArrives _
  · exact h.of_coil (by simp)
  · exact h
  · exact h

theorem State.currentBounded.sectorArrives {s : State} (h : s.currentBounded) (n : Nat) :
    (s.sectorArrives n).currentBounded := by
  unfold State.sectorArrives
  repeat' split
  · exact h
  · exact h.of_coil (by simp)
  · exact h.of_coil (by simp)
  · exact h.transferArrives n

theorem State.currentBounded.flightEnds {s : State} (h : s.currentBounded) (f : Flight) (good : Bool)
    (data : List Byte) : (s.flightEnds f good data).currentBounded := by
  unfold State.flightEnds State.readEnds State.verifyEnds State.writeEnds
  extract_lets ok t
  have ht : t.currentBounded := h.of_coil rfl
  repeat' split
  · exact ht.of_coil (by simp)
  · exact State.currentBounded.finishBlock (ht.of_coil (by simp))
  · exact State.currentBounded.readFails (ht.of_coil (by simp))
  · exact State.currentBounded.finishBlock (ht.of_coil (by simp))
  · exact ht.readFails
  · exact State.currentBounded.finishBlock (ht.of_coil (by simp))
  · exact ht.of_coil (by simp)
  · exact ht.of_coil (by simp)
  · exact ht.of_coil (by simp)

theorem State.currentBounded.sectorEnds {s : State} (h : s.currentBounded) (good : Bool)
    (data : List Byte) : (s.sectorEnds good data).currentBounded := by
  unfold State.sectorEnds
  split
  · exact h
  · exact h.flightEnds _ _ _

/-! ## The commands -/

/-- A COMMAND packet keeps the law where its owner does. -/
theorem State.currentBounded.command {s : State} (h : s.currentBounded) (i : Instr)
    {act : State → State} (hact : ∀ t : State, t.currentBounded → (act t).currentBounded) :
    (s.command i act).currentBounded := by
  have whole (x : Header) : (s.wholePacket x act).currentBounded := by
    obtain ⟨-, he⟩ | ⟨-, he⟩ := wholePacket_cases x act s <;> rw [he]
    · exact h.of_coil (by simp)
    · exact hact s h
  obtain he | ⟨tag, p, -, ⟨-, ⟨-, ⟨-, he⟩ | ⟨-, he⟩⟩ | ⟨-, he⟩⟩ | ⟨-, he⟩⟩ :=
    command_cases i act s <;> rw [he]
  · exact h
  · exact h.of_coil (by simp)
  · exact whole _
  · exact hact _ (h.of_coil (by simp))
  · exact (whole (commandHeader tag p)).of_coil (by simp)

/-- A COMMAND packet whose owner leaves the coil as it is. -/
theorem State.currentBounded.command_of_coil {s : State} (h : s.currentBounded) (i : Instr)
    {act : State → State} (hact : ∀ t, (act t).coil = t.coil) : (s.command i act).currentBounded :=
  h.command i fun t ht => ht.of_coil (hact t)

theorem State.currentBounded.enqueue {s : State} (h : s.currentBounded) (t : Byte) (c : MediumCmd) :
    (s.enqueue t c).currentBounded := by
  unfold State.enqueue
  split
  · exact h.of_coil (by simp)
  · exact State.currentBounded.settle (h.of_coil (by simp))

theorem State.currentBounded.abort {s : State} (h : s.currentBounded) (t target : Byte)
    (immediate : Bool) : (s.abort t target immediate).currentBounded := by
  unfold State.abort
  split
  · exact h.of_coil (by simp)
  · exact State.currentBounded.settle (ite_currentBounded (h.of_coil (by simp)) (h.of_coil (by simp)))

theorem State.currentBounded.ejectCommand {s : State} (h : s.currentBounded) (t : Byte)
    (mode : EjectMode) (force : Bool) : (s.ejectCommand t mode force).currentBounded := by
  unfold State.ejectCommand
  repeat' split
  · exact h.of_coil (by simp)
  · exact State.currentBounded.settle (h.of_coil (by simp))
  · exact h.of_coil (by simp)
  · exact h.of_coil (by simp)
  · exact State.currentBounded.settle (h.of_coil (by simp))

theorem State.currentBounded.clearFaults {s : State} (h : s.currentBounded) (t : Byte) :
    (s.clearFaults t).currentBounded := State.currentBounded.settle (h.of_coil (by simp))

/-! ## Every instruction -/

/-- Heads off the ramp at power-on are retracted with the default Ilim (R77). -/
theorem powerOn_currentBounded (cause : ResetCause) (present protect park turn bus : Bool)
    (waiting : List Instr) :
    (State.powerOn cause present protect park turn bus waiting).currentBounded := by
  cases park with
  | true => exact Nat.zero_le _
  | false => exact (show (-1600 : Int).natAbs ≤ 1600 by decide)

@[simp] theorem State.coastDown_coil (s : State) : s.coastDown.coil = s.coil := by
  simp [State.coastDown]

@[simp] theorem State.stopTransfers_coil (s : State) : s.stopTransfers.coil = s.coil := by
  simp [State.stopTransfers]

@[simp] theorem State.abandonPackets_coil (s : State) : s.abandonPackets.coil = s.coil := rfl

theorem State.currentBounded.supplyLow {s : State} (h : s.currentBounded) :
    s.completes .supplyLow State.currentBounded := by
  have hr : s.supplyRecord.currentBounded := h.of_coil s.supplyRecord_coil
  refine ⟨_, rfl, ite_currentBounded hr ?_⟩
  extract_lets t u
  have ht : t.currentBounded := hr.of_coil (by simp [t])
  have hu : u.currentBounded := ht
  exact (hu.retractRequest .supplyLow).of_coil (by simp)

/-- Every instruction completes with the law kept. -/
theorem State.currentBounded.completes {s : State} (h : s.currentBounded) (i : Instr) :
    s.completes i State.currentBounded := by
  cases i with
  | powerOnReset present protect park => exact ⟨_, rfl, powerOn_currentBounded _ _ _ _ _ _ _⟩
  | supplyLow => exact h.supplyLow
  | overTempShutdown => exact ⟨_, rfl, (h.recognise _ _).event⟩
  | overTempShutdownCeases => exact ⟨_, rfl, h.of_coil (by simp)⟩
  | busReset =>
    have hq : s.orphanWorks.dropQueue.resetHolds.currentBounded := h.of_coil (by simp)
    exact ⟨_, rfl, ite_currentBounded h
      (ite_currentBounded (h.of_coil (by simp)) (hq.resetTables.event_of_coil (by simp)))⟩
  | busResetRelease => exact ⟨_, rfl, ite_currentBounded (h.of_coil (by simp)) h⟩
  | indexArrival timer warning => exact ⟨_, rfl, (h.indexArrives timer warning).event⟩
  | stoppedRevolutionBoundary warning =>
    exact ⟨_, rfl, ite_currentBounded (h.stoppedBoundary warning).event h⟩
  | purgeComplete => exact ⟨_, rfl, ite_currentBounded (h.event_of_coil (by simp)) h⟩
  | wedgeTime high => exact ⟨_, rfl, (h.wedge high).event⟩
  | servoSample valid cylinder head pes => exact ⟨_, rfl, (h.takeSample valid cylinder head pes).event⟩
  | firstIndexWatchExpiry => exact ⟨_, rfl, h.expire _ fun t ht =>
      State.currentBounded.observe (ht.of_coil (by simp)) _ _ _⟩
  | spinUpTimerExpiry => exact ⟨_, rfl, h.expire _ fun t ht =>
      State.currentBounded.observe (ht.of_coil (by simp)) _ _ _⟩
  | lostIndexWatchExpiry => exact ⟨_, rfl, h.expire _ fun t ht =>
      State.currentBounded.observe (ht.of_coil (by simp)) _ _ _⟩
  | reversePhaseTimeout => exact ⟨_, rfl, ite_currentBounded (h.event_of_coil (by simp)) h⟩
  | stopWindowExpiry => exact ⟨_, rfl, h.expire _ fun _ ht => ht.enterStopped⟩
  | standbyExpiry =>
    -- by name: after `simp` the kernel would count the ticks of the standby period
    exact ⟨_, rfl, ite_currentBounded
      (h.event_of_coil ((State.onDowns_coil _ _).trans (State.elapse_coil _ _))) h⟩
  | loadTimeout => exact ⟨_, rfl, ite_currentBounded (loadTimesOut_currentBounded s).event h⟩
  | unloadWatchExpiry => exact ⟨_, rfl, h.expire _ fun _ ht => ht.unloadLate⟩
  | parkSensorOnRamp => exact ⟨_, rfl, h.parkOnRamp.event⟩
  | retractWindowExpiry => exact ⟨_, rfl, h.expire _ fun t _ => retractExpires_currentBounded t⟩
  | seekTimerExpiry => exact ⟨_, rfl, ite_currentBounded h.seekTimerExpires.event h⟩
  | retryDelayExpiry kind => exact ⟨_, rfl, ite_currentBounded (h.event_of_coil (by simp)) h⟩
  | recoveryWatchEnd kind => exact ⟨_, rfl, ite_currentBounded (h.event_of_coil (by simp)) h⟩
  | cartridgeSensorPresent protect => exact ⟨_, rfl, h.event_of_coil (by simp)⟩
  | cartridgeSensorAbsent => exact ⟨_, rfl, h.sensorAbsent.event⟩
  | ejectButtonPress => exact ⟨_, rfl, ite_currentBounded h (h.event_of_coil (by simp))⟩
  | ejectorPulseEnd => exact ⟨_, rfl, ite_currentBounded (h.event_of_coil (by simp)) h⟩
  | ejectWindowExpiry => exact ⟨_, rfl, ite_currentBounded h
      (h.expire _ fun _ ht => ht.of_coil (by simp))⟩
  | sectorArrival sector => exact ⟨_, rfl, (h.sectorArrives sector).event⟩
  | sectorEnd good data => exact ⟨_, rfl, (h.sectorEnds good data).event⟩
  | inboundPacketHeader kind tag length b4 b5 b6 =>
    exact ⟨_, rfl, ite_currentBounded (h.of_coil (by simp)) h⟩
  | inboundParityError place => exact ⟨_, rfl, ite_currentBounded (h.of_coil (by simp)) h⟩
  | turnNegated cut =>
    have hcut : (if s.supplyLow || s.dbi.busReset then s else s.cutPacket cut).currentBounded :=
      ite_currentBounded h (h.of_coil (by simp))
    exact ⟨_, rfl, ite_currentBounded (hcut.of_coil (by simp)) h⟩
  | turnAsserted => exact ⟨_, rfl, h.of_coil (by simp)⟩
  | outboundPacketAcked => exact ⟨_, rfl, h.event_of_coil (by simp)⟩
  | dataPacketIndex tag index =>
    refine ⟨_, rfl, ite_currentBounded ?_ h⟩
    split
    · exact ite_currentBounded (h.of_coil (by simp)) h
    · exact h
  | dataPacketEnd data =>
    refine ⟨_, rfl, ite_currentBounded ?_ h⟩
    split
    · exact h.event_of_coil (by simp)
    · exact h
  | discardedPacketEnd => exact ⟨_, rfl, ite_currentBounded (h.of_coil (by simp)) h⟩
  | read tag flags extents => exact ⟨_, rfl, h.command _ fun _ ht => ht.enqueue _ _⟩
  | write tag flags extents => exact ⟨_, rfl, h.command _ fun _ ht => ht.enqueue _ _⟩
  | verify tag flags extents => exact ⟨_, rfl, h.command _ fun _ ht => ht.enqueue _ _⟩
  | seek tag cylinder => exact ⟨_, rfl, h.command _ fun _ ht => ht.enqueue _ _⟩
  | spinUp tag => exact ⟨_, rfl, h.command _ fun _ ht => ht.enqueue _ _⟩
  | spinDown tag => exact ⟨_, rfl, h.command _ fun _ ht => ht.enqueue _ _⟩
  | flushRecord tag => exact ⟨_, rfl, h.command _ fun _ ht => ht.enqueue _ _⟩
  | reassignBlock tag lba => exact ⟨_, rfl, h.command _ fun _ ht => ht.enqueue _ _⟩
  | abort tag target mode =>
    refine ⟨_, rfl, h.command _ fun t ht => ?_⟩
    split
    · exact ht.abort _ _ _
    · exact ht.of_coil (by simp)
  | eject tag mode force =>
    refine ⟨_, rfl, h.command _ fun t ht => ?_⟩
    split
    · exact ht.ejectCommand _ _ _
    · exact ht.of_coil (by simp)
  | clearFaults tag => exact ⟨_, rfl, h.command _ fun _ ht => ht.clearFaults tag⟩
  | holdEject tag => exact ⟨_, rfl, h.command_of_coil _ fun t => t.holdEject_coil tag⟩
  | releaseEject tag => exact ⟨_, rfl, h.command_of_coil _ fun t => t.releaseEject_coil tag⟩
  | readFaults tag => exact ⟨_, rfl, h.command_of_coil _ fun _ => rfl⟩
  | loadTable tag selector body => exact ⟨_, rfl, h.command _ fun _ ht => ht.loadTable tag selector body⟩
  | readTable tag selector copy first =>
    refine ⟨_, rfl, h.command_of_coil _ fun t => ?_⟩
    repeat' split
    all_goals simp
  | tableHold tag value =>
    refine ⟨_, rfl, h.command _ fun t ht => ?_⟩
    split
    · exact ht.tableHold tag _
    · exact ht.of_coil (by simp)
  | latch tag groups clear =>
    refine ⟨_, rfl, h.command_of_coil _ fun t => ?_⟩
    split <;> simp
  | readLatched tag => exact ⟨_, rfl, h.command_of_coil _ fun _ => rfl⟩
  | status tag => exact ⟨_, rfl, h.command_of_coil _ fun _ => rfl⟩
  | attentionAck tag => exact ⟨_, rfl, h.command_of_coil _ fun t => t.attentionAck_coil tag⟩
  | endAttention tag source =>
    refine ⟨_, rfl, h.command_of_coil _ fun t => ?_⟩
    split <;> simp
  | setAttentionMask tag mask => exact ⟨_, rfl, h.command_of_coil _ fun _ => rfl⟩

theorem State.currentBounded.step {s t : State} (h : s.currentBounded)
    (hstep : Machine.step s = .next t) : t.currentBounded := by
  unfold Machine.step at hstep
  split at hstep
  next =>
    obtain rfl := Host.Outcome.next.inj hstep
    exact h.of_coil rfl
  next i rest _ =>
    have hrest : ({ s with pending := rest } : State).currentBounded := h
    obtain ⟨u, hu, hbounded⟩ := hrest.completes i
    obtain rfl := Host.Outcome.next.inj (hu.symm.trans hstep)
    exact hbounded

/-! ## The demand speed -/

/-- On the way from a row to the next one the interpolated speed does not pass the next row's. -/
theorem interpolation_le {a b x n : Nat} (hab : a ≤ b) (hx : x ≤ n) : a + (b - a) * x / n ≤ b := by
  have hq : (b - a) * x / n ≤ b - a := Nat.div_le_of_le_mul (by
    rw [Nat.mul_comm n]
    exact Nat.mul_le_mul_left _ hx)
  omega

theorem rowsRise_cons_cons {r q : ProfileRow} {rest : List ProfileRow} :
    rowsRise (r :: q :: rest) = true ↔
      r.dist < q.dist ∧ r.speed ≤ q.speed ∧ rowsRise (q :: rest) = true := by
  simp [rowsRise, and_assoc]

/-- The speeds of a rising profile end with the largest. -/
theorem speed_le_last_of_rowsRise {r : ProfileRow} {rows : List ProfileRow}
    (h : rowsRise (r :: rows) = true) :
    r.speed ≤ ((r :: rows).getLast (List.cons_ne_nil r rows)).speed := by
  induction rows generalizing r with
  | nil => exact Nat.le_refl _
  | cons q rest ih =>
    obtain ⟨-, hspeed, hrest⟩ := rowsRise_cons_cons.mp h
    exact Nat.le_trans hspeed (ih hrest)

theorem demandSpeed_le_last {r : ProfileRow} {rows : List ProfileRow} (h : rowsRise (r :: rows) = true)
    (d : Nat) : demandSpeed (r :: rows) d ≤ ((r :: rows).getLast (List.cons_ne_nil r rows)).speed := by
  induction rows generalizing r with
  | nil => exact Nat.le_refl _
  | cons q rest ih =>
    obtain ⟨hdist, hspeed, hrest⟩ := rowsRise_cons_cons.mp h
    unfold demandSpeed
    split
    · exact ih hrest
    · exact Nat.le_trans (interpolation_le hspeed (by omega)) (speed_le_last_of_rowsRise hrest)

/-- The structural checks of R164 are among the limits of R161. -/
theorem rowsRise_of_inLimits {p : SeekProfile} (h : p.inLimits = true) : rowsRise p.rows = true := by
  simp only [SeekProfile.inLimits, profileOk, Bool.and_eq_true] at h
  obtain ⟨⟨⟨⟨⟨⟨⟨-, hrise⟩, -⟩, -⟩, -⟩, -⟩, -⟩, -⟩ := h
  exact hrise

/-- Settles O6: every instruction and every tick keep the bound of the current, and the bound of the demand
speed is by induction over the rows. -/
theorem currentStaysBounded : Obligations.CurrentStaysBounded := by
  refine ⟨fun s t h hstep => h.step hstep, fun p d hp => ?_⟩
  have hrise := rowsRise_of_inLimits hp
  cases hrows : p.rows with
  | nil => exact Nat.le_refl _
  | cons r rows =>
    simpa [List.getLast?_eq_some_getLast (List.cons_ne_nil r rows)] using
      demandSpeed_le_last (hrows ▸ hrise) d

end Sys2Proof.Machine
end

section
/-! PROOFS. The Attention Controller (chapter 11): the order of the sources (R189), the pending source and the
ATN line (R191, R192), and the three attention commands of a listening part (R190, R192, R193). -/

namespace Sys2Proof.Machine

/-! ## The order of the sources -/

@[simp] theorem Source.mem_all (x : Source) : x ∈ Source.all := by
  cases x <;> decide

@[simp] theorem sourceOf_code (x : Source) : sourceOf x.code = some x := by
  cases x <;> rfl

theorem Source.code_lt (x : Source) : x.code < 12 := by
  cases x <;> decide

theorem Source.code_injective {x y : Source} (h : x.code = y.code) : x = y := by
  have hxy : some x = some y := by rw [← sourceOf_code, h, sourceOf_code]
  exact Option.some.inj hxy

theorem Source.all_pairwise_code : Source.all.Pairwise fun x y => x.code < y.code := by
  decide

/-- A search through the sources finds the one with the lowest code, which is the most urgent (R189). -/
theorem Source.find?_all_eq_some {p : Source → Bool} {x : Source} :
    Source.all.find? p = some x ↔ p x = true ∧ ∀ y, p y = true → x.code ≤ y.code := by
  have lowest {z : Source} (hz : Source.all.find? p = some z) :
      p z = true ∧ ∀ y, p y = true → z.code ≤ y.code := by
    obtain ⟨hpz, before, after, hall, hbefore⟩ := List.find?_eq_some_iff_append.mp hz
    refine ⟨hpz, fun y hy => ?_⟩
    obtain ⟨-, hsuffix, -⟩ := List.pairwise_append.mp (hall ▸ Source.all_pairwise_code)
    have hmem : y ∈ before ++ z :: after := hall ▸ y.mem_all
    rcases List.mem_append.mp hmem with hb | hb
    · exact absurd hy (by simpa using hbefore y hb)
    · rcases List.mem_cons.mp hb with rfl | ha
      · exact Nat.le_refl _
      · exact Nat.le_of_lt (List.rel_of_pairwise_cons hsuffix ha)
  refine ⟨lowest, fun ⟨hpx, hmin⟩ => ?_⟩
  cases hz : Source.all.find? p with
  | none => exact absurd hpx (List.find?_eq_none.mp hz x x.mem_all)
  | some z =>
    obtain ⟨hpz, hzmin⟩ := lowest hz
    exact congrArg some (Source.code_injective (Nat.le_antisymm (hzmin x hpx) (hmin z hpz)))

theorem Source.find?_all_eq_none {p : Source → Bool} :
    Source.all.find? p = none ↔ ∀ y, ¬ p y = true := by
  simp

/-! ## Sets of sources -/

@[simp] theorem mem_withSource {l : List Source} {x y : Source} :
    y ∈ withSource l x ↔ y ∈ l ∨ y = x := by
  simp [withSource]

@[simp] theorem mem_withoutSource {l : List Source} {x y : Source} :
    y ∈ withoutSource l x ↔ y ∈ l ∧ y ≠ x := by
  simp [withoutSource]

@[simp] theorem mem_maskOf {m : BitVec 16} {x : Source} :
    x ∈ maskOf m ↔ m.getLsbD x.code = true := by
  simp [maskOf]

/-! ## The pending source and the ATN line -/

/-- An unmasked request that outranks every in-service source (R191). -/
def State.signals (s : State) (x : Source) : Prop :=
  s.requested x = true ∧ x ∉ s.atc.mask ∧ ∀ y ∈ s.atc.inService, x.code < y.code

theorem signals_iff {s : State} {x : Source} :
    (s.requested x && !s.atc.mask.contains x && s.outranks x) = true ↔ s.signals x := by
  simp [State.signals, State.outranks, and_assoc]

/-- The pending source is the most urgent one that signals (R192). -/
theorem pendingSource_eq_some {s : State} {x : Source} :
    s.pendingSource = some x ↔ s.signals x ∧ ∀ y, s.signals y → x.code ≤ y.code := by
  unfold State.pendingSource
  simp only [Source.find?_all_eq_some, signals_iff]

theorem pendingSource_eq_none {s : State} :
    s.pendingSource = none ↔ ∀ y, ¬ s.signals y := by
  unfold State.pendingSource
  simp only [Source.find?_all_eq_none, signals_iff]

theorem atn_iff {s : State} : s.atn = true ↔ ∃ x, s.signals x := by
  rw [State.atn, Option.isSome_iff_ne_none, ne_eq, pendingSource_eq_none]
  exact Classical.not_forall_not

/-- Settles O18: ATN is asserted while there is a pending source, and there is none exactly when no source
signals. -/
theorem attentionLine : Obligations.AttentionLine := fun _ => atn_iff

/-! ## The attention commands of a listening part -/

/-- The framing checks 1 to 5 of R178 pass a short COMMAND packet of a nonzero tag whose length is the one
that its code has. -/
theorem headerRefused_commandHeader {tag : Byte} {p : List Byte} (htag : tag ≠ 0) (hpos : 0 < p.length)
    (hshort : p.length ≤ 64) (hlen : commandLength (p.take 3) = some p.length) :
    headerRefused (commandHeader tag p) = false := by
  have hnonempty : p ≠ [] := List.length_pos_iff.mp hpos
  have htag' : ¬ tag = 0#8 := htag
  have hlong : ¬ 256 < p.length := by omega
  simp [headerRefused, commandHeader, htag', hnonempty, hlong, Nat.not_lt.mpr hshort, hlen]

/-- A listening part gives such a COMMAND packet to its owner. -/
theorem command_of_listens {i : Instr} {tag : Byte} {p : List Byte} (act : State → State) {s : State}
    (hs : s.listens = true) (htag : tag ≠ 0) (hp : commandPayload i = some (tag, p))
    (hpos : 0 < p.length) (hshort : p.length ≤ 64)
    (hlen : commandLength (p.take 3) = some p.length) : s.command i act = act s := by
  simp only [State.listens, Bool.and_eq_true, beq_iff_eq, Bool.not_eq_true'] at hs
  obtain ⟨⟨hreceive, hidle⟩, hroom⟩ := hs
  exact command_listening act hp hreceive hidle hroom
    (headerRefused_commandHeader htag hpos hshort hlen)

section
variable {s : State} {tag : Byte} (hs : s.listens = true) (htag : tag ≠ 0)
include hs htag

theorem exec_attentionAck_of_listens :
    exec (.attentionAck tag) s = .next (s.attentionAck tag) :=
  congrArg _ (command_of_listens _ hs htag rfl (by simp) (by simp) rfl)

theorem exec_endAttention_of_listed {source : Byte} {named : Option Source}
    (h : endSourceOf source = some named) :
    exec (.endAttention tag source) s = .next (s.endAttention tag named) :=
  congrArg _ ((command_of_listens _ hs htag rfl (by simp) (by simp) rfl).trans (by rw [h]))

theorem exec_endAttention_of_unlisted {source : Byte} (h : endSourceOf source = none) :
    exec (.endAttention tag source) s = .next (s.withReply tag .badPacket .empty) :=
  congrArg _ ((command_of_listens _ hs htag rfl (by simp) (by simp) rfl).trans (by rw [h]; rfl))

theorem exec_setAttentionMask_of_listens (m : BitVec 16) :
    exec (.setAttentionMask tag m) s =
      .next ((s.onAtc fun a => { a with mask := maskOf m }).reply tag .ok .empty) :=
  congrArg _ (command_of_listens _ hs htag rfl (by simp) (by simp [be16]) rfl)

end

/-! ## SET ATTENTION MASK -/

/-- The operand with a bit for each of the twelve sources masks them all (R190). -/
theorem getLsbD_4095_code (x : Source) : (4095 : BitVec 16).getLsbD x.code = true := by
  cases x <;> decide

/-- Settles O57: the command is the change of the mask and its REPLY, and with every source masked none
signals. -/
theorem maskSet : Obligations.MaskSet := by
  intro s tag m hs htag
  refine ⟨_, exec_setAttentionMask_of_listens hs htag m, fun _ => mem_maskOf, rfl, rfl, ?_, rfl⟩
  rintro rfl
  refine Bool.eq_false_iff.mpr fun hatn => ?_
  obtain ⟨x, -, hunmasked, -⟩ := atn_iff.mp hatn
  exact hunmasked (mem_maskOf.mpr (getLsbD_4095_code x))

/-! ## ATTENTION ACK -/

theorem attentionAck_of_none {s : State} (h : s.pendingSource = none) (tag : Byte) :
    s.attentionAck tag = s.withReply tag .ok (.source none) := by
  simp only [State.attentionAck, h]
  rfl

theorem attentionAck_of_some {s : State} {x : Source} (h : s.pendingSource = some x) (tag : Byte) :
    s.attentionAck tag = { s.withReply tag .ok (.source (some x)) with
      atc := { s.atc with
        requests := withoutSource s.atc.requests x
        inService := if s.tbs.params.autoEnd then s.atc.inService
          else withSource s.atc.inService x } } := by
  simp only [State.attentionAck, h]
  rfl

/-- Settles O55: the source that signals with the lowest code is the pending one. -/
theorem attentionAcked : Obligations.AttentionAcked := by
  intro s tag x hs htag signals
  have hexec := exec_attentionAck_of_listens hs htag
  refine ⟨fun hnone => ?_, fun hx hmin => ?_⟩
  · rw [hexec, attentionAck_of_none (pendingSource_eq_none.mpr hnone)]
  · rw [attentionAck_of_some (pendingSource_eq_some.mpr ⟨hx, hmin⟩)] at hexec
    refine ⟨_, hexec, rfl, fun _ => mem_withoutSource, fun y => ?_,
      rfl, rfl, rfl, rfl, rfl, rfl, rfl, rfl⟩
    cases s.tbs.params.autoEnd <;> simp

/-! ## END ATTENTION -/

theorem endSourceOf_of_code {b : Byte} {x : Source} (h : b.toNat = x.code) :
    endSourceOf b = some (some x) := by
  have hspecific : x.code ≠ 15 := by have := x.code_lt; omega
  simp [endSourceOf, h, hspecific]

theorem endSourceOf_nonSpecific : endSourceOf 15 = some none := rfl

theorem endSourceOf_of_unlisted {b : Byte} (hb : 11 < b.toNat) (hne : b ≠ 15) :
    endSourceOf b = none := by
  have hspecific : b.toNat ≠ 15 := fun h => hne (BitVec.eq_of_toNat_eq h)
  have hcode : sourceOf b.toNat = none := List.getElem?_eq_none hb
  simp [endSourceOf, hspecific, hcode]

theorem endedSource_named {s : State} {x : Source} (h : x ∈ s.atc.inService) :
    s.endedSource (some x) = some x := by
  simp [State.endedSource, h]

theorem endedSource_named_absent {s : State} {x : Source} (h : x ∉ s.atc.inService) :
    s.endedSource (some x) = none := by
  simp [State.endedSource, h]

/-- The non-specific form ends the in-service source with the lowest code (R193). -/
theorem endedSource_nonSpecific {s : State} {x : Source} (hx : x ∈ s.atc.inService)
    (hmin : ∀ y ∈ s.atc.inService, x.code ≤ y.code) : s.endedSource none = some x :=
  Source.find?_all_eq_some.mpr (by simpa using ⟨hx, hmin⟩)

theorem endedSource_of_empty {s : State} (h : s.atc.inService = []) : s.endedSource none = none := by
  simp [State.endedSource, h]

theorem endAttention_of_some {s : State} {named : Option Source} {x : Source}
    (h : s.endedSource named = some x) (tag : Byte) :
    s.endAttention tag named = { s.withReply tag .ok (.source (some x)) with
      atc := { s.atc with inService := s.atc.inService.filter fun y => y != x } } := by
  simp only [State.endAttention, h]
  rfl

theorem endAttention_of_none {s : State} {named : Option Source} (h : s.endedSource named = none)
    (tag : Byte) : s.endAttention tag named = s.withReply tag .ok (.source none) := by
  simp only [State.endAttention, h]
  rfl

/-- Settles O56, by what the source byte names: a source, the most urgent one, or nothing. -/
theorem attentionEnded : Obligations.AttentionEnded := by
  intro s tag source x hs htag after
  refine ⟨fun hcode hin => ?named, fun hcode hout => ?absent, ?urgent, ?empty,
    fun hbig hne => ?unlisted⟩
  case named =>
    rw [exec_endAttention_of_listed hs htag (endSourceOf_of_code hcode),
      endAttention_of_some (endedSource_named hin)]
  case absent =>
    rw [exec_endAttention_of_listed hs htag (endSourceOf_of_code hcode),
      endAttention_of_none (endedSource_named_absent hout)]
  case urgent =>
    rintro rfl hin hmin
    rw [exec_endAttention_of_listed hs htag endSourceOf_nonSpecific,
      endAttention_of_some (endedSource_nonSpecific hin hmin)]
  case empty =>
    rintro rfl hempty
    rw [exec_endAttention_of_listed hs htag endSourceOf_nonSpecific,
      endAttention_of_none (endedSource_of_empty hempty)]
  case unlisted =>
    exact exec_endAttention_of_unlisted hs htag (endSourceOf_of_unlisted hbig hne)

end Sys2Proof.Machine
end

section
/-! PROOFS. What the blocks can do to the parts of the state that the laws of the whole part are about: the
reply queue and the places reserved in it, the Command Queue, the fault list, the tables, the counts, the
cartridge record, the sector buffer. `Evolves s t` says it of two states once; every operation that blocks
use within an event is shown to evolve the state, in the order of the model's files, and each law's step
lemma follows from that. -/

namespace Sys2Proof.Machine

/-! ## The parts of the state -/

/-- The packets of the reply queue and the reserved places (R180). -/
def State.places (s : State) : Nat := s.dbi.replies.length + s.reserved

/-- What a queue entry keeps while it waits: its tag and its command. -/
def Entry.key (e : Entry) : Byte × MediumCmd := (e.tag, e.cmd)

/-- The kinds of the fault list, in its order. -/
def State.faultKinds (s : State) : List FaultKind := s.fsv.records.map FaultRecord.kind

/-- What R29 and R10 leave of an image while its cartridge stays. -/
structure Image.Keeps (a b : Image) : Prop where
  zones : b.zones = a.zones
  slips : b.slips = a.slips
  serial : b.serial = a.serial
  counter : a.nextAlternate ≤ b.nextAlternate

theorem Image.Keeps.refl (a : Image) : a.Keeps a := ⟨rfl, rfl, rfl, Nat.le_refl _⟩

theorem Image.Keeps.trans {a b c : Image} (h : a.Keeps b) (g : b.Keeps c) : a.Keeps c :=
  ⟨g.zones.trans h.zones, g.slips.trans h.slips, g.serial.trans h.serial,
    Nat.le_trans h.counter g.counter⟩

/-- A sector in flight runs on as the same kind with the same slot. -/
def Flight.RunsOn (f g : Flight) : Prop := g.kind = f.kind ∧ g.slot = f.slot

/-- The parts of the state that the laws are about. -/
structure Ledger where
  dbi : Bus
  queue : List Entry
  flight : Option Flight
  slots : List Slot
  hold : Nat
  media : Nat
  tags : Option (List Byte)
  recordState : RecordState
  image : Option Image
  op : RecordOp
  records : List FaultRecord
  tbs : TableStore
  counters : Counters
  supplyLow : Bool

def State.ledger (s : State) : Ledger where
  dbi := s.dbi
  queue := s.queue
  flight := s.eng.flight
  slots := s.slots
  hold := s.ccu.holdCount
  media := s.ccu.mediaChange
  tags := s.ccu.eject.map EjectRecord.tags
  recordState := s.record.state
  image := s.record.image
  op := s.record.op
  records := s.fsv.records
  tbs := s.tbs
  counters := s.counters
  supplyLow := s.supplyLow

@[simp] theorem State.ledger_dbi (s : State) : s.ledger.dbi = s.dbi := rfl
@[simp] theorem State.ledger_queue (s : State) : s.ledger.queue = s.queue := rfl
@[simp] theorem State.ledger_flight (s : State) : s.ledger.flight = s.eng.flight := rfl
@[simp] theorem State.ledger_slots (s : State) : s.ledger.slots = s.slots := rfl
@[simp] theorem State.ledger_op (s : State) : s.ledger.op = s.record.op := rfl
@[simp] theorem State.ledger_image (s : State) : s.ledger.image = s.record.image := rfl

/-! ## The laws as laws of those parts -/

/-- The reserved places of a queue and of the tags of an eject (R180). -/
def Ledger.places (l : Ledger) : Nat :=
  l.dbi.replies.length + (l.queue.length + (l.tags.map List.length).getD 0)

theorem places_eq (s : State) : s.places = s.ledger.places := by
  unfold State.places State.reserved Ledger.places State.ledger
  cases s.ccu.eject <;> rfl

/-- The ranges of the counts (R120, R128, R129, R169). -/
def Ledger.countsInRange (l : Ledger) : Prop :=
  l.hold ≤ 15 ∧ l.media ≤ 255 ∧ (∀ ts ∈ l.tags, ts.length ≤ 4) ∧
  l.counters.revolutionSlips ≤ Config.counterTop ∧ l.counters.readRetries ≤ Config.counterTop ∧
  l.counters.writeDeferrals ≤ Config.counterTop ∧ l.counters.sampleDrops ≤ Config.counterTop ∧
  l.counters.trackSlips ≤ Config.counterTop ∧ l.counters.seeksCompleted ≤ Config.counterTop

theorem countsInRange_iff {s : State} : s.countsInRange ↔ s.ledger.countsInRange := by
  unfold State.countsInRange Ledger.countsInRange State.ledger
  cases s.ccu.eject <;> simp

/-- R3 to R6 and R10 for the record unit's parts. -/
def Ledger.recordSound (l : Ledger) : Prop :=
  (∀ img ∈ l.image, img.sound) ∧ (l.recordState = .notRead → l.image = none) ∧
  (∀ r, l.op = .reading r → l.image = none ∧ r.got.length = Config.recordSectors ∧
    ∀ d ∈ r.got, ∀ b ∈ d, b.length = Config.sectorBytes) ∧
  (∀ w, l.op = .writing w → w.generation < 65536)

theorem recordSound_iff {s : State} : s.recordSound ↔ s.ledger.recordSound := Iff.rfl

/-- The state of a slot of the sector buffer. -/
def Ledger.slotState (l : Ledger) (i : Nat) : Option SlotState := (l.slots[i]?).map Slot.state

/-- R104 for the sector buffer before a supply-low, each law under its name. -/
structure Ledger.Accounted (l : Ledger) : Prop where
  filling : ∀ i, l.slotState i = some .filling →
    l.flight.bind Flight.slot = some i ∨ l.dbi.inb.slot = some i
  draining : ∀ i, l.slotState i = some .draining →
    l.flight.bind Flight.slot = some i ∨ l.dbi.out.slot = some i
  inb : ∀ i, l.dbi.inb.slot = some i → l.slotState i = some .filling
  out : ∀ i, l.dbi.out.slot = some i → l.slotState i = some .draining
  oneWay : l.dbi.inb.slot = none ∨ l.dbi.out.slot = none
  verify : ∀ f, l.flight = some f → f.kind = .verify → f.slot = none
  flight : ∀ f i, l.flight = some f → f.slot = some i →
    l.slotState i = some f.kind.moving ∧ l.dbi.inb.slot ≠ some i ∧ l.dbi.out.slot ≠ some i
  op : ∀ i, l.op.slot = some i → (l.slots[i]?).bind Slot.tag = none ∧
    (l.slotState i = some .full ∨
      ∃ f, l.flight = some f ∧ f.kind = .recordWrite ∧ f.orphan = false ∧ f.slot = some i)
  reset : l.dbi.busReset = true → l.dbi.inb.slot = none ∧ l.dbi.out.slot = none

def Ledger.slotsAccounted (l : Ledger) : Prop :=
  l.slots.length = Config.slotCount ∧ (l.supplyLow = false → l.Accounted)

theorem slotsAccounted_iff {s : State} : s.slotsAccounted ↔ s.ledger.slotsAccounted := by
  refine and_congr_right fun _ => imp_congr_right fun _ => ⟨?_, ?_⟩
  · rintro ⟨hf, hd, hi, ho, h1, hv, hfl, hop, hr⟩
    exact ⟨hf, hd, hi, ho, h1, hv, hfl, hop, hr⟩
  · rintro ⟨hf, hd, hi, ho, h1, hv, hfl, hop, hr⟩
    exact ⟨hf, hd, hi, ho, h1, hv, hfl, hop, hr⟩

/-- The law of the sector buffer is about the slots and what moves them. -/
theorem Ledger.slotsAccounted.of_eq {a b : Ledger} (hd : b.dbi = a.dbi) (hf : b.flight = a.flight)
    (hs : b.slots = a.slots) (ho : b.op = a.op) (hl : b.supplyLow = a.supplyLow) (h : a.slotsAccounted) :
    b.slotsAccounted := by
  cases a; cases b
  subst hd hf hs ho hl
  exact ⟨h.1, fun hlow => { h.2 hlow with }⟩

/-- R160 for the tables. -/
def TableStore.allInLimits (t : TableStore) : Prop :=
  t.profile.inLimits = true ∧ t.actions.inLimits = true ∧ t.params.inLimits = true ∧
  (∀ x ∈ t.stagedProfile, x.inLimits = true) ∧
  (∀ x ∈ t.stagedActions, x.inLimits = true) ∧
  (∀ x ∈ t.stagedParams, x.inLimits = true)

theorem tablesInLimits_iff {s : State} : s.tablesInLimits ↔ s.tbs.allInLimits := Iff.rfl

/-! ## The relation -/

/-- How an operation that blocks use within an event leaves those parts. -/
structure Ledger.Evolves (a b : Ledger) : Prop where
  supplyLow : b.supplyLow = a.supplyLow
  inb : b.dbi.inb = a.dbi.inb
  out : b.dbi.out.slot = a.dbi.out.slot
  busReset : b.dbi.busReset = a.dbi.busReset
  answers : b.dbi.answers = a.dbi.answers
  replies : a.dbi.replies <+: b.dbi.replies
  places : b.places ≤ a.places
  queue : (b.queue.map Entry.key).Sublist (a.queue.map Entry.key)
  kinds : a.records.map FaultRecord.kind <+: b.records.map FaultRecord.kind
  oneRecord : (a.records.map FaultRecord.kind).Nodup → (b.records.map FaultRecord.kind).Nodup
  tables : a.tbs.allInLimits → b.tbs.allInLimits
  counts : a.countsInRange → b.countsInRange
  record : a.recordSound → b.recordSound
  image : ∀ y, b.image = some y → ∃ x, a.image = some x ∧ x.Keeps y
  flight : ∀ g, b.flight = some g → ∃ f, a.flight = some f ∧ f.RunsOn g
  slots : a.slotsAccounted → b.slotsAccounted

theorem Ledger.Evolves.refl (a : Ledger) : a.Evolves a where
  supplyLow := rfl
  inb := rfl
  out := rfl
  busReset := rfl
  answers := rfl
  replies := List.prefix_rfl
  places := Nat.le_refl _
  queue := List.Sublist.refl _
  kinds := List.prefix_rfl
  oneRecord := id
  tables := id
  counts := id
  record := id
  image y hy := ⟨y, hy, .refl y⟩
  flight g hg := ⟨g, hg, rfl, rfl⟩
  slots := id

theorem Ledger.Evolves.trans {a b c : Ledger} (h : a.Evolves b) (g : b.Evolves c) : a.Evolves c where
  supplyLow := g.supplyLow.trans h.supplyLow
  inb := g.inb.trans h.inb
  out := g.out.trans h.out
  busReset := g.busReset.trans h.busReset
  answers := g.answers.trans h.answers
  replies := h.replies.trans g.replies
  places := Nat.le_trans g.places h.places
  queue := g.queue.trans h.queue
  kinds := h.kinds.trans g.kinds
  oneRecord := g.oneRecord ∘ h.oneRecord
  tables := g.tables ∘ h.tables
  counts := g.counts ∘ h.counts
  record := g.record ∘ h.record
  image z hz := by
    obtain ⟨y, hy, hyz⟩ := g.image z hz
    obtain ⟨x, hx, hxy⟩ := h.image y hy
    exact ⟨x, hx, hxy.trans hyz⟩
  flight k hk := by
    obtain ⟨y, hy, hyk⟩ := g.flight k hk
    obtain ⟨x, hx, hxy⟩ := h.flight y hy
    exact ⟨x, hx, hyk.1.trans hxy.1, hyk.2.trans hxy.2⟩
  slots := g.slots ∘ h.slots

/-- How an operation that blocks use within an event leaves the state. -/
def Evolves (s t : State) : Prop := s.ledger.Evolves t.ledger

theorem Evolves.refl (s : State) : Evolves s s := Ledger.Evolves.refl _

theorem Evolves.trans {s t u : State} (h : Evolves s t) (g : Evolves t u) : Evolves s u :=
  Ledger.Evolves.trans h g

/-- An operation that leaves the parts as they are goes on from any state. -/
theorem Evolves.quiet {s t u : State} (h : Evolves s t) (e : u.ledger = t.ledger) : Evolves s u :=
  h.trans (by unfold Evolves; rw [e]; exact .refl _)

theorem Evolves.foldl {α : Type} {f : State → α → State} (hf : ∀ s a, Evolves s (f s a)) (l : List α)
    {s t : State} (h : Evolves s t) : Evolves s (l.foldl f t) := by
  induction l generalizing t with
  | nil => exact h
  | cons a l ih => exact ih (h.trans (hf t a))

/-- Both outcomes of a choice evolve the state. -/
theorem Evolves.ite {c : Prop} [Decidable c] {s t u : State} (ht : c → Evolves s t)
    (hu : ¬ c → Evolves s u) : Evolves s (if c then t else u) := by
  split
  · exact ht ‹_›
  · exact hu ‹_›

/-! ## Operations that leave the parts as they are -/

@[simp] theorem State.onSpc_ledger (f : Spindle → Spindle) (s : State) : (s.onSpc f).ledger = s.ledger := rfl
@[simp] theorem State.onPos_ledger (f : Positioner → Positioner) (s : State) :
    (s.onPos f).ledger = s.ledger := rfl
@[simp] theorem State.onDowns_ledger (f : Downs → Downs) (s : State) : (s.onDowns f).ledger = s.ledger := rfl
@[simp] theorem State.onAtc_ledger (f : Attention → Attention) (s : State) :
    (s.onAtc f).ledger = s.ledger := rfl
@[simp] theorem State.setJob_ledger (j : Job) (s : State) : (s.setJob j).ledger = s.ledger := rfl
@[simp] theorem State.setEnd_ledger (st : Option Status) (s : State) : (s.setEnd st).ledger = s.ledger := rfl
@[simp] theorem State.setWork_ledger (w : Option SpinUpWork) (s : State) :
    (s.setWork w).ledger = s.ledger := rfl
@[simp] theorem State.request_ledger (x : Source) (s : State) : (s.request x).ledger = s.ledger := rfl
@[simp] theorem State.onKind_ledger (k : FaultKind) (f : KindStatus → KindStatus) (s : State) :
    (s.onKind k f).ledger = s.ledger := rfl
@[simp] theorem State.absent_ledger (k : FaultKind) (s : State) : (s.absent k).ledger = s.ledger := rfl
@[simp] theorem State.nowPresent_ledger (k : FaultKind) (s : State) : (s.nowPresent k).ledger = s.ledger := rfl
@[simp] theorem State.cancelRestarts_ledger (s : State) : s.cancelRestarts.ledger = s.ledger := rfl
@[simp] theorem State.withdrawLoads_ledger (s : State) : s.withdrawLoads.ledger = s.ledger := rfl
@[simp] theorem State.clearStarts_ledger (s : State) : s.clearStarts.ledger = s.ledger := rfl
@[simp] theorem State.endRetries_ledger (s : State) : s.endRetries.ledger = s.ledger := rfl
@[simp] theorem State.elapse_ledger (n : Nat) (s : State) : (s.elapse n).ledger = s.ledger := by
  cases h : s.ccu.eject <;> rfl

theorem foldl_ledger {α : Type} {f : State → α → State} (h : ∀ s a, (f s a).ledger = s.ledger)
    (l : List α) (s : State) : (l.foldl f s).ledger = s.ledger := by
  induction l generalizing s with
  | nil => rfl
  | cons a l ih => rw [List.foldl_cons, ih, h]

@[simp] theorem State.absents_ledger (l : List FaultKind) (s : State) : (s.absents l).ledger = s.ledger :=
  foldl_ledger (fun s k => s.absent_ledger k) l s

@[simp] theorem State.beginWatch_ledger (k : FaultKind) (s : State) : (s.beginWatch k).ledger = s.ledger := by
  unfold State.beginWatch
  dsimp only
  split <;> rfl

@[simp] theorem State.successPoint_ledger (spindle : Bool) (s : State) :
    (s.successPoint spindle).ledger = s.ledger := foldl_ledger (fun s k => s.beginWatch_ledger k) _ s

@[simp] theorem State.leavePowered_ledger (st : SpindleState) (brake : Bool) (d : StopDemand) (s : State) :
    (s.leavePowered st brake d).ledger = s.ledger := by
  simp [State.leavePowered]

@[simp] theorem State.stopRequest_ledger (d : StopDemand) (s : State) :
    (s.stopRequest d).ledger = s.ledger := by
  unfold State.stopRequest
  dsimp only
  repeat' split
  all_goals simp

@[simp] theorem State.applyBrake_ledger (s : State) : s.applyBrake.ledger = s.ledger := rfl

@[simp] theorem State.startByWork_ledger (s : State) : s.startByWork.ledger = s.ledger := by
  unfold State.startByWork
  split <;> rfl

@[simp] theorem State.enterStarting_ledger (s : State) : s.enterStarting.ledger = s.ledger := rfl
@[simp] theorem State.clampCurrent_ledger (s : State) : s.clampCurrent.ledger = s.ledger := rfl
@[simp] theorem State.orphanSeek_ledger (s : State) : s.orphanSeek.ledger = s.ledger := rfl
@[simp] theorem State.withdrawWork_ledger (s : State) : s.withdrawWork.ledger = s.ledger := rfl

@[simp] theorem State.leaveWork_ledger (who : Who) (s : State) : (s.leaveWork who).ledger = s.ledger := by
  unfold State.leaveWork
  split
  · rfl
  · split <;> rfl

@[simp] theorem State.joinWork_ledger (who : Who) (s : State) : (s.joinWork who).ledger = s.ledger := by
  unfold State.joinWork
  split <;> rfl

@[simp] theorem State.abandonStandby_ledger (s : State) : s.abandonStandby.ledger = s.ledger := rfl

/-- A change of the eject record that keeps its tags. -/
theorem onCcu_eject_ledger {f : EjectRecord → EjectRecord} (hf : ∀ e, (f e).tags = e.tags) (s : State) :
    (s.onCcu fun c => { c with eject := c.eject.map f }).ledger = s.ledger := by
  unfold State.ledger
  cases h : s.ccu.eject <;> simp [h, hf]

@[simp] theorem State.ejectUnloads_ledger (s : State) : s.ejectUnloads.ledger = s.ledger :=
  onCcu_eject_ledger (f := fun e => { e with phase := some .unloading }) (fun _ => rfl) s

@[simp] theorem State.endLater_ledger (st : Status) (s : State) : (s.endLater st).ledger = s.ledger := rfl

@[simp] theorem State.orphanWriteBack_op (who heir : Who) (s : State) :
    (s.orphanWriteBack who heir).record.op.slot = s.record.op.slot := by
  unfold State.orphanWriteBack
  split
  · next w hw => split <;> simp [hw, RecordOp.slot]
  · rfl

@[simp] theorem State.leaveSeekLaw_ledger (s : State) : s.leaveSeekLaw.ledger = s.ledger := rfl

@[simp] theorem onRec_readWanted_ledger (b : Bool) (s : State) :
    (s.onRec fun r => { r with readWanted := b }).ledger = s.ledger := rfl

@[simp] theorem State.enterUnloaded_ledger (s : State) : s.enterUnloaded.ledger = s.ledger := by
  simp [State.enterUnloaded]

@[simp] theorem State.enterLoading_ledger (s : State) : s.enterLoading.ledger = s.ledger := rfl
@[simp] theorem State.beginToRamp_ledger (s : State) : s.beginToRamp.ledger = s.ledger := rfl

@[simp] theorem State.rampReached_ledger (s : State) : s.rampReached.ledger = s.ledger := by
  unfold State.rampReached
  split <;> simp

@[simp] theorem State.enterToRamp_ledger (s : State) : s.enterToRamp.ledger = s.ledger := by
  simp [State.enterToRamp]

@[simp] theorem State.enterToCylinder0_ledger (s : State) : s.enterToCylinder0.ledger = s.ledger := by
  unfold State.enterToCylinder0
  dsimp only
  split <;> simp

@[simp] theorem State.enterRetracting_ledger (cause : Option FaultKind) (s : State) :
    (s.enterRetracting cause).ledger = s.ledger := by
  unfold State.enterRetracting
  dsimp only
  split <;> simp

@[simp] theorem State.loadByWork_ledger (s : State) : s.loadByWork.ledger = s.ledger := by
  unfold State.loadByWork
  split <;> rfl

@[simp] theorem State.parkOnRamp_ledger (s : State) : s.parkOnRamp.ledger = s.ledger := by
  unfold State.parkOnRamp
  dsimp only
  split <;> simp

@[simp] theorem State.startDelay_ledger (k : FaultKind) (r : FaultRow) (s : State) :
    (s.startDelay k r).ledger = s.ledger := rfl
@[simp] theorem State.endRetry_ledger (k : FaultKind) (s : State) : (s.endRetry k).ledger = s.ledger := rfl
@[simp] theorem State.restart_ledger (k : FaultKind) (r : FaultRow) (s : State) :
    (s.restart k r).ledger = s.ledger := rfl

@[simp] theorem State.delayExpires_ledger (k : FaultKind) (s : State) :
    (s.delayExpires k).ledger = s.ledger := by
  unfold State.delayExpires
  dsimp only
  repeat' split
  all_goals simp

@[simp] theorem State.countDelay_ledger (s : State) (k : FaultKind) : (s.countDelay k).ledger = s.ledger := by
  unfold State.countDelay
  repeat' split
  all_goals simp

@[simp] theorem State.countDelays_ledger (s : State) : s.countDelays.ledger = s.ledger :=
  foldl_ledger State.countDelay_ledger _ s

@[simp] theorem State.startSeekTimer_ledger (s : State) : s.startSeekTimer.ledger = s.ledger := rfl
@[simp] theorem State.enterSettling_ledger (s : State) : s.enterSettling.ledger = s.ledger := rfl

@[simp] theorem State.headSwitch_ledger (head : Nat) (s : State) : (s.headSwitch head).ledger = s.ledger := by
  unfold State.headSwitch
  repeat' split
  all_goals rfl

@[simp] theorem State.joinSeek_ledger (req : Requester) (head : Nat) (s : State) :
    (s.joinSeek req head).ledger = s.ledger := by
  simp [State.joinSeek]

@[simp] theorem State.awaitPass_ledger (s : State) : s.awaitPass.ledger = s.ledger := rfl
@[simp] theorem State.workAt_ledger (w : SpinUpWork) (x : WorkStep) (s : State) :
    (s.workAt w x).ledger = s.ledger := rfl

@[simp] theorem State.workAwaitsEject_ledger (s : State) : s.workAwaitsEject.ledger = s.ledger := by
  unfold State.workAwaitsEject
  split <;> rfl

@[simp] theorem State.enterEjecting_ledger (s : State) : s.enterEjecting.ledger = s.ledger := by
  unfold State.enterEjecting
  rw [State.absent_ledger]
  have h := onCcu_eject_ledger (f := fun e => { e with phase := none }) (fun _ => rfl) s.workAwaitsEject
  rw [State.workAwaitsEject_ledger] at h
  exact h

@[simp] theorem State.forceFlush_ledger (s : State) : s.forceFlush.ledger = s.ledger := by
  unfold State.forceFlush
  split
  · rw [onCcu_eject_ledger (f := fun e => { e with flush := .undecided }) (fun _ => rfl),
      State.leaveWork_ledger]
  · rfl

@[simp] theorem State.enterAtSpeed_ledger (s : State) : s.enterAtSpeed.ledger = s.ledger := by
  simp [State.enterAtSpeed]

@[simp] theorem State.enterPurging_ledger (s : State) : s.enterPurging.ledger = s.ledger := by
  unfold State.enterPurging
  dsimp only
  split <;> simp

@[simp] theorem State.armStopWindow_ledger (s : State) : s.armStopWindow.ledger = s.ledger := rfl

@[simp] theorem State.driveStb_ledger_image (a : Bool) (s : State) :
    (s.driveStb a).record = s.record := rfl
/-! ## The sector buffer -/

theorem slotState_modify (l : Ledger) (i j : Nat) (f : Slot → Slot) :
    ({ l with slots := l.slots.modify i f } : Ledger).slotState j =
      if i = j then (l.slots[j]?).map fun x => (f x).state else l.slotState j := by
  unfold Ledger.slotState
  rw [List.getElem?_modify]
  split <;> simp [Function.comp_def]

/-- The slots when a command leaves the queue: those that move keep moving, those of a write-back stay. -/
theorem Slot.release_state (t : Byte) (x : Slot) :
    (x.release t).state = if x.tag = some t ∧ x.state = .full then .empty else x.state := by
  unfold Slot.release
  by_cases ht : x.tag = some t <;> by_cases hs : x.state = .full <;> simp [ht, hs, Slot.none]

theorem Slot.release_of_untagged {t : Byte} {x : Slot} (h : x.tag = Option.none) : x.release t = x := by
  simp [Slot.release, h]

/-- A flight of a host transfer is nobody's any more. -/
def Flight.leave (f : Flight) : Flight := { f with orphan := f.orphan || f.isHost }

@[simp] theorem Outbound.leave_slot (t : Byte) (o : Outbound) : (o.leave t).slot = o.slot := by
  cases o <;> rfl

theorem Flight.leave_orphan {f : Flight} (h : f.kind = .recordWrite) : f.leave.orphan = f.orphan := by
  simp [Flight.leave, Flight.isHost, h]

/-- The buffer stays accounted when the sector in flight is marked as nobody's. -/
theorem Ledger.Accounted.leave {l : Ledger} (h : l.Accounted) :
    ({ l with flight := l.flight.map Flight.leave } : Ledger).Accounted where
  filling i hi := by
    have := h.filling i hi
    simpa [Option.bind_map, Function.comp_def, Flight.leave] using this
  draining i hi := by
    have := h.draining i hi
    simpa [Option.bind_map, Function.comp_def, Flight.leave] using this
  inb := h.inb
  out := h.out
  oneWay := h.oneWay
  verify f hf hk := by
    obtain ⟨g, hg, rfl⟩ := Option.map_eq_some_iff.mp hf
    exact h.verify g hg hk
  flight f i hf hi := by
    obtain ⟨g, hg, rfl⟩ := Option.map_eq_some_iff.mp hf
    exact h.flight g i hg hi
  op i hi := by
    obtain ⟨ht, hs | ⟨f, hf, hk, ho, hs⟩⟩ := h.op i hi
    · exact ⟨ht, .inl hs⟩
    · exact ⟨ht, .inr ⟨f.leave, by simp [hf], hk, by rw [Flight.leave_orphan hk, ho], hs⟩⟩
  reset := h.reset

/-- The buffer stays accounted when a command leaves the queue. -/
theorem Ledger.Accounted.release {l : Ledger} (h : l.Accounted) (t : Byte) :
    ({ l with slots := l.slots.map (Slot.release t) } : Ledger).Accounted := by
  have moving : ∀ i x, x ≠ SlotState.full → x ≠ .empty →
      (({ l with slots := l.slots.map (Slot.release t) } : Ledger).slotState i = some x ↔
        l.slotState i = some x) := by
    intro i x hx hx'
    unfold Ledger.slotState
    cases hs : l.slots[i]? with
    | none => simp [hs]
    | some y => simp [hs, Slot.release_state]; grind
  have still : ∀ i, l.op.slot = some i → (l.slots.map (Slot.release t))[i]? = l.slots[i]? := by
    intro i hi
    have ht := (h.op i hi).1
    cases hs : l.slots[i]? with
    | none => simp [hs]
    | some y =>
      have hy : y.tag = none := by simpa [hs] using ht
      simp [hs, Slot.release_of_untagged hy]
  exact {
    filling := fun i hi => h.filling i ((moving i _ (by simp) (by simp)).mp hi)
    draining := fun i hi => h.draining i ((moving i _ (by simp) (by simp)).mp hi)
    inb := fun i hi => (moving i _ (by simp) (by simp)).mpr (h.inb i hi)
    out := fun i hi => (moving i _ (by simp) (by simp)).mpr (h.out i hi)
    oneWay := h.oneWay
    verify := h.verify
    flight := fun f i hf hi => by
      obtain ⟨hm, hio⟩ := h.flight f i hf hi
      refine ⟨(moving i _ ?_ ?_).mpr hm, hio⟩ <;> cases f.kind <;> simp [FlightKind.moving]
    op := fun i hi => by
      have hop := h.op i hi
      unfold Ledger.slotState
      rw [still i hi]
      exact hop
    reset := h.reset }

/-- A state in which no sector and no packet moves a slot. -/
def SlotState.still (x : SlotState) : Prop := x = .empty ∨ x = .full

/-- The buffer stays accounted when slots that no packet moves come to rest: they were not moving, or the
sector in flight through one of them has gone. A record operation may let its slot go or take one that is FULL
and has no tag. -/
theorem Ledger.Accounted.rest {l : Ledger} (h : l.Accounted) (touched : Nat → Prop) {slots : List Slot}
    {fl : Option Flight} {op : RecordOp}
    (hsame : ∀ j, ¬ touched j → slots[j]? = l.slots[j]?)
    (hstill : ∀ j x, touched j → slots[j]? = some x → x.state.still)
    (hbus : ∀ j, touched j → l.dbi.inb.slot ≠ some j ∧ l.dbi.out.slot ≠ some j)
    (hfl : (fl = l.flight ∧ ∀ j, touched j → l.flight.bind Flight.slot ≠ some j) ∨
      (fl = none ∧ ∀ j, l.flight.bind Flight.slot = some j → touched j))
    (hop : ∀ j, op.slot = some j → (¬ touched j ∧ l.op.slot = some j) ∨
      (touched j ∧ ∃ x, slots[j]? = some x ∧ x.state = .full ∧ x.tag = none)) :
    ({ l with flight := fl, slots := slots, op := op } : Ledger).Accounted := by
  have state : ∀ j, ¬ touched j →
      ({ l with flight := fl, slots := slots, op := op } : Ledger).slotState j = l.slotState j :=
    fun j hj => congrArg (Option.map Slot.state) (hsame j hj)
  have moving : ∀ j x, ¬ SlotState.still x →
      ({ l with flight := fl, slots := slots, op := op } : Ledger).slotState j = some x →
      ¬ touched j ∧ l.slotState j = some x := by
    intro j x hx hj
    have hnt : ¬ touched j := fun hj' => by
      obtain ⟨y, hy, rfl⟩ := Option.map_eq_some_iff.mp hj
      exact hx (hstill j y hj' hy)
    exact ⟨hnt, (state j hnt).symm.trans hj⟩
  have carried : ∀ j, ¬ touched j → l.flight.bind Flight.slot = some j → fl = l.flight := by
    rintro j hij hj
    rcases hfl with ⟨rfl, -⟩ | ⟨-, hall⟩
    · rfl
    · exact absurd (hall j hj) hij
  refine { filling := ?_, draining := ?_, inb := ?_, out := ?_, oneWay := h.oneWay, verify := ?_,
           flight := ?_, op := ?_, reset := h.reset }
  · intro j hj
    obtain ⟨hij, hj⟩ := moving j _ (by simp [SlotState.still]) hj
    refine (h.filling j hj).imp_left fun hb => ?_
    rw [carried j hij hb, hb]
  · intro j hj
    obtain ⟨hij, hj⟩ := moving j _ (by simp [SlotState.still]) hj
    refine (h.draining j hj).imp_left fun hb => ?_
    rw [carried j hij hb, hb]
  · intro j hj
    rw [state j fun hj' => (hbus j hj').1 hj, h.inb j hj]
  · intro j hj
    rw [state j fun hj' => (hbus j hj').2 hj, h.out j hj]
  · intro g hg hk
    rcases hfl with ⟨rfl, -⟩ | ⟨rfl, -⟩
    · exact h.verify g hg hk
    · cases hg
  · intro g j hg hj
    rcases hfl with ⟨rfl, hne⟩ | ⟨rfl, -⟩
    · obtain ⟨hm, hio⟩ := h.flight g j hg hj
      have hij : ¬ touched j := fun hj' => hne j hj' (Option.bind_eq_some_iff.mpr ⟨g, hg, hj⟩)
      exact ⟨(state j hij).trans hm, hio⟩
    · cases hg
  · intro j hj
    rcases hop j hj with ⟨hji, hlj⟩ | ⟨-, x, hx, hfull, htag⟩
    · obtain ⟨ht, hs⟩ := h.op j hlj
      refine ⟨(congrArg (Option.bind · Slot.tag) (hsame j hji)).trans ht, ?_⟩
      rcases hs with hs | ⟨g, hg, hk, ho, hgj⟩
      · exact .inl ((state j hji).trans hs)
      · have hb : l.flight.bind Flight.slot = some j := Option.bind_eq_some_iff.mpr ⟨g, hg, hgj⟩
        exact .inr ⟨g, (carried j hji hb).trans hg, hk, ho, hgj⟩
    · exact ⟨by simp [hx, htag], .inl (by simp [Ledger.slotState, hx, hfull])⟩

/-- One slot comes to rest. -/
theorem Ledger.Accounted.restAt {l : Ledger} (h : l.Accounted) {i : Nat} {f : Slot → Slot}
    {fl : Option Flight} {op : RecordOp} (hbus : l.dbi.inb.slot ≠ some i ∧ l.dbi.out.slot ≠ some i)
    (hfl : (fl = l.flight ∧ l.flight.bind Flight.slot ≠ some i) ∨
      (fl = none ∧ ∀ j, l.flight.bind Flight.slot = some j → j = i))
    (hstill : ∀ x, (f x).state.still)
    (hop : ∀ j, op.slot = some j → (j ≠ i ∧ l.op.slot = some j) ∨
      (j = i ∧ ∃ x, l.slots[i]? = some x ∧ (f x).state = .full ∧ (f x).tag = none)) :
    ({ l with flight := fl, slots := l.slots.modify i f, op := op } : Ledger).Accounted := by
  refine h.rest (· = i) (fun j hj => ?_) (fun j x hj hx => ?_) (fun j hj => hj ▸ hbus) ?_
    fun j hj => ?_
  · simp [Ne.symm hj]
  · subst hj
    simp only [List.getElem?_modify, if_true] at hx
    obtain ⟨y, -, rfl⟩ := Option.map_eq_some_iff.mp hx
    exact hstill y
  · simpa using hfl
  · refine (hop j hj).imp_right ?_
    rintro ⟨rfl, x, hx, hx'⟩
    exact ⟨rfl, f x, by simp [hx], hx'⟩

/-- A record operation may let its slot go. -/
theorem Ledger.Accounted.withOp {l : Ledger} (h : l.Accounted) {op : RecordOp}
    (hop : ∀ j, op.slot = some j → l.op.slot = some j) : ({ l with op := op } : Ledger).Accounted :=
  { h with op := fun j hj => h.op j (hop j hj) }

/-- The buffer is about the bus only by the slots that packets move. -/
theorem Ledger.Accounted.withBus {l : Ledger} (h : l.Accounted) {d : Bus}
    (hin : d.inb.slot = l.dbi.inb.slot) (hout : d.out.slot = l.dbi.out.slot)
    (hr : d.busReset = l.dbi.busReset) : ({ l with dbi := d } : Ledger).Accounted where
  filling i hi := by rw [hin]; exact h.filling i hi
  draining i hi := by rw [hout]; exact h.draining i hi
  inb i hi := h.inb i (hin ▸ hi)
  out i hi := h.out i (hout ▸ hi)
  oneWay := by rw [hin, hout]; exact h.oneWay
  verify := h.verify
  flight f i hf hi := by rw [hin, hout]; exact h.flight f i hf hi
  op := h.op
  reset := by rw [hin, hout, hr]; exact h.reset

/-- A sector in flight that has no slot may go. -/
theorem Ledger.Accounted.land {l : Ledger} (h : l.Accounted) (hfl : l.flight.bind Flight.slot = none) :
    ({ l with flight := none } : Ledger).Accounted where
  filling i hi := by simpa [hfl] using h.filling i hi
  draining i hi := by simpa [hfl] using h.draining i hi
  inb := h.inb
  out := h.out
  oneWay := h.oneWay
  verify f hf := by cases hf
  flight f i hf := by cases hf
  op i hi := by
    obtain ⟨ht, hs | ⟨f, hf, -, -, hs⟩⟩ := h.op i hi
    · exact ⟨ht, .inl hs⟩
    · simp [hf, hs] at hfl
  reset := h.reset

/-- A slot at rest is none that a sector or a packet moves. -/
theorem Ledger.Accounted.ne_of_still {l : Ledger} (h : l.Accounted) {i : Nat} {x : SlotState}
    (hi : l.slotState i = some x) (hx : x.still) : l.dbi.inb.slot ≠ some i ∧ l.dbi.out.slot ≠ some i ∧
      l.flight.bind Flight.slot ≠ some i := by
  refine ⟨fun hb => ?_, fun hb => ?_, fun hb => ?_⟩
  · grind [h.inb i hb, SlotState.still]
  · grind [h.out i hb, SlotState.still]
  · obtain ⟨f, hf, hs⟩ := Option.bind_eq_some_iff.mp hb
    have := (h.flight f i hf hs).1
    cases hk : f.kind <;> grind [FlightKind.moving, SlotState.still]

/-! ## Operations that evolve the state -/

theorem getD_holds {α : Type} {p : α → Bool} {o : Option α} {d : α} (hd : p d = true)
    (ho : ∀ x ∈ o, p x = true) : p (o.getD d) = true := by
  cases o with
  | none => exact hd
  | some x => exact ho x rfl

/-- A take moves tables within their limits (R166). -/
theorem TableStore.allInLimits.taken {t : TableStore} (h : t.allInLimits) :
    ({ t with
      profile := t.stagedProfile.getD t.profile, actions := t.stagedActions.getD t.actions,
      params := t.stagedParams.getD t.params, stagedProfile := none, stagedActions := none,
      stagedParams := none } : TableStore).allInLimits := by
  obtain ⟨hp, ha, hd, hsp, hsa, hsd⟩ := h
  exact ⟨getD_holds hp hsp, getD_holds ha hsa, getD_holds hd hsd, by simp, by simp, by simp⟩

/-- A change of the sector buffer alone. -/
theorem Ledger.Evolves.ofBuffer {a : Ledger} {fl : Option Flight} {slots : List Slot} {op : RecordOp}
    (hfl : ∀ g, fl = some g → ∃ f, a.flight = some f ∧ f.RunsOn g)
    (hlen : slots.length = a.slots.length) (hop : a.op = op ∨ op = .idle)
    (hacc : a.Accounted → ({ a with flight := fl, slots := slots, op := op } : Ledger).Accounted) :
    a.Evolves { a with flight := fl, slots := slots, op := op } :=
  { Ledger.Evolves.refl a with
    record := by
      rintro ⟨himg, hread, hreading, hwriting⟩
      rcases hop with rfl | rfl
      · exact ⟨himg, hread, hreading, hwriting⟩
      · exact ⟨himg, hread, by simp, by simp⟩
    flight := hfl
    slots := fun ⟨h8, h⟩ => ⟨hlen.trans h8, fun hs => hacc (h hs)⟩ }

/-- The image with a new generation keeps what R10 leaves, and stays sound. -/
theorem Image.sound.withGeneration {img : Image} (hs : img.sound) {g : Nat} (hg : g < 65536) :
    ({ img with generation := g } : Image).sound := by
  obtain ⟨hz, hsl, hre, hf, -, hser⟩ := hs
  exact ⟨hz, hsl, hre, hf, hg, hser⟩

section
variable {s t : State} (h : Evolves s t)
include h

/-! ### Counters, tables, the fault list -/

theorem Evolves.onCounters {f : Counters → Counters}
    (hf : ∀ c : Counters, (c.revolutionSlips ≤ Config.counterTop → (f c).revolutionSlips ≤ Config.counterTop) ∧
      (c.readRetries ≤ Config.counterTop → (f c).readRetries ≤ Config.counterTop) ∧
      (c.writeDeferrals ≤ Config.counterTop → (f c).writeDeferrals ≤ Config.counterTop) ∧
      (c.sampleDrops ≤ Config.counterTop → (f c).sampleDrops ≤ Config.counterTop) ∧
      (c.trackSlips ≤ Config.counterTop → (f c).trackSlips ≤ Config.counterTop) ∧
      (c.seeksCompleted ≤ Config.counterTop → (f c).seeksCompleted ≤ Config.counterTop)) :
    Evolves s (t.onCounters f) := by
  refine h.trans { Ledger.Evolves.refl t.ledger with
    counts := ?_, slots := .of_eq rfl rfl rfl rfl rfl }
  rintro ⟨hh, hm, ht, h1, h2, h3, h4, h5, h6⟩
  obtain ⟨g1, g2, g3, g4, g5, g6⟩ := hf t.counters
  exact ⟨hh, hm, ht, g1 h1, g2 h2, g3 h3, g4 h4, g5 h5, g6 h6⟩

omit h in
theorem bump_le (n : Nat) : bump n ≤ Config.counterTop := Nat.min_le_left _ _

theorem Evolves.countSlip : Evolves s t.countSlip := h.onCounters fun _ => by simp [bump_le]
theorem Evolves.countReadRetry : Evolves s t.countReadRetry := h.onCounters fun _ => by simp [bump_le]
theorem Evolves.countDeferral : Evolves s t.countDeferral := h.onCounters fun _ => by simp [bump_le]
theorem Evolves.countDrop : Evolves s t.countDrop := h.onCounters fun _ => by simp [bump_le]
theorem Evolves.countTrackSlip : Evolves s t.countTrackSlip := h.onCounters fun _ => by simp [bump_le]
theorem Evolves.countSeek : Evolves s t.countSeek := h.onCounters fun _ => by simp [bump_le]

theorem Evolves.takeTables : Evolves s t.takeTables := by
  obtain hq | ⟨-, -, -, hq⟩ := takeTables_cases t
  · rwa [hq]
  · rw [hq]
    exact h.trans { Ledger.Evolves.refl t.ledger with
      tables := TableStore.allInLimits.taken, slots := .of_eq rfl rfl rfl rfl rfl }

theorem Evolves.enterStopped : Evolves s t.enterStopped := Evolves.takeTables (h.quiet rfl)

theorem Evolves.onRecord (k : FaultKind) {f : FaultRecord → FaultRecord} (hf : ∀ r, (f r).kind = r.kind) :
    Evolves s (t.onRecord k f) := by
  have hk : (t.onRecord k f).faultKinds = t.faultKinds := by
    simp only [State.faultKinds, State.onRecord, State.onFsv_fsv, List.map_map]
    exact List.map_congr_left fun r _ => by simp only [Function.comp]; split <;> simp [hf]
  refine h.trans { Ledger.Evolves.refl t.ledger with
    kinds := ?_, oneRecord := ?_, slots := .of_eq rfl rfl rfl rfl rfl }
  · show t.faultKinds <+: (t.onRecord k f).faultKinds
    exact hk ▸ List.prefix_rfl
  · show t.faultKinds.Nodup → (t.onRecord k f).faultKinds.Nodup
    rw [hk]
    exact id

theorem Evolves.putRecord (k : FaultKind) (sub : Option SubCause) (st : FaultState) (retries : Nat)
    (kept : Option FaultRow) : Evolves s (t.putRecord k sub st retries kept) := by
  unfold State.putRecord
  split
  · next hnone =>
    refine h.trans { Ledger.Evolves.refl t.ledger with kinds := ?_, oneRecord := ?_, slots := .of_eq rfl rfl rfl rfl rfl }
    · exact (List.prefix_append _ _).map _
    · intro hn
      show ((t.fsv.records ++ [_]).map FaultRecord.kind).Nodup
      have hk : k ∉ t.fsv.records.map FaultRecord.kind := by
        intro hm
        obtain ⟨r, hr, rfl⟩ := List.mem_map.mp hm
        have := List.find?_eq_none.mp hnone r hr
        simp at this
      rw [List.map_append, List.nodup_append]
      refine ⟨hn, by simp, ?_⟩
      rintro a ha b hb rfl
      simp only [State.newRecord, List.map_cons, List.map_nil, List.mem_singleton] at hb
      exact hk (hb ▸ ha)
  · exact h.onRecord k fun _ => rfl

/-! ### The sector buffer -/

theorem Evolves.cutWrite : Evolves s t.cutWrite := by
  unfold State.cutWrite
  split
  · next i sp hfl =>
    refine h.trans (Ledger.Evolves.ofBuffer (a := t.ledger) (fl := none) (op := t.record.op) (by simp)
      (List.length_modify ..) (.inl rfl) fun ha => ?_)
    have hfl' : t.ledger.flight = some ⟨.write, some i, sp, false⟩ := hfl
    obtain ⟨hm, hinb, hout⟩ := ha.flight _ i hfl' rfl
    refine ha.restAt ⟨hinb, hout⟩ (.inr ⟨rfl, fun j hj => by rw [hfl'] at hj; cases hj; rfl⟩)
      (fun _ => .inl rfl) fun j hj => .inl ⟨?_, hj⟩
    rintro rfl
    obtain ⟨-, hfull | ⟨f, hf, hk, -⟩⟩ := ha.op j hj
    · rw [hm] at hfull; cases hfull
    · rw [hfl'] at hf; cases hf; cases hk
  · exact h

/-! ### Commands and works that end -/

/-- A command leaves the queue: one packet for each entry that leaves. -/
theorem Evolves.leaveQueue {u : State} {tag : Byte} {l : List Packet} {q : List Entry}
    (hu : u.ledger = { t.ledger with
      dbi := { t.dbi with replies := t.dbi.replies ++ l, out := t.dbi.out.leave tag }, queue := q,
      flight := t.eng.flight.map Flight.leave, slots := t.slots.map (Slot.release tag) })
    (hq : (q.map Entry.key).Sublist (t.queue.map Entry.key))
    (hl : l.length + q.length ≤ t.queue.length) : Evolves s u := by
  refine h.trans ?_
  unfold Evolves
  rw [hu]
  exact { Ledger.Evolves.refl t.ledger with
    out := Outbound.leave_slot ..
    replies := List.prefix_append ..
    places := by simp [Ledger.places, State.ledger]; omega
    queue := hq
    flight := fun g hg => by
      obtain ⟨f, hf, rfl⟩ := Option.map_eq_some_iff.mp hg
      exact ⟨f, hf, rfl, rfl⟩
    slots := fun ⟨h8, hacc⟩ => ⟨(List.length_map ..).trans h8, fun hs =>
      { ((hacc hs).leave.release tag).withBus (d := { t.dbi with
          replies := t.dbi.replies ++ l, out := t.dbi.out.leave tag })
          rfl (Outbound.leave_slot ..) rfl with }⟩ }

omit h in
theorem State.completeHead_ledger {s : State} {e : Entry} {rest : List Entry} (hq : s.queue = e :: rest)
    (st : Status) : (s.completeHead st).ledger = { s.ledger with
      dbi := { s.dbi with
        replies := s.dbi.replies ++ [.done e.tag st s.eng.completed s.eng.errors s.eng.slips
          s.eng.firstError s.eng.damaged]
        out := s.dbi.out.leave e.tag }
      queue := rest, flight := s.eng.flight.map Flight.leave
      slots := s.slots.map (Slot.release e.tag) } := by
  unfold State.completeHead
  rw [hq]
  dsimp only
  rw [State.onDowns_ledger, State.leaveWork_ledger]
  rfl

theorem Evolves.completeHead (st : Status) : Evolves s (t.completeHead st) := by
  cases hq : t.queue with
  | nil =>
    have : t.completeHead st = t := by unfold State.completeHead; rw [hq]
    rwa [this]
  | cons e rest =>
    refine h.leaveQueue (State.completeHead_ledger hq st) ?_ ?_
    · rw [hq]; exact List.sublist_cons_self ..
    · rw [hq]; simp [Nat.add_comm]

theorem Evolves.flightLeaves {u : State}
    (hu : u.ledger = { t.ledger with flight := t.eng.flight.map Flight.leave }) : Evolves s u := by
  refine h.trans ?_
  unfold Evolves
  rw [hu]
  exact Ledger.Evolves.ofBuffer (a := t.ledger) (slots := t.slots) (op := t.record.op)
    (fun g hg => by
      obtain ⟨f, hf, rfl⟩ := Option.map_eq_some_iff.mp hg
      exact ⟨f, hf, rfl, rfl⟩) rfl (.inl rfl) fun ha => ha.leave

theorem Evolves.endTransfer (st : Status) : Evolves s (t.endTransfer st) := by
  unfold State.endTransfer
  split
  · exact h.flightLeaves rfl
  · exact h.completeHead st

omit h in
/-- The packets and tags of an eject that completes (R131). -/
theorem foldl_placeEjectDone_ledger (st : Status) (tags : List Byte) (s : State) :
    (tags.foldl (fun v t => v.placeEjectDone t st) s).ledger = { s.ledger with
      dbi := { s.dbi with replies := s.dbi.replies ++ tags.map fun t => .done t st 0 0 0 none none } } := by
  induction tags generalizing s with
  | nil => simp; rfl
  | cons t tags ih => rw [List.foldl_cons, ih]; simp [State.ledger, State.placeEjectDone, State.place]

theorem Evolves.endEject (st : Status) : Evolves s (t.endEject st) := by
  have hf := foldl_placeEjectDone_ledger st ((t.ccu.eject.map EjectRecord.tags).getD []) t
  have hu : (t.endEject st).ledger = { t.ledger with
      dbi := { t.dbi with replies := t.dbi.replies ++
        ((t.ccu.eject.map EjectRecord.tags).getD []).map fun x => .done x st 0 0 0 none none }
      tags := none } := by
    have := congrArg (fun l : Ledger => { l with tags := none }) hf
    exact this
  refine h.trans ?_
  unfold Evolves
  rw [hu]
  exact { Ledger.Evolves.refl t.ledger with
    replies := List.prefix_append ..
    places := by cases he : t.ccu.eject <;> simp [Ledger.places, State.ledger, he]; omega
    counts := fun ⟨hh, hm, _, hc⟩ => ⟨hh, hm, by simp, hc⟩
    slots := fun ⟨h8, hacc⟩ => ⟨h8, fun hs => { hacc hs with }⟩ }

/-- A change of the cartridge's state, latch and ejector. -/
theorem Evolves.failEject (st : Status) (next : CartState) : Evolves s (t.failEject st next) :=
  (h.endEject st).quiet (by rw [State.failEject, State.request_ledger]; rfl)

theorem Evolves.workEndsHead (st : Status) : Evolves s (t.workEndsHead st) := by
  unfold State.workEndsHead
  split
  · exact h.completeHead _
  · split
    · exact h.completeHead _
    · exact .ite (fun _ => h.quiet rfl) fun _ => h.completeHead _
    · exact .ite (fun _ => h.quiet rfl) fun _ => h.completeHead _
    · exact .ite (fun _ => h.quiet rfl) fun _ => h.completeHead _
    · exact h

theorem Evolves.workEndsFor (who : Who) (st : Status) : Evolves s (t.workEndsFor who st) := by
  cases who with
  | cmd => exact h.workEndsHead st
  | standby => exact .ite (fun _ => h.quiet rfl) fun _ => h.quiet rfl
  | orphan => exact h.quiet rfl
  | eject =>
    refine .ite (fun _ => h.quiet ?_) fun _ => .ite (fun _ => h.failEject _ _) fun _ => h
    exact onCcu_eject_ledger (f := fun e => { e with flush := .undecided }) (fun _ => rfl) t
  | lost => exact h

theorem Evolves.endWork (st : Status) : Evolves s (t.endWork st) := by
  unfold State.endWork
  split
  · exact h
  · next w _ =>
    have h0 : Evolves s (t.setWork none).withdrawWork := h.quiet rfl
    have h1 := Evolves.ite (c := w.forCmd = true) (fun _ => h0.workEndsFor .cmd st) fun _ => h0
    have h2 := Evolves.ite (c := w.forStandby = true) (fun _ => h1.workEndsFor .standby st) fun _ => h1
    have h3 := Evolves.ite (c := w.forOrphan = true) (fun _ => h2.workEndsFor .orphan st) fun _ => h2
    exact .ite (fun _ => h3.workEndsFor .eject st) fun _ => h3

/-! ### Record operations that end -/

/-- The slots after those of a test have been emptied. -/
def emptied (i j : Option Nat) (slots : List Slot) : List Slot :=
  slots.mapIdx fun k x => if i = some k ∨ j = some k then Slot.none else x

omit h in
theorem getElem?_emptied (i j : Option Nat) (l : List Slot) (k : Nat) :
    (emptied i j l)[k]? = (l[k]?).map fun x => if i = some k ∨ j = some k then Slot.none else x := by
  simp [emptied]

omit h in
theorem State.emptySlotOpt_eq (i : Option Nat) (s : State) :
    s.emptySlotOpt i = s.setSlots (emptied i none s.slots) := by
  have hslots : (s.emptySlotOpt i).slots = emptied i none s.slots := by
    apply List.ext_getElem?
    intro k
    rw [getElem?_emptied]
    cases i with
    | none => simp [State.emptySlotOpt]
    | some i => simp [State.emptySlotOpt, State.emptySlotAt, State.onSlot, List.getElem?_modify]
  rw [← hslots]
  cases i <;> rfl

omit h in
theorem emptied_emptied (i j : Option Nat) (l : List Slot) :
    emptied j none (emptied i none l) = emptied i j l := by
  apply List.ext_getElem?
  intro k
  simp only [getElem?_emptied, Option.map_map, Function.comp_def]
  congr 1
  funext x
  by_cases hi : i = some k <;> by_cases hj : j = some k <;> simp [hi, hj]

omit h in
/-- What the end of a record operation leaves: no slot of its own, no sector of its own in flight. -/
theorem State.dropRecordOp_ledger (s : State) : s.dropRecordOp.ledger = { s.ledger with
    op := .idle
    flight := s.eng.flight.filter Flight.isHost
    slots := emptied s.record.op.slot ((s.eng.flight.filter fun f => !f.isHost).bind Flight.slot)
      s.slots } := by
  simp only [State.dropRecordOp, State.emptySlotOpt_eq, State.setSlots_eng, State.setSlots_slots,
    emptied_emptied]
  cases hf : s.eng.flight with
  | none => simp [State.ledger, hf]
  | some f => cases hh : f.isHost <;> simp [State.ledger, hf, hh, Option.filter_some]

theorem Evolves.dropRecordOp : Evolves s t.dropRecordOp := by
  refine h.trans ?_
  unfold Evolves
  rw [State.dropRecordOp_ledger]
  refine Ledger.Evolves.ofBuffer (a := t.ledger) (fun g hg => ?_) (by simp [emptied]) (.inr rfl)
    fun ha => ?_
  · obtain ⟨hg, -⟩ := Option.filter_eq_some_iff.mp hg
    exact ⟨g, hg, rfl, rfl⟩
  have own : ∀ k, ((t.eng.flight.filter fun f => !f.isHost).bind Flight.slot) = some k →
      ∃ f, t.eng.flight = some f ∧ f.slot = some k := by
    intro k hk
    obtain ⟨f, hf, hs⟩ := Option.bind_eq_some_iff.mp hk
    exact ⟨f, (Option.filter_eq_some_iff.mp hf).1, hs⟩
  refine ha.rest (fun k => t.record.op.slot = some k ∨
    (t.eng.flight.filter fun f => !f.isHost).bind Flight.slot = some k) (fun k hk => ?_)
    (fun k x hk hx => ?_) (fun k hk => ?_) ?_ (by simp [RecordOp.slot])
  · simp [getElem?_emptied, if_neg hk]
  · simp only [getElem?_emptied, if_pos hk] at hx
    obtain ⟨y, -, rfl⟩ := Option.map_eq_some_iff.mp hx
    exact .inl rfl
  · rcases hk with hk | hk
    · obtain ⟨-, hs | ⟨g, hg, -, -, hgk⟩⟩ := ha.op k hk
      · exact ⟨(ha.ne_of_still hs (.inr rfl)).1, (ha.ne_of_still hs (.inr rfl)).2.1⟩
      · exact (ha.flight g k hg hgk).2
    · obtain ⟨f, hf, hs⟩ := own k hk
      exact (ha.flight f k hf hs).2
  · show (t.eng.flight.filter Flight.isHost = t.eng.flight ∧
        ∀ j, _ → t.eng.flight.bind Flight.slot ≠ some j) ∨
      (t.eng.flight.filter Flight.isHost = none ∧ ∀ j, t.eng.flight.bind Flight.slot = some j → _)
    cases hf : t.eng.flight with
    | none => simp
    | some f =>
      cases hh : f.isHost with
      | false => exact .inr ⟨by simp [Option.filter_some, hh], fun j hj => .inr (by simpa [Option.filter_some, hh] using hj)⟩
      | true =>
        refine .inl ⟨by simp [Option.filter_some, hh], fun j hj => ?_⟩
        simp only [Option.filter_some, hh] at hj
        obtain ⟨-, hs | ⟨g, hg, hw, -⟩⟩ := ha.op j (by simpa using hj)
        · exact hf ▸ (ha.ne_of_still hs (.inr rfl)).2.2
        · rw [show t.ledger.flight = some f from hf] at hg
          cases hg
          simp [Flight.isHost, hw] at hh

theorem Evolves.writeBackEnds (owner : Who) (good : Bool) : Evolves s (t.writeBackEnds owner good) := by
  unfold State.writeBackEnds
  dsimp only
  split
  · refine .ite (fun _ => h.completeHead _) fun _ => ?_
    split
    · exact h.completeHead _
    · exact h.quiet rfl
    · exact h.completeHead _
  · exact .ite (fun _ => h.quiet rfl) fun _ => h.quiet rfl
  · exact h.quiet rfl
  · exact .ite (fun _ => h) fun _ => .ite (fun _ => h.quiet t.ejectUnloads_ledger) fun _ =>
      h.failEject _ _
  · exact h

theorem Evolves.failWriteBack : Evolves s t.failWriteBack := by
  unfold State.failWriteBack
  split
  · exact h.dropRecordOp.writeBackEnds _ _
  · exact h

theorem Evolves.finishWriteBack {w v : WriteBack} (hop : t.record.op = .writing v)
    (hg : w.generation = v.generation) : Evolves s (t.finishWriteBack w) := by
  unfold State.finishWriteBack
  dsimp only
  refine Evolves.writeBackEnds (h.trans ?_) _ _
  have hd : t.ledger.Evolves t.dropRecordOp.ledger := Evolves.dropRecordOp (.refl t)
  have himg : t.dropRecordOp.record.image = t.record.image :=
    congrArg Ledger.image t.dropRecordOp_ledger
  have hidle : t.dropRecordOp.record.op = .idle := congrArg Ledger.op t.dropRecordOp_ledger
  exact { hd with
    record := fun hsound => by
      obtain ⟨hi, -, -, -⟩ := hd.record hsound
      obtain ⟨-, -, -, hw⟩ := hsound
      have hgen : w.generation < 65536 := hg ▸ hw v hop
      refine ⟨fun img himg => ?_, nofun, fun r hr => ?_, fun x hx => ?_⟩
      · obtain ⟨y, hy, rfl⟩ := Option.map_eq_some_iff.mp himg
        exact (hi y hy).withGeneration hgen
      · cases hidle.symm.trans hr
      · cases hidle.symm.trans hx
    image := fun y hy => by
      obtain ⟨x, hx, rfl⟩ := Option.map_eq_some_iff.mp hy
      exact ⟨x, himg.symm.trans hx, rfl, rfl, rfl, Nat.le_refl _⟩
    slots := fun hacc => .of_eq (a := t.dropRecordOp.ledger) rfl rfl rfl rfl rfl (hd.slots hacc) }

/-- A write-back goes on with its generation, and may let its slot go. -/
theorem Evolves.rewriteOp {u : State} {v w : WriteBack} (hop : t.record.op = .writing v)
    (hu : u.ledger = { t.ledger with op := .writing w }) (hg : w.generation = v.generation)
    (hs : ∀ i, w.slot = some i → v.slot = some i) : Evolves s u := by
  refine h.trans ?_
  unfold Evolves
  rw [hu]
  have hop' : t.ledger.op = .writing v := hop
  exact { Ledger.Evolves.refl t.ledger with
    record := fun ⟨himg, hn, _, hw⟩ =>
      ⟨himg, hn, nofun, fun x hx => by cases hx; exact hg ▸ hw v hop'⟩
    slots := fun ⟨h8, hacc⟩ => ⟨h8, fun hl =>
      { (hacc hl).withOp (op := .writing w) fun j hj => by rw [hop']; exact hs j hj with }⟩ }

theorem Evolves.orphanWriteBack (who heir : Who) : Evolves s (t.orphanWriteBack who heir) := by
  unfold State.orphanWriteBack
  split
  · next w hw =>
    exact .ite (fun _ => h.rewriteOp (w := { w with owner := heir }) hw rfl rfl fun _ => id) fun _ => h
  · exact h

theorem Evolves.waiterSeekFailed (readHeld : Bool) : Evolves s (t.waiterSeekFailed readHeld) := by
  unfold State.waiterSeekFailed
  dsimp only
  refine .ite (fun _ => ?_) fun _ => h
  split
  · exact h.completeHead _
  · exact .ite (fun _ => h.completeHead _) fun _ => h

theorem Evolves.seekFailed (byHold : Bool) : Evolves s (t.seekFailed byHold) := by
  have h0 : Evolves s (t.onPos fun p => { p with requester := .none }) := h.quiet rfl
  unfold State.seekFailed
  dsimp only
  split
  · exact h0
  · exact .ite (fun _ => h0.completeHead _) fun _ => h0
  · split
    · exact Evolves.waiterSeekFailed (.ite (fun _ => h0.dropRecordOp.endWork _) fun _ => h0.dropRecordOp) _
    · exact h0.failWriteBack.waiterSeekFailed _
    · exact .ite (fun _ => h0.endTransfer _) fun _ => h0

theorem Evolves.loseRecordOp : Evolves s t.loseRecordOp := by
  unfold State.loseRecordOp
  split
  · exact h.dropRecordOp
  · exact h.failWriteBack
  · exact h

/-! ### A fault meets the queue -/

theorem Evolves.transferMeetsFault : Evolves s t.transferMeetsFault := by
  unfold State.transferMeetsFault
  split
  · exact .ite (fun _ => .ite (fun _ => h.cutWrite.completeHead _) fun _ => h.quiet rfl) fun _ =>
      h.endTransfer _
  · exact h.endTransfer _

theorem Evolves.headMeetsFault : Evolves s t.headMeetsFault := by
  unfold State.headMeetsFault
  split
  · exact h.transferMeetsFault
  · exact .ite (fun _ => h.quiet rfl) fun _ => h.completeHead _
  · exact .ite (fun _ => h.quiet rfl) fun _ => h.completeHead _
  · split
    · exact h.quiet rfl
    · exact h
    · exact h.completeHead _
  · exact h.quiet rfl
  · exact h

theorem Evolves.workMeetsFault : Evolves s t.workMeetsFault := by
  unfold State.workMeetsFault
  split
  · exact h
  · exact .ite (fun _ => h.quiet rfl) fun _ => h.endWork _

theorem Evolves.downsMeetFault (reaches : Bool) : Evolves s (t.downsMeetFault reaches) := by
  unfold State.downsMeetFault
  dsimp only
  have h1 : Evolves s (if (reaches && t.downs.standby.isSome) = true then
      ((t.onDowns Downs.endStandby).leaveWork .standby).orphanWriteBack .standby .lost else t) :=
    .ite (fun _ => Evolves.orphanWriteBack (h.quiet (by simp)) _ _) fun _ => h
  exact .ite (fun _ => Evolves.orphanWriteBack (h1.quiet (by simp)) _ _) fun _ => h1

theorem Evolves.meetFault (reaches : Bool) : Evolves s (t.meetFault reaches) := by
  unfold State.meetFault
  refine .ite (fun _ => h) fun _ => ?_
  have h1 : Evolves s (if t.recordOpLost = true then t.loseRecordOp else t) :=
    .ite (fun _ => h.loseRecordOp) fun _ => h
  exact h1.workMeetsFault.headMeetsFault.downsMeetFault _

end

end Sys2Proof.Machine
end

section
/-! PROOFS. The requests of the blocks to one another evolve the state: the Positioner's, the Fault
Supervisor's, the servo loop, the Transfer Engine, the Cartridge Control Unit and every reaction. -/

namespace Sys2Proof.Machine

section
variable {s t : State} (h : Evolves s t)
include h

/-! ## The Positioner's requests -/

theorem Evolves.beginUnload : Evolves s t.beginUnload := by
  unfold State.beginUnload
  split
  · exact h.quiet (by simp)
  · exact (h.seekFailed false).quiet (by simp)
  · exact (h.seekFailed false).quiet (by simp)
  · exact (h.seekFailed false).quiet (by simp)
  · exact h

theorem Evolves.unloadRequest : Evolves s t.unloadRequest :=
  Evolves.beginUnload (h.quiet (by simp))

theorem Evolves.retractRequest (cause : FaultKind) : Evolves s (t.retractRequest cause) := by
  have h0 : Evolves s t.withdrawLoads := h.quiet (by simp)
  unfold State.retractRequest
  dsimp only
  split
  · exact h0
  · exact h0
  · exact (h0.seekFailed false).quiet (by simp)

theorem Evolves.holdRequest : Evolves s t.holdRequest := by
  have h0 : Evolves s (t.onPos fun p => { p with hold := true }) := h.quiet rfl
  unfold State.holdRequest
  exact .ite (fun _ => h) fun _ => .ite (fun _ => (h0.seekFailed true).quiet rfl) fun _ => h0

theorem Evolves.retractExpires : Evolves s t.retractExpires := by
  have h0 : Evolves s (t.enterUnloaded.onPos fun p => { p with parkUnconfirmed := true }) :=
    h.quiet (by simp)
  unfold State.retractExpires
  dsimp only
  split
  · exact h0.onRecord _ fun _ => rfl
  · exact h0

/-! ## Recognition -/

theorem Evolves.spindleAction (r : FaultRow) : Evolves s (t.spindleAction r) :=
  .ite (fun _ => h) fun _ => h.quiet (by simp)

theorem Evolves.positionerAction (k : FaultKind) (r : FaultRow) :
    Evolves s (t.positionerAction k r) := by
  unfold State.positionerAction
  dsimp only
  split
  · exact .ite (fun _ => h.unloadRequest) fun _ => h
  · exact .ite (fun _ => h.holdRequest.unloadRequest) fun _ => h.holdRequest
  · exact h.unloadRequest
  · exact h.retractRequest k

theorem Evolves.ejectRetracts (k : FaultKind) : Evolves s (t.ejectRetracts k) :=
  .ite (fun _ => h.retractRequest _) fun _ => h

theorem Evolves.act (k : FaultKind) (r : FaultRow) (latched : Bool) : Evolves s (t.act k r latched) := by
  have h0 : Evolves s (if r.reaches = true then t.cancelRestarts else t) :=
    .ite (fun _ => h.quiet (by simp)) fun _ => h
  have h1 := ((h0.spindleAction r).positionerAction k r).ejectRetracts k
  exact .ite (fun _ => h1.meetFault _) fun _ => h1

theorem Evolves.latchFault (k : FaultKind) (sub : Option SubCause) (retries : Nat) (r : FaultRow) :
    Evolves s (t.latchFault k sub retries r) :=
  Evolves.act ((h.putRecord k sub .latched retries (some r)).quiet (by simp)) k r true

theorem Evolves.retryFault (k : FaultKind) (sub : Option SubCause) (retries : Nat) (r : FaultRow) :
    Evolves s (t.retryFault k sub retries r) :=
  Evolves.act ((h.putRecord k sub .retrying retries (some r)).quiet (by simp)) k r false

theorem Evolves.recognise (k : FaultKind) (sub : Option SubCause) : Evolves s (t.recognise k sub) := by
  have h0 : Evolves s (t.nowPresent k) := h.quiet (by simp)
  have hfresh : Evolves s (match (t.activeRow k).mode with
      | .off => t.nowPresent k
      | .report => ((t.nowPresent k).putRecord k sub .reported 0 none).request .faultReported
      | .retry => (t.nowPresent k).retryFault k sub 0 (t.activeRow k)
      | .latch => (t.nowPresent k).latchFault k sub 0 (t.activeRow k)) := by
    split
    · exact h0
    · exact (h0.putRecord k sub .reported 0 none).quiet (by simp)
    · exact h0.retryFault ..
    · exact h0.latchFault ..
  unfold State.recognise
  dsimp only
  split
  · exact hfresh
  next r _ =>
    split
    · exact hfresh
    · exact hfresh
    ·
      have h1 := h0.putRecord k sub .latched r.retries (some (r.kept.getD (t.activeRow k)))
      exact Evolves.act (h1.quiet (by simp)) k _ false
    · exact .ite (fun _ => h0.retryFault ..) fun _ => h0.latchFault ..

theorem Evolves.recovers (k : FaultKind) : Evolves s (t.recovers k) :=
  (h.onRecord k (f := fun r => { r with state := .recovered, retries := 0, kept := none })
    fun _ => rfl).quiet rfl

theorem Evolves.countWatch (k : FaultKind) : Evolves s (t.countWatch k) := by
  unfold State.countWatch
  dsimp only
  split
  · exact h
  · exact .ite (fun _ => h) fun _ => .ite (fun _ => h.recovers k) fun _ => h.quiet rfl

theorem Evolves.countWatches (l : List FaultKind) : Evolves s (t.countWatches l) :=
  Evolves.foldl (fun s k => Evolves.countWatch (.refl s) k) l h

theorem Evolves.sampleWarning (warning : Bool) : Evolves s (t.sampleWarning warning) :=
  .ite (fun _ => .ite (fun _ => Evolves.recognise (by exact h.quiet rfl) _ _) fun _ => h.quiet rfl) fun _ =>
    h.quiet rfl

theorem Evolves.seekTimerExpires : Evolves s t.seekTimerExpires := by
  have h0 : Evolves s (t.onPos fun p => { p with
      timerCount := 0, timerOn := !(t.pos.state == .unloading)
      seekTimeoutCount := if decide (t.deglitch .seekTimeout ≤ t.pos.seekTimeoutCount + 1)
        then 0 else t.pos.seekTimeoutCount + 1 }) := h.quiet rfl
  have h1 := Evolves.ite (c := decide (t.deglitch .seekTimeout ≤ t.pos.seekTimeoutCount + 1) = true)
    (fun _ => h0.recognise .seekTimeout none) fun _ => h0
  exact .ite (fun _ => h1.quiet (by simp)) fun _ => h1

theorem Evolves.countSeekTimer : Evolves s t.countSeekTimer :=
  .ite (fun _ => .ite (fun _ => h.seekTimerExpires) fun _ => h.quiet rfl) fun _ => h

/-! ## The servo loop -/

theorem Evolves.seekCompute : Evolves s t.seekCompute := by
  unfold State.seekCompute
  split
  · dsimp only
    exact .ite (fun _ => .ite (fun _ => Evolves.recognise (by exact h.quiet rfl) _ _) fun _ => h.quiet rfl)
      fun _ => h.quiet rfl
  · exact h

theorem Evolves.startSeek (req : Requester) (cylinder head : Nat) :
    Evolves s (t.startSeek req cylinder head) :=
  .ite (fun _ => h.quiet (by simp)) fun _ => Evolves.seekCompute (by exact h.quiet rfl)

theorem Evolves.replaceSeek (req : Requester) : Evolves s (t.replaceSeek req) :=
  .ite (fun _ => h) fun _ => h.seekFailed false

theorem Evolves.seekRequest {req : Requester} {cylinder head : Nat} {u : State}
    (hu : t.seekRequest req cylinder head = some u) : Evolves s u := by
  unfold State.seekRequest at hu
  dsimp only at hu
  split at hu
  · cases hu
  · split at hu
    · cases hu
      exact .ite (fun _ => h.quiet (by simp)) fun _ => h.startSeek ..
    · cases hu
      exact .ite (fun _ => h.quiet (by simp)) fun _ => (h.replaceSeek req).startSeek ..
    · cases hu
      exact .ite (fun _ => h.quiet (by simp)) fun _ => (h.replaceSeek req).quiet rfl
    · cases hu

theorem Evolves.enterTracking : Evolves s t.enterTracking := by
  unfold State.enterTracking
  dsimp only
  have h0 : Evolves s ((((t.onPos fun p => { p with
      state := .tracking, settleCount := 0, timerOn := false, requester := .none, restartLoad := false
      seekTimeoutCount := if t.pos.timerOn then 0 else p.seekTimeoutCount }).withdrawLoads.absent
        .seekTimeout))) := h.quiet rfl
  have h1 := Evolves.ite (c := t.pos.timerOn = true) (fun _ => h0.countSeek) fun _ => h0
  have h2 := Evolves.ite (c := ((t.pos.restartLoad || t.fsv.kinds.any KindStatus.wantsLoad) &&
    t.record.state == .notRead) = true) (fun _ => h1.quiet (onRec_readWanted_ledger true _)) fun _ => h1
  have h3 := h2.quiet (State.successPoint_ledger false _)
  exact .ite (fun _ => h3.completeHead .ok) fun _ => h3

theorem Evolves.settleSample (f : Fix) : Evolves s (t.settleSample f) := by
  unfold State.settleSample
  split
  · exact h
  · next c _ =>
    dsimp only
    refine .ite (fun _ => ?_) fun _ => .ite (fun _ => ?_) fun _ => ?_
    · exact .ite (fun _ => Evolves.enterTracking (by exact h.quiet rfl)) fun _ => h.quiet rfl
    · exact .ite (fun _ => Evolves.seekFailed (by exact h.quiet rfl) _) fun _ => h.quiet rfl
    · exact Evolves.seekCompute (.ite (fun _ => h.quiet rfl) fun _ => h.quiet rfl)

theorem Evolves.trackSlip (f : Fix) : Evolves s (t.trackSlip f) := by
  have h0 := h.countTrackSlip
  unfold State.trackSlip
  dsimp only
  refine .ite (fun _ => h0.quiet (by simp)) fun _ => .ite (fun _ => ?_) fun _ => ?_
  · exact Evolves.settleSample (h0.quiet (by simp)) f
  · exact Evolves.seekCompute (h0.quiet (by simp))

theorem Evolves.trackSample (f : Fix) : Evolves s (t.trackSample f) :=
  .ite (fun _ => h.quiet rfl) fun _ => h.trackSlip f

theorem Evolves.seekSample (f : Fix) : Evolves s (t.seekSample f) :=
  .ite (fun _ => Evolves.settleSample (h.quiet (by simp)) f) fun _ => h.seekCompute

theorem Evolves.validSample (cylinder : Nat) (pes : Int) : Evolves s (t.validSample cylinder pes) := by
  have h0 : Evolves s ((t.onPos fun p => { p with
      fix := some (Fix.next t.pos.fix cylinder pes), dropCount := 0 }).absent .servoLost) := h.quiet rfl
  unfold State.validSample
  dsimp only
  split
  · exact Evolves.settleSample (by exact h0.quiet rfl) _
  · exact h0.settleSample _
  · exact h0.trackSample _
  · exact h0.seekSample _
  · exact .ite (fun _ => h0.quiet (by simp)) fun _ => h0.seekCompute
  · exact h0

theorem Evolves.dropSample : Evolves s t.dropSample := by
  have h0 : ∀ n, Evolves s ((t.onPos fun p => { p with
      fix := p.fix.map Fix.drop, dropCount := n
      settleCount := if p.state == .settling then 0 else p.settleCount }).countDrop) :=
    fun n => Evolves.countDrop (by exact h.quiet rfl)
  exact .ite (fun _ => (h0 _).recognise _ _) fun _ => h0 _

theorem Evolves.loadTimesOut : Evolves s t.loadTimesOut := by
  have h0 : Evolves s (t.beginToRamp.recognise .servoLost (some .load)) :=
    Evolves.recognise (h.quiet (by simp)) _ _
  exact h0.quiet (State.rampReached_ledger _)

theorem Evolves.takeSample (valid : Bool) (cylinder head : Nat) (pes : Int) :
    Evolves s (t.takeSample valid cylinder head pes) := by
  have h0 : Evolves s (t.onPos fun p => { p with window := .taken }) := h.quiet rfl
  exact .ite (fun _ => .ite (fun _ => h0.validSample ..) fun _ => h0.dropSample) fun _ => h

theorem Evolves.nextWindow : Evolves s t.nextWindow := by
  unfold State.nextWindow
  dsimp only
  have h1 := Evolves.ite (c := (t.pos.window == .waiting) = true) (fun _ => h.dropSample) fun _ => h
  have h2 : Evolves s (if (t.pos.state == .loading) = true then
      if Config.loadWindowLimit ≤ (if (t.pos.window == .closed) = true then 0 else t.pos.loadWindows + 1) then
        (if (t.pos.window == .waiting) = true then t.dropSample else t).loadTimesOut
      else (if (t.pos.window == .waiting) = true then t.dropSample else t).onPos fun p => { p with
        loadWindows := if (t.pos.window == .closed) = true then 0 else t.pos.loadWindows + 1 }
    else if (t.pos.window == .waiting) = true then t.dropSample else t) :=
    .ite (fun _ => .ite (fun _ => h1.loadTimesOut) fun _ => h1.quiet rfl) fun _ => h1
  exact .ite (fun _ => .ite (fun _ => h2.quiet rfl) fun _ => h2) fun _ => h

/-! ## The Transfer Engine -/

theorem Evolves.approach {cylinder head : Nat} {u : State} (hu : t.approach cylinder head = some u) :
    Evolves s u := by
  unfold State.approach at hu
  split at hu
  · cases hu; exact h
  · split at hu
    · cases hu; exact h.quiet (by simp)
    · exact h.seekRequest hu

theorem Evolves.engineSeek : Evolves s t.engineSeek := by
  unfold State.engineSeek
  split
  · exact h
  · have h0 : Evolves s (t.onEng fun e => { e with state := .seekWait }) := h.quiet rfl
    dsimp only
    split
    · next hu => exact h0.approach hu
    · exact h0.endTransfer _

theorem Evolves.takeBlock : Evolves s t.takeBlock := by
  unfold State.takeBlock
  split
  · exact Evolves.engineSeek (by exact h.quiet rfl)
  · exact h.endTransfer _

theorem Evolves.endPending (st : Status) : Evolves s (t.endPending st) :=
  .ite (fun _ => h.endTransfer _) fun _ => h.completeHead _

theorem Evolves.finishBlock : Evolves s t.finishBlock := by
  unfold State.finishBlock
  split
  · exact h.endPending _
  · have h0 : Evolves s (t.onEng (Engine.advance t.extents)) := h.quiet rfl
    exact .ite (fun _ => h0.takeBlock) fun _ => h0.endTransfer _

theorem Evolves.recordSeekFails : Evolves s t.recordSeekFails := by
  unfold State.recordSeekFails
  split
  · exact .ite (fun _ => h.dropRecordOp.endWork _) fun _ => h.dropRecordOp
  · exact h.failWriteBack
  · exact h

theorem Evolves.recordSeek : Evolves s t.recordSeek := by
  unfold State.recordSeek
  split
  · next hu => exact h.seekRequest hu
  · exact h.recordSeekFails

/-- A record operation that starts has no slot yet. -/
theorem Evolves.startOp {u : State} {op : RecordOp} (hu : u.ledger = { t.ledger with op := op })
    (hs : op.slot = none) (hr : t.recordSound → ({ t.ledger with op := op } : Ledger).recordSound) :
    Evolves s u := by
  refine h.trans ?_
  unfold Evolves
  rw [hu]
  exact { Ledger.Evolves.refl t.ledger with
    record := hr
    slots := fun ⟨h8, hacc⟩ => ⟨h8, fun hl =>
      { (hacc hl).withOp (op := op) (fun j hj => by rw [hs] at hj; cases hj) with }⟩ }

/-- A record read starts only where there is no image (R5). -/
theorem Evolves.startRecordRead (hn : t.record.state = .notRead) : Evolves s t.startRecordRead := by
  refine Evolves.recordSeek (h.startOp rfl rfl ?_)
  rintro ⟨himg, hnone, -, -⟩
  refine ⟨himg, hnone, fun r hr => ?_, nofun⟩
  cases hr
  refine ⟨hnone hn, by simp, fun d hd l hl => ?_⟩
  rw [List.eq_of_mem_replicate hd] at hl
  cases hl

theorem Evolves.startWriteBack (who : Who) : Evolves s (t.startWriteBack who) := by
  unfold State.startWriteBack
  split
  · exact h
  · refine Evolves.recordSeek (h.startOp rfl rfl ?_)
    rintro ⟨himg, hnone, -, -⟩
    exact ⟨himg, hnone, nofun, fun w hw => by cases hw; exact Nat.mod_lt _ (by omega)⟩

/-! ## The cartridge and the eject -/

/-- The cartridge goes, and its record with it. -/
theorem Evolves.cartridgeLeaves : Evolves s t.cartridgeLeaves := by
  have h0 : Evolves s ((((t.onCcu fun c => { c with
      state := .absent, mediaChange := (c.mediaChange + 1) % 256, protect := false
      ejector := false }).clearHolds.request .cartridgeRemoved).forgetRecord)) := by
    refine h.trans { Ledger.Evolves.refl t.ledger with
      counts := ?_, record := ?_, image := nofun, slots := .of_eq rfl rfl rfl rfl rfl }
    · rintro ⟨-, -, ht, hc⟩
      exact ⟨Nat.zero_le _, Nat.le_of_lt_succ (Nat.mod_lt _ (by decide)), ht, hc⟩
    · rintro ⟨-, -, hr, hw⟩
      exact ⟨nofun, fun _ => rfl, fun r hr' => ⟨rfl, (hr r hr').2⟩, hw⟩
  exact (h0.endWork .noCartridge).quiet (by simp [State.cartridgeLeaves])

theorem Evolves.completeAll (st : Status) (n : Nat) : Evolves s (t.completeAll st n) := by
  induction n generalizing t with
  | zero => exact h
  | succ n ih => exact ih (h.completeHead st)

omit h in
theorem onCcu_releasePending_ledger (b : Bool) (s : State) :
    (s.onCcu fun c => { c with releasePending := b }).ledger = s.ledger := rfl

theorem Evolves.doorForced : Evolves s t.doorForced := by
  have h1 : Evolves s (((t.nowPresent .doorForced).putRecord .doorForced none .latched 0
      (some (fixedRow .doorForced))).endRetry .doorForced) :=
    (Evolves.putRecord (h.quiet (t.nowPresent_ledger _)) ..).quiet (State.endRetry_ledger _ _)
  have h2 : Evolves s _ := (h1.dropRecordOp.quiet (State.onDowns_ledger (fun _ => ⟨none, none, none, false⟩) _))
  unfold State.doorForced
  dsimp only
  refine Evolves.quiet ?_ (State.stopRequest_ledger ..)
  refine Evolves.retractRequest (Evolves.completeAll (Evolves.cartridgeLeaves ?_) ..) _
  refine Evolves.quiet ?_ (State.setEnd_ledger ..)
  exact Evolves.cutWrite ((h2.endEject _).quiet (onCcu_releasePending_ledger true _))

omit h in
theorem foldl_completeWaiting_ledger (st : Status) (tags : List Byte) (s : State) :
    ∃ l : List Packet, l.length = tags.length ∧
      (tags.foldl (fun v t => v.completeWaiting t st) s).ledger = { s.ledger with
        dbi := { s.dbi with replies := s.dbi.replies ++ l }
        queue := s.queue.filter fun e => e.executing || !tags.contains e.tag } := by
  induction tags generalizing s with
  | nil =>
    have hq : (s.queue.filter fun e => e.executing || !([] : List Byte).contains e.tag) = s.queue :=
      List.filter_eq_self.mpr fun e _ => by simp
    exact ⟨[], rfl, by rw [hq]; simp [State.ledger]⟩
  | cons t tags ih =>
    obtain ⟨l, hl, heq⟩ := ih (s.completeWaiting t st)
    refine ⟨.done t st 0 0 0 none none :: l, by simp [hl], ?_⟩
    rw [List.foldl_cons, heq]
    have hq : (s.completeWaiting t st).queue = s.queue.filter fun e => e.executing || e.tag != t := rfl
    have hf : (s.completeWaiting t st).queue.filter (fun e => e.executing || !tags.contains e.tag) =
        s.queue.filter fun e => e.executing || !(t :: tags).contains e.tag := by
      rw [hq, List.filter_filter]
      refine List.filter_congr fun e _ => ?_
      by_cases ht : e.tag = t <;> cases e.executing <;> simp [ht]
    rw [hf]
    simp [State.ledger, State.completeWaiting, State.placeDone, State.place, Engine.none]

/-- An entry that waits leaves the queue with one DONE. -/
theorem Evolves.queueShrinks {u : State} {l : List Packet} {q : List Entry}
    (hu : u.ledger = { t.ledger with
      dbi := { t.dbi with replies := t.dbi.replies ++ l }, queue := q })
    (hq : (q.map Entry.key).Sublist (t.queue.map Entry.key))
    (hl : l.length + q.length ≤ t.queue.length) : Evolves s u := by
  refine h.trans ?_
  unfold Evolves
  rw [hu]
  exact { Ledger.Evolves.refl t.ledger with
    replies := List.prefix_append ..
    places := by simp [Ledger.places]; omega
    queue := hq
    slots := fun ⟨h8, hacc⟩ => ⟨h8, fun hs => { hacc hs with }⟩ }

theorem Evolves.abortWaiting : Evolves s t.abortWaiting := by
  obtain ⟨l, hl, heq⟩ := foldl_completeWaiting_ledger .ejectAborted
    ((t.queue.filter fun e => !e.executing).map Entry.tag) t
  have hall : (t.queue.filter fun e => e.executing ||
      !((t.queue.filter fun e => !e.executing).map Entry.tag).contains e.tag) =
      t.queue.filter Entry.executing := by
    refine List.filter_congr fun e he => ?_
    cases hx : e.executing with
    | true => rfl
    | false => simp; exact ⟨e, ⟨he, hx⟩, rfl⟩
  rw [hall] at heq
  refine h.queueShrinks heq (List.Sublist.map _ List.filter_sublist) ?_
  rw [hl, List.length_map]
  have := List.length_eq_countP_add_countP Entry.executing (l := t.queue)
  simp only [List.countP_eq_length_filter] at this
  simp only [Bool.not_eq_true, Bool.decide_eq_false] at this
  omega

theorem Evolves.stopExecuting (st : Status) : Evolves s (t.stopExecuting st) :=
  .ite (fun _ => h) fun _ => .ite (fun _ => h.quiet rfl) fun _ => h.completeHead st

theorem Evolves.cutQueue : Evolves s t.cutQueue :=
  .ite (fun _ => h.abortWaiting.stopExecuting _) fun _ => (h.stopExecuting _).abortWaiting

omit h in
/-- An eject evolves the state that its record has been put into. -/
theorem Evolves.beginEject {mode : EjectMode} {force : Bool} {tags : List Byte}
    (h : Evolves s (t.onCcu fun c => { c with eject := some ⟨some .draining, mode, force, tags, .undecided⟩ })) :
    Evolves s (t.beginEject mode force tags) := by
  have h0 : Evolves s ((t.cancelRestarts.onDowns Downs.leaveStandby).onCcu fun c =>
    { c with eject := some ⟨some .draining, mode, force, tags, .undecided⟩, buttonRefused := false }) :=
    h.quiet rfl
  unfold State.beginEject
  dsimp only
  refine .ite (fun _ => h0.quiet (by simp)) fun _ => .ite (fun _ => ?_) fun _ => h0.quiet rfl
  exact Evolves.cutQueue (h0.quiet rfl)

omit h in
/-- A merged EJECT evolves the state that its tag has been put into. -/
theorem Evolves.mergeEject {tag : Byte} {mode : EjectMode} {force : Bool}
    (h : Evolves s (t.onCcu fun c => { c with eject := c.eject.map fun e =>
      { e with tags := e.tags ++ [tag] } })) : Evolves s (t.mergeEject tag mode force) := by
  unfold State.mergeEject
  dsimp only
  refine .ite (fun _ => Evolves.cutQueue (h.quiet ?_)) fun _ => h.quiet ?_ <;>
  · rw [State.forceFlush_ledger]
    cases he : t.ccu.eject <;> simp [State.ledger, he]

end

end Sys2Proof.Machine
end

section
/-! PROOFS. The change of a REASSIGN BLOCK (R29): what its insertion does to a reassign table, and that a
sound image stays sound. -/

namespace Sys2Proof.Machine

theorem chainOk_of_pairwise {α : Type} {r : α → α → Bool} :
    ∀ l : List α, (l.Pairwise fun a b => r a b = true) → chainOk r l = true
  | [], _ => rfl
  | [_], _ => rfl
  | a :: b :: rest, h => by
    have hab : r a b = true := List.rel_of_pairwise_cons h List.mem_cons_self
    simp [chainOk, hab, chainOk_of_pairwise (b :: rest) h.of_cons]

theorem noRepeats_of_nodup : ∀ l : List Nat, l.Nodup → noRepeats l = true
  | [], _ => rfl
  | a :: rest, h => by
    obtain ⟨ha, hrest⟩ := List.nodup_cons.1 h
    simp [noRepeats, ha, noRepeats_of_nodup rest hrest]

/-! ## The insertion -/

/-- A reassign table in ascending LBA order (R3). -/
def LbaAscend (t : List Reassign) : Prop := t.Pairwise fun a b => a.lba < b.lba

theorem mem_insertReassign {l a : Nat} {t : List Reassign} {e : Reassign}
    (h : e ∈ insertReassign l a t) : e = ⟨l, a⟩ ∨ e ∈ t := by
  induction t with
  | nil => exact .inl (by simpa [insertReassign] using h)
  | cons f t ih =>
    rw [insertReassign] at h
    split at h
    · rcases List.mem_cons.1 h with h | h
      · exact .inl h
      · exact .inr (List.mem_cons_of_mem f h)
    · split at h
      · exact List.mem_cons.1 h
      · rcases List.mem_cons.1 h with rfl | h
        · exact .inr List.mem_cons_self
        · exact (ih h).imp_right (List.mem_cons_of_mem f)

theorem insertReassign_ascend {l : Nat} (a : Nat) {t : List Reassign} (h : LbaAscend t) :
    LbaAscend (insertReassign l a t) := by
  induction t with
  | nil => exact List.pairwise_singleton ..
  | cons f t ih =>
    have hf : ∀ g ∈ t, f.lba < g.lba := fun g hg => List.rel_of_pairwise_cons h hg
    rw [insertReassign]
    split
    · next heq =>
      have heq : f.lba = l := by simpa using heq
      exact List.pairwise_cons.2 ⟨fun g hg => heq ▸ hf g hg, h.of_cons⟩
    · next hne =>
      have hne : f.lba ≠ l := by simpa using hne
      split
      · next hlt =>
        refine List.pairwise_cons.2 ⟨fun g hg => ?_, h⟩
        rcases List.mem_cons.1 hg with rfl | hg
        · exact hlt
        · exact Nat.lt_trans hlt (hf g hg)
      · next hge =>
        refine List.pairwise_cons.2 ⟨fun g hg => ?_, ih h.of_cons⟩
        rcases mem_insertReassign hg with rfl | hg
        · show f.lba < l; omega
        · exact hf g hg

theorem insertReassign_length_le (l a : Nat) (t : List Reassign) :
    (insertReassign l a t).length ≤ t.length + 1 := by
  induction t with
  | nil => exact Nat.le_refl _
  | cons f t ih =>
    rw [insertReassign]
    repeat' split
    all_goals simp only [List.length_cons]
    all_goals omega

/-- The entry of an address that has one is replaced. -/
theorem insertReassign_length_of_mem {l : Nat} (a : Nat) {t : List Reassign} (h : LbaAscend t)
    (hl : ∃ e ∈ t, e.lba = l) : (insertReassign l a t).length = t.length := by
  induction t with
  | nil => simp at hl
  | cons f t ih =>
    have hf : ∀ g ∈ t, f.lba < g.lba := fun g hg => List.rel_of_pairwise_cons h hg
    obtain ⟨e, he, rfl⟩ := hl
    rw [insertReassign]
    split
    · rfl
    · next hne =>
      rcases List.mem_cons.1 he with rfl | he
      · simp at hne
      · rw [if_neg (Nat.not_lt_of_lt (hf e he)), List.length_cons, ih h.of_cons ⟨e, he, rfl⟩,
          List.length_cons]

/-- The alternates of the table stay apart when the new one is not among them. -/
theorem insertReassign_alternates {l a : Nat} {t : List Reassign}
    (h : (t.map Reassign.alternate).Nodup) (ha : ∀ e ∈ t, e.alternate ≠ a) :
    ((insertReassign l a t).map Reassign.alternate).Nodup := by
  have fresh {t : List Reassign} (ha : ∀ e ∈ t, e.alternate ≠ a) : a ∉ t.map Reassign.alternate := by
    simpa using fun e he => ha e he
  induction t with
  | nil => simp [insertReassign]
  | cons f t ih =>
    obtain ⟨hf, ht⟩ := List.nodup_cons.1 h
    have hat : ∀ e ∈ t, e.alternate ≠ a := fun e he => ha e (List.mem_cons_of_mem f he)
    rw [insertReassign]
    split
    · exact List.nodup_cons.2 ⟨fresh hat, ht⟩
    · split
      · exact List.nodup_cons.2 ⟨fresh ha, h⟩
      · refine List.nodup_cons.2 ⟨fun hmem => ?_, ih ht hat⟩
        obtain ⟨e, he, heq⟩ := List.mem_map.1 hmem
        rcases mem_insertReassign he with rfl | he
        · exact ha f List.mem_cons_self heq.symm
        · exact hf (List.mem_map.2 ⟨e, he, heq⟩)

/-- The address translates to its new slot. -/
theorem find?_insertReassign_self (l a : Nat) (t : List Reassign) :
    (insertReassign l a t).find? (fun e => e.lba == l) = some ⟨l, a⟩ := by
  induction t with
  | nil => simp [insertReassign]
  | cons f t ih =>
    rw [insertReassign]
    split
    · simp
    · next hne =>
      split
      · simp
      · simpa [hne] using ih

theorem find?_insertReassign_ne {l m : Nat} (a : Nat) (hm : m ≠ l) (t : List Reassign) :
    (insertReassign l a t).find? (fun e => e.lba == m) = t.find? fun e => e.lba == m := by
  have hl : ¬ ((⟨l, a⟩ : Reassign).lba == m) = true := by simpa using Ne.symm hm
  induction t with
  | nil => exact List.find?_cons_of_neg hl
  | cons f t ih =>
    rw [insertReassign]
    split
    · next heq =>
      have heq : f.lba = l := by simpa using heq
      simp [heq, Ne.symm hm]
    · split
      · simp [Ne.symm hm]
      · rw [List.find?_cons, List.find?_cons, ih]

/-! ## The image -/

theorem Image.Keeps.reassign (l : Nat) (img : Image) : img.Keeps (img.reassign l) :=
  ⟨rfl, rfl, rfl, Nat.le_succ _⟩

theorem Image.sound.lbaAscend {img : Image} (h : img.sound) : LbaAscend img.reassigns := by
  obtain ⟨-, -, hre, -⟩ := h
  simp only [reassignsOk, Bool.and_eq_true] at hre
  obtain ⟨⟨⟨⟨-, hchain⟩, -⟩, -⟩, -⟩ := hre
  simpa [LbaAscend] using
    pairwise_of_chainOk (fun a b c hab hbc => by simp only [decide_eq_true_eq] at *; omega) _ hchain

/-- REASSIGN BLOCK keeps an image sound: its address is inside the capacity, a slot is left, and the table
has room or an entry of the address (R28). -/
theorem Image.sound.reassign {img : Image} (h : img.sound) {l : Nat} (hl : l < capacityOf img.zones)
    (hslot : img.nextAlternate < alternateCount img.zones)
    (hroom : img.reassigns.length < 64 ∨ ∃ e ∈ img.reassigns, e.lba = l) : (img.reassign l).sound := by
  have hasc := h.lbaAscend
  have hlt := insertReassign_length_le l img.nextAlternate img.reassigns
  have hsame := insertReassign_length_of_mem (l := l) img.nextAlternate hasc
  obtain ⟨hz, hs, hre, hrest⟩ := h
  simp only [reassignsOk, Bool.and_eq_true, decide_eq_true_eq, List.all_eq_true] at hre
  obtain ⟨⟨⟨⟨hcount, -⟩, hdistinct⟩, hall⟩, -⟩ := hre
  refine ⟨hz, hs, ?_, hrest⟩
  unfold reassignsOk Image.reassign
  simp only [Bool.and_eq_true, decide_eq_true_eq, List.all_eq_true]
  refine ⟨⟨⟨⟨?_, ?_⟩, ?_⟩, fun e he => ?_⟩, hslot⟩
  · rcases hroom with hroom | hmem
    · omega
    · exact (hsame hmem).symm ▸ hcount
  · exact chainOk_of_pairwise _ (by simpa [LbaAscend] using insertReassign_ascend img.nextAlternate hasc)
  · refine noRepeats_of_nodup _ (insertReassign_alternates (nodup_of_noRepeats _ hdistinct) ?_)
    exact fun e he => Nat.ne_of_lt (hall e he).2
  · rcases mem_insertReassign he with rfl | he
    · exact ⟨hl, Nat.lt_succ_self _⟩
    · exact ⟨(hall e he).1, Nat.lt_succ_of_lt (hall e he).2⟩

/-- REASSIGN BLOCK is refused unless the image has a place for its address (R28). -/
theorem reassignRefused_eq_none {s : State} {l : Nat} (h : s.reassignRefused l = none) :
    ∃ img, s.record.image = some img ∧ l < capacityOf img.zones ∧
      img.nextAlternate ≠ alternateCount img.zones ∧
      (img.reassigns.length < 64 ∨ ∃ e ∈ img.reassigns, e.lba = l) := by
  unfold State.reassignRefused at h
  repeat' split at h
  all_goals try cases h
  next img himg hcap hslot hroom =>
    refine ⟨img, himg, Nat.lt_of_not_le hcap, by simpa using hslot, ?_⟩
    by_cases hlen : img.reassigns.length < 64
    · exact .inl hlen
    · exact .inr (by simpa [Nat.le_of_not_lt hlen] using hroom)

theorem Image.sound.nextAlternate_le {img : Image} (h : img.sound) :
    img.nextAlternate ≤ alternateCount img.zones := by
  obtain ⟨-, -, hre, -⟩ := h
  simp only [reassignsOk, Bool.and_eq_true, decide_eq_true_eq] at hre
  exact hre.2

end Sys2Proof.Machine
end

section
/-! PROOFS. Every reaction of the blocks within an event evolves the state, and so does the settling. -/

namespace Sys2Proof.Machine

/-- A rule evolves every state that it applies to. -/
def Reacts (r : State → Option State) : Prop := ∀ s t, r s = some t → Evolves s t

theorem reacts_guarded {g : State → Bool} {f : State → State} (hf : ∀ s, g s = true → Evolves s (f s)) :
    Reacts fun s => guarded (g s) (f s) := by
  intro s t h
  obtain ⟨hg, rfl⟩ := guarded_eq_some h
  exact hf s hg

/-! ## Spindle, heads and sectors in flight -/

theorem reactOwnUnload_reacts : Reacts reactOwnUnload := reacts_guarded fun s _ => (Evolves.refl s).beginUnload

/-- A sector being written is cut: its slot is EMPTY or FULL again. -/
theorem cutFlight_evolves {s : State} {f : Flight} (hf : s.eng.flight = some f)
    (hk : f.kind = .write ∨ f.kind = .recordWrite) : Evolves s (s.cutFlight f) := by
  have hbind : s.ledger.flight.bind Flight.slot = f.slot := by simp [hf]
  have gone (hslot : f.slot = none) {u : State} (hu : u.ledger = { s.ledger with flight := none }) :
      Evolves s u := by
    unfold Evolves
    rw [hu]
    exact Ledger.Evolves.ofBuffer (a := s.ledger) (slots := s.slots) (op := s.record.op) nofun rfl
      (.inl rfl) fun ha => ha.land (hbind.trans hslot)
  unfold State.cutFlight
  refine .ite (fun _ => (Evolves.refl s).cutWrite) fun _ => .ite (fun hc => ?_) fun hc => ?_
  · cases hs : f.slot with
    | none => exact gone hs rfl
    | some i =>
      refine Ledger.Evolves.ofBuffer (a := s.ledger) (fl := none) (op := s.record.op) nofun
        (List.length_modify ..) (.inl rfl) fun ha => ?_
      obtain ⟨hm, hbus⟩ := ha.flight f i hf hs
      refine ha.restAt hbus (.inr ⟨rfl, fun j hj => by rw [hbind, hs] at hj; cases hj; rfl⟩)
        (fun _ => .inl rfl) fun j hj => .inl ⟨?_, hj⟩
      rintro rfl
      obtain ⟨-, hfull | ⟨g, hg, hw, -⟩⟩ := ha.op j hj
      · rw [hm] at hfull
        rcases hk with hk | hk <;> rw [hk] at hfull <;> cases hfull
      · rw [show s.ledger.flight = some f from hf] at hg
        cases hg
        simp [hw] at hc
  · cases hs : f.slot with
    | none => exact gone hs rfl
    | some i =>
      refine Ledger.Evolves.ofBuffer (a := s.ledger) (fl := none) (op := s.record.op) nofun
        (List.length_modify ..) (.inl rfl) fun ha => ?_
      obtain ⟨hm, hbus⟩ := ha.flight f i hf hs
      refine ha.restAt hbus (.inr ⟨rfl, fun j hj => by rw [hbind, hs] at hj; cases hj; rfl⟩)
        (fun _ => .inr rfl) fun j hj => ?_
      by_cases hji : j = i
      · subst hji
        have htag := (ha.op j hj).1
        cases hx : s.slots[j]? with
        | none => simp [Ledger.slotState, hx] at hm
        | some x => exact .inr ⟨rfl, x, hx, rfl, by simpa [hx] using htag⟩
      · exact .inl ⟨hji, hj⟩

theorem reactFlight_reacts : Reacts reactFlight := by
  intro s t h
  unfold reactFlight at h
  split at h
  · cases h
  · next f hf =>
    split at h
    · next hk =>
      obtain ⟨-, rfl⟩ := guarded_eq_some h
      exact cutFlight_evolves hf (by simpa using hk)
    · obtain ⟨-, rfl⟩ := guarded_eq_some h
      have hu : (s.onEng fun e => { e with flight := some { f with spoiled := true } }).ledger =
          { s.ledger with flight := some { f with spoiled := true } } := rfl
      unfold Evolves
      rw [hu]
      refine Ledger.Evolves.ofBuffer (a := s.ledger) (slots := s.slots) (op := s.record.op)
        (fun g hg => by cases hg; exact ⟨f, hf, rfl, rfl⟩) rfl (.inl rfl) fun ha => ?_
      have hfl : s.ledger.flight = some f := hf
      exact { filling := fun i hi => by simpa [hf] using ha.filling i hi
              draining := fun i hi => by simpa [hf] using ha.draining i hi
              inb := ha.inb
              out := ha.out
              oneWay := ha.oneWay
              verify := fun g hg hk => by cases hg; exact ha.verify f hfl hk
              flight := fun g i hg hi => by cases hg; exact ha.flight f i hfl hi
              op := fun i hi => by
                obtain ⟨ht, hs | ⟨g, hg, hw, ho, hgi⟩⟩ := ha.op i hi
                · exact ⟨ht, .inl hs⟩
                · rw [hfl] at hg
                  cases hg
                  exact ⟨ht, .inr ⟨_, rfl, hw, ho, hgi⟩⟩
              reset := ha.reset }

theorem reactRecordLost_reacts : Reacts reactRecordLost :=
  reacts_guarded fun s _ => (Evolves.refl s).loseRecordOp

/-! ## Cartridge and spindle reports -/

theorem reactStopCheck_reacts : Reacts reactStopCheck := reacts_guarded fun s _ => (Evolves.refl s).quiet rfl
theorem reactRelease_reacts : Reacts reactRelease := reacts_guarded fun s _ => (Evolves.refl s).quiet rfl
theorem reactEjecting_reacts : Reacts reactEjecting :=
  reacts_guarded fun s _ => (Evolves.refl s).quiet (by simp)

theorem reactStopped_reacts : Reacts reactStopped := by
  intro s t h
  unfold reactStopped at h
  repeat' split at h
  all_goals cases h
  · exact (Evolves.refl s).completeHead _
  · exact (Evolves.refl s).quiet rfl
  · exact (Evolves.refl s).quiet rfl

theorem reactParked_reacts : Reacts reactParked := by
  intro s t h
  unfold reactParked at h
  dsimp only at h
  repeat' split at h
  all_goals cases h
  all_goals exact (Evolves.refl s).quiet (by simp)

theorem reactEjectParked_reacts : Reacts reactEjectParked := by
  refine reacts_guarded fun s _ => .ite (fun _ => (Evolves.refl s).failEject _ _) fun _ =>
    (Evolves.refl s).quiet ?_
  rw [State.stopRequest_ledger]
  exact onCcu_eject_ledger (f := fun e => { e with phase := some .stopping }) (fun _ => rfl) s

theorem reactBrake_reacts : Reacts reactBrake := reacts_guarded fun s _ => (Evolves.refl s).quiet rfl
theorem reactStart_reacts : Reacts reactStart := reacts_guarded fun s _ => (Evolves.refl s).quiet rfl
theorem reactLoad_reacts : Reacts reactLoad := reacts_guarded fun s _ => (Evolves.refl s).quiet rfl

/-! ## Works of SPIN UP -/

theorem reactWorkCut_reacts : Reacts reactWorkCut := by
  intro s t h
  unfold reactWorkCut at h
  split at h
  · obtain ⟨-, rfl⟩ := guarded_eq_some h
    exact (Evolves.refl s).endWork _
  · cases h

theorem reactEnd_reacts : Reacts reactEnd := by
  intro s t h
  unfold reactEnd at h
  split at h
  · obtain ⟨-, rfl⟩ := guarded_eq_some h
    exact .ite (fun _ => (Evolves.refl s).endPending _) fun _ => (Evolves.refl s).completeHead _
  · cases h

theorem workCartridge_reacts (w : SpinUpWork) : Reacts (workCartridge w) := by
  intro s t h
  unfold workCartridge at h
  split at h <;> cases h
  all_goals exact (Evolves.refl s).quiet rfl

theorem workSpindle_reacts (w : SpinUpWork) : Reacts (workSpindle w) := by
  intro s t h
  unfold workSpindle at h
  split at h
  · cases h; exact (Evolves.refl s).quiet rfl
  · obtain ⟨-, rfl⟩ := guarded_eq_some h
    exact (Evolves.refl s).quiet (by simp)

theorem workHeads_reacts (w : SpinUpWork) : Reacts (workHeads w) := by
  intro s t h
  unfold workHeads at h
  split at h
  · cases h; exact (Evolves.refl s).quiet rfl
  · split at h
    · cases h; exact (Evolves.refl s).quiet rfl
    · obtain ⟨-, rfl⟩ := guarded_eq_some h
      exact (Evolves.refl s).quiet (by simp)

theorem workRecord_reacts (w : SpinUpWork) : Reacts (workRecord w) := by
  intro s t h
  unfold workRecord at h
  split at h
  · next hn =>
    split at h
    · cases h
    · split at h
      · cases h; exact (Evolves.refl s).quiet rfl
      · obtain ⟨-, rfl⟩ := guarded_eq_some h
        exact (Evolves.refl s).startRecordRead hn
  · cases h; exact (Evolves.refl s).endWork _
  · cases h; exact (Evolves.refl s).endWork _

theorem reactWork_reacts : Reacts reactWork := by
  intro s t h
  unfold reactWork at h
  split at h
  · cases h
  · next w _ =>
    split at h
    · cases h; exact (Evolves.refl s).endWork _
    · split at h
      · exact workCartridge_reacts w s t h
      · exact workSpindle_reacts w s t h
      · exact workHeads_reacts w s t h
      · exact workRecord_reacts w s t h

/-! ## Record operations -/

theorem reactReadDue_reacts : Reacts reactReadDue :=
  reacts_guarded fun s _ => .ite
    (fun hn => (Evolves.refl s).startRecordRead (by simpa using hn)) fun _ => (Evolves.refl s).quiet rfl

theorem reactReached_reacts : Reacts reactReached := by
  intro s t h
  unfold reactReached at h
  split at h
  · next w hw =>
    obtain ⟨-, rfl⟩ := guarded_eq_some h
    exact (Evolves.refl s).rewriteOp (w := { w with reached := true }) hw rfl rfl fun _ => id
  · cases h

theorem reactRecordSeek_reacts : Reacts reactRecordSeek :=
  reacts_guarded fun s _ => (Evolves.refl s).recordSeek

/-- The slot that a state finds EMPTY (R104). -/
theorem emptySlot_spec {s : State} {i : Nat} (h : s.emptySlot = some i) :
    ∃ x, s.slots[i]? = some x ∧ x.state = .empty := by
  obtain ⟨hi, hx, -⟩ := List.findIdx?_eq_some_iff_getElem.mp h
  exact ⟨_, List.getElem?_eq_getElem hi, by simpa using hx⟩

theorem reactRecordSlot_reacts : Reacts reactRecordSlot := by
  intro s t h
  unfold reactRecordSlot at h
  split at h
  · next w i hw hi =>
    obtain ⟨hnone, rfl⟩ := guarded_eq_some h
    obtain ⟨x, hx, hempty⟩ := emptySlot_spec hi
    have hop : s.ledger.op = .writing w := hw
    have buffer : (s.onSlot i fun _ => ⟨.full, none, w.next, 0, 0, w.sectors.getD w.next []⟩).onRec
        (fun r => { r with op := .writing { w with slot := some i } }) = _ := rfl
    exact { Ledger.Evolves.refl s.ledger with
      record := fun ⟨himg, hn, _, hgen⟩ =>
        ⟨himg, hn, nofun, fun v hv => by cases hv; exact hgen w hop⟩
      slots := fun ⟨h8, hacc⟩ => ⟨(List.length_modify ..).trans h8, fun hl => by
        have ha := hacc hl
        have hst : s.ledger.slotState i = some .empty := by simp [Ledger.slotState, hx, hempty]
        obtain ⟨hin, hout, hfl⟩ := ha.ne_of_still hst (.inl rfl)
        have hrest := ha.restAt (f := fun _ => ⟨.full, none, w.next, 0, 0, w.sectors.getD w.next []⟩)
          (fl := s.eng.flight) (op := .writing { w with slot := some i }) ⟨hin, hout⟩
          (.inl ⟨rfl, hfl⟩) (fun _ => .inr rfl)
          fun j hj => by cases hj; exact .inr ⟨rfl, x, hx, rfl, rfl⟩
        exact { hrest with }⟩ }
  · cases h

/-! ## Transfer Engine, works of SPIN DOWN, eject -/

theorem reactEngine_reacts : Reacts reactEngine := by
  intro s t h
  unfold reactEngine at h
  split at h
  · cases h
  · split at h
    · cases h
    · split at h
      · split at h
        · cases h; exact (Evolves.refl s).quiet rfl
        · obtain ⟨-, rfl⟩ := guarded_eq_some h
          exact (Evolves.refl s).engineSeek
      · obtain ⟨-, rfl⟩ := guarded_eq_some h
        exact (Evolves.refl s).quiet rfl

theorem reactDrain_reacts : Reacts reactDrain := by
  intro s t h
  unfold reactDrain at h
  split at h
  · obtain ⟨-, rfl⟩ := guarded_eq_some h
    exact (Evolves.refl s).completeHead _
  · cases h

theorem reactDown_reacts (who : Who) : Reacts (reactDown who) := by
  intro s t h
  unfold reactDown at h
  dsimp only at h
  split at h
  · split at h
    · cases h; exact (Evolves.refl s).quiet rfl
    · split at h
      · obtain ⟨-, rfl⟩ := guarded_eq_some h
        exact Evolves.startWriteBack ((Evolves.refl s).quiet (State.onDowns_ledger _ _)) who
      · cases h; exact (Evolves.refl s).quiet (by simp)
  · cases h
    exact .ite (fun _ => (Evolves.refl s).quiet rfl) fun _ =>
      Evolves.unloadRequest ((Evolves.refl s).quiet (State.onDowns_ledger _ _))
  · cases h

theorem onCcu_setEject_ledger {s : State} {e f : EjectRecord} (he : s.ccu.eject = some e)
    (hf : f.tags = e.tags) : (s.onCcu fun c => { c with eject := some f }).ledger = s.ledger := by
  simp [State.ledger, he, hf]

theorem ejectFlush_reacts {e : EjectRecord} {s t : State} (he : s.ccu.eject = some e)
    (h : ejectFlush e s = some t) : Evolves s t := by
  unfold ejectFlush at h
  dsimp only at h
  split at h
  · split at h
    · cases h; exact (Evolves.refl s).quiet (by simp)
    · split at h
      · cases h; exact (Evolves.refl s).failEject _ _
      · split at h
        · obtain ⟨-, rfl⟩ := guarded_eq_some h
          exact Evolves.startWriteBack ((Evolves.refl s).quiet
            (onCcu_setEject_ledger (f := { e with flush := .writeBack }) he rfl)) _
        · cases h
          exact (Evolves.refl s).quiet (by
            rw [State.joinWork_ledger, onCcu_setEject_ledger (f := { e with flush := .work }) he rfl])
  · cases h

theorem reactEject_reacts : Reacts reactEject := by
  intro s t h
  unfold reactEject at h
  split at h
  · cases h
  · next e he =>
    split at h
    · obtain ⟨-, rfl⟩ := guarded_eq_some h
      exact (Evolves.refl s).quiet (onCcu_setEject_ledger he rfl)
    · exact ejectFlush_reacts he h
    · obtain ⟨-, rfl⟩ := guarded_eq_some h
      exact (Evolves.refl s).unloadRequest
    · cases h

/-! ## The head entry -/

theorem Evolves.beginEntry {s t : State} (h : Evolves s t) (c : MediumCmd) :
    Evolves s (t.beginEntry c) := by
  unfold State.beginEntry
  split
  · exact h.quiet (by simp)
  · exact h.quiet rfl
  · exact .ite (fun _ => .ite (fun _ => h.quiet rfl) fun _ => .ite (fun _ => h.quiet (by simp))
      fun _ => h.completeHead _) fun _ => h.completeHead _

/-- The head entry becomes EXECUTING. -/
theorem begun_evolves {s : State} {e : Entry} {rest : List Entry} (hq : s.queue = e :: rest) :
    Evolves s (s.setQueue ({ e with executing := true } :: rest)) := by
  refine (Evolves.refl s).queueShrinks (l := []) (q := { e with executing := true } :: rest) ?_ ?_ ?_
  · simp [State.ledger]
  · rw [hq]; exact List.Sublist.refl _
  · simp [hq]

theorem reactBegin_reacts : Reacts reactBegin := by
  intro s t h
  unfold reactBegin at h
  split at h
  · cases h
  · next e rest hq =>
    obtain ⟨-, rfl⟩ := guarded_eq_some h
    exact .ite (fun _ => (begun_evolves hq).completeHead _) fun _ => (begun_evolves hq).beginEntry _

theorem reactStranded_reacts : Reacts reactStranded := by
  intro s t h
  unfold reactStranded at h
  split at h
  · cases h
  · obtain ⟨-, rfl⟩ := guarded_eq_some h
    exact (Evolves.refl s).beginEntry _

theorem runSeek_evolves (c : Nat) (s : State) : Evolves s (s.runSeek c) := by
  have h0 : Evolves s (s.setJob .seeking) := (Evolves.refl s).quiet rfl
  unfold State.runSeek
  dsimp only
  refine .ite (fun _ => h0.completeHead _) fun _ => ?_
  split
  · next hu => exact h0.seekRequest hu
  · exact h0.completeHead _

theorem runReassign_evolves (l : Nat) (s : State) : Evolves s (s.runReassign l) := by
  unfold State.runReassign
  split
  · exact (Evolves.refl s).completeHead _
  · next hnone =>
    obtain ⟨img, himg, hl, hne, hroom⟩ := reassignRefused_eq_none hnone
    have changed : Evolves s (s.onRec fun r =>
        { r with state := .dirty, image := r.image.map (Image.reassign l) }) :=
      { Ledger.Evolves.refl s.ledger with
        record := fun ⟨hs, _, hr, hw⟩ => by
          refine ⟨fun x hx => ?_, nofun, fun r hr' => ?_, hw⟩
          · obtain ⟨y, hy, rfl⟩ := Option.map_eq_some_iff.mp hx
            cases himg.symm.trans hy
            have hsound := hs img himg
            exact hsound.reassign hl (by have := hsound.nextAlternate_le; omega) hroom
          · have hnone : s.record.image = none := (hr r hr').1
            cases himg.symm.trans hnone
        image := fun y hy => by
          obtain ⟨x, hx, rfl⟩ := Option.map_eq_some_iff.mp hy
          exact ⟨x, hx, .reassign l x⟩
        slots := .of_eq rfl rfl rfl rfl rfl }
    exact changed.completeHead _

theorem runFlush_evolves (s : State) : Evolves s s.runFlush :=
  .ite (fun _ => Evolves.startWriteBack ((Evolves.refl s).quiet (s.setJob_ledger .flush)) _) fun _ =>
    (Evolves.refl s).completeHead _

theorem reactReady_reacts : Reacts reactReady := by
  intro s t h
  unfold reactReady at h
  split at h
  · cases h
  · obtain ⟨-, rfl⟩ := guarded_eq_some h
    split
    · split
      · exact (Evolves.refl s).completeHead _
      · exact (Evolves.refl s).quiet rfl
    · exact runSeek_evolves _ s
    · exact runReassign_evolves _ s
    · exact runFlush_evolves s
    · exact (Evolves.refl s).completeHead _

theorem reactTransfer_reacts : Reacts reactTransfer :=
  reacts_guarded fun s hg => by
    have hf : s.eng.flight = none := by simp [State.engineFree] at hg; exact hg.1.2.1.2
    refine Evolves.takeBlock ((Evolves.refl s).quiet ?_)
    simp [State.ledger, State.onEng, State.setJob, hf, Engine.none]

/-! ## The settling -/

theorem reacts_of_mem_rules : ∀ r ∈ rules, Reacts r := by
  simp only [rules, List.forall_mem_cons]
  exact ⟨reactOwnUnload_reacts, reactFlight_reacts, reactRecordLost_reacts, reactStopCheck_reacts,
    reactRelease_reacts, reactEjecting_reacts, reactStopped_reacts, reactParked_reacts,
    reactEjectParked_reacts, reactBrake_reacts, reactStart_reacts, reactLoad_reacts,
    reactWorkCut_reacts, reactEnd_reacts, reactWork_reacts, reactReadDue_reacts, reactReached_reacts,
    reactRecordSeek_reacts, reactRecordSlot_reacts, reactEngine_reacts, reactDrain_reacts,
    reactDown_reacts .cmd, reactDown_reacts .standby, reactDown_reacts .orphan, reactEject_reacts,
    reactBegin_reacts, reactStranded_reacts, reactReady_reacts, reactTransfer_reacts, nofun⟩

theorem Evolves.settle {s t : State} (h : Evolves s t) : Evolves s t.settle :=
  h.trans (settle_of_rules (P := Evolves) .refl (fun _ _ _ => .trans)
    (fun r hr s t _ hst => reacts_of_mem_rules r hr s t hst) t)

end Sys2Proof.Machine
end

section
/-! PROOFS. The events of the mechanism evolve the state: spindle, cartridge, heads and sectors. -/

namespace Sys2Proof.Machine

section
variable {s t : State} (h : Evolves s t)
include h

/-! ## The spindle's events -/

theorem Evolves.observe (k : FaultKind) (n : Nat) (put : Nat → Spindle → Spindle) :
    Evolves s (t.observe k n put) :=
  .ite (fun _ => Evolves.recognise (h.quiet (t.onSpc_ledger _)) ..) fun _ => h.quiet (t.onSpc_ledger _)

theorem Evolves.rangeIndex (measured : Bool) : Evolves s (t.rangeIndex measured) := by
  have h0 : Evolves s (t.onSpc fun p => { p with lostIndexWatch := freshLostWatch }) := h.quiet rfl
  exact .ite (fun _ => .ite (fun _ => h0.quiet rfl) fun _ => h0.observe ..) fun _ => h0

theorem Evolves.purgeIndex : Evolves s t.purgeIndex :=
  .ite (fun _ => .ite (fun _ => h.quiet (by rw [State.enterAtSpeed_ledger]; rfl)) fun _ => h.quiet rfl)
    fun _ => h

theorem Evolves.indexByState (measured : Bool) : Evolves s (t.indexByState measured) := by
  unfold State.indexByState
  split
  · exact h.quiet rfl
  · exact h.quiet rfl
  · unfold State.lockIndex
    exact .ite (fun _ => .ite (fun _ => .ite (fun _ => h.quiet (by simp)) fun _ => h.quiet rfl)
      fun _ => h.quiet rfl) fun _ => h
  · exact (h.rangeIndex _).purgeIndex
  · exact h.rangeIndex _
  · exact h.quiet rfl
  · refine Evolves.quiet ?_ (State.armStopWindow_ledger _)
    exact .ite (fun _ => h.quiet rfl) fun _ => h

theorem Evolves.boundaryCounts : Evolves s t.boundaryCounts := (h.quiet t.countDelays_ledger).countSeekTimer

omit h in
@[simp] theorem State.indexResets_ledger (s : State) : s.indexResets.ledger = s.ledger := by
  simp [State.indexResets]

theorem Evolves.indexArrives (timer : Nat) (warning : Bool) : Evolves s (t.indexArrives timer warning) := by
  have h0 : Evolves s (t.elapse (timer - t.spc.revTimer)).measureIndex := h.quiet (t.elapse_ledger _)
  unfold State.indexArrives
  refine Evolves.countWatches (Evolves.sampleWarning (Evolves.indexByState ?_ _) _) _
  refine Evolves.quiet (Evolves.boundaryCounts ?_) (State.indexResets_ledger _)
  exact .ite (fun _ => h0) fun _ => h0.takeTables

theorem Evolves.stoppedBoundary (warning : Bool) : Evolves s (t.stoppedBoundary warning) := by
  unfold State.stoppedBoundary
  refine Evolves.countWatches (Evolves.sampleWarning (Evolves.boundaryCounts (h.quiet ?_)) _) _
  rw [State.onSpc_ledger, State.elapse_ledger]

theorem Evolves.senseCurrent (high : Bool) : Evolves s (t.senseCurrent high) :=
  .ite (fun _ => .ite (fun _ => h.observe ..) fun _ => h.quiet rfl) fun _ =>
    .ite (fun _ => h.quiet rfl) fun _ => h

theorem Evolves.wedge (high : Bool) : Evolves s (t.wedge high) := by
  refine Evolves.nextWindow (Evolves.senseCurrent (h.quiet ?_) _)
  rw [State.onSpc_ledger, State.elapse_ledger]

/-! ## The Positioner's events -/

theorem Evolves.unloadLate : Evolves s t.unloadLate := by
  unfold State.unloadLate
  dsimp only
  exact .ite (fun _ => Evolves.recognise (h.quiet (t.onPos_ledger _)) ..) fun _ => h.quiet (t.onPos_ledger _)

/-! ## The cartridge's events -/

omit h in
theorem State.insertCartridge_ledger (protect : Bool) (s : State) : (s.insertCartridge protect).ledger =
    { s.ledger with hold := 0, recordState := .notRead, image := none } := rfl

theorem Evolves.insertCartridge (protect : Bool) : Evolves s (t.insertCartridge protect) := by
  refine h.trans ?_
  unfold Evolves
  rw [State.insertCartridge_ledger]
  exact { Ledger.Evolves.refl t.ledger with
    counts := fun ⟨_, hm, ht, hc⟩ => ⟨Nat.zero_le _, hm, ht, hc⟩
    record := fun ⟨_, _, hr, hw⟩ => ⟨nofun, fun _ => rfl, fun r hr' => ⟨rfl, (hr r hr').2⟩, hw⟩
    image := nofun
    slots := .of_eq rfl rfl rfl rfl rfl }

theorem Evolves.sensorPresent (protect : Bool) : Evolves s (t.sensorPresent protect) :=
  .ite (fun _ => Evolves.insertCartridge (by exact h.quiet rfl) _) fun _ => h.quiet rfl

theorem Evolves.sensorAbsent : Evolves s t.sensorAbsent := by
  have h0 : Evolves s (t.onCcu fun c => { c with present := false }) := h.quiet rfl
  unfold State.sensorAbsent
  refine .ite (fun _ => h0) fun _ => ?_
  split
  · exact h0
  · exact h0.cartridgeLeaves
  · exact h0.doorForced
  · exact h0.doorForced
  · exact h0.doorForced
  · exact (h0.endEject _).cartridgeLeaves

omit h in
/-- An eject by the button has no tags (R130). -/
theorem Evolves.pressButton (s : State) : Evolves s s.pressButton := by
  have press :
      Evolves s (if 0 < s.ccu.holdCount then
        (s.onCcu fun c => { c with buttonRefused := true }).request .ejectButton
      else (s.request .ejectButton).beginEject s.tbs.params.buttonMode false []) := by
    refine .ite (fun _ => (Evolves.refl s).quiet rfl) fun _ => Evolves.beginEject ?_
    exact { Ledger.Evolves.refl s.ledger with
      places := by simp [Ledger.places, State.ledger]
      counts := fun ⟨hh, hm, _, hc⟩ => ⟨hh, hm, fun ts hts => by cases hts; exact Nat.zero_le _, hc⟩
      slots := .of_eq rfl rfl rfl rfl rfl }
  unfold State.pressButton
  split
  · exact press
  · exact press
  · exact press
  · exact .refl s

end

end Sys2Proof.Machine
end

section
/-! PROOFS. The stored cartridge record (R2, R3, R6; assumption logs 9 and 40): what its checks establish of
the image they read, and that a written record is read back. -/

namespace Sys2Proof.Machine

/-! ## Fields -/

theorem foldl_fieldValue (l : List Byte) : ∀ v, l.foldl (fun v b => 256 * v + b.toNat) v =
    v * 256 ^ l.length + fieldValue l := by
  induction l with
  | nil => simp [fieldValue]
  | cons b l ih =>
    intro v
    have hcons : fieldValue (b :: l) = b.toNat * 256 ^ l.length + fieldValue l := by
      simpa [fieldValue] using ih b.toNat
    rw [List.foldl_cons, ih, hcons, List.length_cons, Nat.pow_succ, Nat.add_mul, Nat.add_assoc,
      Nat.mul_comm 256 v, Nat.mul_assoc, Nat.mul_comm 256]

theorem fieldValue_cons (b : Byte) (l : List Byte) :
    fieldValue (b :: l) = b.toNat * 256 ^ l.length + fieldValue l := by
  rw [fieldValue, List.foldl_cons, foldl_fieldValue]
  simp

theorem fieldValue_lt (l : List Byte) : fieldValue l < 256 ^ l.length := by
  induction l with
  | nil => simp [fieldValue]
  | cons b l ih =>
    rw [fieldValue_cons, List.length_cons, Nat.pow_succ]
    have hb : b.toNat + 1 ≤ 256 := b.isLt
    calc b.toNat * 256 ^ l.length + fieldValue l
        < b.toNat * 256 ^ l.length + 256 ^ l.length := Nat.add_lt_add_left ih _
      _ = (b.toNat + 1) * 256 ^ l.length := (Nat.succ_mul ..).symm
      _ ≤ 256 ^ l.length * 256 := by rw [Nat.mul_comm]; exact Nat.mul_le_mul_left _ hb

@[simp] theorem fieldBytes_length (n v : Nat) : (fieldBytes n v).length = n := by
  induction n with
  | zero => rfl
  | succ n ih => simp [fieldBytes, ih]

theorem fieldValue_fieldBytes (n v : Nat) : fieldValue (fieldBytes n v) = v % 256 ^ n := by
  induction n with
  | zero => simp [fieldBytes, fieldValue, Nat.mod_one]
  | succ n ih =>
    have hb : (BitVec.ofNat 8 (v / 256 ^ n)).toNat = v / 256 ^ n % 256 := BitVec.toNat_ofNat ..
    rw [fieldBytes, fieldValue_cons, ih, fieldBytes_length, hb, Nat.pow_succ, Nat.mod_mul,
      Nat.add_comm, Nat.mul_comm]

/-- A value of `n` bytes is read back. -/
theorem fieldValue_fieldBytes_of_lt {n v : Nat} (h : v < 256 ^ n) : fieldValue (fieldBytes n v) = v := by
  rw [fieldValue_fieldBytes, Nat.mod_eq_of_lt h]

theorem bytesAt_length_le (l : List Byte) (off n : Nat) : (bytesAt l off n).length ≤ n :=
  List.length_take_le ..

theorem fieldValue_bytesAt_lt (l : List Byte) (off n : Nat) : fieldValue (bytesAt l off n) < 256 ^ n :=
  Nat.lt_of_lt_of_le (fieldValue_lt _) (Nat.pow_le_pow_right (by decide) (bytesAt_length_le ..))

@[simp] theorem fitTo_length (n : Nat) (l : List Byte) : (fitTo n l).length = n := by
  simp [fitTo]
  omega

theorem fitTo_eq {n : Nat} {l : List Byte} (h : l.length ≤ n) :
    fitTo n l = l ++ List.replicate (n - l.length) 0 :=
  List.take_of_length_le (by simp; omega)

/-! ## What the checks establish -/

theorem readZones_length (n : Nat) (l : List Byte) (h : 4 * n ≤ l.length) : (readZones n l).length = n := by
  induction n generalizing l with
  | zero => rfl
  | succ n ih =>
    match l, h with
    | a :: b :: c :: d :: rest, h => exact congrArg Nat.succ (ih rest (by simp at h; omega))

theorem readSlips_length (n : Nat) (l : List Byte) (h : 3 * n ≤ l.length) : (readSlips n l).length = n := by
  induction n generalizing l with
  | zero => rfl
  | succ n ih =>
    match l, h with
    | a :: b :: c :: rest, h => exact congrArg Nat.succ (ih rest (by simp at h; omega))

theorem readReassigns_length (n : Nat) (l : List Byte) (h : 6 * n ≤ l.length) :
    (readReassigns n l).length = n := by
  induction n generalizing l with
  | zero => rfl
  | succ n ih =>
    match l, h with
    | a :: b :: c :: d :: e :: f :: rest, h =>
      exact congrArg Nat.succ (ih rest (by simp at h; omega))

/-- The image of a record that passes the checks of R6 is sound. -/
theorem sound_of_checkRecord {l : List Byte} {img : Image} (hlen : l.length = 11264)
    (h : checkRecord l = .good img) : img.sound := by
  unfold checkRecord at h
  dsimp only at h
  split at h
  · cases h
  · split at h
    · cases h
    · next hmark =>
      split at h
      · next hok =>
        cases h
        obtain ⟨⟨hz, hs⟩, hr⟩ : (zonesOk _ _ = true ∧ slipsOk _ _ _ = true) ∧ reassignsOk _ _ = true := by
          simpa only [Bool.and_eq_true] using hok
        have hz8 : (recordCounts l).1 ≤ 8 := by
          simp only [zonesOk, Bool.and_eq_true, decide_eq_true_eq] at hz
          exact hz.1.1.1.2
        have hs8 : (recordCounts l).2.1 ≤ 2048 := by
          simp only [slipsOk, Bool.and_eq_true, decide_eq_true_eq] at hs
          exact hs.1.1
        have hr8 : (recordCounts l).2.2 ≤ 64 := by
          simp only [reassignsOk, Bool.and_eq_true, decide_eq_true_eq] at hr
          exact hr.1.1.1.1
        have hzl : (recordImage l).zones.length = (recordCounts l).1 :=
          (readZones_length _ _ (by simp [hlen]; omega)).trans (Nat.min_eq_left hz8)
        have hsl : (recordImage l).slips.length = (recordCounts l).2.1 :=
          (readSlips_length _ _ (by simp [hlen, slipOffset]; omega)).trans (Nat.min_eq_left hs8)
        have hrl : (recordImage l).reassigns.length = (recordCounts l).2.2 :=
          (readReassigns_length _ _ (by simp [hlen, reassignOffset]; omega)).trans (Nat.min_eq_left hr8)
        exact ⟨hzl ▸ hz, hsl ▸ hs, hrl ▸ hr, by simpa using hmark, fieldValue_bytesAt_lt l 2 2,
          fieldValue_bytesAt_lt l 4 4⟩
      · cases h

/-! ## The written record -/

/-- An entry of each table as stored (R3; assumption log 9). -/
def Zone.stored (z : Zone) : List Byte := fieldBytes 2 z.first ++ fieldBytes 1 z.spt ++ fieldBytes 1 z.sp
def SlipEntry.stored (e : SlipEntry) : List Byte := fieldBytes 2 e.cylinder ++ fieldBytes 1 e.slot
def Reassign.stored (e : Reassign) : List Byte := fieldBytes 4 e.lba ++ fieldBytes 2 e.alternate

theorem readZones_stored (zones : List Zone) (rest : List Byte)
    (h : ∀ z ∈ zones, z.first < 65536 ∧ z.spt < 256 ∧ z.sp < 256) :
    readZones zones.length (zones.flatMap Zone.stored ++ rest) = zones := by
  induction zones with
  | nil => rfl
  | cons z zones ih =>
    obtain ⟨hf, hs, hp⟩ := h z List.mem_cons_self
    have first : fieldValue (fieldBytes 2 z.first) = z.first := fieldValue_fieldBytes_of_lt hf
    have byte {v : Nat} (hv : v < 256) : (BitVec.ofNat 8 (v / 256 ^ 0)).toNat = v := by
      simpa using Nat.mod_eq_of_lt hv
    rw [List.flatMap_cons, List.append_assoc]
    show ⟨fieldValue (fieldBytes 2 z.first), _, _⟩ :: readZones zones.length (zones.flatMap Zone.stored ++ rest) = z :: zones
    rw [ih fun y hy => h y (List.mem_cons_of_mem z hy), first, byte hs, byte hp]

theorem readSlips_stored (slips : List SlipEntry) (rest : List Byte)
    (h : ∀ e ∈ slips, e.cylinder < 65536 ∧ e.slot < 256) :
    readSlips slips.length (slips.flatMap SlipEntry.stored ++ rest) = slips := by
  induction slips with
  | nil => rfl
  | cons e slips ih =>
    obtain ⟨hc, hs⟩ := h e List.mem_cons_self
    have cylinder : fieldValue (fieldBytes 2 e.cylinder) = e.cylinder := fieldValue_fieldBytes_of_lt hc
    have slot : (BitVec.ofNat 8 (e.slot / 256 ^ 0)).toNat = e.slot := by simpa using Nat.mod_eq_of_lt hs
    rw [List.flatMap_cons, List.append_assoc]
    show ⟨fieldValue (fieldBytes 2 e.cylinder), _⟩ ::
      readSlips slips.length (slips.flatMap SlipEntry.stored ++ rest) = e :: slips
    rw [ih fun y hy => h y (List.mem_cons_of_mem e hy), cylinder, slot]

theorem readReassigns_stored (table : List Reassign) (rest : List Byte)
    (h : ∀ e ∈ table, e.lba < 4294967296 ∧ e.alternate < 65536) :
    readReassigns table.length (table.flatMap Reassign.stored ++ rest) = table := by
  induction table with
  | nil => rfl
  | cons e table ih =>
    obtain ⟨hl, ha⟩ := h e List.mem_cons_self
    have lba : fieldValue (fieldBytes 4 e.lba) = e.lba := fieldValue_fieldBytes_of_lt hl
    have alternate : fieldValue (fieldBytes 2 e.alternate) = e.alternate := fieldValue_fieldBytes_of_lt ha
    rw [List.flatMap_cons, List.append_assoc]
    show ⟨fieldValue (fieldBytes 4 e.lba), fieldValue (fieldBytes 2 e.alternate)⟩ ::
      readReassigns table.length (table.flatMap Reassign.stored ++ rest) = e :: table
    rw [ih fun y hy => h y (List.mem_cons_of_mem e hy), lba, alternate]

theorem flatMap_length_eq {α : Type} {f : α → List Byte} {n : Nat} (hf : ∀ a, (f a).length = n)
    (l : List α) : (l.flatMap f).length = n * l.length := by
  induction l with
  | nil => rfl
  | cons a l ih => simp [ih, hf, Nat.mul_succ, Nat.add_comm]

/-! ## The places of the fields -/

/-- The zero bytes between the fields and the check word (assumption log 9). -/
def recordFill : List Byte := List.replicate 4688 0

@[simp] theorem recordFill_length : recordFill.length = 4688 := List.length_replicate

/-- The fields of the stored record, in their order (R3; assumption log 9). -/
def recordFields (img : Image) : List (List Byte) :=
  [fieldBytes 2 img.formatMark, fieldBytes 2 img.generation, fieldBytes 4 img.serial,
   fieldBytes 1 img.zones.length, fitTo 32 (img.zones.flatMap Zone.stored),
   fieldBytes 2 img.slips.length, fitTo 6144 (img.slips.flatMap SlipEntry.stored),
   fieldBytes 1 img.reassigns.length, fitTo 384 (img.reassigns.flatMap Reassign.stored),
   fieldBytes 2 img.nextAlternate]

theorem recordFields_length (img : Image) : (recordFields img).flatten.length = 6574 := by
  simp [recordFields]

theorem recordBody_eq (img : Image) : recordBody img = (recordFields img).flatten ++ recordFill := by
  have hfit := fitTo_eq (n := checkOffset) (l := (recordFields img).flatten)
    (by rw [recordFields_length]; decide)
  rw [recordFields_length] at hfit
  refine Eq.trans ?_ hfit
  simp only [recordBody, recordFields, List.flatten_cons, List.flatten_nil, List.append_assoc, List.append_nil]
  rfl

@[simp] theorem recordBody_length (img : Image) : (recordBody img).length = checkOffset := by
  rw [recordBody_eq, List.length_append, recordFields_length, recordFill_length]
  rfl

/-- The parts of the stored record: its fields, the fill, the check word (assumption logs 9 and 40). -/
def recordParts (img : Image) : List (List Byte) :=
  recordFields img ++ [recordFill, fieldBytes 2 (checkWord (recordBody img)).toNat]

theorem recordBytes_eq (img : Image) : recordBytes img = (recordParts img).flatten := by
  show recordBody img ++ fieldBytes 2 (checkWord (recordBody img)).toNat = _
  rw [recordParts, List.flatten_append, List.flatten_cons, List.flatten_cons, List.flatten_nil,
    List.append_nil, ← List.append_assoc, ← recordBody_eq]

theorem recordBytes_length (img : Image) : (recordBytes img).length = 11264 := by
  show (recordBody img ++ fieldBytes 2 (checkWord (recordBody img)).toNat).length = _
  rw [List.length_append, recordBody_length, fieldBytes_length]
  rfl

/-- What stands from the `k`th part on. -/
theorem drop_parts (ps : List (List Byte)) {k off : Nat} (h : ((ps.take k).map List.length).sum = off) :
    ps.flatten.drop off = (ps.drop k).flatten := by
  conv => lhs; rw [← List.take_append_drop k ps, List.flatten_append]
  rw [← h, ← List.length_flatten, List.drop_left]

/-- The bytes of the `k`th part. -/
theorem bytesAt_parts (ps : List (List Byte)) {k off n : Nat} {p : List Byte} {rest : List (List Byte)}
    (h : ((ps.take k).map List.length).sum = off) (hp : ps.drop k = p :: rest) (hn : p.length = n) :
    bytesAt ps.flatten off n = p := by
  rw [bytesAt, drop_parts ps h, hp, List.flatten_cons, ← hn, List.take_left]

/-! ## The round trip -/

theorem capacityFrom_le (zones : List Zone) (h : ∀ z ∈ zones, z.spt ≤ 48) :
    ∀ b, (∀ z ∈ zones, z.first < Config.dataCylinders) →
      capacityFrom b zones ≤ b + zones.length * (Config.dataCylinders * 96) := by
  induction zones with
  | nil => intro b _; simp [capacityFrom]
  | cons z zones ih =>
    intro b hfirst
    have hcyl : zoneCylinders z zones ≤ Config.dataCylinders := by
      cases zones with
      | nil => exact Nat.sub_le ..
      | cons y rest =>
        have := hfirst y (by simp)
        simp only [zoneCylinders]
        omega
    have hlpc : z.lpc ≤ 96 := by
      have := h z List.mem_cons_self
      unfold Zone.lpc
      omega
    have hrest := ih (fun y hy => h y (List.mem_cons_of_mem z hy)) (b + zoneCylinders z zones * z.lpc)
      fun y hy => hfirst y (List.mem_cons_of_mem z hy)
    have hmul := Nat.mul_le_mul hcyl hlpc
    rw [capacityFrom, List.length_cons, Nat.succ_mul]
    omega

/-- The fields of a sound image fit their widths (R3). -/
structure Image.Fits (img : Image) : Prop where
  mark : img.formatMark < 65536
  generation : img.generation < 65536
  serial : img.serial < 4294967296
  zoneCount : img.zones.length ≤ 8
  slipCount : img.slips.length ≤ 2048
  reassignCount : img.reassigns.length ≤ 64
  zones : ∀ z ∈ img.zones, z.first < 65536 ∧ z.spt < 256 ∧ z.sp < 256
  slips : ∀ e ∈ img.slips, e.cylinder < 65536 ∧ e.slot < 256
  reassigns : ∀ e ∈ img.reassigns, e.lba < 4294967296 ∧ e.alternate < 65536
  counter : img.nextAlternate < 65536

theorem Image.sound.fits {img : Image} (h : img.sound) : img.Fits := by
  have hz := h.zonesAscend
  obtain ⟨hzones, hslips, hre, hmark, hgen, hserial⟩ := h
  simp only [zonesOk, slipsOk, reassignsOk, Bool.and_eq_true, List.all_eq_true, decide_eq_true_eq]
    at hzones hslips hre
  obtain ⟨⟨⟨⟨-, hzc⟩, -⟩, -⟩, hzall⟩ := hzones
  obtain ⟨⟨hsc, -⟩, hsall⟩ := hslips
  obtain ⟨⟨⟨⟨hrc, -⟩, -⟩, hrall⟩, hnext⟩ := hre
  have hcap : capacityOf img.zones ≤ 8 * (Config.dataCylinders * 96) := by
    have hle := capacityFrom_le img.zones (fun z hz => (hzall z hz).1.2) 0 hz.first_lt
    have := Nat.mul_le_mul_right (Config.dataCylinders * 96) hzc
    unfold capacityOf
    omega
  have hspt : alternateCount img.zones ≤ 384 := by
    have hlast : lastSpt img.zones ≤ 48 := by
      unfold lastSpt
      cases hl : img.zones.getLast? with
      | none => exact Nat.zero_le _
      | some z => exact (hzall z (List.mem_of_getLast? hl)).1.2
    unfold alternateCount
    omega
  have hcyl : Config.dataCylinders < 65536 := by decide
  refine ⟨by rw [hmark]; decide, hgen, hserial, hzc, hsc, hrc, fun z hz => ?_, fun e he => ?_,
    fun e he => ?_, by omega⟩
  · obtain ⟨⟨⟨hf, -⟩, hs⟩, hsp⟩ := hzall z hz
    exact ⟨Nat.lt_trans hf hcyl, by omega, by omega⟩
  · have hok := hsall e he
    unfold slipOk at hok
    split at hok
    · cases hok
    · next z hzone =>
      simp only [Bool.and_eq_true, decide_eq_true_eq] at hok
      have := (hzall z (zoneOfCylinder_mem hzone).1).1.2
      exact ⟨Nat.lt_trans hok.1.1 hcyl, by omega⟩
  · obtain ⟨hl, ha⟩ := hrall e he
    simp only [Config.dataCylinders] at hcap
    exact ⟨by omega, by omega⟩

/-- The value of the `k`th part of a stored record, where that part is a field of `n` bytes. -/
theorem fieldValue_recordBytes (img : Image) (k : Nat) {off n v : Nat} {rest : List (List Byte)}
    (hoff : (((recordParts img).take k).map List.length).sum = off)
    (hp : (recordParts img).drop k = fieldBytes n v :: rest) (hv : v < 256 ^ n) :
    fieldValue (bytesAt (recordBytes img) off n) = v := by
  rw [recordBytes_eq, bytesAt_parts _ hoff hp (fieldBytes_length ..), fieldValue_fieldBytes_of_lt hv]

/-- What the stored record holds from the entries of a table on. -/
theorem drop_recordBytes (img : Image) (k : Nat) {off n : Nat} {l : List Byte} {rest : List (List Byte)}
    (hoff : (((recordParts img).take k).map List.length).sum = off)
    (hp : (recordParts img).drop k = fitTo n l :: rest) (hl : l.length ≤ n) :
    ∃ r, (recordBytes img).drop off = l ++ r := by
  refine ⟨List.replicate (n - l.length) 0 ++ rest.flatten, ?_⟩
  rw [recordBytes_eq, drop_parts _ hoff, hp, List.flatten_cons, fitTo_eq hl, List.append_assoc]

theorem recordCounts_recordBytes {img : Image} (h : img.Fits) :
    recordCounts (recordBytes img) = (img.zones.length, img.slips.length, img.reassigns.length) := by
  have hz := h.zoneCount
  have hs := h.slipCount
  have hr := h.reassignCount
  have hzones := fieldValue_recordBytes img 3 (off := 8) (by simp [recordParts, recordFields]) rfl
    (Nat.lt_of_le_of_lt hz (by decide))
  have hslips := fieldValue_recordBytes img 5 (off := slipOffset)
    (by simp [recordParts, recordFields, slipOffset]) rfl (Nat.lt_of_le_of_lt hs (by decide))
  have hreassigns := fieldValue_recordBytes img 7 (off := reassignOffset)
    (by simp [recordParts, recordFields, reassignOffset]) rfl (Nat.lt_of_le_of_lt hr (by decide))
  rw [recordCounts, hzones, hslips, hreassigns]

theorem recordImage_recordBytes {img : Image} (h : img.Fits) : recordImage (recordBytes img) = img := by
  have hz := h.zoneCount
  have hs := h.slipCount
  have hr := h.reassignCount
  obtain ⟨rz, hrz⟩ := drop_recordBytes img 4 (off := 9) (by simp [recordParts, recordFields]) rfl
    (Nat.le_trans (Nat.le_of_eq (flatMap_length_eq (n := 4) (fun _ => rfl) img.zones)) (by omega))
  obtain ⟨rs, hrs⟩ := drop_recordBytes img 6 (off := 43) (by simp [recordParts, recordFields]) rfl
    (Nat.le_trans (Nat.le_of_eq (flatMap_length_eq (n := 3) (fun _ => rfl) img.slips))
      (by omega))
  obtain ⟨rr, hrr⟩ := drop_recordBytes img 8 (off := 6188) (by simp [recordParts, recordFields]) rfl
    (Nat.le_trans (Nat.le_of_eq (flatMap_length_eq (n := 6) (fun _ => rfl) img.reassigns))
      (by omega))
  have hmark := fieldValue_recordBytes img 0 (off := 0) rfl rfl h.mark
  have hgen := fieldValue_recordBytes img 1 (off := 2) (by simp [recordParts, recordFields]) rfl h.generation
  have hser := fieldValue_recordBytes img 2 (off := 4) (by simp [recordParts, recordFields]) rfl h.serial
  have hnext := fieldValue_recordBytes img 9 (off := 6572) (by simp [recordParts, recordFields]) rfl
    h.counter
  unfold recordImage
  simp only [recordCounts_recordBytes h, Nat.min_eq_left hz, Nat.min_eq_left hs, Nat.min_eq_left hr,
    slipOffset, reassignOffset, nextAlternateOffset, hrz, hrs, hrr, readZones_stored _ _ h.zones,
    readSlips_stored _ _ h.slips, readReassigns_stored _ _ h.reassigns, hmark, hgen, hser, hnext]

/-- Settles O22. -/
theorem recordRoundTrip : Obligations.RecordRoundTrip := by
  intro img hsound
  have hfits := hsound.fits
  have hcheck : fieldValue (bytesAt (recordBytes img) checkOffset 2) =
      (checkWord (recordBody img)).toNat :=
    fieldValue_recordBytes img 11
      (by simp [recordParts, recordFields, checkOffset, Config.recordSectors, Config.sectorBytes]) rfl
      (checkWord (recordBody img)).isLt
  have htake : (recordBytes img).take checkOffset = recordBody img :=
    List.take_left' (recordBody_length img)
  refine ⟨recordBytes_length img, ?_⟩
  obtain ⟨hz, hs, hr, hmark, -⟩ := hsound
  simp [checkRecord, htake, hcheck, recordCounts_recordBytes hfits, recordImage_recordBytes hfits, hz, hs,
    hr, hmark]

end Sys2Proof.Machine
end

section
/-! PROOFS. The sector in flight ends, and a sector arrives (R5, R10, R104 to R113). -/

namespace Sys2Proof.Machine

/-! ## The sector in flight ends -/

/-- The slot of the sector in flight is a record operation's only while that operation writes it. -/
theorem Ledger.Accounted.op_of_flight {l : Ledger} (h : l.Accounted) {f : Flight} {i : Nat}
    (hf : l.flight = some f) (hs : f.slot = some i) (hop : l.op.slot = some i) :
    f.kind = .recordWrite ∧ f.orphan = false := by
  obtain ⟨hm, -⟩ := h.flight f i hf hs
  obtain ⟨-, hfull | ⟨g, hg, hw, ho, -⟩⟩ := h.op i hop
  · rw [hm] at hfull
    cases hk : f.kind <;> simp [hk, FlightKind.moving] at hfull
  · rw [hf] at hg
    cases hg
    exact ⟨hw, ho⟩

/-- The sector in flight ends and its slot comes to rest; a write-back lets its own slot go. -/
theorem Evolves.lands {s u : State} {f : Flight} {i : Nat} {g : Slot → Slot} {op : RecordOp}
    (hf : s.eng.flight = some f) (hs : f.slot = some i) (hg : ∀ x, (g x).state.still)
    (hop : (op = s.record.op ∧ (f.kind ≠ .recordWrite ∨ f.orphan = true ∨ op.slot = none)) ∨
      op.slot = none ∧ ∃ w v, s.record.op = .writing w ∧ op = .writing v ∧ v.generation = w.generation)
    (hu : u.ledger = { s.ledger with flight := none, slots := s.slots.modify i g, op := op }) :
    Evolves s u := by
  have hfl : s.ledger.flight.bind Flight.slot = some i := by simp [hf, hs]
  unfold Evolves
  rw [hu]
  refine { Ledger.Evolves.refl s.ledger with
    record := fun ⟨himg, hn, hr, hw⟩ => ⟨himg, hn, fun r h => ?_, fun w h => ?_⟩, flight := nofun
    slots := fun ⟨h8, hacc⟩ => ⟨(List.length_modify ..).trans h8, fun hl => ?_⟩ }
  · obtain ⟨rfl, -⟩ | ⟨-, w, v, -, rfl, -⟩ := hop
    · exact hr r h
    · cases h
  · obtain ⟨rfl, -⟩ | ⟨-, w', v, hwr, rfl, hgen⟩ := hop
    · exact hw w h
    · cases h
      exact hgen ▸ hw w' hwr
  · have ha := hacc hl
    obtain ⟨hm, hbus⟩ := ha.flight f i hf hs
    have hrest := ha.restAt (f := g) (fl := none) (op := op) hbus
      (.inr ⟨rfl, fun j hj => by rw [hfl] at hj; cases hj; rfl⟩) hg fun j hj => by
        obtain ⟨rfl, hkind⟩ | ⟨hnone, -⟩ := hop
        · refine .inl ⟨?_, hj⟩
          rintro rfl
          obtain ⟨hw, ho⟩ := ha.op_of_flight hf hs hj
          rcases hkind with hk | hk | hk
          · exact hk hw
          · rw [ho] at hk; cases hk
          · rw [hk] at hj; cases hj
        · rw [hnone] at hj; cases hj
    exact { hrest with }

/-- A sector without a slot ends. -/
theorem Evolves.landsNone {s u : State} {f : Flight} (hf : s.eng.flight = some f)
    (hs : s.ledger.Accounted → f.slot = none)
    (hu : u.ledger = { s.ledger with flight := none }) : Evolves s u := by
  unfold Evolves
  rw [hu]
  exact Ledger.Evolves.ofBuffer (a := s.ledger) (slots := s.slots) (op := s.record.op) nofun rfl
    (.inl rfl) fun ha => ha.land (by simp [hf, hs ha])

/-- The slot of the sector that has ended is emptied (R118). -/
theorem landEmpty_evolves {s : State} {f : Flight} (hf : s.eng.flight = some f)
    (hkind : f.kind ≠ .recordWrite ∨ f.orphan = true ∨ f.slot = none ∨ s.record.op.slot = none) :
    Evolves s (s.land.emptySlotOpt f.slot) := by
  cases hs : f.slot with
  | none => exact .landsNone hf (fun _ => hs) rfl
  | some i =>
    rw [hs] at hkind
    exact .lands hf hs (g := fun _ => Slot.none) (fun _ => .inl rfl) (.inl ⟨rfl, by simpa using hkind⟩) rfl

section
variable {s t : State} (h : Evolves s t)
include h

theorem Evolves.unrecoverable : Evolves s (t.unrecoverable none) := by
  have h0 : Evolves s (t.onEng fun e => { e with
      errors := e.errors + 1
      firstError := if e.errors == 0 then lbaAt t.extents t.eng.seq else e.firstError }) := h.quiet rfl
  unfold State.unrecoverable
  dsimp only
  split
  · exact h0.endPending _
  · exact h0.finishBlock
  · exact h0.endTransfer _

theorem Evolves.readFails : Evolves s t.readFails := by
  unfold State.readFails
  dsimp only
  refine .ite (fun _ => ?_) fun _ => h.unrecoverable
  have h0 : Evolves s (((t.onEng fun e => { e with retry := e.retry + 1 }).countReadRetry).awaitPass) :=
    (Evolves.countReadRetry (t := t.onEng fun e => { e with retry := e.retry + 1 }) (h.quiet rfl)).quiet
      (State.awaitPass_ledger _)
  split
  · exact h0.endPending _
  · exact h0

end

/-- What the end of a record's sector makes of the record besides what evolves (R5 to R7): more sectors of
a read, or its end. `data` are the sector's bytes. -/
structure ReadsOn (data : List Byte) (s u m : State) : Prop where
  evolves : Evolves s u
  parts : ∃ st img op, m.ledger = { u.ledger with recordState := st, image := img, op := op } ∧
    op.slot = none
  reading : s.recordSound → s.record.image = none
  sound : data.length = Config.sectorBytes → s.recordSound → m.recordSound

theorem reading_of_slot_none {op : RecordOp} {r : RecordRead} (h : op = .reading r) : op.slot = none := by
  subst h; rfl

theorem getD_length {d : Option (List Byte)} (h : d.isSome = true)
    (hl : ∀ b ∈ d, b.length = Config.sectorBytes) : (d.getD []).length = Config.sectorBytes := by
  cases d with
  | none => cases h
  | some b => exact hl b rfl

/-- A record read whose sectors have all come holds the bytes of a record (R2). -/
theorem assembled_length {got : List (Option (List Byte))} (hn : got.length = Config.recordSectors)
    (hall : got.all Option.isSome = true) (hl : ∀ d ∈ got, ∀ b ∈ d, b.length = Config.sectorBytes) :
    (got.flatMap fun x => x.getD []).length = 11264 := by
  have hsum (l : List (Option (List Byte))) (hs : ∀ d ∈ l, (d.getD []).length = Config.sectorBytes) :
      (l.flatMap fun x => x.getD []).length = Config.sectorBytes * l.length := by
    induction l with
    | nil => rfl
    | cons d l ih =>
      rw [List.flatMap_cons, List.length_append, hs d List.mem_cons_self,
        ih fun x hx => hs x (List.mem_cons_of_mem d hx), List.length_cons, Nat.mul_succ, Nat.add_comm]
  rw [hsum got fun d hd => getD_length (List.all_eq_true.mp hall d hd) (hl d hd), hn]
  rfl

theorem dropRecordOp_op (s : State) : s.dropRecordOp.record.op = .idle :=
  congrArg Ledger.op s.dropRecordOp_ledger

/-- The record becomes UNREADABLE (R5, R7). -/
theorem Evolves.losesRecord {s t u : State} (h : Evolves s t)
    (hu : u.ledger = { t.ledger with recordState := .unreadable, image := none }) : Evolves s u := by
  refine h.trans ?_
  unfold Evolves
  rw [hu]
  exact { Ledger.Evolves.refl t.ledger with
    record := fun ⟨_, _, hr, hw⟩ => ⟨nofun, fun _ => rfl, fun r hr' => ⟨rfl, (hr r hr').2⟩, hw⟩
    image := nofun
    slots := .of_eq rfl rfl rfl rfl rfl }

/-- The end of a record read leaves a sound record where its bytes pass the checks with a sound image. -/
theorem finishRecordRead_sound {s : State} {r : RecordRead}
    (h : ∀ img, checkRecord (r.got.flatMap fun x => x.getD []) = .good img → img.sound) :
    (s.finishRecordRead r).recordSound := by
  have hidle : (s.finishRecordRead r).record.op = .idle := by
    refine Eq.trans ?_ (dropRecordOp_op s)
    unfold State.finishRecordRead
    dsimp only
    split <;> rfl
  refine ⟨fun img himg => ?_, fun hn => ?_, fun x hx => ?_, fun x hx => ?_⟩
  · unfold State.finishRecordRead at himg
    dsimp only at himg
    split at himg
    · next hgood => cases himg; exact h _ hgood
    · cases himg
  · unfold State.finishRecordRead at hn
    dsimp only at hn
    split at hn <;> cases hn
  · cases hidle.symm.trans hx
  · cases hidle.symm.trans hx

/-- The sector of a record read ends (R5). -/
theorem recordSectorRead_cases {s u : State} {r : RecordRead} (h : Evolves s u)
    (hr : s.record.op = .reading r) (hu : u.record.op = .reading r) (n : Nat) (good : Bool)
    (data : List Byte) :
    Evolves s (u.recordSectorRead r n good data) ∨
    ∃ v, ReadsOn data s v (u.recordSectorRead r n good data) := by
  have himg : s.recordSound → s.record.image = none := fun ⟨_, _, hread, _⟩ => (hread r hr).1
  unfold State.recordSectorRead
  dsimp only
  split
  · right
    have hgot : data.length = Config.sectorBytes → s.recordSound →
        (r.got.set n (some data)).length = Config.recordSectors ∧
        ∀ d ∈ r.got.set n (some data), ∀ b ∈ d, b.length = Config.sectorBytes := by
      rintro hlen ⟨-, -, hread, -⟩
      obtain ⟨-, hcount, hsect⟩ := hread r hr
      refine ⟨(List.length_set ..).trans hcount, fun d hd b hb => ?_⟩
      rcases List.mem_or_eq_of_mem_set hd with hd | rfl
      · exact hsect d hd b hb
      · cases hb; exact hlen
    split
    · next hall =>
      have hd := h.dropRecordOp
      have hsame : (u.onRec fun x => { x with op := .reading { r with got := r.got.set n (some data) } }).dropRecordOp.ledger =
          u.dropRecordOp.ledger := by
        rw [State.dropRecordOp_ledger, State.dropRecordOp_ledger]
        simp [State.ledger, hu, RecordOp.slot]
      refine ⟨u.dropRecordOp, hd, ?_, himg, fun hlen hs => ?_⟩
      · unfold State.finishRecordRead
        dsimp only
        split
        · next img _ =>
          exact ⟨.valid, some img, u.dropRecordOp.record.op, congrArg (fun l : Ledger => { l with
            recordState := .valid, image := some img }) hsame, congrArg RecordOp.slot (dropRecordOp_op u)⟩
        · exact ⟨.unreadable, none, u.dropRecordOp.record.op, congrArg (fun l : Ledger => { l with
            recordState := .unreadable, image := none }) hsame, congrArg RecordOp.slot (dropRecordOp_op u)⟩
      · obtain ⟨hcount, hsect⟩ := hgot hlen hs
        exact finishRecordRead_sound fun img => sound_of_checkRecord (assembled_length hcount hall hsect)
    · refine ⟨u, h, ⟨_, _, _, rfl, rfl⟩, himg, fun hlen hs => ?_⟩
      obtain ⟨hi, hn, hread, -⟩ := h.record hs
      refine ⟨hi, hn, fun x hx => ?_, nofun⟩
      cases hx
      exact ⟨(hread r hu).1, hgot hlen hs⟩
  · left
    split
    · refine Evolves.countReadRetry (h.startOp rfl rfl ?_)
      rintro ⟨hi, hn, hread, -⟩
      exact ⟨hi, hn, fun x hx => by cases hx; exact hread r hu, nofun⟩
    · exact h.dropRecordOp.losesRecord rfl

theorem emptied_comm (i j : Option Nat) (l : List Slot) : emptied i j l = emptied j i l := by
  simp only [emptied, or_comm]

/-- A record operation that stops takes its sector in flight with it, before or after that has landed. -/
theorem dropRecordOp_land {s : State} {f : Flight} {i : Nat} (hf : s.eng.flight = some f)
    (hs : f.slot = some i) (hk : f.kind = .recordWrite) :
    (s.land.emptySlotAt i).dropRecordOp = s.dropRecordOp := by
  have hhost : f.isHost = false := by simp [Flight.isHost, hk]
  have hempty : s.land.emptySlotAt i = s.land.setSlots (emptied (some i) none s.slots) :=
    s.land.emptySlotOpt_eq (some i)
  have hcomm : emptied s.record.op.slot none (emptied (some i) none s.slots) =
      emptied (some i) none (emptied s.record.op.slot none s.slots) := by
    rw [emptied_emptied, emptied_comm, emptied_emptied]
  simp only [hempty, State.dropRecordOp, State.emptySlotOpt_eq]
  simp [State.land, State.onEng, State.setSlots, State.onRec, State.onPos, hf, hhost, hs, hcomm]

/-- A record's sector has been written (R10). -/
theorem recordSectorWritten_evolves {s : State} {f : Flight} {i : Nat} {w : WriteBack}
    (hf : s.eng.flight = some f) (hs : f.slot = some i) (hk : f.kind = .recordWrite)
    (hw : s.record.op = .writing w) :
    Evolves s ((s.land.emptySlotAt i).recordSectorWritten w) := by
  unfold State.recordSectorWritten
  dsimp only
  refine .ite (fun _ => ?_) fun _ => ?_
  · exact .lands hf hs (op := .writing { w with next := w.next + 1, deferrals := 0, slot := none })
      (g := fun _ => Slot.none) (fun _ => .inl rfl) (.inr ⟨rfl, w, _, hw, rfl, rfl⟩) rfl
  · have hsame : (s.land.emptySlotAt i).finishWriteBack
        { w with next := w.next + 1, deferrals := 0, slot := none } =
        s.finishWriteBack { w with next := w.next + 1, deferrals := 0, slot := none } := by
      unfold State.finishWriteBack
      rw [dropRecordOp_land hf hs hk]
    rw [hsame]
    exact (Evolves.refl s).finishWriteBack hw rfl

/-- A sector's end evolves the state, but for what a record read makes of the record. -/
theorem sectorEnds_cases (good : Bool) (data : List Byte) (s : State) :
    Evolves s (s.sectorEnds good data) ∨ ∃ v, ReadsOn data s v (s.sectorEnds good data) := by
  unfold State.sectorEnds
  split
  · exact .inl (.refl s)
  · next f hf =>
    have still {i : Nat} (hs : f.slot = some i) (hk : f.kind ≠ .recordWrite) {g : Slot → Slot} {u : State}
        (hg : ∀ x, (g x).state.still)
        (hu : u.ledger = { s.ledger with flight := none, slots := s.slots.modify i g }) : Evolves s u :=
      .lands hf hs hg (.inl ⟨rfl, .inl hk⟩) hu
    have empty {i : Nat} (hs : f.slot = some i) (hk : f.kind ≠ .recordWrite) :
        Evolves s (s.land.emptySlotAt i) :=
      still hs hk (g := fun _ => Slot.none) (fun _ => .inl rfl) rfl
    unfold State.flightEnds
    dsimp only
    split
    · next ho => exact .inl (landEmpty_evolves hf (.inr (.inl ho)))
    · split
      · next i op hk hs =>
        have hk : f.kind ≠ .recordWrite := by rw [hk]; nofun
        refine .inl (.ite (fun _ => Evolves.finishBlock ?_) fun _ => (empty hs hk).readFails)
        exact still hs hk (g := fun x => { x with state := .full, data := data }) (fun _ => .inr rfl) rfl
      · next hk =>
        have landed : Evolves s s.land := .landsNone hf (fun ha => ha.verify f hf hk) rfl
        exact .inl (.ite (fun _ => Evolves.finishBlock (landed.quiet rfl)) fun _ => landed.readFails)
      · next i op hk hs =>
        exact .inl (Evolves.finishBlock ((empty hs (by rw [hk]; nofun)).quiet rfl))
      · next n i r hk hs hop =>
        exact recordSectorRead_cases (empty hs (by rw [hk]; nofun)) hop hop n _ data
      · next i w hk hs hop => exact .inl (recordSectorWritten_evolves hf hs hk hop)
      · next hother =>
        refine .inl (landEmpty_evolves hf ?_)
        cases hs : f.slot with
        | none => exact .inr (.inr (.inl rfl))
        | some i =>
          by_cases hk : f.kind = .recordWrite
          · refine .inr (.inr (.inr ?_))
            cases hop : s.record.op with
            | writing w => exact (hother i w hk hs hop).elim
            | _ => rfl
          · exact .inl hk

/-! ## A sector arrives -/

/-- A sector takes off from a state (R105): what it finds there, and what it makes of the parts. -/
structure TakesOff (s m : State) (k : FlightKind) (slot : Option Nat) : Prop where
  low : s.supplyLow = false
  idle : s.eng.flight = none
  parts : ∃ (x : Slot → Slot), (∀ y, (x y).state = k.moving ∧ (k.moving = .draining → (x y).tag = y.tag)) ∧
    m.ledger = { s.ledger with
      flight := some ⟨k, slot, false, false⟩
      slots := match slot with
        | some i => s.slots.modify i x
        | none => s.slots }
  still : s.ledger.Accounted → ∀ i, slot = some i → ∃ x, s.ledger.slotState i = some x ∧ x.still
  verify : k = .verify → slot = none
  op : (k = .recordWrite ∧ s.record.op.slot = slot) ∨ s.record.op.slot = none
  gate : k = .write ∨ k = .recordWrite → s.writeGate = true
  record : k = .recordWrite → s.trackingOn 0 0 = true
  host : k = .write → s.job = .transfer ∧ (s.eng.state = .rotateWait ∨ s.eng.state = .retryWait) ∧
    s.eng.place.isSome = true

/-- The slot that a block of a transfer stands in (R104). -/
theorem slotOf_spec {s : State} {t : Byte} {seq i : Nat} {st : SlotState} (h : s.slotOf t seq st = some i) :
    ∃ x, s.slots[i]? = some x ∧ x.state = st ∧ x.tag = some t := by
  obtain ⟨hi, hx, -⟩ := List.findIdx?_eq_some_iff_getElem.mp h
  simp only [Bool.and_eq_true, beq_iff_eq] at hx
  exact ⟨_, List.getElem?_eq_getElem hi, hx.1.1, hx.1.2⟩

theorem slotState_of_getElem? {l : Ledger} {i : Nat} {x : Slot} (h : l.slots[i]? = some x) :
    l.slotState i = some x.state := by simp [Ledger.slotState, h]

theorem Evolves.slips {s t : State} (h : Evolves s t) : Evolves s t.slips :=
  (Evolves.countSlip (t := t.onEng fun e => { e with slips := bump e.slips }) (h.quiet rfl)).quiet
    (State.awaitPass_ledger _)

theorem modify_eq_of_getElem? {l : List Slot} {i : Nat} {x : Slot} (h : l[i]? = some x) (f : Slot → Slot) :
    l.modify i f = l.modify i fun _ => f x := by
  apply List.ext_getElem?
  intro j
  by_cases hj : i = j
  · subst hj; simp [h]
  · simp [hj]

/-- A FULL slot of a command changes, or is emptied: it is none that moves, and no record operation's. -/
theorem Evolves.onFull {s t u : State} (h : Evolves s t) {i : Nat} {x : Slot} {tag : Byte}
    (hx : t.slots[i]? = some x) (hfull : x.state = .full) (htag : x.tag = some tag) {f : Slot → Slot}
    (hf : (f x).state.still) (hu : u.ledger = { t.ledger with slots := t.slots.modify i f }) :
    Evolves s u := by
  refine h.trans ?_
  unfold Evolves
  rw [hu, modify_eq_of_getElem? hx]
  refine Ledger.Evolves.ofBuffer (a := t.ledger) (fl := t.eng.flight) (op := t.record.op)
    (fun g hg => ⟨g, hg, rfl, rfl⟩) (List.length_modify ..) (.inl rfl) fun ha => ?_
  obtain ⟨hin, hout, hfl⟩ := ha.ne_of_still (slotState_of_getElem? (l := t.ledger) hx) (.inr hfull)
  refine ha.restAt ⟨hin, hout⟩ (.inl ⟨rfl, hfl⟩) (fun _ => hf) fun j hj => .inl ⟨?_, hj⟩
  rintro rfl
  have := (ha.op j hj).1
  simp [hx, htag] at this

/-- A block of a WRITE that is refused the gate is deferred, or unrecoverable (R110, R113). -/
theorem Evolves.deferWrite {s : State} {i : Nat} {x : Slot} {tag : Byte} (hx : s.slots[i]? = some x)
    (hfull : x.state = .full) (htag : x.tag = some tag) : Evolves s (s.deferWrite i) := by
  unfold State.deferWrite
  refine .ite (fun _ => ?_) fun _ => ?_
  · refine (Evolves.countDeferral ?_).quiet (State.awaitPass_ledger _)
    exact (Evolves.refl s).onFull hx hfull htag (f := fun x => { x with retry := x.retry + 1 }) (.inr hfull) rfl
  · have h0 : Evolves s (s.onEng fun e => { e with
        errors := e.errors + 1
        firstError := if e.errors == 0 then lbaAt s.extents s.eng.seq else e.firstError }) :=
      (Evolves.refl s).quiet rfl
    unfold State.unrecoverable
    dsimp only
    split
    · exact h0.endPending _
    · exact Evolves.finishBlock (h0.onFull (t := s.onEng _) hx hfull htag (f := fun _ => Slot.none)
        (.inl rfl) rfl)
    · exact h0.endTransfer _

section
variable {s : State} (hlow : s.supplyLow = false) (hidle : s.eng.flight = none)
include hlow hidle

theorem recordReadArrives_cases {r : RecordRead} (hop : s.record.op = .reading r) (n : Nat) :
    s.recordReadArrives r n = s ∨ ∃ k slot, TakesOff s (s.recordReadArrives r n) k slot := by
  unfold State.recordReadArrives
  split
  · split
    · next i hi =>
      obtain ⟨x, hx, hempty⟩ := emptySlot_spec hi
      refine .inr ⟨.recordRead n, some i, hlow, hidle, ⟨_, fun y => ⟨rfl, nofun⟩, rfl⟩, ?_, nofun,
        .inr (by rw [hop]; rfl), by simp, nofun, nofun⟩
      rintro - j ⟨⟩
      exact ⟨_, slotState_of_getElem? hx, .inl hempty⟩
    · exact .inl rfl
  · exact .inl rfl

/-- A record sector that takes off is the write-back's own. -/
theorem recordWriteArrives_cases {w : WriteBack} (hop : s.record.op = .writing w) (n : Nat) :
    Evolves s (s.recordWriteArrives w n) ∨ ∃ k slot, TakesOff s (s.recordWriteArrives w n) k slot := by
  unfold State.recordWriteArrives
  split
  · split
    · next i hi =>
      have hslot : s.record.op.slot = some i := by rw [hop]; exact hi
      split
      · next hgate =>
        simp only [Bool.and_eq_true] at hgate
        refine .inr ⟨.recordWrite, some i, hlow, hidle,
          ⟨fun x => { x with state := .draining }, fun y => ⟨rfl, fun _ => rfl⟩, rfl⟩, ?_, nofun,
          .inl ⟨rfl, hslot⟩, fun _ => hgate.2, fun _ => hgate.1, nofun⟩
        rintro ha j ⟨⟩
        obtain ⟨-, hfull | ⟨f, hf, -⟩⟩ := ha.op i hslot
        · exact ⟨_, hfull, .inr rfl⟩
        · rw [State.ledger_flight, hidle] at hf; cases hf
      · left
        unfold State.recordSectorDeferred
        refine .ite (fun _ => Evolves.countDeferral ?_) fun _ => (Evolves.refl s).failWriteBack
        exact (Evolves.refl s).rewriteOp (w := { w with deferrals := w.deferrals + 1 }) hop rfl rfl fun _ => id
    · exact .inl (.refl s)
  · exact .inl (.refl s)

theorem transferArrives_cases (hop : s.record.op = .idle) (n : Nat) :
    Evolves s (s.transferArrives n) ∨ ∃ k slot, TakesOff s (s.transferArrives n) k slot := by
  have hnone : s.record.op.slot = none := by rw [hop]; rfl
  unfold State.transferArrives
  dsimp only
  split
  · next hguard =>
    split
    · next t _ _ _ =>
      unfold State.readArrives
      split
      · next i hi =>
        obtain ⟨x, hx, hempty⟩ := emptySlot_spec hi
        refine .inr ⟨.read, some i, hlow, hidle, ⟨_, fun y => ⟨rfl, nofun⟩, rfl⟩, ?_, nofun,
          .inr hnone, by simp, nofun, nofun⟩
        rintro - j ⟨⟩
        exact ⟨_, slotState_of_getElem? hx, .inl hempty⟩
      · exact .inl (.slips (.refl s))
    · next t _ _ _ =>
      unfold State.writeArrives
      split
      · next i hi =>
        obtain ⟨x, hx, hfull, htag⟩ := slotOf_spec hi
        split
        · next hgate =>
          refine .inr ⟨.write, some i, hlow, hidle,
            ⟨fun x => { x with state := .draining }, fun y => ⟨rfl, fun _ => rfl⟩, rfl⟩, ?_, nofun,
            .inr hnone, fun _ => hgate, nofun, fun _ => ?_⟩
          · rintro - j ⟨⟩
            exact ⟨_, slotState_of_getElem? hx, .inr hfull⟩
          · simp only [Bool.and_eq_true, Bool.or_eq_true, beq_iff_eq] at hguard
            obtain ⟨⟨hjob, hstate⟩, hplace⟩ := hguard
            exact ⟨hjob, hstate, by cases hp : s.eng.place <;> simp_all⟩
        · exact .inl (.deferWrite hx hfull htag)
      · exact .inl (.slips (.refl s))
    · exact .inr ⟨.verify, none, hlow, hidle,
        ⟨fun x => { x with state := .filling }, fun y => ⟨rfl, nofun⟩, rfl⟩, nofun, fun _ => rfl,
        .inr hnone, by simp, nofun, nofun⟩
    · exact .inl (.refl s)
  · exact .inl (.refl s)

end

/-- A sector that arrives evolves the state, or takes off. -/
theorem sectorArrives_cases (n : Nat) (s : State) :
    Evolves s (s.sectorArrives n) ∨ ∃ k slot, TakesOff s (s.sectorArrives n) k slot := by
  unfold State.sectorArrives
  split
  · exact .inl (.refl s)
  · next hc =>
    obtain ⟨hlow, hidle⟩ : s.supplyLow = false ∧ s.eng.flight = none := by simpa using hc
    split
    · next r hop =>
      rcases recordReadArrives_cases hlow hidle hop n with h | h
      · rw [h]; exact .inl (.refl s)
      · exact .inr h
    · next w hop => exact recordWriteArrives_cases hlow hidle hop n
    · next hop => exact transferArrives_cases hlow hidle hop n

end Sys2Proof.Machine
end

section
/-! PROOFS. A table that LOAD TABLE stages lies within its limits (R160, R162 to R165). -/

namespace Sys2Proof.Machine

theorem le_clampNat {lo hi : Nat} (v : Nat) : lo ≤ clampNat lo hi v := Nat.le_max_left ..

theorem clampNat_le {lo hi : Nat} (h : lo ≤ hi) (v : Nat) : clampNat lo hi v ≤ hi :=
  Nat.max_le.mpr ⟨h, Nat.min_le_left ..⟩

theorem profileOf_inLimits {l : List Byte} {x : SeekProfile × Nat} (h : profileOf l = some x) :
    x.1.inLimits = true := by
  unfold profileOf at h
  split at h
  · cases h
  · dsimp only at h
    split at h
    · split at h
      · next hrows =>
        cases h
        simp only [Bool.and_eq_true] at hrows
        simp [SeekProfile.inLimits, hrows.2, le_clampNat, clampNat_le]
      · cases h
    · cases h

theorem faultRowOf_inLimits {m sp po dg bu de : Byte} {x : FaultRow × Nat}
    (h : faultRowOf m sp po dg bu de = some x) : x.1.inLimits = true := by
  unfold faultRowOf at h
  split at h
  · cases h
    simp [FaultRow.inLimits, le_clampNat, clampNat_le]
  · cases h

theorem faultRows_inLimits : ∀ (l : List Byte) (rows : List FaultRow) (n : Nat),
    faultRows l = some (rows, n) → ∀ r ∈ rows, r.inLimits = true := by
  intro l
  induction l using faultRows.induct with
  | case1 => intro rows n h; cases h; simp
  | case2 m sp po dg bu de rest r k l j hl hr ih =>
    intro rows n h
    rw [faultRows, hr, hl] at h
    cases h
    exact List.forall_mem_cons.mpr ⟨faultRowOf_inLimits hr, ih l j hl⟩
  | case3 m sp po dg bu de rest hnone _ =>
    intro rows n h
    rw [faultRows] at h
    split at h
    · next hr hl => exact (hnone _ _ _ _ hr hl).elim
    · cases h
  | case4 l hnil hcons =>
    intro rows n h
    rw [faultRows.eq_3 l hnil hcons] at h
    cases h

theorem actionsOf_inLimits {l : List Byte} {x : FaultActions × Nat} (h : actionsOf l = some x) :
    x.1.inLimits = true := by
  unfold actionsOf at h
  split at h
  · next hrows =>
    split at h
    · next hmode =>
      cases h
      have hall := faultRows_inLimits _ _ _ hrows
      simp only [List.forall_mem_cons] at hall
      simp only [Bool.and_eq_true] at hmode
      simp [FaultActions.inLimits, hall, hmode]
    · cases h
  · cases h

theorem paramsOf_inLimits {l : List Byte} {x : DriveParams × Nat} (h : paramsOf l = some x) :
    x.1.inLimits = true := by
  unfold paramsOf at h
  split at h
  · dsimp only at h
    split at h
    · cases h
      simp [DriveParams.inLimits, le_clampNat, clampNat_le]
    · cases h
  · cases h

/-- The table within the limits of its kind. -/
def LoadedTable.inLimits : LoadedTable → Bool
  | .profile p => p.inLimits
  | .actions a => a.inLimits
  | .params d => d.inLimits

theorem tableOf_inLimits {selector : Byte} {body : List Byte} {x : LoadedTable} {n : Nat}
    (h : tableOf selector body = some (x, n)) : x.inLimits = true := by
  unfold tableOf at h
  split at h
  · obtain ⟨y, hy, hx⟩ := Option.map_eq_some_iff.mp h
    cases hx
    exact profileOf_inLimits hy
  · obtain ⟨y, hy, hx⟩ := Option.map_eq_some_iff.mp h
    cases hx
    exact actionsOf_inLimits hy
  · obtain ⟨y, hy, hx⟩ := Option.map_eq_some_iff.mp h
    cases hx
    exact paramsOf_inLimits hy
  · cases h

/-- The table store with a table staged. -/
def TableStore.withStaged (t : LoadedTable) (x : TableStore) : TableStore :=
  match t with
  | .profile p => { x with stagedProfile := some p }
  | .actions a => { x with stagedActions := some a }
  | .params d => { x with stagedParams := some d }

theorem State.stage_ledger (t : LoadedTable) (s : State) :
    (s.stage t).ledger = { s.ledger with tbs := s.tbs.withStaged t } := by
  cases t <;> rfl

theorem TableStore.allInLimits.withStaged {x : TableStore} (h : x.allInLimits) {t : LoadedTable}
    (ht : t.inLimits = true) : (x.withStaged t).allInLimits := by
  obtain ⟨hp, ha, hd, hsp, hsa, hsd⟩ := h
  cases t with
  | profile p => exact ⟨hp, ha, hd, fun y hy => by cases hy; exact ht, hsa, hsd⟩
  | actions a => exact ⟨hp, ha, hd, hsp, fun y hy => by cases hy; exact ht, hsd⟩
  | params d => exact ⟨hp, ha, hd, hsp, hsa, fun y hy => by cases hy; exact ht⟩

theorem Evolves.stage {s t : State} (h : Evolves s t) {x : LoadedTable} (hx : x.inLimits = true) :
    Evolves s (t.stage x) := by
  refine h.trans ?_
  unfold Evolves
  rw [State.stage_ledger]
  exact { Ledger.Evolves.refl t.ledger with
    tables := fun ht => ht.withStaged hx, slots := .of_eq rfl rfl rfl rfl rfl }

end Sys2Proof.Machine
end

section
/-! PROOFS. The commands: what the answer to each makes of the state, from which the blocks then evolve it. -/

namespace Sys2Proof.Machine

/-- The parts with a packet at the end of the reply queue. -/
def Ledger.withReply (p : Packet) (l : Ledger) : Ledger :=
  { l with dbi := { l.dbi with replies := l.dbi.replies ++ [p] } }

theorem State.reply_ledger (t : Byte) (st : Status) (b : ReplyBody) (s : State) :
    (s.reply t st b).ledger = s.ledger.withReply (.reply t st b) := rfl

/-- What the answer to a command makes of the parts: a REPLY, with an entry admitted, with the tag of an
EJECT, or with the records that CLEAR FAULTS leaves. -/
inductive Answered (i : Instr) (u : State) : Ledger → Prop
  | replied {v : State} (p : Packet) (h : Evolves u v) : Answered i u (v.ledger.withReply p)
  | admitted {tag : Byte} {c : MediumCmd} (p : Packet) (hi : mediumOf i = some (tag, c))
      (h : u.admissionRefused tag c = none) :
      Answered i u { u.ledger.withReply p with queue := u.queue ++ [⟨tag, c, false⟩] }
  | ejects (p : Packet) (tag : Byte) (h : ((u.ccu.eject.map EjectRecord.tags).getD []).length < 4) :
      Answered i u { u.ledger.withReply p with
        tags := some ((u.ccu.eject.map EjectRecord.tags).getD [] ++ [tag]) }
  | cleared (p : Packet) (tag : Byte) (hi : i = .clearFaults tag) :
      Answered i u { u.ledger.withReply p with records := u.fsv.records.filter u.keepsRecord }

/-- The blocks evolve a state with the given parts. -/
theorem Ledger.Evolves.from {l : Ledger} (m : State) {t : State} (hm : m.ledger = l)
    (h : m.ledger.Evolves t.ledger) :
    l.Evolves t.ledger := hm ▸ h

/-- The blocks evolve the answered state. -/
def Answers (i : Instr) (act : State → State) : Prop :=
  ∀ u, ∃ l, Answered i u l ∧ l.Evolves (act u).ledger

theorem answers_reply {i : Instr} {act : State → State}
    (h : ∀ u, ∃ v p, Evolves u v ∧ (act u).ledger = v.ledger.withReply p) : Answers i act := by
  intro u
  obtain ⟨v, p, hv, heq⟩ := h u
  exact ⟨_, .replied p hv, heq ▸ .refl _⟩

/-- A REPLY to a command that changes nothing else that the laws are about. -/
theorem answered_reply (i : Instr) {u v : State} (hv : Evolves u v) (t : Byte) (st : Status) (b : ReplyBody) :
    ∃ l, Answered i u l ∧ l.Evolves (v.reply t st b).ledger :=
  ⟨_, .replied _ hv, .refl _⟩

theorem answered_badOperand (i : Instr) (t : Byte) (u : State) :
    ∃ l, Answered i u l ∧ l.Evolves (u.badOperand t).ledger :=
  answered_reply i (.refl u) ..

/-! ## The medium commands -/

theorem answers_enqueue {i : Instr} {tag : Byte} {c : MediumCmd} (hi : mediumOf i = some (tag, c)) :
    Answers i (State.enqueue tag c) := by
  intro u
  unfold State.enqueue
  split
  · exact answered_reply i (.refl u) ..
  · next h => exact ⟨_, .admitted (.reply tag .queued .empty) hi h,
      .from ((u.reply tag .queued .empty).setQueue _) rfl (Evolves.refl _).settle⟩

/-! ## ABORT -/

/-- The flight that a cut leaves is the one that was there (R116). -/
theorem cutWrite_flight {s : State} {f : Flight} (hf : s.cutWrite.eng.flight = some f) :
    s.eng.flight = some f := by
  unfold State.cutWrite at hf
  split at hf
  · cases hf
  · exact hf

theorem Evolves.abortNow {s t : State} (h : Evolves s t) : Evolves s t.abortNow := by
  have hcut := h.cutWrite
  unfold State.abortNow
  dsimp only
  refine Evolves.completeHead (.ite (fun hown => hcut.trans ?_) fun _ => hcut) _
  cases hf : t.cutWrite.eng.flight with
  | none =>
    refine (Evolves.refl _).quiet ?_
    simp [State.emptySlotOpt, State.ledger, hf]
  | some f =>
    have hhost : f.isHost = true := by
      simp only [State.ownFlight, cutWrite_flight hf, Option.any_some, Bool.and_eq_true] at hown
      exact hown.1
    refine (landEmpty_evolves hf (.inl ?_)).quiet ?_
    · intro hk
      simp [Flight.isHost, hk] at hhost
    · rw [Option.bind_some]
      cases f.slot <;> rfl

theorem Evolves.completeWaiting {s t : State} (h : Evolves s t) {tag : Byte} (st : Status)
    (hq : ∃ e ∈ t.queue, e.tag = tag ∧ e.executing = false) : Evolves s (t.completeWaiting tag st) := by
  refine h.queueShrinks (l := [.done tag st 0 0 0 none none])
    (q := t.queue.filter fun e => e.executing || e.tag != tag) rfl (List.filter_sublist.map _) ?_
  obtain ⟨e, he, htag, hx⟩ := hq
  have hlt : (t.queue.filter fun e => e.executing || e.tag != tag).length < t.queue.length :=
    List.length_filter_lt_length_iff_exists.mpr ⟨e, he, by simp [hx, htag]⟩
  simp only [List.length_singleton]
  omega

theorem answers_abort (tag target mode : Byte) : Answers (.abort tag target mode) fun u =>
    match twoWay mode with
    | some m => u.abort tag target m
    | none => u.badOperand tag := by
  intro u
  dsimp only
  split
  · next m _ =>
    unfold State.abort
    split
    · exact answered_reply _ (.refl u) ..
    · next e he =>
      refine ⟨_, .replied (.reply tag .ok .empty) (.refl u), Evolves.settle (s := u.reply tag .ok .empty) ?_⟩
      have htag : e.tag = target := by simpa using List.find?_some he
      refine .ite (fun _ => .ite (fun _ => Evolves.abortNow (.refl _)) fun _ => (Evolves.refl _).stopExecuting _)
        fun hx => (Evolves.refl _).completeWaiting _ ⟨e, List.mem_of_find?_eq_some he, htag, by simpa using hx⟩
  · exact answered_badOperand ..

/-! ## EJECT and its holds -/

theorem answers_eject (tag mode force : Byte) : Answers (.eject tag mode force) fun u =>
    match ejectModeOf mode, twoWay force with
    | some m, some f => u.ejectCommand tag m f
    | _, _ => u.badOperand tag := by
  intro u
  dsimp only
  split
  · next m f _ _ =>
    unfold State.ejectCommand
    split
    · next e he =>
      split
      · exact answered_reply _ (.refl u) ..
      · next hroom =>
        refine ⟨_, .ejects (.reply tag .queued .empty) tag ?_, ?_⟩
        · simp only [he, Option.map_some, Option.getD_some]
          exact Nat.lt_of_not_le hroom
        · refine .from ((u.reply tag .queued .empty).onCcu fun c =>
            { c with eject := c.eject.map fun e => { e with tags := e.tags ++ [tag] } }) ?_
            (Evolves.mergeEject (.refl _)).settle
          simp [State.ledger, State.reply, State.place, Ledger.withReply, he]
    · next he =>
      split
      · exact answered_reply _ (.refl u) ..
      · split
        · exact answered_reply _ (.refl u) ..
        · refine ⟨_, .ejects (.reply tag .queued .empty) tag (by simp [he]),
            .from ((u.reply tag .queued .empty).onCcu fun c =>
              { c with eject := some ⟨some .draining, m, f, [tag], .undecided⟩ }) ?_
              (Evolves.beginEject (.refl _)).settle⟩
          simp [State.ledger, State.reply, State.place, Ledger.withReply, he]
  · exact answered_badOperand ..

theorem Evolves.onHolds {s t u : State} (h : Evolves s t) {n : Nat} (hn : t.ccu.holdCount ≤ 15 → n ≤ 15)
    (hu : u.ledger = { t.ledger with hold := n }) : Evolves s u := by
  refine h.trans ?_
  unfold Evolves
  rw [hu]
  exact { Ledger.Evolves.refl t.ledger with
    counts := fun ⟨hh, hrest⟩ => ⟨hn hh, hrest⟩, slots := .of_eq rfl rfl rfl rfl rfl }

theorem answers_holdEject (tag : Byte) : Answers (.holdEject tag) fun u => u.holdEject tag := by
  intro u
  dsimp only
  unfold State.holdEject
  split
  · exact answered_reply _ (.refl u) ..
  split
  · exact answered_reply _ (.refl u) ..
  split
  · exact answered_reply _ (.refl u) ..
  · next hlt => exact answered_reply _ ((Evolves.refl u).onHolds (fun _ => Nat.lt_of_not_le hlt) rfl) ..

theorem answers_releaseEject (tag : Byte) : Answers (.releaseEject tag) fun u => u.releaseEject tag := by
  intro u
  dsimp only
  unfold State.releaseEject
  split
  · exact answered_reply _ (.refl u) ..
  split
  · exact answered_reply _ (.refl u) ..
  · exact answered_reply _
      ((Evolves.refl u).onHolds (fun h => Nat.le_trans (Nat.sub_le ..) h) rfl) ..

/-! ## Faults, tables, snapshots, attention -/

theorem answers_clearFaults (tag : Byte) : Answers (.clearFaults tag) fun u => u.clearFaults tag :=
  fun u =>
    let left := u.fsv.records.filter u.keepsRecord
    let p := ReplyBody.cleared (u.fsv.records.length - left.length) left.length
    ⟨_, .cleared (.reply tag .ok p) tag rfl,
      .from (((u.onFsv fun v => { v with records := left }).onPos fun q =>
        { q with hold := false }).reply tag .ok p) rfl (Evolves.refl _).settle⟩

theorem answers_readFaults (tag : Byte) : Answers (.readFaults tag) fun u => u.readFaults tag :=
  fun u => answered_reply _ (.refl u) ..

theorem answers_loadTable (tag selector : Byte) (body : List Byte) :
    Answers (.loadTable tag selector body) fun u => u.loadTable tag selector body := by
  intro u
  dsimp only
  unfold State.loadTable
  split
  · exact answered_reply _ (.refl u) ..
  · next x n h =>
    have hst := (Evolves.refl u).stage (tableOf_inLimits h)
    have ht : Evolves u (if u.spc.state.idle then (u.stage x).takeTables else u.stage x) :=
      .ite (fun _ => hst.takeTables) fun _ => hst
    dsimp only
    split
    · exact answered_reply _ ht ..
    · exact answered_reply _ ht ..

theorem answers_readTable (tag selector copy : Byte) (first : BitVec 16) :
    Answers (.readTable tag selector copy first) fun u =>
      match twoWay copy with
      | some c =>
        if 1 ≤ selector.toNat ∧ selector.toNat ≤ 6 then u.readTable tag selector.toNat c first.toNat
        else u.badOperand tag
      | none => u.badOperand tag := by
  intro u
  dsimp only
  split
  · split
    · unfold State.readTable
      split
      · exact answered_reply _ (.refl u) ..
      · split
        · exact answered_reply _ (.refl u) ..
        · exact answered_reply _ (.refl u) ..
    · exact answered_badOperand ..
  · exact answered_badOperand ..

/-- A change of the table store that keeps its tables. -/
theorem Evolves.onTbs {s t : State} (h : Evolves s t) {f : TableStore → TableStore}
    (hf : ∀ x, x.allInLimits → (f x).allInLimits) : Evolves s (t.onTbs f) :=
  h.trans { Ledger.Evolves.refl t.ledger with
    tables := hf _, slots := .of_eq rfl rfl rfl rfl rfl }

theorem answers_tableHold (tag value : Byte) : Answers (.tableHold tag value) fun u =>
    match twoWay value with
    | some v => u.tableHold tag v
    | none => u.badOperand tag := by
  intro u
  dsimp only
  split
  · next v _ =>
    have h0 := (Evolves.refl u).onTbs (f := fun x => { x with hold := v }) fun _ => id
    unfold State.tableHold
    dsimp only
    exact answered_reply _ (.ite (fun _ => h0.takeTables) fun _ => h0) ..
  · exact answered_badOperand ..

theorem answers_latch (tag groups clear : Byte) : Answers (.latch tag groups clear) fun u =>
    match groupsOf groups, twoWay clear with
    | some g, some c => u.latch tag g c
    | _, _ => u.badOperand tag := by
  intro u
  dsimp only
  split
  · unfold State.latch
    dsimp only
    have latched (f : TableStore → TableStore) (hf : ∀ x, x.allInLimits → (f x).allInLimits) (c : Bool) :
        Evolves u (if c then (u.onTbs f).onCounters fun _ => Counters.zero else u.onTbs f) :=
      .ite (fun _ => ((Evolves.refl u).onTbs hf).onCounters fun _ => by simp [Counters.zero]) fun _ =>
        (Evolves.refl u).onTbs hf
    refine answered_reply _ (latched _ ?_ _) ..
    exact fun _ => id
  · exact answered_badOperand ..

theorem answers_readLatched (tag : Byte) : Answers (.readLatched tag) fun u => u.readLatched tag :=
  fun u => answered_reply _ ((Evolves.refl u).onTbs
    (f := fun x => { x with snapSpindle := none, snapPosition := none, snapCounters := none }) fun _ => id) ..

theorem answers_status (tag : Byte) :
    Answers (.status tag) fun u => u.reply tag .ok (.status u.report) :=
  fun u => answered_reply _ (.refl u) ..

theorem answers_attentionAck (tag : Byte) : Answers (.attentionAck tag) fun u => u.attentionAck tag := by
  intro u
  dsimp only
  unfold State.attentionAck
  split
  · exact answered_reply _ (.refl u) ..
  · exact answered_reply _ ((Evolves.refl u).quiet (u.onAtc_ledger _)) ..

theorem answers_endAttention (tag source : Byte) : Answers (.endAttention tag source) fun u =>
    match endSourceOf source with
    | some x => u.endAttention tag x
    | none => u.badOperand tag := by
  intro u
  dsimp only
  split
  · unfold State.endAttention
    split
    · exact answered_reply _ (.refl u) ..
    · exact answered_reply _ ((Evolves.refl u).quiet (u.onAtc_ledger _)) ..
  · exact answered_badOperand ..

theorem answers_setAttentionMask (tag : Byte) (mask : BitVec 16) : Answers (.setAttentionMask tag mask)
    fun u => (u.onAtc fun a => { a with mask := maskOf mask }).reply tag .ok .empty :=
  fun u => answered_reply _ ((Evolves.refl u).quiet (u.onAtc_ledger _)) ..

end Sys2Proof.Machine
end

section
/-! PROOFS. What one command or event does to the parts, each in one of a few ways. -/

namespace Sys2Proof.Machine

/-! ## The interface after an event -/

/-- An event that moves packets only. -/
inductive BusMove (s : State) : State → Prop
  | begins (h : Header) (hr : s.canReceive = true) (hi : s.dbi.inb = .idle) : BusMove s (s.beginPacket h)
  | parity (p : ParityPlace) (hr : s.canReceive = true) : BusMove s (s.parityError p)
  | turned (cut : HeaderPart) : BusMove s
      (((if s.supplyLow || s.dbi.busReset then s else s.cutPacket cut).setInb .idle).onDbi fun d =>
        { d with turn := false })
  | turnAsserted : BusMove s (s.onDbi fun d => { d with turn := true })
  | sent : BusMove s s.packetSent
  | index (h : Header) (t : Byte) (n : Nat) (hr : s.canReceive = true) (hi : s.dbi.inb = .payload h) :
      BusMove s (s.dataIndex t n)
  | dataEnds (t : Byte) (n i : Nat) (data : List Byte) (hr : s.canReceive = true)
      (hi : s.dbi.inb = .data t n i) : BusMove s (s.dataEnds t n i data)
  | discarded (hi : s.dbi.inb = .discard) : BusMove s (s.setInb .idle)
  | withheld (h : Header) (hi : s.dbi.inb = .idle) : BusMove s (s.setInb (.waiting h))
  | released : BusMove s (s.onDbi fun d => { d with busReset := false })
  | resetLow (hl : s.supplyLow = true) :
      BusMove s (s.onDbi fun d => { d with busReset := true, out := .none })

/-- The part as a supply-low leaves it, before the heads retract (R154). -/
def State.cutOff (s : State) : State :=
  { ((s.stopTransfers.abandonPackets).onPos fun p => { p with requester := .none }).onCcu
      fun c => { c with ejector := false } with supplyLow := true }

/-- The part as a bus reset leaves it, before the blocks react (R183). -/
def State.busCleared (s : State) : State :=
  (s.orphanWorks.dropQueue.resetHolds).resetTables.resetAttention.resetBus

/-- The packet of a command is taken: as a whole, or after its header (R177). -/
inductive Taken (s : State) : State → Prop
  | whole (hi : s.dbi.inb = .idle) (hf : s.replyFull = false) : Taken s s
  | completed (h : Header) (hi : s.dbi.inb = .payload h) : Taken s (s.setInb .idle)

/-- What a command or event does. -/
inductive Happens (i : Instr) (s : State) : State → Prop
  | evolves {t} (h : Evolves s t) : Happens i s t
  | event {m} (h : Evolves s m) : Happens i s m.commit
  | powered (present protect park : Bool) (cause : ResetCause) (hi : i = .powerOnReset present protect park) :
      Happens i s (State.powerOn cause present protect park s.dbi.turn s.dbi.busReset s.pending)
  | cut {t} (hl : s.supplyLow = false) (h : Evolves s.supplyRecord.cutOff t) : Happens i s t
  | reset {t} (hl : s.supplyLow = false) (h : Evolves s.busCleared t) : Happens i s t.commit
  | takesOff {m n} {k slot} (hm : TakesOff s m k slot) (h : Evolves m n) : Happens i s n.commit
  | readsOn {u m n} {good : Bool} {data : List Byte} (hi : i = .sectorEnd good data)
      (hm : ReadsOn data s u m) (h : Evolves m n) : Happens i s n.commit
  | bus {t} (h : BusMove s t) : Happens i s t
  | busEvent {m n} (hm : BusMove s m) (h : Evolves m n) : Happens i s n.commit
  | answered {u l} {t : State} (hr : s.canReceive = true) (hu : Taken s u) (hl : Answered i u l)
      (h : l.Evolves t.ledger) : Happens i s t
  | late {l} {t : State} (ht : s.takesLate i = true) (hl : Answered i s l) (h : l.Evolves t.ledger) :
      Happens i s (t.answersFirst s.dbi.replies.length)

theorem Happens.stays (i : Instr) (s : State) : Happens i s s := .evolves (.refl s)

theorem Happens.ofEvent {i : Instr} {s m : State} (h : Evolves s m) : Happens i s m.event := .event h.settle

theorem Happens.ofCommand {i : Instr} {act : State → State} (h : Answers i act) (s : State) :
    Happens i s (s.command i act) := by
  have whole (hd : Header) (u : State) : ∃ l, Answered i u l ∧ l.Evolves (u.wholePacket hd act).ledger := by
    rcases wholePacket_cases hd act u with ⟨-, hq⟩ | ⟨-, hq⟩
    · rw [hq]; exact answered_reply i (.refl u) ..
    · rw [hq]; exact h u
  rcases command_cases i act s with hq | ⟨tag, p, -, ⟨hr, ⟨hi, ⟨-, hq⟩ | ⟨hf, hq⟩⟩ | ⟨hi, hq⟩⟩ | ⟨hl, hq⟩⟩
  · rw [hq]; exact .stays i s
  · rw [hq]; exact .bus (.withheld _ hi)
  · obtain ⟨l, hl, hev⟩ := whole (commandHeader tag p) s
    rw [hq]; exact .answered hr (.whole hi hf) hl hev
  · obtain ⟨l, hl, hev⟩ := h (s.setInb .idle)
    rw [hq]; exact .answered hr (.completed _ hi) hl hev
  · obtain ⟨l, ha, hev⟩ := whole (commandHeader tag p) s
    rw [hq]; exact .late hl ha hev

theorem Evolves.coastDown {s t : State} (h : Evolves s t) : Evolves s t.coastDown :=
  h.quiet (by simp [State.coastDown])

theorem supplyRecord_evolves (s : State) : Evolves s s.supplyRecord :=
  (Evolves.putRecord ((Evolves.refl s).quiet (s.nowPresent_ledger _)) ..).quiet (State.endRetries_ledger _)

theorem Happens.ofExpire {i : Instr} {s : State} {t : Option Timer} {act : State → State}
    (h : ∀ u, Evolves u (act u)) : Happens i s (s.expire t act) := by
  unfold State.expire
  split
  · exact .stays i s
  · exact .ofEvent (((Evolves.refl s).quiet (s.elapse_ledger _)).trans (h _))

theorem Happens.ofIf {i : Instr} {s t u : State} {c : Prop} [Decidable c] (ht : c → Happens i s t)
    (hu : ¬ c → Happens i s u) : Happens i s (if c then t else u) := by
  split
  · exact ht ‹_›
  · exact hu ‹_›

/-- Every command and event does one of these. -/
theorem happens_of_exec {i : Instr} {s t : State} (h : exec i s = .next t) : Happens i s t := by
  have hs := Evolves.refl s
  cases i with
  | powerOnReset present protect park => cases h; exact .powered _ _ _ _ rfl
  | supplyLow =>
    cases h
    refine .ofIf (fun _ => .evolves (supplyRecord_evolves s)) fun hl => .cut ?_ ?_
    · have hsame : s.supplyRecord.supplyLow = s.supplyLow := (supplyRecord_evolves s).supplyLow
      exact hsame.symm.trans (by simpa using hl)
    · exact (Evolves.retractRequest (.refl _) _).coastDown
  | overTempShutdown => cases h; exact .ofEvent (hs.recognise ..)
  | overTempShutdownCeases => cases h; exact .evolves (hs.quiet (s.absent_ledger _))
  | busReset =>
    cases h
    exact .ofIf (fun _ => .stays _ s) fun _ => .ofIf (fun hl => .bus (.resetLow hl)) fun hl =>
      .reset (by simpa using hl) (Evolves.refl _).settle
  | busResetRelease => cases h; exact .ofIf (fun _ => .busEvent .released (.refl _)) fun _ => .stays _ s
  | indexArrival timer warning => cases h; exact .ofEvent (hs.indexArrives ..)
  | stoppedRevolutionBoundary warning =>
    cases h; exact .ofIf (fun _ => .ofEvent (hs.stoppedBoundary _)) fun _ => .stays _ s
  | purgeComplete =>
    cases h; exact .ofIf (fun _ => .ofEvent (hs.quiet s.enterAtSpeed_ledger)) fun _ => .stays _ s
  | wedgeTime high => cases h; exact .ofEvent (hs.wedge _)
  | servoSample valid cylinder head pes => cases h; exact .ofEvent (hs.takeSample ..)
  | firstIndexWatchExpiry =>
    cases h; exact .ofExpire fun u => Evolves.observe ((Evolves.refl u).quiet (u.onSpc_ledger _)) ..
  | spinUpTimerExpiry =>
    cases h; exact .ofExpire fun u => Evolves.observe ((Evolves.refl u).quiet (u.onSpc_ledger _)) ..
  | lostIndexWatchExpiry =>
    cases h; exact .ofExpire fun u => Evolves.observe ((Evolves.refl u).quiet (u.onSpc_ledger _)) ..
  | reversePhaseTimeout =>
    cases h
    refine .ofIf (fun _ => .ofEvent (hs.quiet ?_)) fun _ => .stays _ s
    rw [State.onSpc_ledger, State.elapse_ledger]
  | stopWindowExpiry => cases h; exact .ofExpire fun u => (Evolves.refl u).enterStopped
  | standbyExpiry =>
    cases h
    refine .ofIf (fun _ => .ofEvent (hs.quiet ?_)) fun _ => .stays _ s
    rw [State.onDowns_ledger, State.elapse_ledger]
  | loadTimeout => cases h; exact .ofIf (fun _ => .ofEvent hs.loadTimesOut) fun _ => .stays _ s
  | unloadWatchExpiry => cases h; exact .ofExpire fun u => (Evolves.refl u).unloadLate
  | parkSensorOnRamp => cases h; exact .ofEvent (hs.quiet s.parkOnRamp_ledger)
  | retractWindowExpiry => cases h; exact .ofExpire fun u => (Evolves.refl u).retractExpires
  | seekTimerExpiry => cases h; exact .ofIf (fun _ => .ofEvent hs.seekTimerExpires) fun _ => .stays _ s
  | retryDelayExpiry kind =>
    cases h; exact .ofIf (fun _ => .ofEvent (hs.quiet (s.delayExpires_ledger _))) fun _ => .stays _ s
  | recoveryWatchEnd kind => cases h; exact .ofIf (fun _ => .ofEvent (hs.recovers _)) fun _ => .stays _ s
  | cartridgeSensorPresent protect => cases h; exact .ofEvent (hs.sensorPresent _)
  | cartridgeSensorAbsent => cases h; exact .ofEvent hs.sensorAbsent
  | ejectButtonPress =>
    cases h; exact .ofIf (fun _ => .stays _ s) fun _ => .ofEvent (Evolves.pressButton s)
  | ejectorPulseEnd =>
    cases h
    refine .ofIf (fun _ => .ofEvent (hs.quiet ?_)) fun _ => .stays _ s
    exact (rfl : _ = (s.elapse _).ledger).trans (s.elapse_ledger _)
  | ejectWindowExpiry =>
    cases h; exact .ofIf (fun _ => .stays _ s) fun _ => .ofExpire fun u => (Evolves.refl u).failEject _ _
  | sectorArrival sector =>
    cases h
    rcases sectorArrives_cases sector s with he | ⟨k, slot, hm⟩
    · exact .ofEvent he
    · exact .takesOff hm (Evolves.refl _).settle
  | sectorEnd good data =>
    cases h
    rcases sectorEnds_cases good data s with he | ⟨u, hm⟩
    · exact .ofEvent he
    · exact .readsOn rfl hm (Evolves.refl _).settle
  | inboundPacketHeader kind tag length b4 b5 b6 =>
    cases h
    refine .ofIf (fun hc => ?_) fun _ => .stays _ s
    simp only [Bool.and_eq_true, beq_iff_eq] at hc
    exact .bus (.begins _ hc.1 hc.2)
  | inboundParityError place => cases h; exact .ofIf (fun hr => .bus (.parity _ hr)) fun _ => .stays _ s
  | turnNegated cut => cases h; exact .ofIf (fun _ => .busEvent (.turned cut) (.refl _)) fun _ => .stays _ s
  | turnAsserted => cases h; exact .bus .turnAsserted
  | outboundPacketAcked => cases h; exact .busEvent .sent (Evolves.refl _).settle
  | dataPacketIndex tag index =>
    cases h
    refine .ofIf (fun hr => ?_) fun _ => .stays _ s
    split
    · next hd hi => exact .ofIf (fun _ => .bus (.index hd _ _ hr hi)) fun _ => .stays _ s
    · exact .stays _ s
  | dataPacketEnd data =>
    cases h
    refine .ofIf (fun hr => ?_) fun _ => .stays _ s
    split
    · next hi => exact .busEvent (.dataEnds _ _ _ data hr hi) (Evolves.refl _).settle
    · exact .stays _ s
  | read tag flags extents => cases h; exact .ofCommand (answers_enqueue rfl) s
  | write tag flags extents => cases h; exact .ofCommand (answers_enqueue rfl) s
  | verify tag flags extents => cases h; exact .ofCommand (answers_enqueue rfl) s
  | seek tag cylinder => cases h; exact .ofCommand (answers_enqueue rfl) s
  | spinUp tag => cases h; exact .ofCommand (answers_enqueue rfl) s
  | spinDown tag => cases h; exact .ofCommand (answers_enqueue rfl) s
  | flushRecord tag => cases h; exact .ofCommand (answers_enqueue rfl) s
  | reassignBlock tag lba => cases h; exact .ofCommand (answers_enqueue rfl) s
  | abort tag target mode => cases h; exact .ofCommand (answers_abort _ _ _) s
  | eject tag mode force => cases h; exact .ofCommand (answers_eject _ _ _) s
  | holdEject tag => cases h; exact .ofCommand (answers_holdEject _) s
  | releaseEject tag => cases h; exact .ofCommand (answers_releaseEject _) s
  | clearFaults tag => cases h; exact .ofCommand (answers_clearFaults _) s
  | readFaults tag => cases h; exact .ofCommand (answers_readFaults _) s
  | loadTable tag selector body => cases h; exact .ofCommand (answers_loadTable _ _ _) s
  | readTable tag selector copy first => cases h; exact .ofCommand (answers_readTable _ _ _ _) s
  | tableHold tag value => cases h; exact .ofCommand (answers_tableHold _ _) s
  | latch tag groups clear => cases h; exact .ofCommand (answers_latch _ _ _) s
  | readLatched tag => cases h; exact .ofCommand (answers_readLatched _) s
  | status tag => cases h; exact .ofCommand (answers_status _) s
  | attentionAck tag => cases h; exact .ofCommand (answers_attentionAck _) s
  | endAttention tag source => cases h; exact .ofCommand (answers_endAttention _ _) s
  | setAttentionMask tag mask => cases h; exact .ofCommand (answers_setAttentionMask _ _) s
  | discardedPacketEnd =>
    cases h
    refine .ofIf (fun hc => ?_) fun _ => .stays _ s
    simp only [Bool.and_eq_true, beq_iff_eq] at hc
    exact .bus (.discarded hc.2)

end Sys2Proof.Machine
end

section
/-! PROOFS. The laws about the fault list, the Command Queue, the tables, the counts, the record and the
sectors in flight. They say nothing about packets and slots, so what the interface does keeps them. -/

namespace Sys2Proof.Machine

/-- How a command or event leaves the parts besides the interface and the sector buffer. -/
structure Ledger.Carries (a b : Ledger) : Prop where
  queue : (b.queue.map Entry.key).Sublist (a.queue.map Entry.key)
  kinds : a.records.map FaultRecord.kind <+: b.records.map FaultRecord.kind
  oneRecord : (a.records.map FaultRecord.kind).Nodup → (b.records.map FaultRecord.kind).Nodup
  tables : a.tbs.allInLimits → b.tbs.allInLimits
  counts : a.countsInRange → b.countsInRange
  record : a.recordSound → b.recordSound
  image : ∀ y, b.image = some y → ∃ x, a.image = some x ∧ x.Keeps y
  flight : ∀ g, b.flight = some g → ∃ f, a.flight = some f ∧ f.RunsOn g

theorem Ledger.Evolves.carries {a b : Ledger} (h : a.Evolves b) : a.Carries b := { h with }

theorem Ledger.Carries.refl (a : Ledger) : a.Carries a := (Ledger.Evolves.refl a).carries

theorem Ledger.Carries.trans {a b c : Ledger} (h : a.Carries b) (g : b.Carries c) : a.Carries c where
  queue := g.queue.trans h.queue
  kinds := h.kinds.trans g.kinds
  oneRecord := g.oneRecord ∘ h.oneRecord
  tables := g.tables ∘ h.tables
  counts := g.counts ∘ h.counts
  record := g.record ∘ h.record
  image z hz := by
    obtain ⟨y, hy, hyz⟩ := g.image z hz
    obtain ⟨x, hx, hxy⟩ := h.image y hy
    exact ⟨x, hx, hxy.trans hyz⟩
  flight k hk := by
    obtain ⟨y, hy, hyk⟩ := g.flight k hk
    obtain ⟨x, hx, hxy⟩ := h.flight y hy
    exact ⟨x, hx, hyk.1.trans hxy.1, hyk.2.trans hxy.2⟩

/-- How a command or event leaves the state besides the interface and the sector buffer. -/
def Carries (s t : State) : Prop := s.ledger.Carries t.ledger

theorem Evolves.carries {s t : State} (h : Evolves s t) : Carries s t := Ledger.Evolves.carries h

theorem Carries.refl (s : State) : Carries s s := Ledger.Carries.refl _

theorem Carries.trans {s t u : State} (h : Carries s t) (g : Carries t u) : Carries s u :=
  Ledger.Carries.trans h g

/-- A change of the interface and the slots alone. -/
theorem Ledger.Carries.onBus (a : Ledger) (d : Bus) (l : List Slot) :
    a.Carries { a with dbi := d, slots := l } :=
  { Ledger.Carries.refl a with }

/-- The other parts are the same. -/
def SameHost (s t : State) : Prop := t.ledger = { s.ledger with dbi := t.dbi, slots := t.slots }

theorem SameHost.refl (s : State) : SameHost s s := rfl

theorem SameHost.trans {s t u : State} (h : SameHost s t) (g : SameHost t u) : SameHost s u := by
  unfold SameHost at *
  rw [g, h]

theorem SameHost.carries {s t : State} (h : SameHost s t) : Carries s t := by
  unfold Carries
  rw [h]
  exact .onBus ..

/-! ## The interface -/

theorem State.onDbi_same (f : Bus → Bus) (s : State) : SameHost s (s.onDbi f) := rfl
theorem State.setInb_same (x : Inbound) (s : State) : SameHost s (s.setInb x) := rfl
theorem State.reply_same (t : Byte) (st : Status) (b : ReplyBody) (s : State) : SameHost s (s.reply t st b) := rfl

theorem State.headerStep_same (h : Header) (s : State) : SameHost s (s.headerStep h) := by
  unfold State.headerStep
  split <;> rfl

theorem State.releaseWaiting_same (s : State) : SameHost s s.releaseWaiting := by
  rcases releaseWaiting_cases s with hq | ⟨h, -, -, -, hq⟩
  · rw [hq]; rfl
  · rw [hq]; exact s.headerStep_same h

theorem State.startOutbound_same (s : State) : SameHost s s.startOutbound := by
  rcases startOutbound_cases s with hq | hq | ⟨i, tag, -, hq⟩ <;> rw [hq] <;> rfl

theorem State.commit_same (s : State) : SameHost s s.commit :=
  s.releaseWaiting_same.trans (State.startOutbound_same _)

theorem State.dropFilling_same (s : State) : SameHost s s.dropFilling := by
  unfold State.dropFilling State.emptySlotOpt
  split <;> rfl

theorem State.refuseRest_same (t : Byte) (st : Status) (s : State) : SameHost s (s.refuseRest t st) :=
  s.dropFilling_same.trans rfl

theorem State.payloadParity_same (s : State) : SameHost s s.payloadParity := by
  unfold State.payloadParity
  split
  · exact s.refuseRest_same ..
  · exact s.refuseRest_same ..
  · rfl

theorem State.dataIndex_same (t : Byte) (n : Nat) (s : State) : SameHost s (s.dataIndex t n) := by
  unfold State.dataIndex
  split <;> rfl

theorem State.leadParity_same (h : Header) (s : State) : SameHost s (s.leadParity h) := by
  unfold State.leadParity
  split
  · rfl
  · split
    · exact (s.dataIndex_same ..).trans (State.payloadParity_same _)
    · exact (s.setInb_same _).trans (State.payloadParity_same _)

theorem State.parityError_same (p : ParityPlace) (s : State) : SameHost s (s.parityError p) := by
  unfold State.parityError
  split
  · exact s.payloadParity_same
  · split <;> rfl
  · split <;> rfl
  · split
    · exact s.leadParity_same _
    · rfl

theorem State.cutPacket_same (cut : HeaderPart) (s : State) : SameHost s (s.cutPacket cut) := by
  unfold State.cutPacket
  split
  · rfl
  · exact s.dropFilling_same.trans rfl
  · split
    · split <;> rfl
    · rfl
  · rfl

theorem State.packetSent_same (s : State) : SameHost s s.packetSent := by
  unfold State.packetSent
  dsimp only
  split
  · rfl
  · rfl
  · split <;> rfl

theorem State.dataEnds_same (t : Byte) (n i : Nat) (data : List Byte) (s : State) :
    SameHost s (s.dataEnds t n i data) := by
  unfold State.dataEnds
  dsimp only
  split <;> rfl

theorem BusMove.same {s t : State} (h : BusMove s t) : SameHost s t := by
  cases h with
  | begins h =>
    unfold State.beginPacket
    split
    · rfl
    · exact s.headerStep_same h
  | parity p => exact s.parityError_same p
  | turned cut =>
    have h0 : SameHost s (if s.supplyLow || s.dbi.busReset then s else s.cutPacket cut) := by
      split
      · rfl
      · exact s.cutPacket_same cut
    exact (h0.trans (State.setInb_same .idle _)).trans (State.onDbi_same _ _)
  | turnAsserted => rfl
  | sent => exact s.packetSent_same
  | index h t n => exact s.dataIndex_same t n
  | dataEnds t n i data => exact s.dataEnds_same t n i data
  | discarded => rfl
  | withheld h => rfl
  | released => rfl
  | resetLow => rfl

theorem Taken.same {s u : State} (h : Taken s u) : SameHost s u := by
  cases h <;> rfl

/-! ## Supply-low and bus reset -/

theorem State.cutOff_ledger (s : State) : s.cutOff.ledger = { s.ledger with
    dbi := { s.dbi with inb := .idle, out := .none, answers := 0 }
    flight := none, op := .idle, supplyLow := true } := by
  simp [State.ledger, State.cutOff, State.stopTransfers, State.abandonPackets, State.withdrawWork]

theorem cutOff_carries (s : State) : Carries s s.cutOff := by
  unfold Carries
  rw [State.cutOff_ledger]
  exact { Ledger.Carries.refl s.ledger with
    record := fun ⟨hi, hn, _, _⟩ => ⟨hi, hn, nofun, nofun⟩
    flight := nofun }

theorem orphanWorks_evolves (s : State) : Evolves s s.orphanWorks := by
  unfold State.orphanWorks
  split
  · exact ((Evolves.refl s).orphanWriteBack .cmd .orphan).quiet rfl
  · exact ((Evolves.refl s).orphanWriteBack .cmd .lost).quiet rfl

/-- A slot at a bus reset (R118, R183). -/
def Slot.reset (kept : List (Option Nat)) (i : Nat) (x : Slot) : Slot :=
  if kept.contains (some i) then { x with tag := Option.none } else Slot.none

theorem State.dropQueue_ledger (s : State) : s.dropQueue.ledger = { s.ledger with
    queue := [], flight := s.eng.flight.map Flight.leave
    slots := s.slots.mapIdx (Slot.reset [s.eng.flight.bind Flight.slot, s.record.op.slot]) } := by
  rw [State.dropQueue, State.orphanSeek_ledger]
  rfl

theorem State.resetHolds_ledger (s : State) : s.resetHolds.ledger = { s.ledger with
    hold := 0, tags := s.ledger.tags.map fun _ => [] } := by
  unfold State.ledger
  cases h : s.ccu.eject <;> simp [State.resetHolds, State.clearHolds, h]

theorem State.resetTables_ledger (s : State) : ∃ x, (s.tbs.allInLimits → x.allInLimits) ∧
    s.resetTables.ledger = { s.ledger with tbs := x } := by
  have h0 : Evolves s (s.onTbs fun t => { t with
      hold := false, snapSpindle := none, snapPosition := none, snapCounters := none
      resetCause := .busReset }) := (Evolves.refl s).onTbs fun _ => id
  have h : Evolves s s.resetTables := .ite (fun _ => h0.takeTables) fun _ => h0
  refine ⟨s.resetTables.tbs, h.tables, ?_⟩
  unfold State.resetTables
  dsimp only
  split
  · rcases takeTables_cases (s.onTbs fun t => { t with
        hold := false, snapSpindle := none, snapPosition := none, snapCounters := none
        resetCause := .busReset }) with hq | ⟨-, -, -, hq⟩ <;> rw [hq] <;> rfl
  · rfl

/-- The parts when a bus reset has cleared the interface and the queue, after the works have been left
behind. -/
theorem State.busCleared_ledger (s : State) : ∃ x, (s.orphanWorks.tbs.allInLimits → x.allInLimits) ∧
    s.busCleared.ledger = { s.orphanWorks.ledger with
      dbi := { s.orphanWorks.dbi with inb := .idle, out := .none, replies := [], answers := 0
                                      busReset := true, stb := false, ack := false }
      queue := [], flight := s.orphanWorks.eng.flight.map Flight.leave
      slots := s.orphanWorks.slots.mapIdx
        (Slot.reset [s.orphanWorks.eng.flight.bind Flight.slot, s.orphanWorks.record.op.slot])
      hold := 0, tags := s.orphanWorks.ledger.tags.map fun _ => [], tbs := x } := by
  obtain ⟨x, hx, hq⟩ := State.resetTables_ledger s.orphanWorks.dropQueue.resetHolds
  refine ⟨x, hx, ?_⟩
  rw [State.resetHolds_ledger, State.dropQueue_ledger] at hq
  have hbus := congrArg (fun l : Ledger => { l with dbi := { l.dbi with
    inb := .idle, out := .none, replies := [], answers := 0, busReset := true, stb := false
    ack := false } }) hq
  exact hbus

theorem busCleared_carries (s : State) : Carries s s.busCleared := by
  obtain ⟨x, hx, hq⟩ := s.busCleared_ledger
  refine (orphanWorks_evolves s).carries.trans ?_
  unfold Carries
  rw [hq]
  exact { Ledger.Carries.refl s.orphanWorks.ledger with
    queue := List.nil_sublist _
    tables := hx
    counts := fun ⟨_, hm, _, hc⟩ => ⟨Nat.zero_le _, hm, fun ts hts => by
      obtain ⟨-, -, rfl⟩ := Option.map_eq_some_iff.mp hts
      exact Nat.zero_le _, hc⟩
    flight := fun g hg => by
      obtain ⟨f, hf, rfl⟩ := Option.map_eq_some_iff.mp hg
      exact ⟨f, hf, rfl, rfl⟩ }

end Sys2Proof.Machine
end

section
/-! PROOFS. The laws of the fault list, the queue, the tables, the counts, the record and the write gate, each
from what a step does. -/

namespace Sys2Proof.Machine

/-- The parts from which a step carries on: those of the state, of a power-on reset, of a sector that takes
off, of a record read that goes on, of an entry admitted, or of the records that CLEAR FAULTS leaves. -/
inductive Jumps (i : Instr) (s : State) : Ledger → Prop
  | stays : Jumps i s s.ledger
  | powered (present protect park : Bool) (cause : ResetCause) (hi : i = .powerOnReset present protect park) :
      Jumps i s (State.powerOn cause present protect park s.dbi.turn s.dbi.busReset s.pending).ledger
  | takesOff {m k slot} (hm : TakesOff s m k slot) : Jumps i s m.ledger
  | readsOn {u m} {good : Bool} {data : List Byte} (hi : i = .sectorEnd good data)
      (hm : ReadsOn data s u m) : Jumps i s m.ledger
  | admitted {tag : Byte} {c : MediumCmd} (hi : mediumOf i = some (tag, c))
      (h : s.admissionRefused tag c = none) :
      Jumps i s { s.ledger with queue := s.queue ++ [⟨tag, c, false⟩] }
  | cleared (tag : Byte) (hi : i = .clearFaults tag) :
      Jumps i s { s.ledger with records := s.fsv.records.filter s.keepsRecord }

theorem Ledger.Carries.withReply (p : Packet) (l : Ledger) : l.Carries (l.withReply p) :=
  { Ledger.Carries.refl l with }

theorem Answered.jumps {i : Instr} {s u : State} (hu : Taken s u ∨ u = s) {l : Ledger} (h : Answered i u l) :
    ∃ k, Jumps i s k ∧ k.Carries l := by
  have hsame : SameHost s u := by
    rcases hu with hu | rfl
    · exact hu.same
    · rfl
  cases h with
  | replied p hv => exact ⟨_, .stays, Ledger.Carries.trans (hsame.carries.trans hv.carries) (.withReply p _)⟩
  | admitted p hi hr =>
    refine ⟨_, .admitted hi (?_ : s.admissionRefused _ _ = none), ?_⟩
    · rcases hu with (_ | _) | rfl <;> exact hr
    · rcases hu with (_ | _) | rfl <;> exact { Ledger.Carries.refl _ with }
  | ejects p tag hroom =>
    refine ⟨_, .stays, Ledger.Carries.trans hsame.carries ?_⟩
    exact { Ledger.Carries.refl u.ledger with
      counts := fun ⟨hh, hm, _, hc⟩ => ⟨hh, hm, fun ts hts => by
        cases hts
        simp only [List.length_append, List.length_singleton]
        omega, hc⟩ }
  | cleared p tag hi =>
    refine ⟨_, .cleared tag hi, ?_⟩
    rcases hu with (_ | _) | rfl <;> exact { Ledger.Carries.refl _ with }

theorem Happens.jumps {i : Instr} {s t : State} (h : Happens i s t) :
    ∃ l, Jumps i s l ∧ l.Carries t.ledger := by
  cases h with
  | evolves h => exact ⟨_, .stays, h.carries⟩
  | event h => exact ⟨_, .stays, h.carries.trans (State.commit_same _).carries⟩
  | powered present protect park cause hi => exact ⟨_, .powered present protect park cause hi, .refl _⟩
  | cut _ h =>
    exact ⟨_, .stays, ((supplyRecord_evolves s).carries.trans (cutOff_carries _)).trans h.carries⟩
  | reset _ h =>
    exact ⟨_, .stays, ((busCleared_carries s).trans h.carries).trans (State.commit_same _).carries⟩
  | takesOff hm h => exact ⟨_, .takesOff hm, Carries.trans h.carries (State.commit_same _).carries⟩
  | readsOn hi hm h => exact ⟨_, .readsOn hi hm, Carries.trans h.carries (State.commit_same _).carries⟩
  | bus h => exact ⟨_, .stays, h.same.carries⟩
  | busEvent hm h =>
    exact ⟨_, .stays, (hm.same.carries.trans h.carries).trans (State.commit_same _).carries⟩
  | answered hr hu hl h =>
    obtain ⟨k, hk, hc⟩ := hl.jumps (.inl hu)
    exact ⟨k, hk, hc.trans h.carries⟩
  | late ht hl h =>
    obtain ⟨k, hk, hc⟩ := hl.jumps (.inr rfl)
    exact ⟨k, hk, (hc.trans h.carries).trans (SameHost.carries rfl)⟩

/-- What a step does: a tick, or the command at the front of the queue on the state with the queue's rest. -/
theorem step_cases {s t : State} (h : step s = .next t) :
    (s.pending = [] ∧ t = s.tick) ∨
    ∃ i rest, s.pending = i :: rest ∧ exec i { s with pending := rest } = .next t := by
  unfold step at h
  split at h
  · next hp => cases h; exact .inl ⟨hp, rfl⟩
  · next i rest hp => exact .inr ⟨i, rest, hp, h⟩

@[simp] theorem State.tick_ledger (s : State) : s.tick.ledger = s.ledger :=
  (rfl : _ = (s.elapse 1).ledger).trans (s.elapse_ledger 1)

/-- How a step leaves the parts. -/
theorem step_jumps {s t : State} (h : step s = .next t) :
    s.ledger.Carries t.ledger ∨ ∃ i rest l, s.pending = i :: rest ∧
      Jumps i { s with pending := rest } l ∧ l.Carries t.ledger := by
  rcases step_cases h with ⟨-, rfl⟩ | ⟨i, rest, hp, hex⟩
  · exact .inl (s.tick_ledger ▸ .refl _)
  · obtain ⟨l, hl, hc⟩ := (happens_of_exec hex).jumps
    exact .inr ⟨i, rest, l, hp, hl, hc⟩

/-! ## The laws -/

/-- A sector that takes off changes the flight and a slot alone. -/
theorem TakesOff.others {s m : State} {k : FlightKind} {slot : Option Nat} (h : TakesOff s m k slot) :
    ∃ slots, m.ledger = { s.ledger with flight := some ⟨k, slot, false, false⟩, slots := slots } := by
  obtain ⟨x, -, hq⟩ := h.parts
  exact ⟨_, hq⟩

/-- The fault list of a ledger has one record for each kind at most. -/
theorem Jumps.oneRecord {i : Instr} {s : State} {l : Ledger} (h : Jumps i s l) (hs : s.oneRecordPerKind) :
    (l.records.map FaultRecord.kind).Nodup := by
  cases h with
  | stays => exact hs
  | powered => exact .nil
  | takesOff hm =>
    obtain ⟨_, hq⟩ := hm.others
    rw [hq]; exact hs
  | readsOn hi hm =>
    obtain ⟨_, _, _, hq, -⟩ := hm.parts
    rw [hq]; exact hm.evolves.oneRecord hs
  | admitted => exact hs
  | cleared => exact hs.sublist (List.filter_sublist.map _)

theorem State.requested_faultLatched (s : State) :
    s.requested .faultLatched = true ↔ ∃ r ∈ s.fsv.records, r.state = .latched := by
  simp [State.requested, State.anyLatched]

/-- Settles O7. -/
theorem oneRecordPerKindStays : Obligations.OneRecordPerKindStays := by
  refine ⟨State.requested_faultLatched, fun s t hs hst => ?_⟩
  dsimp only
  rcases step_jumps hst with hc | ⟨i, rest, l, hp, hj, hc⟩
  · exact ⟨hc.oneRecord hs, fun _ => .inl hc.kinds, fun _ _ => hc.kinds⟩
  · have hone := hc.oneRecord (hj.oneRecord (s := { s with pending := rest }) hs)
    have hkinds := hc.kinds
    rw [hp]
    cases hj with
    | stays => exact ⟨hone, fun _ => .inl hkinds, fun _ _ => hkinds⟩
    | powered a b c _ hi => exact ⟨hone, fun ⟨tag, h⟩ => by simp [hi] at h, fun _ h => absurd (by rw [hi]; rfl) (h a b c)⟩
    | takesOff hm =>
      obtain ⟨_, hq⟩ := hm.others
      rw [hq] at hkinds
      exact ⟨hone, fun _ => .inl hkinds, fun _ _ => hkinds⟩
    | readsOn hi hm =>
      obtain ⟨_, _, _, hq, -⟩ := hm.parts
      rw [hq] at hkinds
      have := hm.evolves.kinds.trans hkinds
      exact ⟨hone, fun _ => .inl this, fun _ _ => this⟩
    | admitted => exact ⟨hone, fun _ => .inl hkinds, fun _ _ => hkinds⟩
    | cleared tag hi => exact ⟨hone, fun _ => .inr hkinds, fun h _ => absurd (by rw [hi]; rfl) (h tag)⟩

/-! ### The queue, the tables, the counts -/

/-- The Command Queue's law for its entries' tags and commands. -/
def queueLaw (q : List Entry) : Prop := q.length ≤ Config.queueMax ∧ (q.map Entry.tag).Nodup

theorem queueLaw.sublist {p q : List Entry} (h : queueLaw q)
    (hk : (p.map Entry.key).Sublist (q.map Entry.key)) : queueLaw p := by
  have hlen := hk.length_le
  have htag := hk.map Prod.fst
  simp only [List.length_map, List.map_map] at hlen htag
  exact ⟨Nat.le_trans hlen h.1, List.Nodup.sublist htag h.2⟩

/-- An admitted entry has a place and a tag of its own, and no eject is in progress (R96). -/
theorem admissionRefused_eq_none {s : State} {t : Byte} {c : MediumCmd}
    (h : s.admissionRefused t c = none) :
    s.ccu.state ≠ .ejectPending ∧ s.ccu.state ≠ .ejecting ∧ s.queue.length < Config.queueMax ∧
      ∀ e ∈ s.queue, e.tag ≠ t := by
  unfold State.admissionRefused at h
  split at h
  · cases h
  next hccu =>
    split at h
    · cases h
    next hroom =>
      split at h
      · cases h
      next htag =>
        simp only [Bool.or_eq_true, beq_iff_eq, not_or] at hccu
        exact ⟨hccu.1, hccu.2, Nat.lt_of_not_le hroom, by simpa using htag⟩

theorem Jumps.queue {i : Instr} {s : State} {l : Ledger} (h : Jumps i s l) (hs : queueLaw s.queue) :
    queueLaw l.queue ∧ ((s.ccu.state = .ejectPending ∨ s.ccu.state = .ejecting) →
      (l.queue.map Entry.key).Sublist (s.queue.map Entry.key)) := by
  cases h with
  | stays => exact ⟨hs, fun _ => .refl _⟩
  | powered => exact ⟨⟨Nat.zero_le _, .nil⟩, fun _ => List.nil_sublist _⟩
  | takesOff hm =>
    obtain ⟨_, hq⟩ := hm.others
    rw [hq]; exact ⟨hs, fun _ => .refl _⟩
  | readsOn hi hm =>
    obtain ⟨_, _, _, hq, -⟩ := hm.parts
    rw [hq]; exact ⟨hs.sublist hm.evolves.queue, fun _ => hm.evolves.queue⟩
  | admitted hi hr =>
    obtain ⟨hp, he, hroom, htag⟩ := admissionRefused_eq_none hr
    refine ⟨⟨by simp only [List.length_append, List.length_singleton]; omega, ?_⟩, fun hc => ?_⟩
    · rw [List.map_append, List.nodup_append]
      refine ⟨hs.2, by simp, ?_⟩
      rintro a ha b hb rfl
      obtain ⟨e, he, rfl⟩ := List.mem_map.mp ha
      exact htag e he (by simpa using hb)
    · rcases hc with hc | hc
      · exact absurd hc hp
      · exact absurd hc he
  | cleared => exact ⟨hs, fun _ => .refl _⟩

/-- Settles O8. -/
theorem queueStaysSound : Obligations.QueueStaysSound := by
  intro s t hs hst
  have mem (hk : (t.queue.map Entry.key).Sublist (s.queue.map Entry.key)) :
      ∀ e ∈ t.queue, ∃ d ∈ s.queue, d.tag = e.tag ∧ d.cmd = e.cmd := by
    intro e he
    obtain ⟨d, hd, hde⟩ := List.mem_map.mp (hk.subset (List.mem_map_of_mem he))
    exact ⟨d, hd, congrArg Prod.fst hde, congrArg Prod.snd hde⟩
  rcases step_jumps hst with hc | ⟨i, rest, l, -, hj, hc⟩
  · exact ⟨queueLaw.sublist hs hc.queue, fun _ => mem hc.queue⟩
  · obtain ⟨hl, hshut⟩ := hj.queue hs
    exact ⟨hl.sublist hc.queue, fun h => mem (hc.queue.trans (hshut h))⟩

theorem defaults_inLimits : SeekProfile.defaults.inLimits = true ∧ FaultActions.defaults.inLimits = true ∧
    DriveParams.defaults.inLimits = true := by decide

/-- The default tables, with none staged, lie within their limits (R160). -/
theorem allInLimits_of_defaults {t : TableStore} (hp : t.profile = SeekProfile.defaults)
    (ha : t.actions = FaultActions.defaults) (hd : t.params = DriveParams.defaults)
    (hsp : t.stagedProfile = none) (hsa : t.stagedActions = none) (hsd : t.stagedParams = none) :
    t.allInLimits := by
  obtain ⟨hip, hia, hid⟩ := defaults_inLimits
  unfold TableStore.allInLimits
  rw [hp, ha, hd, hsp, hsa, hsd]
  exact ⟨hip, hia, hid, by simp, by simp, by simp⟩

theorem Jumps.tables {i : Instr} {s : State} {l : Ledger} (h : Jumps i s l) (hs : s.tbs.allInLimits) :
    l.tbs.allInLimits := by
  cases h with
  | stays => exact hs
  | powered => exact allInLimits_of_defaults rfl rfl rfl rfl rfl rfl
  | takesOff hm =>
    obtain ⟨_, hq⟩ := hm.others
    rw [hq]; exact hs
  | readsOn hi hm =>
    obtain ⟨_, _, _, hq, -⟩ := hm.parts
    rw [hq]; exact hm.evolves.tables hs
  | admitted => exact hs
  | cleared => exact hs

/-- Settles O10. -/
theorem tablesStayInLimits : Obligations.TablesStayInLimits := by
  intro s t hs hst
  rw [tablesInLimits_iff] at hs ⊢
  rcases step_jumps hst with hc | ⟨i, rest, l, -, hj, hc⟩
  · exact hc.tables hs
  · exact hc.tables (hj.tables hs)

theorem Jumps.counts {i : Instr} {s : State} {l : Ledger} (h : Jumps i s l)
    (hs : s.ledger.countsInRange) : l.countsInRange := by
  cases h with
  | stays => exact hs
  | powered =>
    exact ⟨Nat.zero_le _, Nat.zero_le _, nofun, Nat.zero_le _, Nat.zero_le _, Nat.zero_le _,
      Nat.zero_le _, Nat.zero_le _, Nat.zero_le _⟩
  | takesOff hm =>
    obtain ⟨_, hq⟩ := hm.others
    rw [hq]; exact hs
  | readsOn hi hm =>
    obtain ⟨_, _, _, hq, -⟩ := hm.parts
    rw [hq]; exact hm.evolves.counts hs
  | admitted => exact hs
  | cleared => exact hs

/-- Settles O11. -/
theorem countsStayInRange : Obligations.CountsStayInRange := by
  intro s t hs hst
  rw [countsInRange_iff] at hs ⊢
  rcases step_jumps hst with hc | ⟨i, rest, l, -, hj, hc⟩
  · exact hc.counts hs
  · exact hc.counts (hj.counts hs)

/-! ### The record -/

theorem Jumps.recordSound {i : Instr} {s : State} {l : Ledger} (h : Jumps i s l) (hw : i.wf = true)
    (hs : s.recordSound) : l.recordSound ∧
      ∀ a b, s.record.image = some a → l.image = some b → a.Keeps b := by
  have same (a b : Image) (ha : s.record.image = some a) (hb : s.record.image = some b) : a.Keeps b := by
    rw [ha] at hb
    cases hb
    exact .refl a
  cases h with
  | stays => exact ⟨hs, same⟩
  | powered => exact ⟨⟨nofun, fun _ => rfl, nofun, nofun⟩, nofun⟩
  | takesOff hm =>
    obtain ⟨_, hq⟩ := hm.others
    rw [hq]; exact ⟨hs, same⟩
  | readsOn hi hm =>
    subst hi
    refine ⟨hm.sound (by simpa [Instr.wf, sectorOk] using hw) hs, fun a b ha => ?_⟩
    cases (hm.reading hs).symm.trans ha
  | admitted => exact ⟨hs, same⟩
  | cleared => exact ⟨hs, same⟩

theorem Ledger.Carries.keeps {a b : Ledger} (h : a.Carries b) {x y : Image} (hx : a.image = some x)
    (hy : b.image = some y) : x.Keeps y := by
  obtain ⟨z, hz, hk⟩ := h.image y hy
  cases hx.symm.trans hz
  exact hk

/-- Settles O14. -/
theorem recordStaysSound : Obligations.RecordStaysSound := by
  intro s t hwf hs hst
  have spell {a b : Image} (h : a.Keeps b) : b.zones = a.zones ∧ b.slips = a.slips ∧
      b.serial = a.serial ∧ a.nextAlternate ≤ b.nextAlternate := ⟨h.zones, h.slips, h.serial, h.counter⟩
  rcases step_jumps hst with hc | ⟨i, rest, l, hp, hj, hc⟩
  · exact ⟨hc.record hs, fun a b ha hb => spell (hc.keeps ha hb)⟩
  · obtain ⟨hl, hkeeps⟩ := hj.recordSound (hwf i (by rw [hp]; rfl)) hs
    refine ⟨hc.record hl, fun a b ha hb => spell ?_⟩
    obtain ⟨y, hy, hyb⟩ := hc.image b hb
    exact (hkeeps a y ha hy).trans hyb

/-! ### The write gate -/

/-- What a settled part holds of a transfer that waits for its sector: the heads track its place (R105). -/
theorem trackingOn_of_settled {s : State} (h : s.settled = true) (hlow : s.supplyLow = false) {p : Placement}
    (hp : s.eng.place = some p) (hj : s.job = .transfer)
    (hst : s.eng.state = .rotateWait ∨ s.eng.state = .retryWait) :
    s.trackingOn p.cylinder p.head = true := by
  have hnone : reactEngine s = none := by
    have hreact : react s = none := Option.isNone_iff_eq_none.mp h
    unfold react at hreact
    rw [if_neg (by simp [hlow])] at hreact
    exact List.findSome?_eq_none_iff.mp hreact reactEngine (by simp [rules])
  unfold reactEngine at hnone
  rw [hp] at hnone
  cases ht : s.trackingOn p.cylinder p.head with
  | true => rfl
  | false => rcases hst with hst | hst <;> simp [hj, hst, ht, guarded] at hnone

/-- The whole write gate (R69), spelled. -/
theorem writeGate_iff {s : State} : s.writeGate = true ↔
    s.pos.state = .tracking ∧ s.pos.hold = false ∧ s.spc.state = .atSpeed ∧ s.ccu.protect = false ∧
      (s.ccu.state = .latched ∨ s.ccu.state = .ejectPending) ∧
      ∃ x, s.pos.fix = some x ∧ s.pos.target = some x.cylinder ∧
        x.pes.natAbs ≤ s.tbs.params.offTrack := by
  unfold State.writeGate State.writePermit
  cases hf : s.pos.fix with
  | none => simp
  | some x =>
    simp only [Bool.and_eq_true, Bool.or_eq_true, beq_iff_eq, Bool.not_eq_true', decide_eq_true_eq,
      Option.some.injEq, exists_eq_left']
    constructor
    · rintro ⟨⟨⟨⟨⟨ht, hh⟩, htarget, hpes⟩, hs⟩, hp⟩, hc⟩
      exact ⟨ht, hh, hs, hp, hc, htarget, hpes⟩
    · rintro ⟨ht, hh, hs, hp, hc, htarget, hpes⟩
      exact ⟨⟨⟨⟨⟨ht, hh⟩, htarget, hpes⟩, hs⟩, hp⟩, hc⟩

theorem trackingOn_iff {s : State} {c h : Nat} : s.trackingOn c h = true ↔
    s.pos.state = .tracking ∧ s.pos.target = some c ∧ s.pos.head = h := by
  simp [State.trackingOn, and_assoc]

/-- Settles O15. -/
theorem writesBeginGated : Obligations.WritesBeginGated := by
  intro s t f hsettled hst hf hk
  have old {f' : Flight} (h : s.eng.flight = some f') (hr : f'.RunsOn f) :
      ∃ g, s.eng.flight = some g ∧ g.kind = f.kind ∧ g.slot = f.slot :=
    ⟨f', h, hr.1.symm, hr.2.symm⟩
  rcases step_jumps hst with hc | ⟨i, rest, l, -, hj, hc⟩
  · obtain ⟨g, hg, hr⟩ := hc.flight f hf
    exact .inl (old hg hr)
  · obtain ⟨g, hg, hr⟩ := hc.flight f hf
    cases hj with
    | stays => exact .inl (old hg hr)
    | powered => cases hg
    | takesOff hm =>
      right
      obtain ⟨_, hq⟩ := hm.others
      rw [hq] at hg
      cases hg
      obtain ⟨hkind, -⟩ := hr
      rw [hkind] at hk
      obtain ⟨ht, hh, hs, hp, hccu, hfix⟩ := writeGate_iff.mp (hm.gate hk)
      refine ⟨hm.idle, ht, hh, hs, hp, hccu, hfix, fun h => ?_, fun h => ?_⟩
      · obtain ⟨-, htarget, hhead⟩ := trackingOn_iff.mp (hm.record (hkind.symm.trans h))
        exact ⟨htarget, hhead⟩
      · obtain ⟨hjob, hstate, hplace⟩ := hm.host (hkind.symm.trans h)
        obtain ⟨p, hp⟩ := Option.isSome_iff_exists.mp hplace
        obtain ⟨-, htarget, hhead⟩ :=
          trackingOn_iff.mp (trackingOn_of_settled hsettled hm.low hp hjob hstate)
        exact ⟨p, hp, htarget, hhead⟩
    | readsOn hi hm =>
      obtain ⟨_, _, _, hq, -⟩ := hm.parts
      rw [hq] at hg
      obtain ⟨f', hf', hr'⟩ := hm.evolves.flight g hg
      exact .inl (old hf' ⟨hr.1.trans hr'.1, hr.2.trans hr'.2⟩)
    | admitted => exact .inl (old hg hr)
    | cleared => exact .inl (old hg hr)

end Sys2Proof.Machine
end

section
/-! PROOFS. The sector buffer stays accounted for at every step (R104). -/

namespace Sys2Proof.Machine

/-! ## A packet takes a slot, or leaves it -/

/-- A slot that neither a sector nor a record operation has changes with the packet that moves it. -/
theorem Ledger.Accounted.busSlot {l : Ledger} (h : l.Accounted) {i : Nat} {f : Slot → Slot} {d : Bus}
    {x : Slot} {st : SlotState} (hx : l.slots[i]? = some x) (hst : (f x).state = st)
    (hfl : l.flight.bind Flight.slot ≠ some i) (hop : l.op.slot ≠ some i)
    (hin : ∀ j, d.inb.slot = some j ↔ if j = i then st = .filling else l.dbi.inb.slot = some j)
    (hout : ∀ j, d.out.slot = some j ↔ if j = i then st = .draining else l.dbi.out.slot = some j)
    (hone : d.inb.slot = none ∨ d.out.slot = none)
    (hr : d.busReset = true → d.inb.slot = none ∧ d.out.slot = none) :
    ({ l with dbi := d, slots := l.slots.modify i f } : Ledger).Accounted := by
  have at_i : ({ l with dbi := d, slots := l.slots.modify i f } : Ledger).slotState i = some st := by
    simp [Ledger.slotState, hx, hst]
  have off_i {j : Nat} (hj : j ≠ i) :
      ({ l with dbi := d, slots := l.slots.modify i f } : Ledger).slotState j = l.slotState j := by
    simp [Ledger.slotState, Ne.symm hj]
  refine {
    filling := fun j hj => ?_, draining := fun j hj => ?_, inb := fun j hj => ?_, out := fun j hj => ?_
    oneWay := hone, verify := h.verify, flight := fun g j hg hj => ?_, op := fun j hj => ?_, reset := hr }
  · by_cases hji : j = i
    · subst hji
      rw [at_i] at hj
      exact .inr ((hin j).mpr (by simpa using hj))
    · rw [off_i hji] at hj
      exact (h.filling j hj).imp_right fun hb => (hin j).mpr (by rwa [if_neg hji])
  · by_cases hji : j = i
    · subst hji
      rw [at_i] at hj
      exact .inr ((hout j).mpr (by simpa using hj))
    · rw [off_i hji] at hj
      exact (h.draining j hj).imp_right fun hb => (hout j).mpr (by rwa [if_neg hji])
  · have hj' := (hin j).mp hj
    by_cases hji : j = i
    · subst hji
      rw [if_pos rfl] at hj'
      rw [at_i, hj']
    · rw [if_neg hji] at hj'
      rw [off_i hji]
      exact h.inb j hj'
  · have hj' := (hout j).mp hj
    by_cases hji : j = i
    · subst hji
      rw [if_pos rfl] at hj'
      rw [at_i, hj']
    · rw [if_neg hji] at hj'
      rw [off_i hji]
      exact h.out j hj'
  · have hji : j ≠ i := by
      rintro rfl
      have hg' : l.flight = some g := hg
      exact hfl (by rw [hg']; exact hj)
    obtain ⟨hm, hbi, hbo⟩ := h.flight g j hg hj
    refine ⟨(off_i hji).trans hm, fun hb => hbi ?_, fun hb => hbo ?_⟩
    · simpa [hji] using (hin j).mp hb
    · simpa [hji] using (hout j).mp hb
  · have hji : j ≠ i := fun hji => hop (hji ▸ hj)
    obtain ⟨ht, hs⟩ := h.op j hj
    refine ⟨by simpa [Ne.symm hji] using ht, ?_⟩
    rw [off_i hji]
    exact hs

/-- The slot that a packet fills or drains is no sector's and no record operation's. -/
theorem Ledger.Accounted.ne_of_bus {l : Ledger} (h : l.Accounted) {i : Nat}
    (hi : l.dbi.inb.slot = some i ∨ l.dbi.out.slot = some i) :
    (∃ x, l.slots[i]? = some x) ∧ l.flight.bind Flight.slot ≠ some i ∧ l.op.slot ≠ some i := by
  have hfl : l.flight.bind Flight.slot ≠ some i := by
    intro hb
    obtain ⟨f, hf, hs⟩ := Option.bind_eq_some_iff.mp hb
    obtain ⟨-, hin, hout⟩ := h.flight f i hf hs
    exact hi.elim hin hout
  have hst : l.slotState i = some .filling ∨ l.slotState i = some .draining :=
    hi.imp (h.inb i) (h.out i)
  refine ⟨?_, hfl, fun ho => ?_⟩
  · cases hx : l.slots[i]? with
    | none => simp [Ledger.slotState, hx] at hst
    | some x => exact ⟨x, rfl⟩
  · obtain ⟨-, hfull | ⟨f, hf, -, -, hs⟩⟩ := h.op i ho
    · rw [hfull] at hst
      simp at hst
    · exact hfl (by rw [hf]; exact hs)

theorem Ledger.Accounted.inbLeaves {l : Ledger} (h : l.Accounted) {i : Nat} {f : Slot → Slot} {d : Bus}
    (hi : l.dbi.inb.slot = some i) (hf : ∀ x, (f x).state.still) (hin : d.inb.slot = none)
    (hout : d.out.slot = l.dbi.out.slot) :
    ({ l with dbi := d, slots := l.slots.modify i f } : Ledger).Accounted := by
  obtain ⟨⟨x, hx⟩, hfl, hop⟩ := h.ne_of_bus (.inl hi)
  have hnone : l.dbi.out.slot = none := h.oneWay.resolve_left (by rw [hi]; nofun)
  have hst := hf x
  refine h.busSlot hx rfl hfl hop (fun j => ?_) (fun j => ?_) (.inl hin) fun _ => ⟨hin, hout.trans hnone⟩
  · rw [hin, hi]
    by_cases hj : j = i
    · subst hj; rcases hst with hs | hs <;> simp [hs]
    · simp [hj, Ne.symm hj]
  · rw [hout, hnone]
    rcases hst with hs | hs <;> simp [hs]

theorem Ledger.Accounted.outLeaves {l : Ledger} (h : l.Accounted) {i : Nat} {f : Slot → Slot} {d : Bus}
    (hi : l.dbi.out.slot = some i) (hf : ∀ x, (f x).state.still) (hout : d.out.slot = none)
    (hin : d.inb.slot = l.dbi.inb.slot) :
    ({ l with dbi := d, slots := l.slots.modify i f } : Ledger).Accounted := by
  obtain ⟨⟨x, hx⟩, hfl, hop⟩ := h.ne_of_bus (.inr hi)
  have hnone : l.dbi.inb.slot = none := h.oneWay.resolve_right (by rw [hi]; nofun)
  have hst := hf x
  refine h.busSlot hx rfl hfl hop (fun j => ?_) (fun j => ?_) (.inr hout) fun _ => ⟨hin.trans hnone, hout⟩
  · rw [hin, hnone]
    rcases hst with hs | hs <;> simp [hs]
  · rw [hout, hi]
    by_cases hj : j = i
    · subst hj; rcases hst with hs | hs <;> simp [hs]
    · simp [hj, Ne.symm hj]

/-- An EMPTY slot is taken by an inbound DATA packet (R109). -/
theorem Ledger.Accounted.inbTakes {l : Ledger} (h : l.Accounted) {i : Nat} {f : Slot → Slot} {d : Bus}
    {x : Slot} (hx : l.slots[i]? = some x) (hempty : x.state = .empty) (hf : (f x).state = .filling)
    (hold : l.dbi.inb.slot = none) (hin : d.inb.slot = some i) (hout : d.out.slot = none)
    (hold' : l.dbi.out.slot = none) (hr : d.busReset = false) :
    ({ l with dbi := d, slots := l.slots.modify i f } : Ledger).Accounted := by
  have hst : l.slotState i = some .empty := by simp [Ledger.slotState, hx, hempty]
  obtain ⟨-, -, hfl⟩ := h.ne_of_still hst (.inl rfl)
  refine h.busSlot hx hf hfl (fun ho => ?_) (fun j => ?_) (fun j => ?_) (.inr hout) (by simp [hr])
  · obtain ⟨-, hfull | ⟨f, hf, -, -, hs⟩⟩ := h.op i ho
    · simp [hst] at hfull
    · exact hfl (by rw [hf]; exact hs)
  · rw [hin, hold]
    by_cases hj : j = i
    · simp [hj]
    · simp [hj, Ne.symm hj]
  · rw [hout, hold']
    simp

/-- A FULL slot of a READ is taken by an outbound DATA packet (R181). -/
theorem Ledger.Accounted.outTakes {l : Ledger} (h : l.Accounted) {i : Nat} {f : Slot → Slot} {d : Bus}
    {x : Slot} (hx : l.slots[i]? = some x) (hfull : x.state = .full) (htag : x.tag ≠ none)
    (hf : (f x).state = .draining) (hin : d.inb.slot = none) (hold : l.dbi.inb.slot = none)
    (hout : d.out.slot = some i) (hold' : l.dbi.out.slot = none) (hr : d.busReset = false) :
    ({ l with dbi := d, slots := l.slots.modify i f } : Ledger).Accounted := by
  have hst : l.slotState i = some .full := by simp [Ledger.slotState, hx, hfull]
  obtain ⟨-, -, hfl⟩ := h.ne_of_still hst (.inr rfl)
  refine h.busSlot hx hf hfl (fun ho => ?_) (fun j => ?_) (fun j => ?_) (.inl hin) (by simp [hr])
  · have := (h.op i ho).1
    simp [hx, htag] at this
  · rw [hin, hold]
    simp
  · rw [hout, hold']
    by_cases hj : j = i
    · simp [hj]
    · simp [hj, Ne.symm hj]

/-! ## The interface -/

/-- A change of the interface that moves no slot. -/
theorem slotsAccounted_onBus {s t : State} (h : s.slotsAccounted)
    (hq : t.ledger = { s.ledger with dbi := t.dbi }) (hin : t.dbi.inb.slot = s.dbi.inb.slot)
    (hout : t.dbi.out.slot = s.dbi.out.slot) (hr : t.dbi.busReset = s.dbi.busReset) :
    t.slotsAccounted := by
  rw [slotsAccounted_iff] at h ⊢
  rw [hq]
  exact ⟨h.1, fun hl => (h.2 hl).withBus hin hout hr⟩

theorem reply_slotsAccounted {s : State} (h : s.slotsAccounted) (t : Byte) (st : Status) (b : ReplyBody) :
    (s.reply t st b).slotsAccounted := slotsAccounted_onBus h rfl rfl rfl rfl

theorem setInb_slotsAccounted {s : State} (h : s.slotsAccounted) {x : Inbound}
    (hx : x.slot = s.dbi.inb.slot) : (s.setInb x).slotsAccounted := slotsAccounted_onBus h rfl hx rfl rfl

theorem headerStep_slotsAccounted {s : State} (h : s.slotsAccounted) (hi : s.dbi.inb.slot = none)
    (hd : Header) : (s.headerStep hd).slotsAccounted := by
  unfold State.headerStep
  split
  · refine setInb_slotsAccounted (reply_slotsAccounted h ..) ?_
    show _ = s.dbi.inb.slot
    rw [hi]
    split <;> rfl
  · exact setInb_slotsAccounted h hi.symm

theorem receives {s : State} (h : s.canReceive = true) :
    s.dbi.busReset = false ∧ s.dbi.out = .none ∧ s.supplyLow = false := by
  obtain ⟨⟨⟨-, hbus⟩, hout⟩, hlow⟩ : ((s.dbi.turn = true ∧ s.dbi.busReset = false) ∧ s.dbi.out = .none) ∧
      s.supplyLow = false := by simpa [State.canReceive, State.hostSends] using h
  exact ⟨hbus, hout, hlow⟩

/-- The slot of the inbound DATA packet is emptied and the packet leaves it. -/
theorem dropFilling_slotsAccounted {s t : State} (h : s.slotsAccounted)
    (hq : t.ledger = { s.dropFilling.ledger with dbi := t.dbi }) (hin : t.dbi.inb.slot = none)
    (hout : t.dbi.out.slot = s.dbi.out.slot) (hr : t.dbi.busReset = s.dbi.busReset) : t.slotsAccounted := by
  cases hi : s.dbi.inb.slot with
  | none =>
    refine slotsAccounted_onBus h (hq.trans ?_) (hin.trans hi.symm) hout hr
    simp [State.dropFilling, State.emptySlotOpt, hi]
  | some i =>
    have hdrop : s.dropFilling = s.emptySlotAt i := by simp [State.dropFilling, State.emptySlotOpt, hi]
    rw [slotsAccounted_iff] at h ⊢
    rw [hq, hdrop]
    exact ⟨(List.length_modify ..).trans h.1, fun hl =>
      (h.2 hl).inbLeaves hi (f := fun _ => Slot.none) (fun _ => .inl rfl) hin hout⟩

theorem dropFilling_dbi (s : State) : s.dropFilling.dbi = s.dbi := by
  unfold State.dropFilling State.emptySlotOpt
  split <;> rfl

theorem refuseRest_slotsAccounted {s : State} (h : s.slotsAccounted) (t : Byte) (st : Status) :
    (s.refuseRest t st).slotsAccounted := by
  have hd := dropFilling_dbi s
  exact dropFilling_slotsAccounted h rfl rfl (congrArg (fun d => d.out.slot) hd) (congrArg (fun d => d.busReset) hd)

theorem payloadParity_slotsAccounted {s : State} (h : s.slotsAccounted) : s.payloadParity.slotsAccounted := by
  unfold State.payloadParity
  split
  · exact refuseRest_slotsAccounted h ..
  · exact refuseRest_slotsAccounted h ..
  · exact h

theorem dataIndex_slotsAccounted {s : State} (h : s.slotsAccounted) (hr : s.canReceive = true)
    (hi : s.dbi.inb.slot = none) (t : Byte) (n : Nat) : (s.dataIndex t n).slotsAccounted := by
  obtain ⟨hbus, hout, hlow⟩ := receives hr
  unfold State.dataIndex
  split
  · exact setInb_slotsAccounted (reply_slotsAccounted h ..) hi.symm
  · next i _ hempty =>
    obtain ⟨x, hx, hst⟩ := emptySlot_spec hempty
    rw [slotsAccounted_iff] at h ⊢
    refine ⟨(List.length_modify ..).trans h.1, fun _ => ?_⟩
    have hnone : s.dbi.out.slot = none := by rw [hout]; rfl
    exact (h.2 hlow).inbTakes hx hst (d := { s.dbi with inb := .data t n i })
      (f := fun _ => ⟨.filling, some t, n, _, 0, []⟩) rfl hi rfl hnone hnone hbus
  · exact h

theorem leadParity_slotsAccounted {s : State} (h : s.slotsAccounted) (hr : s.canReceive = true)
    (hi : s.dbi.inb = .idle) (hd : Header) : (s.leadParity hd).slotsAccounted := by
  have hslot : s.dbi.inb.slot = none := by rw [hi]; rfl
  unfold State.leadParity
  split
  · exact setInb_slotsAccounted (reply_slotsAccounted h ..) hslot.symm
  · split
    · exact payloadParity_slotsAccounted (dataIndex_slotsAccounted h hr hslot ..)
    · exact payloadParity_slotsAccounted (setInb_slotsAccounted h hslot.symm)

theorem parityError_slotsAccounted {s : State} (h : s.slotsAccounted) (hr : s.canReceive = true)
    (p : ParityPlace) : (s.parityError p).slotsAccounted := by
  have refused (hi : s.dbi.inb = .idle) (t : Byte) (st : Status) :
      ((s.reply t st .empty).setInb .discardTurn).slotsAccounted :=
    setInb_slotsAccounted (reply_slotsAccounted h ..) (show _ = s.dbi.inb.slot by rw [hi]; rfl)
  unfold State.parityError
  split
  · exact payloadParity_slotsAccounted h
  · split
    · next hc => exact refused (by simpa using (Bool.and_eq_true _ _ |>.mp hc).1) ..
    · exact h
  · split
    · next hc => exact refused (by simpa using (Bool.and_eq_true _ _ |>.mp hc).1) ..
    · exact h
  · split
    · next hc => exact leadParity_slotsAccounted h hr (by simpa using (Bool.and_eq_true _ _ |>.mp hc).1) _
    · exact h

theorem cutPacket_slotsAccounted {s : State} (h : s.slotsAccounted) (cut : HeaderPart) (b : Bool) :
    (((s.cutPacket cut).setInb .idle).onDbi fun d => { d with turn := b }).slotsAccounted := by
  have idle {u : State} (hq : u.ledger = { s.ledger with dbi := u.dbi }) (hi : s.dbi.inb.slot = none)
      (hin : u.dbi.inb.slot = none) (hout : u.dbi.out.slot = s.dbi.out.slot)
      (hr : u.dbi.busReset = s.dbi.busReset) : u.slotsAccounted :=
    slotsAccounted_onBus h hq (hin.trans hi.symm) hout hr
  unfold State.cutPacket
  split
  · next hi => exact idle rfl (by rw [hi]; rfl) rfl rfl rfl
  · have hd := dropFilling_dbi s
    exact dropFilling_slotsAccounted h rfl rfl (congrArg (fun d => d.out.slot) hd)
      (congrArg (fun d => d.busReset) hd)
  · next hi =>
    split
    · split <;> exact idle rfl (by rw [hi]; rfl) rfl rfl rfl
    · exact idle rfl (by rw [hi]; rfl) rfl rfl rfl
  · next hpay hdata hidle =>
    refine idle rfl ?_ rfl rfl rfl
    cases hi : s.dbi.inb with
    | data t n i => exact (hdata t n i hi).elim
    | _ => rfl

theorem packetSent_slotsAccounted {s : State} (h : s.slotsAccounted) : s.packetSent.slotsAccounted := by
  unfold State.packetSent
  dsimp only
  split
  · exact h
  · next ho => exact slotsAccounted_onBus h rfl rfl (by rw [ho]; rfl) rfl
  · next i _ live ho =>
    have hi : s.ledger.dbi.out.slot = some i := by rw [State.ledger_dbi, ho]; rfl
    rw [slotsAccounted_iff] at h
    have hsent : ((((s.onDbi fun d => { d with out := .none }).driveStb false).emptySlotAt i).ledger).slotsAccounted :=
      ⟨(List.length_modify ..).trans h.1, fun hl =>
        (h.2 hl).outLeaves hi (f := fun _ => Slot.none) (fun _ => .inl rfl) rfl rfl⟩
    split
    · exact slotsAccounted_iff.mpr hsent
    · exact slotsAccounted_iff.mpr hsent

theorem dataEnds_slotsAccounted {s : State} (h : s.slotsAccounted) {t : Byte} {n i : Nat}
    (hi : s.dbi.inb = .data t n i) (data : List Byte) : (s.dataEnds t n i data).slotsAccounted := by
  have hslot : s.ledger.dbi.inb.slot = some i := by rw [State.ledger_dbi, hi]; rfl
  have leaves {u : State} {f : Slot → Slot} (hf : ∀ x, (f x).state.still)
      (hq : u.ledger = { s.ledger with dbi := u.dbi, slots := s.slots.modify i f })
      (hin : u.dbi.inb.slot = none) (hout : u.dbi.out.slot = s.dbi.out.slot) : u.slotsAccounted := by
    rw [slotsAccounted_iff] at h ⊢
    rw [hq]
    exact ⟨(List.length_modify ..).trans h.1, fun hl => (h.2 hl).inbLeaves hslot hf hin hout⟩
  unfold State.dataEnds
  dsimp only
  split
  · exact leaves (f := fun x => { x with state := .full, data := data }) (fun _ => .inr rfl) rfl rfl rfl
  · exact leaves (f := fun _ => Slot.none) (fun _ => .inl rfl) rfl rfl rfl

theorem BusMove.slotsAccounted {s t : State} (hm : BusMove s t) (h : s.slotsAccounted) :
    t.slotsAccounted := by
  cases hm with
  | begins hd hr hi =>
    have hslot : s.dbi.inb.slot = none := by rw [hi]; rfl
    unfold State.beginPacket
    split
    · exact setInb_slotsAccounted h hslot.symm
    · exact headerStep_slotsAccounted h hslot hd
  | parity p hr => exact parityError_slotsAccounted h hr p
  | turned cut =>
    split
    · next hc =>
      refine ⟨h.1, fun hl => ?_⟩
      have hbus : s.dbi.busReset = true := by
        have hl' : s.supplyLow = false := hl
        simpa [hl'] using hc
      have hacc := (slotsAccounted_iff.mp h).2 hl
      have hq := slotsAccounted_onBus (t := (s.setInb .idle).onDbi fun d => { d with turn := false }) h rfl
        (hacc.reset hbus).1.symm rfl rfl
      exact hq.2 hl
    · exact cutPacket_slotsAccounted h cut false
  | turnAsserted => exact slotsAccounted_onBus h rfl rfl rfl rfl
  | sent => exact packetSent_slotsAccounted h
  | index hd t n hr hi => exact dataIndex_slotsAccounted h hr (by rw [hi]; rfl) t n
  | dataEnds t n i data hr hi => exact dataEnds_slotsAccounted h hi data
  | discarded hi => exact setInb_slotsAccounted h (by rw [hi]; rfl)
  | withheld hd hi => exact setInb_slotsAccounted h (by rw [hi]; rfl)
  | released =>
    exact ⟨h.1, fun hl => by
      obtain ⟨h1, h2, h3, h4, h5, h6, h7, h8, -⟩ := h.2 hl
      exact ⟨h1, h2, h3, h4, h5, h6, h7, h8, nofun⟩⟩
  | resetLow hl => exact ⟨h.1, fun hl' => by cases hl.symm.trans hl'⟩

theorem commit_slotsAccounted {s : State} (h : s.slotsAccounted) : s.commit.slotsAccounted := by
  have hrel : s.releaseWaiting.slotsAccounted := by
    rcases releaseWaiting_cases s with hq | ⟨hd, hi, -, -, hq⟩
    · rwa [hq]
    · rw [hq]
      exact headerStep_slotsAccounted h (by rw [hi]; rfl) hd
  unfold State.commit State.startOutbound
  generalize s.releaseWaiting = u at hrel ⊢
  split
  · next hc =>
    simp only [Bool.and_eq_true, beq_iff_eq, Bool.not_eq_true'] at hc
    obtain ⟨⟨⟨⟨-, hbus⟩, -⟩, hout⟩, hin⟩ := hc
    have hinb : u.dbi.inb.slot = none := by rw [hin]; rfl
    have hnone : u.dbi.out.slot = none := by rw [hout]; rfl
    split
    · exact slotsAccounted_onBus hrel rfl rfl hnone.symm rfl
    · split
      · next i tag hd =>
        obtain ⟨-, _, _, x, -, hx, hfull, htag⟩ := drainSlot_spec hd
        rw [slotsAccounted_iff] at hrel ⊢
        refine ⟨(List.length_modify ..).trans hrel.1, fun hl => ?_⟩
        exact (hrel.2 hl).outTakes hx hfull (by rw [htag]; nofun)
          (d := { u.dbi with out := .data i tag true, stb := true })
          (f := fun x => { x with state := .draining }) rfl hinb hinb rfl hnone hbus
      · exact hrel
  · exact hrel

/-! ## What a step does -/

theorem powerOn_slotsAccounted (cause : ResetCause) (present protect park turn bus : Bool)
    (waiting : List Instr) :
    (State.powerOn cause present protect park turn bus waiting).slotsAccounted := by
  rw [slotsAccounted_iff]
  have empty (i : Nat) : ((List.replicate Config.slotCount Slot.none)[i]?).map Slot.state = some .empty ∨
      ((List.replicate Config.slotCount Slot.none)[i]?).map Slot.state = none := by
    rw [List.getElem?_replicate]
    split
    · exact .inl rfl
    · exact .inr rfl
  refine ⟨List.length_replicate, fun _ => {
    filling := fun i hi => ?_, draining := fun i hi => ?_, inb := nofun, out := nofun, oneWay := .inl rfl
    verify := nofun, flight := nofun, op := nofun, reset := fun _ => ⟨rfl, rfl⟩ }⟩
  · have hi' : ((List.replicate Config.slotCount Slot.none)[i]?).map Slot.state = some .filling := hi
    rcases empty i with h | h <;> cases h.symm.trans hi'
  · have hi' : ((List.replicate Config.slotCount Slot.none)[i]?).map Slot.state = some .draining := hi
    rcases empty i with h | h <;> cases h.symm.trans hi'

theorem TakesOff.slotsAccounted {s m : State} {k : FlightKind} {slot : Option Nat}
    (hm : TakesOff s m k slot) (h : s.ledger.slotsAccounted) : m.ledger.slotsAccounted := by
  obtain ⟨x, hx, hq⟩ := hm.parts
  have hidle : s.ledger.flight = none := hm.idle
  have ha := h.2 hm.low
  rw [hq]
  cases slot with
  | none =>
    have hop : s.ledger.op.slot = none := hm.op.elim (fun h => h.2) id
    refine ⟨h.1, fun _ => { filling := fun i hi => ?_, draining := fun i hi => ?_, inb := ha.inb, out := ha.out
                            oneWay := ha.oneWay, verify := fun f hf hk => by cases hf; rfl
                            flight := fun f i hf hi => by cases hf; cases hi
                            op := fun i hi => by cases hop.symm.trans hi
                            reset := ha.reset }⟩
    · exact .inr ((ha.filling i hi).resolve_left (by rw [hidle]; nofun))
    · exact .inr ((ha.draining i hi).resolve_left (by rw [hidle]; nofun))
  | some i =>
    obtain ⟨st, hst, hstill⟩ := hm.still ha i rfl
    obtain ⟨hin, hout, -⟩ := ha.ne_of_still hst hstill
    obtain ⟨y, hy, -⟩ := Option.map_eq_some_iff.mp hst
    have at_i : ({ s.ledger with slots := s.slots.modify i x } : Ledger).slotState i = some k.moving := by
      have hy' : s.slots[i]? = some y := hy
      simp [Ledger.slotState, hy', (hx y).1]
    have off_i {j : Nat} (hj : j ≠ i) :
        ({ s.ledger with slots := s.slots.modify i x } : Ledger).slotState j = s.ledger.slotState j := by
      simp [Ledger.slotState, Ne.symm hj]
    have ne_i {j : Nat} (hj : s.ledger.dbi.inb.slot = some j ∨ s.ledger.dbi.out.slot = some j) : j ≠ i := by
      rintro rfl
      exact hj.elim hin hout
    refine ⟨(List.length_modify ..).trans h.1, fun _ => {
      filling := fun j hj => ?_, draining := fun j hj => ?_
      inb := fun j hj => (off_i (ne_i (.inl hj))).trans (ha.inb j hj)
      out := fun j hj => (off_i (ne_i (.inr hj))).trans (ha.out j hj)
      oneWay := ha.oneWay
      verify := fun f hf hk => by cases hf; cases hm.verify hk
      flight := fun f j hf hj => by cases hf; cases hj; exact ⟨at_i, hin, hout⟩
      op := fun j hj => ?_
      reset := ha.reset }⟩
    · by_cases hji : j = i
      · exact .inl (by rw [hji]; rfl)
      · exact .inr ((ha.filling j ((off_i hji).symm.trans hj)).resolve_left (by rw [hidle]; nofun))
    · by_cases hji : j = i
      · exact .inl (by rw [hji]; rfl)
      · exact .inr ((ha.draining j ((off_i hji).symm.trans hj)).resolve_left (by rw [hidle]; nofun))
    · rcases hm.op with ⟨rfl, hop⟩ | hop
      · cases hop.symm.trans hj
        have htag := (ha.op i hop).1
        have hy' : s.slots[i]? = some y := hy
        refine ⟨?_, .inr ⟨_, rfl, rfl, rfl, rfl⟩⟩
        simpa [hy', (hx y).2 rfl] using htag
      · cases hop.symm.trans hj

/-- The slots that a bus reset keeps: the sector's in flight and the record operation's (R118). -/
def Ledger.keptSlots (l : Ledger) : List (Option Nat) := [l.flight.bind Flight.slot, l.op.slot]

theorem slotState_reset {l : Ledger} {i : Nat} {st : SlotState}
    (h : ((l.slots.mapIdx (Slot.reset l.keptSlots))[i]?).map Slot.state = some st) (hst : st ≠ .empty) :
    some i ∈ l.keptSlots ∧ l.slotState i = some st := by
  rw [List.getElem?_mapIdx, Option.map_map] at h
  obtain ⟨x, hx, hs⟩ := Option.map_eq_some_iff.mp h
  simp only [Function.comp, Slot.reset] at hs
  split at hs
  · next hk => exact ⟨by simpa using hk, by simpa [Ledger.slotState, hx] using hs⟩
  · exact absurd hs.symm hst

theorem slotState_reset_kept {l : Ledger} {i : Nat} (h : some i ∈ l.keptSlots) :
    ((l.slots.mapIdx (Slot.reset l.keptSlots))[i]?).map Slot.state = l.slotState i := by
  rw [List.getElem?_mapIdx, Option.map_map, Ledger.slotState]
  congr 1
  funext x
  simp [Slot.reset, h]

/-- The buffer stays accounted when a bus reset drops the packets and empties the other slots. -/
theorem Ledger.Accounted.cleared {l : Ledger} (h : l.Accounted) {d : Bus} (hin : d.inb.slot = none)
    (hout : d.out.slot = none) :
    ({ l with dbi := d, flight := l.flight.map Flight.leave
              slots := l.slots.mapIdx (Slot.reset l.keptSlots) } : Ledger).Accounted := by
  have hleave : (l.flight.map Flight.leave).bind Flight.slot = l.flight.bind Flight.slot := by
    cases l.flight <;> rfl
  have moving {i : Nat} {st : SlotState} (hst : st = .filling ∨ st = .draining)
      (hi : ((l.slots.mapIdx (Slot.reset l.keptSlots))[i]?).map Slot.state = some st) :
      (l.flight.map Flight.leave).bind Flight.slot = some i := by
    obtain ⟨hk, hs⟩ := slotState_reset hi (by rintro rfl; simp at hst)
    have hmem : l.flight.bind Flight.slot = some i ∨ l.op.slot = some i := by
      simpa [Ledger.keptSlots, eq_comm] using hk
    rw [hleave]
    rcases hmem with hf | ho
    · exact hf
    · obtain ⟨-, hfull | ⟨f, hf, -, -, hfs⟩⟩ := h.op i ho
      · cases hs.symm.trans hfull
        simp at hst
      · rw [hf]
        exact hfs
  refine {
    filling := fun i hi => .inl (moving (.inl rfl) hi), draining := fun i hi => .inl (moving (.inr rfl) hi)
    inb := fun i hi => ?_, out := fun i hi => ?_, oneWay := .inl hin, verify := fun f hf hk => ?_
    flight := fun f i hf hi => ?_, op := fun i hi => ?_, reset := fun _ => ⟨hin, hout⟩ }
  · cases hin.symm.trans hi
  · cases hout.symm.trans hi
  · obtain ⟨g, hg, rfl⟩ := Option.map_eq_some_iff.mp hf
    exact h.verify g hg hk
  · obtain ⟨g, hg, rfl⟩ := Option.map_eq_some_iff.mp hf
    have hk : some i ∈ l.keptSlots := by simp [Ledger.keptSlots, hg, show g.slot = some i from hi]
    exact ⟨(slotState_reset_kept hk).trans (h.flight g i hg hi).1, by rw [hin]; nofun, by rw [hout]; nofun⟩
  · have hi' : l.op.slot = some i := hi
    have hk : some i ∈ l.keptSlots := by simp [Ledger.keptSlots, hi']
    obtain ⟨ht, hs⟩ := h.op i hi
    refine ⟨?_, hs.imp (fun hs => (slotState_reset_kept hk).trans hs) ?_⟩
    · cases hx : l.slots[i]? <;> simp [hx, Slot.reset, hk]
    · rintro ⟨f, hf, hw, ho, hfs⟩
      exact ⟨f.leave, by simp [hf], hw, (Flight.leave_orphan hw).trans ho, hfs⟩

theorem busCleared_slotsAccounted {s : State} (h : s.slotsAccounted) (hl : s.supplyLow = false) :
    s.busCleared.slotsAccounted := by
  have he := orphanWorks_evolves s
  obtain ⟨tbs, -, hq⟩ := s.busCleared_ledger
  obtain ⟨h8, hacc⟩ := he.slots (slotsAccounted_iff.mp h)
  have ha := (hacc (he.supplyLow.trans hl)).cleared (d := { s.orphanWorks.dbi with
    inb := .idle, out := .none, replies := [], answers := 0, busReset := true, stb := false
    ack := false }) rfl rfl
  rw [slotsAccounted_iff, hq]
  exact ⟨List.length_mapIdx.trans h8, fun _ => { ha with }⟩

theorem Answered.slotsAccounted {i : Instr} {u : State} {l : Ledger} (h : Answered i u l)
    (hu : u.slotsAccounted) : l.slotsAccounted := by
  rw [slotsAccounted_iff] at hu
  have reply (p : Packet) {v : Ledger} (hv : v.slotsAccounted) : (v.withReply p).slotsAccounted :=
    ⟨hv.1, fun hl => (hv.2 hl).withBus rfl rfl rfl⟩
  cases h with
  | replied p hv => exact reply p (hv.slots hu)
  | admitted p => exact ⟨hu.1, fun hl => { (reply p hu).2 hl with }⟩
  | ejects p => exact ⟨hu.1, fun hl => { (reply p hu).2 hl with }⟩
  | cleared p => exact ⟨hu.1, fun hl => { (reply p hu).2 hl with }⟩

theorem Taken.slotsAccounted {s u : State} (h : Taken s u) (hs : s.slotsAccounted) : u.slotsAccounted := by
  cases h with
  | whole => exact hs
  | completed hd hi => exact setInb_slotsAccounted hs (by rw [hi]; rfl)

theorem Happens.slotsAccounted {i : Instr} {s t : State} (h : Happens i s t) (hs : s.slotsAccounted) :
    t.slotsAccounted := by
  have on {u v : State} (he : Evolves u v) (hu : u.slotsAccounted) : v.slotsAccounted :=
    slotsAccounted_iff.mpr (he.slots (slotsAccounted_iff.mp hu))
  have onLedger {l : Ledger} {v : State} (he : l.Evolves v.ledger) (hl : l.slotsAccounted) :
      v.slotsAccounted := slotsAccounted_iff.mpr (he.slots hl)
  cases h with
  | evolves h => exact on h hs
  | event h => exact commit_slotsAccounted (on h hs)
  | powered => exact powerOn_slotsAccounted ..
  | cut _ h =>
    refine onLedger h ?_
    rw [State.cutOff_ledger]
    exact ⟨((supplyRecord_evolves s).slots (slotsAccounted_iff.mp hs)).1, nofun⟩
  | reset hl h => exact commit_slotsAccounted (on h (busCleared_slotsAccounted hs hl))
  | takesOff hm h =>
    exact commit_slotsAccounted (onLedger h (hm.slotsAccounted (slotsAccounted_iff.mp hs)))
  | readsOn hi hm h =>
    obtain ⟨_, _, op, hq, hop⟩ := hm.parts
    refine commit_slotsAccounted (onLedger h ?_)
    have hu := hm.evolves.slots (slotsAccounted_iff.mp hs)
    rw [hq]
    exact ⟨hu.1, fun hl =>
      { (hu.2 hl).withOp (op := op) (fun j hj => by rw [hop] at hj; cases hj) with }⟩
  | bus h => exact h.slotsAccounted hs
  | busEvent hm h => exact commit_slotsAccounted (on h (hm.slotsAccounted hs))
  | answered hr hu hl h => exact onLedger h (hl.slotsAccounted (hu.slotsAccounted hs))
  | late ht hl h => exact slotsAccounted_onBus (onLedger h (hl.slotsAccounted hs)) rfl rfl rfl rfl

/-- Settles O12. -/
theorem slotsStayAccounted : Obligations.SlotsStayAccounted := by
  intro s t hs hst
  rcases step_cases hst with ⟨-, rfl⟩ | ⟨i, rest, -, hex⟩
  · rw [slotsAccounted_iff, State.tick_ledger]
    exact slotsAccounted_iff.mp hs
  · exact (happens_of_exec hex).slotsAccounted (s := { s with pending := rest }) hs

end Sys2Proof.Machine
end

section
/-! PROOFS. Every REPLY and DONE finds its place in the reply queue (R180). -/

namespace Sys2Proof.Machine

/-- The packets and reserved places that a state of the interface leaves room for (R180). -/
def Inbound.room (x : Inbound) : Nat := if x.owesReply then 14 else 16

theorem Inbound.room_le (x : Inbound) : x.room ≤ 16 := by
  unfold Inbound.room
  split <;> omega

theorem Inbound.le_room (x : Inbound) : 14 ≤ x.room := by
  unfold Inbound.room
  split <;> omega

/-- R180 for the parts. -/
def Ledger.repliesFit (l : Ledger) : Prop :=
  l.places ≤ l.dbi.inb.room ∧ l.dbi.answers ≤ l.dbi.replies.length ∧
    (l.supplyLow = false → l.dbi.answers = 0)

theorem repliesFit_iff {s : State} : s.repliesFit ↔ s.ledger.repliesFit := by
  unfold State.repliesFit Ledger.repliesFit
  rw [← places_eq]
  exact Iff.rfl

theorem Ledger.Evolves.repliesFit {a b : Ledger} (h : a.Evolves b) (ha : a.repliesFit) : b.repliesFit := by
  obtain ⟨hp, hans, hlow⟩ := ha
  refine ⟨?_, ?_, fun hl => ?_⟩
  · rw [h.inb]
    exact Nat.le_trans h.places hp
  · rw [h.answers]
    exact Nat.le_trans hans h.replies.length_le
  · rw [h.answers]
    exact hlow (h.supplyLow.symm.trans hl)

/-! ## The interface -/

/-- A change of the interface: how many packets it places, and the room that it leaves. -/
theorem repliesFit_onBus {s t : State} (h : s.repliesFit) {sl : List Slot}
    (hq : t.ledger = { s.ledger with dbi := t.dbi, slots := sl })
    (hroom : s.places ≤ s.dbi.inb.room →
      t.dbi.replies.length + s.places ≤ t.dbi.inb.room + s.dbi.replies.length)
    (hlen : s.dbi.replies.length ≤ t.dbi.replies.length) (hans : t.dbi.answers = s.dbi.answers) :
    t.repliesFit := by
  rw [repliesFit_iff] at h ⊢
  obtain ⟨hp, ha, hlow⟩ := h
  rw [← places_eq] at hp
  have hroom := hroom hp
  rw [places_eq] at hroom
  rw [hq]
  refine ⟨?_, ?_, fun hl => ?_⟩
  · simp only [Ledger.places, State.ledger_dbi] at hroom ⊢
    omega
  · show t.dbi.answers ≤ _
    rw [hans]
    exact Nat.le_trans ha hlen
  · show t.dbi.answers = 0
    rw [hans]
    exact hlow hl

theorem places_of_not_full {s : State} (h : s.replyFull = false) : s.places ≤ 14 := by
  have : s.places < Config.replyFull := by
    simpa [State.replyFull, State.places] using h
  exact Nat.le_of_lt_succ this

/-- A REPLY is placed and the packet in progress changes. -/
theorem repliesFit_placed {s t : State} (h : s.repliesFit) {p : Packet} {sl : List Slot}
    (hq : t.ledger = { s.ledger with dbi := t.dbi, slots := sl })
    (hrep : t.dbi.replies = s.dbi.replies ++ [p]) (hans : t.dbi.answers = s.dbi.answers)
    (hroom : s.places ≤ 14) (hin : t.dbi.inb.owesReply = false) : t.repliesFit := by
  refine repliesFit_onBus h hq (fun _ => ?_) (by simp [hrep]) hans
  simp only [hrep, List.length_append, List.length_singleton, Inbound.room, hin]
  simp
  omega

/-- The packet in progress changes and no REPLY is placed. -/
theorem repliesFit_unplaced {s t : State} (h : s.repliesFit) {sl : List Slot}
    (hq : t.ledger = { s.ledger with dbi := t.dbi, slots := sl })
    (hrep : t.dbi.replies = s.dbi.replies) (hans : t.dbi.answers = s.dbi.answers)
    (hroom : s.places ≤ s.dbi.inb.room → s.places ≤ t.dbi.inb.room) : t.repliesFit :=
  repliesFit_onBus h hq (fun hp => by have := hroom hp; rw [hrep]; omega) (by simp [hrep]) hans

theorem places_le_of_owes {s : State} (h : s.repliesFit) (hi : s.dbi.inb.owesReply = true) :
    s.places ≤ 14 := by
  have := h.1
  rwa [hi, if_pos rfl] at this

theorem headerStep_repliesFit {s : State} (h : s.repliesFit) (hf : s.replyFull = false) (hd : Header) :
    (s.headerStep hd).repliesFit := by
  have hroom := places_of_not_full hf
  unfold State.headerStep
  split
  · refine repliesFit_placed h (sl := s.slots) (p := .reply hd.tag .badPacket .empty) rfl rfl rfl hroom ?_
    show Inbound.owesReply (if hd.length = 0 then .idle else .discard) = false
    split <;> rfl
  · exact repliesFit_unplaced h (sl := s.slots) rfl rfl rfl fun _ => Nat.le_trans hroom (Inbound.le_room _)

theorem refuseRest_repliesFit {s : State} (h : s.repliesFit) (hroom : s.places ≤ 14) (t : Byte)
    (st : Status) : (s.refuseRest t st).repliesFit :=
  have hd := dropFilling_dbi s
  have ha : s.dropFilling.dbi.answers = s.dbi.answers := by rw [hd]
  repliesFit_placed h (p := .reply t st s.dbi.inb.replyBody) (s.refuseRest_same t st)
    (congrArg (fun d : Bus => d.replies ++ [.reply t st s.dbi.inb.replyBody]) hd)
    ha hroom rfl

theorem payloadParity_repliesFit {s : State} (h : s.repliesFit) : s.payloadParity.repliesFit := by
  unfold State.payloadParity
  split
  · next hi => exact refuseRest_repliesFit h (places_le_of_owes h (by rw [hi]; rfl)) ..
  · next hi => exact refuseRest_repliesFit h (places_le_of_owes h (by rw [hi]; rfl)) ..
  · exact h

theorem dataIndex_repliesFit {s : State} (h : s.repliesFit) (hroom : s.places ≤ 14) (t : Byte) (n : Nat) :
    (s.dataIndex t n).repliesFit := by
  unfold State.dataIndex
  split
  · next st _ =>
    exact repliesFit_placed h (sl := s.slots) (p := .reply t st (.dataIndex n)) rfl rfl rfl hroom rfl
  · exact repliesFit_unplaced h rfl rfl rfl fun _ => Nat.le_trans hroom (Inbound.le_room _)
  · exact h

theorem leadParity_repliesFit {s : State} (h : s.repliesFit) (hf : s.replyFull = false) (hd : Header) :
    (s.leadParity hd).repliesFit := by
  have hroom := places_of_not_full hf
  unfold State.leadParity
  split
  · exact repliesFit_placed h (sl := s.slots) (p := .reply hd.tag .badPacket .empty) rfl rfl rfl hroom rfl
  · split
    · exact payloadParity_repliesFit (dataIndex_repliesFit h hroom ..)
    · exact payloadParity_repliesFit (repliesFit_unplaced h (sl := s.slots) rfl rfl rfl fun _ =>
        Nat.le_trans hroom (Inbound.le_room _))

theorem parityError_repliesFit {s : State} (h : s.repliesFit) (p : ParityPlace) :
    (s.parityError p).repliesFit := by
  have refused (hf : s.replyFull = false) (t : Byte) (st : Status) :
      ((s.reply t st .empty).setInb .discardTurn).repliesFit :=
    repliesFit_placed h (sl := s.slots) (p := .reply t st .empty) rfl rfl rfl (places_of_not_full hf) rfl
  have room {b : Bool} (hc : (b && !s.replyFull) = true) : s.replyFull = false := by
    simpa using (Bool.and_eq_true _ _ |>.mp hc).2
  unfold State.parityError
  split
  · exact payloadParity_repliesFit h
  · split
    · next hc => exact refused (room hc) ..
    · exact h
  · split
    · next hc => exact refused (room hc) ..
    · exact h
  · split
    · next hc => exact leadParity_repliesFit h (room hc) _
    · exact h

theorem cutPacket_repliesFit {s : State} (h : s.repliesFit) (cut : HeaderPart) :
    (((s.cutPacket cut).setInb .idle).onDbi fun d => { d with turn := false }).repliesFit := by
  have cleared : ((s.setInb .idle).onDbi fun d => { d with turn := false }).repliesFit :=
    repliesFit_unplaced h (sl := s.slots) rfl rfl rfl fun hp => Nat.le_trans hp (Inbound.room_le _)
  unfold State.cutPacket
  split
  · next hd hi =>
    exact repliesFit_placed h (sl := s.slots) (p := .reply hd.tag .badPacket .empty) rfl rfl rfl
      (places_le_of_owes h (by rw [hi]; rfl)) rfl
  · next t n _ hi =>
    have hd := dropFilling_dbi s
    have ha : s.dropFilling.dbi.answers = s.dbi.answers := by rw [hd]
    exact repliesFit_placed h (p := .reply t .badPacket (.dataIndex n)) (s.dropFilling_same.trans rfl)
      (congrArg (fun d : Bus => d.replies ++ [.reply t .badPacket (.dataIndex n)]) hd)
      ha (places_le_of_owes h (by rw [hi]; rfl)) rfl
  · split
    · next hc =>
      have hroom := places_of_not_full (s := s) (by simpa using (Bool.and_eq_true _ _ |>.mp hc).2)
      split
      · exact cleared
      · exact repliesFit_placed h (sl := s.slots) (p := .reply 0 .badPacket .empty) rfl rfl rfl hroom rfl
      · next t => exact repliesFit_placed h (sl := s.slots) (p := .reply t .badPacket .empty) rfl rfl rfl hroom rfl
    · exact cleared
  · exact cleared

theorem packetSent_repliesFit {s : State} (h : s.repliesFit) : s.packetSent.repliesFit := by
  have shorter : (((s.onDbi fun d => { d with out := .none }).driveStb false).onDbi fun d => { d with
      replies := d.replies.tail, answers := if s.supplyLow then d.answers - 1 else d.answers }).repliesFit := by
    obtain ⟨hp, ha, hlow⟩ := h
    refine ⟨Nat.le_trans ?_ hp, ?_, fun hl => ?_⟩
    · show s.dbi.replies.tail.length + s.reserved ≤ _
      simp only [List.length_tail]
      omega
    · show (if s.supplyLow then s.dbi.answers - 1 else s.dbi.answers) ≤ s.dbi.replies.tail.length
      simp only [List.length_tail]
      split
      · omega
      · next hl => rw [hlow (by simpa using hl)]; exact Nat.zero_le _
    · have hl' : s.supplyLow = false := hl
      show (if s.supplyLow then s.dbi.answers - 1 else s.dbi.answers) = 0
      rw [hlow hl']
      simp
  unfold State.packetSent
  dsimp only
  split
  · exact h
  · exact shorter
  · split
    · exact repliesFit_unplaced h rfl rfl rfl id
    · exact repliesFit_unplaced h rfl rfl rfl id

theorem BusMove.repliesFit {s t : State} (hm : BusMove s t) (h : s.repliesFit) : t.repliesFit := by
  cases hm with
  | begins hd hr hi =>
    unfold State.beginPacket
    split
    · exact repliesFit_unplaced h (sl := s.slots) rfl rfl rfl fun hp => Nat.le_trans hp (Inbound.room_le _)
    · next hf => exact headerStep_repliesFit h (by simpa using hf) hd
  | parity p hr => exact parityError_repliesFit h p
  | turned cut =>
    split
    · exact repliesFit_unplaced h (sl := s.slots) rfl rfl rfl fun hp => Nat.le_trans hp (Inbound.room_le _)
    · exact cutPacket_repliesFit h cut
  | turnAsserted => exact h
  | sent => exact packetSent_repliesFit h
  | index hd t n hr hi => exact dataIndex_repliesFit h (places_le_of_owes h (by rw [hi]; rfl)) t n
  | dataEnds t n i data hr hi =>
    have hroom := places_le_of_owes h (by rw [hi]; rfl)
    unfold State.dataEnds
    dsimp only
    split
    · exact repliesFit_placed h (p := .reply t .ok (.dataIndex n)) rfl rfl rfl hroom rfl
    · exact repliesFit_placed h (p := .reply t .noSuchTag (.dataIndex n)) rfl rfl rfl hroom rfl
  | discarded hi => exact repliesFit_unplaced h (sl := s.slots) rfl rfl rfl fun hp => Nat.le_trans hp (Inbound.room_le _)
  | withheld hd hi => exact repliesFit_unplaced h (sl := s.slots) rfl rfl rfl fun hp => Nat.le_trans hp (Inbound.room_le _)
  | released => exact h
  | resetLow hl => exact h

theorem commit_repliesFit {s : State} (h : s.repliesFit) : s.commit.repliesFit := by
  have hrel : s.releaseWaiting.repliesFit := by
    rcases releaseWaiting_cases s with hq | ⟨hd, -, -, hf, hq⟩
    · rwa [hq]
    · rw [hq]
      exact headerStep_repliesFit h hf hd
  unfold State.commit
  rcases startOutbound_cases s.releaseWaiting with hq | hq | ⟨i, tag, -, hq⟩
  · rwa [hq]
  · rw [hq]; exact hrel
  · rw [hq]; exact hrel

/-! ## What a step does -/

theorem Taken.room {s u : State} (h : Taken s u) (hs : s.repliesFit) :
    u.ledger.places ≤ 14 ∧ u.dbi.inb = .idle ∧ u.dbi.answers = s.dbi.answers := by
  cases h with
  | whole hi hf => exact ⟨places_eq s ▸ places_of_not_full hf, hi, rfl⟩
  | completed hd hi =>
    exact ⟨places_eq s ▸ places_le_of_owes hs (by rw [hi]; rfl), rfl, rfl⟩

/-- An answer takes two places at most, its own and that of a DONE. -/
theorem Answered.room {i : Instr} {u : State} {l : Ledger} (h : Answered i u l)
    (hu : u.ledger.places ≤ 14) : l.places ≤ 16 ∧ l.dbi.inb = u.dbi.inb ∧ l.dbi.answers = u.dbi.answers ∧
      u.dbi.replies <+: l.dbi.replies ∧ l.supplyLow = u.supplyLow := by
  cases h with
  | replied p hv =>
    refine ⟨?_, hv.inb, hv.answers, hv.replies.trans (List.prefix_append ..), hv.supplyLow⟩
    have := hv.places
    simp only [Ledger.places, Ledger.withReply, List.length_append, List.length_singleton] at this hu ⊢
    omega
  | admitted p =>
    refine ⟨?_, rfl, rfl, List.prefix_append .., rfl⟩
    simp only [Ledger.places, Ledger.withReply, List.length_append, List.length_singleton,
      State.ledger_dbi, State.ledger_queue] at hu ⊢
    omega
  | ejects p tag =>
    refine ⟨?_, rfl, rfl, List.prefix_append .., rfl⟩
    have htags : (u.ledger.tags.map List.length).getD 0 =
        ((u.ccu.eject.map EjectRecord.tags).getD []).length := by
      unfold State.ledger
      cases u.ccu.eject <;> rfl
    simp only [Ledger.places, Ledger.withReply, List.length_append, List.length_singleton, htags,
      Option.map_some, Option.getD_some] at hu ⊢
    omega
  | cleared p =>
    refine ⟨?_, rfl, rfl, List.prefix_append .., rfl⟩
    simp only [Ledger.places, Ledger.withReply, List.length_append, List.length_singleton] at hu ⊢
    omega

/-- The packets of an answer that are sent first stay in the reply queue (R154, R184; assumption log 58). -/
theorem answersFirst_repliesFit {s : State} (h : s.repliesFit) (hlow : s.supplyLow = true) {n : Nat}
    (hans : s.dbi.answers ≤ n) (hn : n ≤ s.dbi.replies.length) : (s.answersFirst n).repliesFit := by
  obtain ⟨hp, ha, -⟩ := h
  have hlen : (s.answersFirst n).dbi.replies.length = s.dbi.replies.length := by
    simp only [State.answersFirst, State.onDbi_dbi, List.length_append, List.length_take,
      List.length_drop]
    omega
  refine ⟨?_, ?_, fun hl => ?_⟩
  · show (s.answersFirst n).dbi.replies.length + s.reserved ≤ _
    rw [hlen]
    exact hp
  · rw [hlen]
    show s.dbi.answers + (s.dbi.replies.drop n).length ≤ _
    rw [List.length_drop]
    omega
  · have hl' : s.supplyLow = false := hl
    rw [hlow] at hl'
    cases hl'

theorem Happens.repliesFit {i : Instr} {s t : State} (h : Happens i s t) (hs : s.repliesFit) :
    t.repliesFit := by
  have on {u v : State} (he : Evolves u v) (hu : u.repliesFit) : v.repliesFit :=
    repliesFit_iff.mpr (Ledger.Evolves.repliesFit he (repliesFit_iff.mp hu))
  have onLedger {l : Ledger} {v : State} (he : l.Evolves v.ledger) (hl : l.repliesFit) :
      v.repliesFit := repliesFit_iff.mpr (he.repliesFit hl)
  cases h with
  | evolves h => exact on h hs
  | event h => exact commit_repliesFit (on h hs)
  | powered => exact ⟨Nat.zero_le _, Nat.zero_le _, fun _ => rfl⟩
  | cut _ h =>
    refine onLedger h ?_
    obtain ⟨hp, -⟩ := repliesFit_iff.mp (on (supplyRecord_evolves s) hs)
    rw [State.cutOff_ledger]
    exact ⟨Nat.le_trans hp (Inbound.room_le _), Nat.zero_le _, nofun⟩
  | reset hl h =>
    refine commit_repliesFit (onLedger h ?_)
    obtain ⟨tbs, -, hq⟩ := s.busCleared_ledger
    rw [hq]
    refine ⟨?_, Nat.zero_le _, fun _ => rfl⟩
    cases ht : s.orphanWorks.ledger.tags <;> simp [Ledger.places]
  | takesOff hm h =>
    obtain ⟨_, hq⟩ := hm.others
    refine commit_repliesFit (onLedger h ?_)
    rw [hq]
    exact repliesFit_iff.mp hs
  | readsOn hi hm h =>
    obtain ⟨_, _, _, hq, -⟩ := hm.parts
    refine commit_repliesFit (onLedger h ?_)
    rw [hq]
    exact repliesFit_iff.mp (on hm.evolves hs)
  | bus h => exact h.repliesFit hs
  | busEvent hm h => exact commit_repliesFit (on h (hm.repliesFit hs))
  | answered hr hu hl h =>
    obtain ⟨hroom, hidle, hans⟩ := hu.room hs
    obtain ⟨hroom', hin, hans', -, -⟩ := hl.room hroom
    obtain ⟨-, -, hlow⟩ := receives hr
    have hzero : Bus.answers _ = 0 := (hans'.trans hans).trans (hs.2.2 hlow)
    refine onLedger h ⟨?_, by rw [hzero]; exact Nat.zero_le _, fun _ => hzero⟩
    rw [hin, hidle]
    exact hroom'
  | @late l t ht hl h =>
    obtain ⟨hlow, -, -, -, hidle, hf⟩ := takesLate_iff.mp ht
    obtain ⟨hroom', hin, hans', hpre, hlow'⟩ := hl.room (places_eq s ▸ places_of_not_full hf)
    have hfit : t.repliesFit := by
      refine onLedger h ⟨?_, ?_, fun hl' => ?_⟩
      · rw [hin, hidle]; exact hroom'
      · rw [hans']; exact Nat.le_trans hs.2.1 hpre.length_le
      · cases (hlow'.symm.trans hl').symm.trans hlow
    have hlow'' : t.supplyLow = true := (h.supplyLow.trans hlow').trans hlow
    have hlen : s.dbi.replies.length ≤ t.dbi.replies.length := (hpre.trans h.replies).length_le
    have hans : t.dbi.answers ≤ s.dbi.replies.length := by
      have : t.dbi.answers = s.dbi.answers := h.answers.trans hans'
      rw [this]; exact hs.2.1
    exact answersFirst_repliesFit hfit hlow'' hans hlen

/-- Settles O13. -/
theorem repliesFindRoom : Obligations.RepliesFindRoom := by
  intro s t hs hst
  rcases step_cases hst with ⟨-, rfl⟩ | ⟨i, rest, -, hex⟩
  · rw [repliesFit_iff, State.tick_ledger]
    exact repliesFit_iff.mp hs
  · exact (happens_of_exec hex).repliesFit (s := { s with pending := rest }) hs

end Sys2Proof.Machine
end

section
/-! PROOFS. No operation but the taking of a pending load brings the heads into LOADING: `notLoading` is kept
by the requests of the blocks to one another and by the effect of every event. -/

namespace Sys2Proof.Machine

/-- The heads are not LOADING. -/
def State.notLoading (s : State) : Prop := s.motion.2 ≠ .loading

theorem State.notLoading.of_heads {s t : State} (h : s.notLoading) (e : t.motion.2 = s.motion.2) :
    t.notLoading := by
  unfold State.notLoading at h ⊢
  rwa [e]

theorem State.notLoading.of_motion {s t : State} (h : s.notLoading) (e : t.motion = s.motion) :
    t.notLoading := h.of_heads (by rw [e])

theorem State.notLoading.ite {c : Prop} [Decidable c] {t u : State} (ht : t.notLoading) (hu : u.notLoading) :
    (if c then t else u).notLoading := by
  split
  · exact ht
  · exact hu

/-- A change of the Positioner that leaves it in another state than LOADING. -/
theorem State.notLoading.onPos {f : Positioner → Positioner} {s : State} (h : (f s.pos).state ≠ .loading) :
    (s.onPos f).notLoading := h

/-- A change of the spindle leaves the heads. -/
theorem State.notLoading.onSpc {s : State} (h : s.notLoading) (f : Spindle → Spindle) :
    (s.onSpc f).notLoading := h

/-! ## The disk -/

@[simp] theorem State.onSpc_heads (f : Spindle → Spindle) (s : State) :
    (s.onSpc f).motion.2 = s.motion.2 := rfl

@[simp] theorem State.stopRequest_heads (d : StopDemand) (s : State) :
    (s.stopRequest d).motion.2 = s.motion.2 := by
  unfold State.stopRequest
  dsimp only
  repeat' split
  all_goals simp

@[simp] theorem State.enterAtSpeed_heads (s : State) : s.enterAtSpeed.motion.2 = s.motion.2 := by
  simp only [State.enterAtSpeed, State.successPoint_motion]
  rfl

@[simp] theorem State.enterPurging_heads (s : State) : s.enterPurging.motion.2 = s.motion.2 := by
  unfold State.enterPurging
  dsimp only
  split
  · exact (State.enterAtSpeed_heads _).trans rfl
  · rfl

@[simp] theorem State.enterStopped_heads (s : State) : s.enterStopped.motion.2 = s.motion.2 := by
  simp only [State.enterStopped, State.takeTables_motion]
  rfl

@[simp] theorem State.coastDown_heads (s : State) : s.coastDown.motion.2 = s.motion.2 := by
  have h : s.coastDown.motion = (s.leavePowered .coasting false .coast).motion := by simp [State.coastDown]
  simp [h]

section
variable {s : State} (h : s.notLoading)
include h

/-! ## Unload, retract and hold requests -/

omit h in
theorem enterUnloaded_notLoading (s : State) : s.enterUnloaded.notLoading := by simp [State.notLoading]

omit h in
theorem beginToRamp_notLoading (s : State) : s.beginToRamp.notLoading := nofun

theorem State.notLoading.rampReached : s.rampReached.notLoading := .ite (enterUnloaded_notLoading _) h

omit h in
theorem enterToRamp_notLoading (s : State) : s.enterToRamp.notLoading := (beginToRamp_notLoading s).rampReached

omit h in
theorem enterToCylinder0_notLoading (s : State) : s.enterToCylinder0.notLoading :=
  .ite (enterToRamp_notLoading _) nofun

omit h in
theorem beginUnload_notLoading (s : State) : s.beginUnload.notLoading := by
  unfold State.beginUnload
  split
  · exact enterToRamp_notLoading _
  · exact enterToCylinder0_notLoading _
  · exact enterToCylinder0_notLoading _
  · exact enterToCylinder0_notLoading _
  · next hl _ _ _ => exact hl

omit h in
theorem unloadRequest_notLoading (s : State) : s.unloadRequest.notLoading := beginUnload_notLoading _

omit h in
theorem enterRetracting_notLoading (cause : Option FaultKind) (s : State) :
    (s.enterRetracting cause).notLoading := by
  unfold State.enterRetracting
  dsimp only
  refine .ite ((enterUnloaded_notLoading _).of_heads rfl) ?_
  intro hl
  rw [State.absents_motion, State.leaveSeekLaw_motion] at hl
  cases hl

omit h in
theorem retractRequest_notLoading (cause : FaultKind) (s : State) : (s.retractRequest cause).notLoading := by
  unfold State.retractRequest
  dsimp only
  split
  · next hp => exact fun hl => PosState.noConfusion (hp.symm.trans hl)
  · next hp => exact fun hl => PosState.noConfusion (hp.symm.trans hl)
  · exact enterRetracting_notLoading _ _

theorem State.notLoading.holdRequest : s.holdRequest.notLoading := by
  unfold State.holdRequest
  exact .ite h (.ite nofun (h.of_motion (by simp)))

/-! ## Recognition -/

theorem State.notLoading.spindleAction (r : FaultRow) : (s.spindleAction r).notLoading :=
  .ite h (h.of_heads (by simp))

theorem State.notLoading.positionerAction (k : FaultKind) (r : FaultRow) :
    (s.positionerAction k r).notLoading := by
  unfold State.positionerAction
  dsimp only
  split
  · exact .ite (unloadRequest_notLoading _) h
  · exact .ite (unloadRequest_notLoading _) h.holdRequest
  · exact unloadRequest_notLoading _
  · exact retractRequest_notLoading _ _

theorem State.notLoading.act (k : FaultKind) (r : FaultRow) (latched : Bool) :
    (s.act k r latched).notLoading := by
  have h0 : (if r.reaches then s.cancelRestarts else s).notLoading := .ite (h.of_motion (by simp)) h
  have h1 := (h0.spindleAction r).positionerAction k r
  have h2 : (((_ : State).positionerAction k r).ejectRetracts k).notLoading :=
    .ite (retractRequest_notLoading _ _) h1
  exact .ite (h2.of_motion (by simp)) h2

theorem State.notLoading.latchFault (k : FaultKind) (sub : Option SubCause) (retries : Nat) (r : FaultRow) :
    (s.latchFault k sub retries r).notLoading := State.notLoading.act (h.of_motion (by simp)) k r true

theorem State.notLoading.retryFault (k : FaultKind) (sub : Option SubCause) (retries : Nat) (r : FaultRow) :
    (s.retryFault k sub retries r).notLoading := State.notLoading.act (h.of_motion (by simp)) k r false

theorem State.notLoading.recognise (k : FaultKind) (sub : Option SubCause) : (s.recognise k sub).notLoading := by
  unfold State.recognise
  extract_lets row t fresh
  have ht : t.notLoading := h.of_motion (by simp [t])
  have hfresh : fresh.notLoading := by
    unfold fresh
    split
    · exact ht
    · exact ht.of_motion (by simp)
    · exact ht.retryFault _ _ _ _
    · exact ht.latchFault _ _ _ _
  split
  · exact hfresh
  · split
    · exact hfresh
    · exact hfresh
    · exact State.notLoading.act (ht.of_motion (by simp)) _ _ _
    · exact .ite (ht.retryFault _ _ _ _) (ht.latchFault _ _ _ _)

theorem State.notLoading.sampleWarning (warning : Bool) : (s.sampleWarning warning).notLoading :=
  .ite (.ite (State.notLoading.recognise (h.of_motion (by simp)) _ _) (h.of_motion (by simp)))
    (h.of_motion (by simp))

theorem State.notLoading.observe (k : FaultKind) (n : Nat) (put : Nat → Spindle → Spindle) :
    (s.observe k n put).notLoading :=
  .ite ((h.onSpc _).recognise _ _) (h.onSpc _)

theorem State.notLoading.seekTimerExpires : s.seekTimerExpires.notLoading := by
  have toRamp {t : State} (ht : t.notLoading) (unloading : Bool) :
      (if unloading && t.pos.state == .unloading && t.pos.phase == .toCylinder0 then t.enterToRamp
        else t).notLoading := .ite (enterToRamp_notLoading _) ht
  exact toRamp (.ite (State.notLoading.recognise (h.of_motion (by simp)) _ _) (h.of_motion (by simp))) _

theorem State.notLoading.countSeekTimer : s.countSeekTimer.notLoading :=
  .ite (.ite h.seekTimerExpires (h.of_motion (by simp))) h

/-! ## Servo samples and seeks -/

theorem State.notLoading.seekCompute : s.seekCompute.notLoading := by
  unfold State.seekCompute
  dsimp only
  repeat' split
  · exact State.notLoading.recognise (h.of_motion (by simp)) _ _
  · exact h.of_motion (by simp)
  · exact h.of_motion (by simp)
  · exact h

omit h in
theorem enterSettling_notLoading (s : State) : s.enterSettling.notLoading := nofun

omit h in
theorem startSeek_notLoading (req : Requester) (cylinder head : Nat) (s : State) :
    (s.startSeek req cylinder head).notLoading :=
  .ite (enterSettling_notLoading _) (State.notLoading.seekCompute nofun)

omit h in
theorem enterTracking_notLoading (s : State) : s.enterTracking.notLoading := by
  unfold State.enterTracking
  extract_lets readDue req counted t u v w
  have ht : t.notLoading := nofun
  have hu : u.notLoading := .ite (ht.of_motion (by simp)) ht
  have hv : v.notLoading := .ite (hu.of_motion (by simp)) hu
  have hw : w.notLoading := hv.of_motion (by simp [w])
  exact .ite (hw.of_motion (by simp)) hw

theorem State.notLoading.settleSample (f : Fix) : (s.settleSample f).notLoading := by
  unfold State.settleSample
  dsimp only
  split
  · exact h
  · split
    · exact .ite (enterTracking_notLoading _) (h.of_motion (by simp))
    · split
      · exact .ite (h.of_motion (by simp)) (h.of_motion (by simp))
      · refine State.notLoading.seekCompute ?_
        exact .ite nofun nofun

theorem State.notLoading.trackSample (f : Fix) : (s.trackSample f).notLoading := by
  unfold State.trackSample State.trackSlip
  refine .ite (h.of_motion (by simp)) (.ite nofun (.ite ?_ ?_))
  · exact (enterSettling_notLoading _).settleSample f
  · exact State.notLoading.seekCompute nofun

theorem State.notLoading.seekSample (f : Fix) : (s.seekSample f).notLoading :=
  .ite ((enterSettling_notLoading _).settleSample f) h.seekCompute

theorem State.notLoading.validSample (cylinder : Nat) (pes : Int) : (s.validSample cylinder pes).notLoading := by
  unfold State.validSample
  extract_lets f t
  have ht : t.notLoading := h.of_motion (by simp [t])
  split
  case h_1 => exact State.notLoading.settleSample (.onPos (by simp)) f
  case h_2 => exact ht.settleSample f
  case h_3 => exact ht.trackSample f
  case h_4 => exact ht.seekSample f
  case h_5 => exact .ite (enterToRamp_notLoading _) ht.seekCompute
  case h_6 => exact ht

theorem State.notLoading.dropSample : s.dropSample.notLoading := by
  unfold State.dropSample
  extract_lets n loading raise t
  have ht : t.notLoading := h.of_motion (by simp [t])
  exact .ite (ht.recognise _ _) ht

omit h in
theorem loadTimesOut_notLoading (s : State) : s.loadTimesOut.notLoading :=
  ((beginToRamp_notLoading s).recognise _ _).rampReached

theorem State.notLoading.takeSample (valid : Bool) (cylinder head : Nat) (pes : Int) :
    (s.takeSample valid cylinder head pes).notLoading := by
  unfold State.takeSample
  extract_lets t
  have ht : t.notLoading := h.of_motion (by simp [t])
  exact .ite (.ite (ht.validSample _ _) ht.dropSample) h

theorem State.notLoading.nextWindow : s.nextWindow.notLoading := by
  unfold State.nextWindow
  extract_lets t n u
  have ht : t.notLoading := .ite h.dropSample h
  have hu : u.notLoading := .ite (.ite (loadTimesOut_notLoading _) (ht.of_motion (by simp))) ht
  exact .ite (.ite (hu.of_motion (by simp)) hu) h

theorem State.notLoading.headSwitch (head : Nat) : (s.headSwitch head).notLoading := by
  unfold State.headSwitch
  refine .ite h ?_
  split
  · exact nofun
  · exact nofun
  · exact h.of_motion (by simp)
  · exact h

theorem State.notLoading.joinSeek (req : Requester) (head : Nat) : (s.joinSeek req head).notLoading :=
  (h.headSwitch head).of_motion (State.onPos_motion fun _ => rfl)

theorem State.notLoading.seekRequest {req : Requester} {cylinder head : Nat} {t : State}
    (ht : s.seekRequest req cylinder head = some t) : t.notLoading := by
  unfold State.seekRequest at ht
  dsimp only at ht
  split at ht
  · cases ht
  · split at ht
    · cases ht; exact .ite (h.headSwitch _) (startSeek_notLoading _ _ _ _)
    · cases ht; exact .ite (h.joinSeek _ _) (startSeek_notLoading _ _ _ _)
    · cases ht
      exact .ite (h.joinSeek _ _) ((h.of_motion (s.replaceSeek_motion req)).of_motion (by simp))
    · cases ht

/-! ## The Transfer Engine and the record operations -/

theorem State.notLoading.engineSeek : s.engineSeek.notLoading := by
  unfold State.engineSeek
  split
  · exact h
  · extract_lets t
    have ht : t.notLoading := h.of_motion (by simp [t])
    split
    next u hu =>
      unfold State.approach at hu
      repeat' split at hu
      · cases hu; exact ht
      · cases hu; exact ht.joinSeek _ _
      · exact ht.seekRequest hu
    next => exact ht.of_motion (by simp)

theorem State.notLoading.takeBlock : s.takeBlock.notLoading := by
  unfold State.takeBlock
  split
  · exact State.notLoading.engineSeek (h.of_motion (by simp))
  · exact h.of_motion (by simp)

theorem State.notLoading.finishBlock : s.finishBlock.notLoading := by
  unfold State.finishBlock
  split
  · exact h.of_motion (by simp)
  · exact .ite (State.notLoading.takeBlock (h.of_motion (by simp))) (h.of_motion (by simp))

theorem State.notLoading.unrecoverable (slot : Option Nat) : (s.unrecoverable slot).notLoading := by
  unfold State.unrecoverable
  extract_lets l t
  have ht : t.notLoading := h.of_motion (by simp [t])
  split
  · exact ht.of_motion (by simp)
  · exact State.notLoading.finishBlock (ht.of_motion (by simp))
  · exact ht.of_motion (by simp)

theorem State.notLoading.readFails : s.readFails.notLoading := by
  unfold State.readFails
  split
  · extract_lets t
    have ht : t.notLoading := h.of_motion (by simp [t])
    split
    · exact ht.of_motion (by simp)
    · exact ht
  · exact h.unrecoverable none

theorem State.notLoading.recordSeek : s.recordSeek.notLoading := by
  unfold State.recordSeek
  split
  next t ht => exact h.seekRequest ht
  next => exact h.of_motion (by simp)

theorem State.notLoading.startRecordRead : s.startRecordRead.notLoading :=
  State.notLoading.recordSeek (h.of_motion (by simp))

theorem State.notLoading.startWriteBack (who : Who) : (s.startWriteBack who).notLoading := by
  unfold State.startWriteBack
  split
  · exact h
  · exact State.notLoading.recordSeek (h.of_motion (by simp))

/-! ## The effects of the events -/

theorem State.notLoading.rangeIndex (measured : Bool) : (s.rangeIndex measured).notLoading := by
  unfold State.rangeIndex
  extract_lets t
  have ht : t.notLoading := h.onSpc _
  exact .ite (.ite ((ht.onSpc _).of_motion (State.absent_motion ..)) (ht.observe _ _ _)) ht

theorem State.notLoading.purgeIndex : s.purgeIndex.notLoading :=
  .ite (.ite ((h.onSpc _).of_heads (State.enterAtSpeed_heads _)) (h.onSpc _)) h

theorem State.notLoading.indexByState (measured : Bool) : (s.indexByState measured).notLoading := by
  unfold State.indexByState
  split
  · exact (h.onSpc _).onSpc _
  · exact (h.onSpc _).of_motion (State.absent_motion ..)
  · unfold State.lockIndex
    exact .ite (.ite (.ite (h.of_heads (by simp)) (h.onSpc _)) (h.onSpc _)) h
  · exact (h.rangeIndex measured).purgeIndex
  · exact h.rangeIndex measured
  · exact h.onSpc _
  · exact h.of_motion (by simp)

theorem State.notLoading.boundaryCounts : s.boundaryCounts.notLoading :=
  (h.of_motion s.countDelays_motion).countSeekTimer

theorem State.notLoading.indexArrives (timer : Nat) (warning : Bool) : (s.indexArrives timer warning).notLoading := by
  unfold State.indexArrives
  extract_lets measured watched t u v w
  have ht : t.notLoading := h.of_motion (by simp [t])
  have hu : u.notLoading := .ite ht (ht.of_motion (by simp))
  have hv : v.notLoading := hu.boundaryCounts.of_motion (by simp [v])
  exact ((hv.indexByState measured).sampleWarning warning).of_motion (by simp [w])

theorem State.notLoading.stoppedBoundary (warning : Bool) : (s.stoppedBoundary warning).notLoading := by
  unfold State.stoppedBoundary
  extract_lets watched t u
  have ht : t.notLoading := h.of_motion (by simp [t])
  exact (ht.boundaryCounts.sampleWarning warning).of_motion (by simp [u])

theorem State.notLoading.wedge (high : Bool) : (s.wedge high).notLoading := by
  have sensed {t : State} (ht : t.notLoading) : (t.senseCurrent high).notLoading :=
    .ite (.ite (ht.observe _ _ _) ((ht.onSpc _).of_motion (State.absent_motion ..))) (.ite (ht.onSpc _) ht)
  exact (sensed ((h.of_motion (s.elapse_motion _)).onSpc _)).nextWindow

theorem State.notLoading.unloadLate : s.unloadLate.notLoading := by
  unfold State.unloadLate
  extract_lets n raise t
  have ht : t.notLoading := h.of_motion (by simp [t])
  exact .ite (ht.recognise _ _) ht

theorem State.notLoading.parkOnRamp : s.parkOnRamp.notLoading := by
  unfold State.parkOnRamp
  extract_lets t
  split
  · exact enterUnloaded_notLoading _
  · exact enterUnloaded_notLoading _
  · exact h.of_motion (by simp [t])

omit h in
theorem retractExpires_notLoading (s : State) : s.retractExpires.notLoading := by
  unfold State.retractExpires
  extract_lets t
  have ht : t.notLoading := (enterUnloaded_notLoading s).of_motion (by simp [t])
  split
  · exact ht.of_motion (by simp)
  · exact ht

theorem State.notLoading.sensorAbsent : s.sensorAbsent.notLoading := by
  unfold State.sensorAbsent
  extract_lets t
  have ht : t.notLoading := h.of_motion (by simp [t])
  have forced : t.doorForced.notLoading :=
    (retractRequest_notLoading _ _).of_heads (State.stopRequest_heads ..)
  repeat' split
  · exact ht
  · exact ht
  · exact ht.of_motion (by simp)
  · exact forced
  · exact forced
  · exact forced
  · exact ht.of_motion (by simp [State.cartridgeLeft])

theorem State.notLoading.transferArrives (n : Nat) : (s.transferArrives n).notLoading := by
  unfold State.transferArrives State.writeArrives State.deferWrite
  dsimp only
  repeat' split
  · exact h.of_motion (by simp)
  · exact h.of_motion (by simp)
  · exact h.of_motion (by simp)
  · exact h.unrecoverable _
  · exact h.of_motion (by simp)
  · exact h.of_motion (by simp)
  · exact h
  · exact h

theorem State.notLoading.sectorArrives (n : Nat) : (s.sectorArrives n).notLoading := by
  unfold State.sectorArrives
  repeat' split
  · exact h
  · exact h.of_motion (by simp)
  · exact h.of_motion (by simp)
  · exact h.transferArrives n

theorem State.notLoading.sectorEnds (good : Bool) (data : List Byte) : (s.sectorEnds good data).notLoading := by
  unfold State.sectorEnds
  split
  · exact h
  · unfold State.flightEnds State.readEnds State.verifyEnds State.writeEnds
    extract_lets ok t
    have ht : t.notLoading := h.of_motion (by simp [t])
    repeat' split
    · exact ht.of_motion (by simp)
    · exact State.notLoading.finishBlock (ht.of_motion (by simp))
    · exact State.notLoading.readFails (ht.of_motion (by simp))
    · exact State.notLoading.finishBlock (ht.of_motion (by simp))
    · exact ht.readFails
    · exact State.notLoading.finishBlock (ht.of_motion (by simp))
    · exact ht.of_motion (by simp)
    · exact ht.of_motion (by simp)
    · exact ht.of_motion (by simp)

end

end Sys2Proof.Machine
end

section
/-! PROOFS. The law of R62: heads that are LOADING find the disk AT_SPEED and the cartridge held. A load is
taken by one reaction alone, under that guard; no reaction to a load in progress moves the disk or lets the
cartridge go, and no event brings LOADING by itself. -/

namespace Sys2Proof.Machine

/-- The Cartridge Control Unit is LATCHED or EJECT_PENDING. -/
def State.held (s : State) : Prop := s.ccu.state = .latched ∨ s.ccu.state = .ejectPending

/-- Heads that are LOADING find the disk AT_SPEED and the cartridge held. -/
def State.loadSafe (s : State) : Prop := s.motion.2 = .loading → s.motion.1 = .atSpeed ∧ s.held

theorem State.notLoading.loadSafe {s : State} (h : s.notLoading) : s.loadSafe := fun hl => absurd hl h

/-- An operation that moves neither disk nor heads, and keeps a cartridge that is held. -/
structure Stays (s t : State) : Prop where
  motion : t.motion = s.motion
  held : s.held → t.held

theorem Stays.refl (s : State) : Stays s s := ⟨rfl, id⟩

theorem Stays.trans {s t u : State} (h : Stays s t) (g : Stays t u) : Stays s u :=
  ⟨g.motion.trans h.motion, g.held ∘ h.held⟩

/-- An operation on other parts than the disk, the heads and the cartridge. -/
theorem Stays.away {s t u : State} (h : Stays s t) (hm : u.motion = t.motion) (hc : u.ccu = t.ccu) : Stays s u :=
  h.trans ⟨hm, fun ht => by unfold State.held at ht ⊢; rwa [hc]⟩

/-- A change of the cartridge that leaves its state. -/
theorem Stays.onCcu {s t : State} (h : Stays s t) {f : Cartridge → Cartridge}
    (hf : ∀ c, (f c).state = c.state) : Stays s (t.onCcu f) :=
  h.trans ⟨rfl, fun ht => by unfold State.held at ht ⊢; rwa [State.onCcu_ccu, hf]⟩

theorem Stays.ite {c : Prop} [Decidable c] {s t u : State} (ht : Stays s t) (hu : Stays s u) :
    Stays s (if c then t else u) := by
  split
  · exact ht
  · exact hu

theorem Stays.loadSafe {s t : State} (h : Stays s t) (hs : s.loadSafe) : t.loadSafe := by
  intro hl
  rw [h.motion] at hl ⊢
  exact ⟨(hs hl).1, h.held (hs hl).2⟩

theorem State.loadSafe.of_same {s t : State} (h : s.loadSafe) (hm : t.motion = s.motion) (hc : t.ccu = s.ccu) :
    t.loadSafe := ((Stays.refl s).away hm hc).loadSafe h

/-! ## Works and operations that end -/

section
variable {s t : State} (h : Stays s t)
include h

omit h in
theorem State.leaveWork_ccu (who : Who) (s : State) : (s.leaveWork who).ccu = s.ccu := by
  unfold State.leaveWork
  split
  · rfl
  · split <;> rfl

theorem Stays.joinWork (who : Who) : Stays s (t.joinWork who) := by
  refine h.away (by simp) ?_
  unfold State.joinWork
  split <;> rfl

theorem Stays.completeHead (st : Status) : Stays s (t.completeHead st) := by
  refine h.away (by simp) ?_
  unfold State.completeHead
  split
  · rfl
  · rw [State.onDowns_ccu, State.leaveWork_ccu]
    rfl

theorem Stays.endTransfer (st : Status) : Stays s (t.endTransfer st) := by
  unfold State.endTransfer
  split
  · exact h.away (by simp) rfl
  · exact h.completeHead st

theorem Stays.endPending (st : Status) : Stays s (t.endPending st) :=
  .ite (h.endTransfer _) (h.completeHead _)

/-- An eject that fails here leaves the cartridge LATCHED. -/
theorem Stays.failEject (st : Status) : Stays s (t.failEject st .latched) :=
  h.trans ⟨by simp, fun _ => .inl rfl⟩

theorem Stays.workEndsHead (st : Status) : Stays s (t.workEndsHead st) := by
  unfold State.workEndsHead
  split
  · exact h.completeHead _
  · split
    · exact h.completeHead _
    · exact .ite (h.away rfl rfl) (h.completeHead _)
    · exact .ite (h.away rfl rfl) (h.completeHead _)
    · exact .ite (h.away rfl rfl) (h.completeHead _)
    · exact h

theorem Stays.workEndsFor (who : Who) (st : Status) : Stays s (t.workEndsFor who st) := by
  cases who with
  | cmd => exact h.workEndsHead st
  | standby => exact .ite (h.away rfl rfl) (h.away rfl rfl)
  | orphan => exact h.away rfl rfl
  | eject => exact .ite (h.onCcu fun _ => rfl) (.ite (h.failEject _) h)
  | lost => exact h

theorem Stays.endWork (st : Status) : Stays s (t.endWork st) := by
  unfold State.endWork
  split
  · exact h
  · next w _ =>
    have h0 : Stays s (t.setWork none).withdrawWork := h.away (by simp) rfl
    have h1 := Stays.ite (c := w.forCmd = true) (h0.workEndsFor .cmd st) h0
    have h2 := Stays.ite (c := w.forStandby = true) (h1.workEndsFor .standby st) h1
    have h3 := Stays.ite (c := w.forOrphan = true) (h2.workEndsFor .orphan st) h2
    exact .ite (h3.workEndsFor .eject st) h3

omit h in
theorem State.emptySlotOpt_ccu (i : Option Nat) (s : State) : (s.emptySlotOpt i).ccu = s.ccu := by
  cases i <;> rfl

theorem Stays.dropRecordOp : Stays s t.dropRecordOp := by
  refine h.away (by simp) ?_
  simp only [State.dropRecordOp, State.onPos_ccu, State.onRec_ccu]
  split
  · split <;> simp only [State.onEng_ccu, State.emptySlotOpt_ccu]
  · exact State.emptySlotOpt_ccu _ _

theorem Stays.failWriteBack : Stays s t.failWriteBack := by
  unfold State.failWriteBack
  split
  · have hd := h.dropRecordOp
    unfold State.writeBackEnds
    dsimp only
    split
    · exact hd.completeHead _
    · exact hd.away rfl rfl
    · exact hd.away rfl rfl
    · exact .ite hd (hd.failEject _)
    · exact hd
  · exact h

theorem Stays.loseRecordOp : Stays s t.loseRecordOp := by
  unfold State.loseRecordOp
  split
  · exact h.dropRecordOp
  · exact h.failWriteBack
  · exact h

theorem Stays.recordSeekFails : Stays s t.recordSeekFails := by
  unfold State.recordSeekFails
  split
  · exact .ite (h.dropRecordOp.endWork _) h.dropRecordOp
  · exact h.failWriteBack
  · exact h

theorem Stays.cutFlight (f : Flight) : Stays s (t.cutFlight f) := by
  refine h.away (by simp) ?_
  unfold State.cutFlight State.refill
  split
  · unfold State.cutWrite
    split <;> rfl
  · split
    · exact State.emptySlotOpt_ccu _ _
    · cases f.slot <;> rfl

theorem Stays.beginEntry (c : MediumCmd) : Stays s (t.beginEntry c) := by
  unfold State.beginEntry
  split
  · exact Stays.joinWork (by exact h.away rfl rfl) _
  · exact h.away rfl rfl
  · exact .ite (.ite (h.away rfl rfl) (.ite (Stays.joinWork (by exact h.away rfl rfl) _) (h.completeHead _)))
      (h.completeHead _)

end

/-! ## Seeks asked for during a load -/

/-- A seek asked for during a load fails (R61). -/
theorem seekRequest_of_loading {s : State} (h : s.pos.state = .loading) (req : Requester) (c head : Nat) :
    s.seekRequest req c head = none := by
  unfold State.seekRequest
  simp [h]

theorem Stays.recordSeek {s t : State} (h : Stays s t) (hl : t.pos.state = .loading) :
    Stays s t.recordSeek := by
  unfold State.recordSeek
  rw [seekRequest_of_loading hl]
  exact h.recordSeekFails

theorem Stays.startWriteBack {s t : State} (h : Stays s t) (hl : t.pos.state = .loading) (who : Who) :
    Stays s (t.startWriteBack who) := by
  unfold State.startWriteBack
  split
  · exact h
  · exact Stays.recordSeek (h.away rfl rfl) hl

theorem Stays.engineSeek {s t : State} (h : Stays s t) (hl : t.pos.state = .loading) :
    Stays s t.engineSeek := by
  unfold State.engineSeek
  split
  · exact h
  · next pl _ =>
    have he : Stays s (t.onEng fun e => { e with state := .seekWait }) := h.away rfl rfl
    have happ : (t.onEng fun e => { e with state := .seekWait }).approach pl.cylinder pl.head = none := by
      unfold State.approach State.inPlace
      rw [seekRequest_of_loading (s := t.onEng _) hl]
      simp [hl, PosState.flying]
    dsimp only
    rw [happ]
    exact he.endTransfer _

theorem Stays.takeBlock {s t : State} (h : Stays s t) (hl : t.pos.state = .loading) :
    Stays s t.takeBlock := by
  unfold State.takeBlock
  split
  · exact Stays.engineSeek (by exact h.away rfl rfl) hl
  · exact h.endTransfer _

/-! ## The reactions -/

/-- A rule whose every answer keeps the law. -/
def KeepsLoadSafe (r : State → Option State) : Prop := ∀ s : State, s.loadSafe → ∀ t, r s = some t → t.loadSafe

theorem keepsLoadSafe_guarded {g : State → Bool} {f : State → State}
    (hf : ∀ s : State, s.loadSafe → g s = true → (f s).loadSafe) : KeepsLoadSafe fun s => guarded (g s) (f s) := by
  intro s hs t ht
  obtain ⟨hg, rfl⟩ := guarded_eq_some ht
  exact hf s hs hg

/-- An operation that keeps the law where the heads are not LOADING, and stays where they are. -/
theorem State.loadSafe.step {s t : State} (hs : s.loadSafe) (hn : s.notLoading → t.notLoading)
    (hl : s.pos.state = .loading → Stays s t) : t.loadSafe := by
  by_cases h : s.pos.state = .loading
  · exact (hl h).loadSafe hs
  · exact (hn h).loadSafe

/-- Heads that are UNLOADED stay off LOADING with whatever moves the disk only. -/
theorem loadSafe_of_unloaded {s t : State} (h : s.pos.state = .unloaded) (e : t.motion.2 = s.motion.2) :
    t.loadSafe :=
  State.notLoading.loadSafe fun hl => by
    have hp : s.motion.2 = .unloaded := h
    rw [e, hp] at hl
    cases hl

theorem unloaded_of_atRest {s : State} (h : s.atRest = true) : s.pos.state = .unloaded := (atRest_iff.mp h).2

theorem reactOwnUnload_loadSafe : KeepsLoadSafe reactOwnUnload :=
  keepsLoadSafe_guarded fun s _ _ => (beginUnload_notLoading s).loadSafe

theorem reactFlight_loadSafe : KeepsLoadSafe reactFlight := by
  intro s hs t ht
  unfold reactFlight at ht
  split at ht
  · cases ht
  · split at ht <;> obtain ⟨-, rfl⟩ := guarded_eq_some ht
    · exact ((Stays.refl s).cutFlight _).loadSafe hs
    · exact hs.of_same rfl rfl

theorem reactRecordLost_loadSafe : KeepsLoadSafe reactRecordLost :=
  keepsLoadSafe_guarded fun s hs _ => (Stays.refl s).loseRecordOp.loadSafe hs

theorem reactStopCheck_loadSafe : KeepsLoadSafe reactStopCheck :=
  keepsLoadSafe_guarded fun _ _ hg =>
    loadSafe_of_unloaded (unloaded_of_atRest (Bool.and_eq_true_iff.mp hg).2) (by simp)

theorem reactRelease_loadSafe : KeepsLoadSafe reactRelease :=
  keepsLoadSafe_guarded fun _ _ hg =>
    loadSafe_of_unloaded (unloaded_of_atRest (Bool.and_eq_true_iff.mp hg).2) (by simp)

theorem reactEjecting_loadSafe : KeepsLoadSafe reactEjecting :=
  keepsLoadSafe_guarded fun _ _ hg =>
    loadSafe_of_unloaded (unloaded_of_atRest (Bool.and_eq_true_iff.mp hg).2) (by simp)

theorem reactStopped_loadSafe : KeepsLoadSafe reactStopped := by
  intro s hs t ht
  unfold reactStopped at ht
  repeat' split at ht
  all_goals cases ht
  · exact ((Stays.refl s).completeHead _).loadSafe hs
  · exact hs.of_same rfl rfl
  · exact hs.of_same rfl rfl

theorem reactParked_loadSafe : KeepsLoadSafe reactParked := by
  intro s _ t ht
  unfold reactParked at ht
  dsimp only at ht
  split at ht
  next hp =>
    have stops (d : StopDemand) (f : Downs → Downs) : ((s.onDowns f).stopRequest d).loadSafe :=
      loadSafe_of_unloaded (eq_of_beq hp) (State.stopRequest_heads ..)
    repeat' split at ht
    all_goals cases ht
    all_goals exact stops _ _
  next => cases ht

theorem reactEjectParked_loadSafe : KeepsLoadSafe reactEjectParked :=
  keepsLoadSafe_guarded fun s hs hg => by
    have hp : s.pos.state = .unloaded := eq_of_beq (Bool.and_eq_true_iff.mp hg).2
    split
    · exact ((Stays.refl s).failEject _).loadSafe hs
    · exact loadSafe_of_unloaded hp (State.stopRequest_heads ..)

theorem reactBrake_loadSafe : KeepsLoadSafe reactBrake :=
  keepsLoadSafe_guarded fun _ _ hg => loadSafe_of_unloaded (eq_of_beq (Bool.and_eq_true_iff.mp hg).2) rfl

theorem reactStart_loadSafe : KeepsLoadSafe reactStart :=
  keepsLoadSafe_guarded fun _ _ hg =>
    loadSafe_of_unloaded (unloaded_of_atRest (Bool.and_eq_true_iff.mp hg).1) rfl

/-- The one way into LOADING (R62). -/
theorem reactLoad_loadSafe : KeepsLoadSafe reactLoad :=
  keepsLoadSafe_guarded fun s _ hg _ => by
    simp only [State.loadAllowed, Bool.and_eq_true, Bool.or_eq_true, beq_iff_eq] at hg
    obtain ⟨⟨⟨-, hspeed⟩, hheld⟩, -⟩ := hg
    exact ⟨hspeed, hheld⟩

theorem reactWorkCut_loadSafe : KeepsLoadSafe reactWorkCut := by
  intro s hs t ht
  unfold reactWorkCut at ht
  split at ht
  · obtain ⟨-, rfl⟩ := guarded_eq_some ht
    exact ((Stays.refl s).endWork _).loadSafe hs
  · cases ht

theorem reactEnd_loadSafe : KeepsLoadSafe reactEnd := by
  intro s hs t ht
  unfold reactEnd at ht
  split at ht
  · obtain ⟨-, rfl⟩ := guarded_eq_some ht
    exact (Stays.ite ((Stays.refl s).endPending _) ((Stays.refl s).completeHead _)).loadSafe hs
  · cases ht

theorem workCartridge_loadSafe (w : SpinUpWork) : KeepsLoadSafe (workCartridge w) := by
  intro s hs t ht
  unfold workCartridge at ht
  split at ht <;> cases ht
  · exact Stays.loadSafe (s := s) ⟨rfl, fun _ => .inl rfl⟩ hs
  · exact hs.of_same rfl rfl
  · exact hs.of_same rfl rfl

theorem State.startByWork_ccu (s : State) : s.startByWork.ccu = s.ccu := by
  unfold State.startByWork
  split <;> rfl

theorem workSpindle_loadSafe (w : SpinUpWork) : KeepsLoadSafe (workSpindle w) := by
  intro s hs t ht
  unfold workSpindle at ht
  split at ht
  · cases ht; exact hs.of_same rfl rfl
  · obtain ⟨-, rfl⟩ := guarded_eq_some ht
    exact hs.of_same (by simp) s.startByWork_ccu

theorem State.loadByWork_ccu (s : State) : s.loadByWork.ccu = s.ccu := by
  unfold State.loadByWork
  split <;> rfl

theorem workHeads_loadSafe (w : SpinUpWork) : KeepsLoadSafe (workHeads w) := by
  intro s hs t ht
  unfold workHeads at ht
  split at ht
  · cases ht; exact hs.of_same rfl rfl
  · split at ht
    · cases ht; exact hs.of_same rfl rfl
    · obtain ⟨-, rfl⟩ := guarded_eq_some ht
      exact hs.of_same (by simp) s.loadByWork_ccu

theorem State.loadSafe.startRecordRead {s : State} (hs : s.loadSafe) : s.startRecordRead.loadSafe :=
  hs.step State.notLoading.startRecordRead fun hl =>
    Stays.recordSeek ((Stays.refl s).away rfl rfl) hl

theorem State.loadSafe.startWriteBack {s : State} (hs : s.loadSafe) (who : Who) :
    (s.startWriteBack who).loadSafe :=
  hs.step (·.startWriteBack who) fun hl => (Stays.refl s).startWriteBack hl who

theorem workRecord_loadSafe (w : SpinUpWork) : KeepsLoadSafe (workRecord w) := by
  intro s hs t ht
  unfold workRecord at ht
  split at ht
  · split at ht
    · cases ht
    · split at ht
      · cases ht; exact hs.of_same rfl rfl
      · obtain ⟨-, rfl⟩ := guarded_eq_some ht
        exact hs.startRecordRead
  · cases ht; exact ((Stays.refl s).endWork _).loadSafe hs
  · cases ht; exact ((Stays.refl s).endWork _).loadSafe hs

theorem reactWork_loadSafe : KeepsLoadSafe reactWork := by
  intro s hs t ht
  unfold reactWork at ht
  split at ht
  · cases ht
  · split at ht
    · cases ht; exact ((Stays.refl s).endWork _).loadSafe hs
    · split at ht
      · exact workCartridge_loadSafe _ s hs t ht
      · exact workSpindle_loadSafe _ s hs t ht
      · exact workHeads_loadSafe _ s hs t ht
      · exact workRecord_loadSafe _ s hs t ht

theorem reactReadDue_loadSafe : KeepsLoadSafe reactReadDue :=
  keepsLoadSafe_guarded fun s hs _ => by
    split
    · exact hs.startRecordRead
    · exact hs.of_same rfl rfl

theorem reactReached_loadSafe : KeepsLoadSafe reactReached := by
  intro s hs t ht
  unfold reactReached at ht
  split at ht
  · obtain ⟨-, rfl⟩ := guarded_eq_some ht
    exact hs.of_same rfl rfl
  · cases ht

theorem reactRecordSeek_loadSafe : KeepsLoadSafe reactRecordSeek :=
  keepsLoadSafe_guarded fun s hs _ => hs.step State.notLoading.recordSeek (Stays.refl s).recordSeek

theorem reactRecordSlot_loadSafe : KeepsLoadSafe reactRecordSlot := by
  intro s hs t ht
  unfold reactRecordSlot at ht
  split at ht
  · obtain ⟨-, rfl⟩ := guarded_eq_some ht
    exact hs.of_same rfl rfl
  · cases ht

theorem reactEngine_loadSafe : KeepsLoadSafe reactEngine := by
  intro s hs t ht
  unfold reactEngine at ht
  split at ht
  · cases ht
  · split at ht
    · cases ht
    · split at ht
      · split at ht
        · cases ht; exact hs.of_same rfl rfl
        · obtain ⟨-, rfl⟩ := guarded_eq_some ht
          exact hs.step State.notLoading.engineSeek (Stays.refl s).engineSeek
      · obtain ⟨-, rfl⟩ := guarded_eq_some ht
        exact hs.of_same rfl rfl

theorem reactDrain_loadSafe : KeepsLoadSafe reactDrain := by
  intro s hs t ht
  unfold reactDrain at ht
  split at ht
  · obtain ⟨-, rfl⟩ := guarded_eq_some ht
    exact ((Stays.refl s).completeHead _).loadSafe hs
  · cases ht

theorem reactDown_loadSafe (who : Who) : KeepsLoadSafe (reactDown who) := by
  intro s hs t ht
  unfold reactDown at ht
  dsimp only at ht
  split at ht
  · split at ht
    · cases ht; exact hs.of_same rfl rfl
    · split at ht
      · obtain ⟨-, rfl⟩ := guarded_eq_some ht
        exact State.loadSafe.startWriteBack (by exact hs.of_same rfl rfl) _
      · cases ht
        exact (Stays.joinWork (by exact (Stays.refl s).away rfl rfl) _).loadSafe hs
  · cases ht
    split
    · exact hs.of_same rfl rfl
    · exact (unloadRequest_notLoading _).loadSafe
  · cases ht

theorem ejectFlush_loadSafe (e : EjectRecord) : KeepsLoadSafe (ejectFlush e) := by
  intro s hs t ht
  have marked (x : EjectRecord) : Stays s (s.onCcu fun c => { c with eject := some x }) :=
    (Stays.refl s).onCcu fun _ => rfl
  unfold ejectFlush at ht
  dsimp only at ht
  split at ht
  · split at ht
    · cases ht
      exact ((Stays.refl s).onCcu (f := fun c => { c with
        eject := c.eject.map fun e => { e with phase := some .unloading } }) fun _ => rfl).loadSafe hs
    · split at ht
      · cases ht; exact ((Stays.refl s).failEject _).loadSafe hs
      · split at ht
        · obtain ⟨-, rfl⟩ := guarded_eq_some ht
          exact State.loadSafe.startWriteBack ((marked _).loadSafe hs) _
        · cases ht; exact ((marked _).joinWork _).loadSafe hs
  · cases ht

theorem reactEject_loadSafe : KeepsLoadSafe reactEject := by
  intro s hs t ht
  unfold reactEject at ht
  split at ht
  · cases ht
  · next e _ =>
    split at ht
    · obtain ⟨-, rfl⟩ := guarded_eq_some ht
      exact ((Stays.refl s).onCcu (f := fun c => { c with
        eject := some { e with phase := some .flushing, flush := .undecided } }) fun _ => rfl).loadSafe hs
    · exact ejectFlush_loadSafe _ s hs t ht
    · obtain ⟨-, rfl⟩ := guarded_eq_some ht
      exact (unloadRequest_notLoading _).loadSafe
    · cases ht

theorem reactBegin_loadSafe : KeepsLoadSafe reactBegin := by
  intro s hs t ht
  unfold reactBegin at ht
  split at ht
  · cases ht
  · next e rest _ =>
    obtain ⟨-, rfl⟩ := guarded_eq_some ht
    have hq : Stays s (s.setQueue ({ e with executing := true } :: rest)) := (Stays.refl s).away rfl rfl
    exact (Stays.ite (hq.completeHead _) (hq.beginEntry _)).loadSafe hs

theorem reactStranded_loadSafe : KeepsLoadSafe reactStranded := by
  intro s hs t ht
  unfold reactStranded at ht
  split at ht
  · cases ht
  · obtain ⟨-, rfl⟩ := guarded_eq_some ht
    exact ((Stays.refl s).beginEntry _).loadSafe hs

theorem State.loadSafe.runSeek {s : State} (hs : s.loadSafe) (c : Nat) : (s.runSeek c).loadSafe := by
  have hj : Stays s (s.setJob .seeking) := (Stays.refl s).away rfl rfl
  unfold State.runSeek
  dsimp only
  split
  · exact (hj.completeHead _).loadSafe hs
  · split
    · next u hu =>
      by_cases hl : s.pos.state = .loading
      · cases (seekRequest_of_loading (s := s.setJob .seeking) hl _ _ _).symm.trans hu
      · exact (State.notLoading.seekRequest (s := s.setJob .seeking) hl hu).loadSafe
    · exact (hj.completeHead _).loadSafe hs

theorem reactReady_loadSafe : KeepsLoadSafe reactReady := by
  intro s hs t ht
  have done (st : Status) : (s.completeHead st).loadSafe := ((Stays.refl s).completeHead st).loadSafe hs
  unfold reactReady at ht
  split at ht
  · cases ht
  · obtain ⟨-, rfl⟩ := guarded_eq_some ht
    split
    · split
      · exact done _
      · exact hs.of_same rfl rfl
    · exact hs.runSeek _
    · unfold State.runReassign
      split
      · exact done _
      · exact (Stays.completeHead (by exact (Stays.refl s).away rfl rfl) _).loadSafe hs
    · unfold State.runFlush
      split
      · exact State.loadSafe.startWriteBack (by exact hs.of_same rfl rfl) _
      · exact done _
    · exact done _

theorem reactTransfer_loadSafe : KeepsLoadSafe reactTransfer :=
  keepsLoadSafe_guarded fun s hs _ => by
    have hj : Stays s ((s.setJob .transfer).onEng fun e => { Engine.none with nextIndex := e.nextIndex }) :=
      (Stays.refl s).away rfl rfl
    exact (hj.loadSafe hs).step State.notLoading.takeBlock fun hl => (Stays.refl _).takeBlock hl

theorem rules_loadSafe : ∀ r ∈ rules, KeepsLoadSafe r := by
  simp only [rules, List.forall_mem_cons]
  exact ⟨reactOwnUnload_loadSafe, reactFlight_loadSafe, reactRecordLost_loadSafe, reactStopCheck_loadSafe,
    reactRelease_loadSafe, reactEjecting_loadSafe, reactStopped_loadSafe, reactParked_loadSafe,
    reactEjectParked_loadSafe, reactBrake_loadSafe, reactStart_loadSafe, reactLoad_loadSafe,
    reactWorkCut_loadSafe, reactEnd_loadSafe, reactWork_loadSafe, reactReadDue_loadSafe,
    reactReached_loadSafe, reactRecordSeek_loadSafe, reactRecordSlot_loadSafe, reactEngine_loadSafe,
    reactDrain_loadSafe, reactDown_loadSafe _, reactDown_loadSafe _, reactDown_loadSafe _,
    reactEject_loadSafe, reactBegin_loadSafe, reactStranded_loadSafe, reactReady_loadSafe,
    reactTransfer_loadSafe, nofun⟩

theorem State.loadSafe.settle {s : State} (h : s.loadSafe) : s.settle.loadSafe :=
  settle_invariant (fun r hr s t _ ht hs => rules_loadSafe r hr s hs t ht) h

theorem State.headerStep_ccu (h : Header) (s : State) : (s.headerStep h).ccu = s.ccu := by
  unfold State.headerStep
  split <;> rfl

theorem State.commit_ccu (s : State) : s.commit.ccu = s.ccu := by
  have released : s.releaseWaiting.ccu = s.ccu := by
    obtain h | ⟨x, -, -, -, h⟩ := releaseWaiting_cases s <;> rw [h]
    exact s.headerStep_ccu x
  have outbound (t : State) : t.startOutbound.ccu = t.ccu := by
    unfold State.startOutbound
    repeat' split
    all_goals rfl
  exact (outbound _).trans released

/-- An event whose effect brings no load. -/
theorem State.notLoading.event {s : State} (h : s.notLoading) : s.event.loadSafe :=
  h.loadSafe.settle.of_same (State.commit_motion _) (State.commit_ccu _)

/-! ## The events and commands -/

theorem ite_loadSafe {c : Prop} [Decidable c] {t u : State} (ht : t.loadSafe) (hu : u.loadSafe) :
    (if c then t else u).loadSafe := by
  split
  · exact ht
  · exact hu

section
variable {s : State} (h : s.notLoading)
include h

/-- An event whose effect leaves the motion. -/
theorem State.notLoading.event_of_motion {t : State} (e : t.motion = s.motion) : t.event.loadSafe :=
  (h.of_motion e).event

theorem State.notLoading.settles {t : State} (e : t.motion = s.motion) : t.settle.loadSafe :=
  (h.of_motion e).loadSafe.settle

theorem State.notLoading.expire (x : Option Timer) {act : State → State}
    (hact : ∀ t : State, t.notLoading → (act t).notLoading) : (s.expire x act).loadSafe := by
  obtain ⟨-, he⟩ | ⟨y, -, he⟩ := expire_cases x act s <;> rw [he]
  · exact h.loadSafe
  · exact (hact _ (h.of_motion (by simp))).event

/-- A COMMAND packet keeps the law where its owner does. -/
theorem State.notLoading.command (i : Instr) {act : State → State}
    (hact : ∀ t : State, t.notLoading → (act t).loadSafe) : (s.command i act).loadSafe := by
  have whole (x : Header) : (s.wholePacket x act).loadSafe := by
    obtain ⟨-, he⟩ | ⟨-, he⟩ := wholePacket_cases x act s <;> rw [he]
    · exact State.notLoading.loadSafe (h.of_motion (by simp))
    · exact hact s h
  obtain he | ⟨tag, p, -, ⟨-, ⟨-, ⟨-, he⟩ | ⟨-, he⟩⟩ | ⟨-, he⟩⟩ | ⟨-, he⟩⟩ := command_cases i act s <;>
    rw [he]
  · exact h.loadSafe
  · exact State.notLoading.loadSafe (h.of_motion (by simp))
  · exact whole _
  · exact hact _ (h.of_motion (by simp))
  · exact (whole (commandHeader tag p)).of_same (by simp) rfl

/-- A COMMAND packet whose owner moves nothing. -/
theorem State.notLoading.command_of_motion (i : Instr) {act : State → State}
    (hact : ∀ t, (act t).motion = t.motion) : (s.command i act).loadSafe :=
  h.command i fun _ ht => State.notLoading.loadSafe (ht.of_motion (hact _))

theorem State.notLoading.enqueue (t : Byte) (c : MediumCmd) : (s.enqueue t c).loadSafe := by
  unfold State.enqueue
  split
  · exact State.notLoading.loadSafe (h.of_motion (by simp))
  · exact h.settles (by simp)

theorem State.notLoading.abort (t target : Byte) (immediate : Bool) : (s.abort t target immediate).loadSafe := by
  unfold State.abort
  split
  · exact State.notLoading.loadSafe (h.of_motion (by simp))
  · refine h.settles ?_
    split <;> simp

theorem State.notLoading.ejectCommand (t : Byte) (mode : EjectMode) (force : Bool) :
    (s.ejectCommand t mode force).loadSafe := by
  unfold State.ejectCommand
  repeat' split
  · exact State.notLoading.loadSafe (h.of_motion (by simp))
  · exact h.settles (by simp)
  · exact State.notLoading.loadSafe (h.of_motion (by simp))
  · exact State.notLoading.loadSafe (h.of_motion (by simp))
  · exact h.settles (by simp)

/-- What leaves the motion brings no load. -/
theorem State.notLoading.still {t : State} (e : t.motion = s.motion) : t.loadSafe :=
  State.notLoading.loadSafe (h.of_motion e)

/-- No instruction brings a load but by the reaction of R62. -/
theorem State.notLoading.completes (i : Instr) : s.completes i State.loadSafe := by
  have hs := h.loadSafe
  cases i with
  | powerOnReset present protect park =>
    refine ⟨_, rfl, State.notLoading.loadSafe ?_⟩
    cases park <;> exact nofun
  | supplyLow =>
    refine ⟨_, rfl, ite_loadSafe (h.still (by simp)) (State.notLoading.loadSafe ?_)⟩
    exact State.notLoading.of_heads (retractRequest_notLoading _ _) (State.coastDown_heads _)
  | overTempShutdown => exact ⟨_, rfl, (h.recognise _ _).event⟩
  | overTempShutdownCeases => exact ⟨_, rfl, h.still (by simp)⟩
  | busReset => exact ⟨_, rfl, ite_loadSafe hs (ite_loadSafe (h.still (by simp)) (h.event_of_motion (by simp)))⟩
  | busResetRelease => exact ⟨_, rfl, ite_loadSafe (h.still (by simp)) hs⟩
  | indexArrival timer warning => exact ⟨_, rfl, (h.indexArrives timer warning).event⟩
  | stoppedRevolutionBoundary warning => exact ⟨_, rfl, ite_loadSafe (h.stoppedBoundary warning).event hs⟩
  | purgeComplete =>
    exact ⟨_, rfl, ite_loadSafe (State.notLoading.of_heads h (State.enterAtSpeed_heads _)).event hs⟩
  | wedgeTime high => exact ⟨_, rfl, (h.wedge high).event⟩
  | servoSample valid cylinder head pes => exact ⟨_, rfl, (h.takeSample valid cylinder head pes).event⟩
  | firstIndexWatchExpiry => exact ⟨_, rfl, h.expire _ fun t ht => State.notLoading.observe (ht.onSpc _) _ _ _⟩
  | spinUpTimerExpiry => exact ⟨_, rfl, h.expire _ fun t ht => State.notLoading.observe (ht.onSpc _) _ _ _⟩
  | lostIndexWatchExpiry => exact ⟨_, rfl, h.expire _ fun t ht => State.notLoading.observe (ht.onSpc _) _ _ _⟩
  | reversePhaseTimeout => exact ⟨_, rfl, ite_loadSafe (h.event_of_motion (by simp)) hs⟩
  | stopWindowExpiry => exact ⟨_, rfl, h.expire _ fun t ht => ht.of_heads (State.enterStopped_heads _)⟩
  | standbyExpiry =>
    exact ⟨_, rfl, ite_loadSafe
      (h.event_of_motion ((State.onDowns_motion _ _).trans (State.elapse_motion _ _))) hs⟩
  | loadTimeout => exact ⟨_, rfl, ite_loadSafe (loadTimesOut_notLoading s).event hs⟩
  | unloadWatchExpiry => exact ⟨_, rfl, h.expire _ fun _ ht => ht.unloadLate⟩
  | parkSensorOnRamp => exact ⟨_, rfl, h.parkOnRamp.event⟩
  | retractWindowExpiry => exact ⟨_, rfl, h.expire _ fun t _ => retractExpires_notLoading t⟩
  | seekTimerExpiry => exact ⟨_, rfl, ite_loadSafe h.seekTimerExpires.event hs⟩
  | retryDelayExpiry kind => exact ⟨_, rfl, ite_loadSafe (h.event_of_motion (by simp)) hs⟩
  | recoveryWatchEnd kind => exact ⟨_, rfl, ite_loadSafe (h.event_of_motion (by simp)) hs⟩
  | cartridgeSensorPresent protect => exact ⟨_, rfl, h.event_of_motion (by simp)⟩
  | cartridgeSensorAbsent => exact ⟨_, rfl, h.sensorAbsent.event⟩
  | ejectButtonPress => exact ⟨_, rfl, ite_loadSafe hs (h.event_of_motion (by simp))⟩
  | ejectorPulseEnd => exact ⟨_, rfl, ite_loadSafe (h.event_of_motion (by simp)) hs⟩
  | ejectWindowExpiry =>
    exact ⟨_, rfl, ite_loadSafe hs (h.expire _ fun _ ht => ht.of_motion (by simp))⟩
  | sectorArrival sector => exact ⟨_, rfl, (h.sectorArrives sector).event⟩
  | sectorEnd good data => exact ⟨_, rfl, (h.sectorEnds good data).event⟩
  | inboundPacketHeader kind tag length b4 b5 b6 => exact ⟨_, rfl, ite_loadSafe (h.still (by simp)) hs⟩
  | inboundParityError place => exact ⟨_, rfl, ite_loadSafe (h.still (by simp)) hs⟩
  | turnNegated cut =>
    have hcut : (if s.supplyLow || s.dbi.busReset then s else s.cutPacket cut).notLoading :=
      .ite h (h.of_motion (by simp))
    exact ⟨_, rfl, ite_loadSafe (hcut.still (by simp)) hs⟩
  | turnAsserted => exact ⟨_, rfl, h.still (by simp)⟩
  | outboundPacketAcked => exact ⟨_, rfl, h.event_of_motion (by simp)⟩
  | dataPacketIndex tag index =>
    refine ⟨_, rfl, ite_loadSafe ?_ hs⟩
    split
    · exact ite_loadSafe (h.still (by simp)) hs
    · exact hs
  | dataPacketEnd data =>
    refine ⟨_, rfl, ite_loadSafe ?_ hs⟩
    split
    · exact h.event_of_motion (by simp)
    · exact hs
  | discardedPacketEnd => exact ⟨_, rfl, ite_loadSafe (h.still (by simp)) hs⟩
  | read tag flags extents => exact ⟨_, rfl, h.command _ fun _ ht => ht.enqueue _ _⟩
  | write tag flags extents => exact ⟨_, rfl, h.command _ fun _ ht => ht.enqueue _ _⟩
  | verify tag flags extents => exact ⟨_, rfl, h.command _ fun _ ht => ht.enqueue _ _⟩
  | seek tag cylinder => exact ⟨_, rfl, h.command _ fun _ ht => ht.enqueue _ _⟩
  | spinUp tag => exact ⟨_, rfl, h.command _ fun _ ht => ht.enqueue _ _⟩
  | spinDown tag => exact ⟨_, rfl, h.command _ fun _ ht => ht.enqueue _ _⟩
  | flushRecord tag => exact ⟨_, rfl, h.command _ fun _ ht => ht.enqueue _ _⟩
  | reassignBlock tag lba => exact ⟨_, rfl, h.command _ fun _ ht => ht.enqueue _ _⟩
  | abort tag target mode =>
    refine ⟨_, rfl, h.command _ fun t ht => ?_⟩
    split
    · exact ht.abort _ _ _
    · exact ht.still (by simp)
  | eject tag mode force =>
    refine ⟨_, rfl, h.command _ fun t ht => ?_⟩
    split
    · exact ht.ejectCommand _ _ _
    · exact ht.still (by simp)
  | clearFaults tag =>
    refine ⟨_, rfl, h.command _ fun t ht => ?_⟩
    unfold State.clearFaults
    exact ht.settles (by simp)
  | holdEject tag => exact ⟨_, rfl, h.command_of_motion _ fun t => t.holdEject_motion tag⟩
  | releaseEject tag => exact ⟨_, rfl, h.command_of_motion _ fun t => t.releaseEject_motion tag⟩
  | readFaults tag => exact ⟨_, rfl, h.command_of_motion _ fun _ => rfl⟩
  | loadTable tag selector body =>
    exact ⟨_, rfl, h.command_of_motion _ fun t => t.loadTable_motion tag selector body⟩
  | readTable tag selector copy first =>
    refine ⟨_, rfl, h.command_of_motion _ fun t => ?_⟩
    repeat' split
    all_goals simp
  | tableHold tag value =>
    refine ⟨_, rfl, h.command_of_motion _ fun t => ?_⟩
    split <;> simp
  | latch tag groups clear =>
    refine ⟨_, rfl, h.command_of_motion _ fun t => ?_⟩
    split <;> simp
  | readLatched tag => exact ⟨_, rfl, h.command_of_motion _ fun _ => rfl⟩
  | status tag => exact ⟨_, rfl, h.command_of_motion _ fun _ => rfl⟩
  | attentionAck tag => exact ⟨_, rfl, h.command_of_motion _ fun t => t.attentionAck_motion tag⟩
  | endAttention tag source =>
    refine ⟨_, rfl, h.command_of_motion _ fun t => ?_⟩
    split <;> simp
  | setAttentionMask tag mask => exact ⟨_, rfl, h.command_of_motion _ fun _ => rfl⟩

end

/-- Settles O16: the part before the step was in another state than LOADING, so that the load has been taken
by the reaction of R62 within the step. -/
theorem loadsBeginAtSpeed : Obligations.LoadsBeginAtSpeed := by
  intro s t hstep hs ht
  unfold step at hstep
  split at hstep
  next =>
    obtain rfl := Host.Outcome.next.inj hstep
    exact absurd ht hs
  next i rest _ =>
    have hrest : ({ s with pending := rest } : State).notLoading := hs
    obtain ⟨u, hu, hsafe⟩ := hrest.completes i
    obtain rfl := Host.Outcome.next.inj (hu.symm.trans hstep)
    exact hsafe ht

end Sys2Proof.Machine
end

section
/-! PROOFS. The latch: a state in which R126 fails within one event. It is none that a drive reaches, and
the premises of the statement do not exclude it: an ABSENT drive whose release is pending still holds an eject
in its UNLOADING phase, and the internal spin-down of standby waits for the heads. The retract window ends, the
latch is released, the eject fails and leaves the cartridge LATCHED, and the SPIN UP that waited starts the
disk. -/

namespace Sys2Proof.Machine

/-- An ABSENT drive at rest but for its heads, with an eject, a standby spin-down and a SPIN UP waiting. -/
def ejectOutlivesCartridge : State :=
  { State.reset with
    pending := [.retractWindowExpiry]
    queue := [⟨1, .spinUp, false⟩]
    spc := { State.reset.spc with state := .stopped, demand := .none, stopWindow := none }
    pos := { State.reset.pos with
      state := .retracting, parkSensor := false, retractWindow := some ⟨0, 1⟩ }
    downs := ⟨none, some .unload, none, false⟩
    ccu := { State.reset.ccu with eject := some ⟨some .unloading, .drain, false, [], .undecided⟩ } }

/-- What the event makes of it. -/
def ejectOutlivesCartridge.after : State :=
  { ejectOutlivesCartridge with pending := [] }.expire (some ⟨0, 1⟩) State.retractExpires

theorem ejectOutlivesCartridge_step :
    step ejectOutlivesCartridge = .next ejectOutlivesCartridge.after := rfl

theorem ejectOutlivesCartridge_settled : ejectOutlivesCartridge.settled = true := by decide +kernel

/-- The latch is released and the disk is STARTING. -/
theorem ejectOutlivesCartridge_starts : ejectOutlivesCartridge.after.ccu.latch = false ∧
    ejectOutlivesCartridge.after.spc.state = .starting := by decide +kernel

/-- Refutes O17: the eject that outlives its cartridge leaves it LATCHED once the latch is released, and a
SPIN UP then starts the disk in the same event. -/
theorem not_latchReleasesAtRest : ¬ Obligations.LatchReleasesAtRest := by
  intro h
  obtain ⟨hlatch, hstarting⟩ := ejectOutlivesCartridge_starts
  have hstopped := (h ejectOutlivesCartridge ejectOutlivesCartridge.after ejectOutlivesCartridge_settled
    rfl (fun _ => by contradiction) (fun hw => absurd rfl hw) ejectOutlivesCartridge_step rfl hlatch).1
  rw [hstarting] at hstopped
  cases hstopped

end Sys2Proof.Machine
end

section
/-! PROOFS. The bytes of COMMAND packets: fields of two and four bytes, lists of extents, and the payload of
every command read back (R187). -/

namespace Sys2Proof.Machine

theorem ofBe16_bytes (x : BitVec 16) : ofBe16 (x.extractLsb' 8 8) (x.extractLsb' 0 8) = x := by
  apply BitVec.eq_of_getLsbD_eq
  intro i hi
  simp only [ofBe16, BitVec.getLsbD_append, BitVec.getLsbD_extractLsb']
  grind

theorem ofBe32_bytes (x : BitVec 32) :
    ofBe32 (x.extractLsb' 24 8) (x.extractLsb' 16 8) (x.extractLsb' 8 8) (x.extractLsb' 0 8) = x := by
  apply BitVec.eq_of_getLsbD_eq
  intro i hi
  simp only [ofBe32, BitVec.getLsbD_append, BitVec.getLsbD_extractLsb']
  grind

/-- A list of extents is read back from its bytes. -/
theorem decodeExtents_bytes (l : List RawExtent) : decodeExtents l.length (l.flatMap extentBytes) = some l := by
  induction l with
  | nil => rfl
  | cons e l ih =>
    simp only [List.flatMap_cons, List.length_cons, extentBytes, be32, be16, List.cons_append,
      List.nil_append, decodeExtents, ih, ofBe16_bytes, ofBe32_bytes]
    rfl

/-- The operands of a READ, WRITE or VERIFY are read back from its payload. -/
theorem decodeTransfer_bytes (mk : Byte → List RawExtent → Instr) (flags : Byte) {l : List RawExtent}
    (h : extentsOk l = true) :
    decodeTransfer mk ([flags, BitVec.ofNat 8 l.length] ++ l.flatMap extentBytes) = some (mk flags l) := by
  have hlen : (BitVec.ofNat 8 l.length).toNat = l.length := by
    simp [extentsOk] at h
    simp
    omega
  simp only [List.cons_append, List.nil_append, decodeTransfer, hlen, decodeExtents_bytes]
  rfl

/-- Settles O4. -/
theorem decodedPayloads : Obligations.DecodedPayloads := by
  unfold Obligations.DecodedPayloads
  decide

/-- Settles O5. -/
theorem payloadRoundTrip : Obligations.PayloadRoundTrip := by
  intro i tag p hwf hp
  cases i <;> simp only [commandPayload, Option.some.injEq, Prod.mk.injEq, reduceCtorEq] at hp <;>
    obtain ⟨rfl, rfl⟩ := hp
  case read flags l => exact decodeTransfer_bytes (.read _) flags hwf
  case write flags l => exact decodeTransfer_bytes (.write _) flags hwf
  case verify flags l => exact decodeTransfer_bytes (.verify _) flags hwf
  case seek c => exact congrArg (fun x => some (Instr.seek _ x)) (ofBe16_bytes c)
  case reassignBlock a => exact congrArg (fun x => some (Instr.reassignBlock _ x)) (ofBe32_bytes a)
  case readTable s c n => exact congrArg (fun x => some (Instr.readTable _ s c x)) (ofBe16_bytes n)
  case setAttentionMask m => exact congrArg (fun x => some (Instr.setAttentionMask _ x)) (ofBe16_bytes m)
  all_goals rfl

end Sys2Proof.Machine
end

section
/-! PROOFS. A step: the command at the front of the queue, or a tick of the timebase with the expiry rows that
come due, and what the power-on reset leaves. -/

namespace Sys2Proof.Machine

/-- Settles O1. -/
theorem stepRunsFrontCommand : Obligations.StepRunsFrontCommand := by
  intro s i rest h
  simp [step, h]

/-! ## Rows that come due -/

theorem any_due_iff {x : Option Timer} : x.any Timer.due = true ↔ ∃ y, x = some y ∧ y.length ≤ y.elapsed := by
  cases x <;> simp [Timer.due]

theorem mem_due {l : List (Bool × Instr)} {i : Instr} :
    i ∈ l.filterMap (fun x => if x.1 then some x.2 else none) ↔ (true, i) ∈ l := by
  simp only [List.mem_filterMap, Prod.exists, Option.ite_none_right_eq_some, Option.some.injEq]
  constructor
  · rintro ⟨b, j, hm, hb, rfl⟩
    exact hb ▸ hm
  · exact fun h => ⟨true, i, h, rfl, rfl⟩

/-- The rows that come due are among those that may. -/
theorem due_sublist (l : List (Bool × Instr)) :
    (l.filterMap fun x => if x.1 then some x.2 else none).Sublist (l.map Prod.snd) := by
  induction l with
  | nil => exact .slnil
  | cons x l ih =>
    obtain ⟨b, i⟩ := x
    cases b
    · exact ih.cons i
    · exact ih.cons_cons i

/-- The ejector pulse has lasted 200,000 ticks (R137). -/
theorem pulseOver_iff {s : State} : s.pulseOver = true ↔
    s.ccu.ejector = true ∧ ∃ y, s.ccu.ejectWindow = some y ∧ 200000 ≤ y.elapsed := by
  cases h : s.ccu.ejectWindow <;> simp [State.pulseOver, State.sinceFired, Config.ejectorTicks, h]

theorem reverseLate_iff {s : State} : s.reverseLate = true ↔
    s.spc.state = .braking ∧ s.spc.brakeMode = .reverse ∧ 66668 < s.spc.revTimer := by
  simp only [State.reverseLate, State.reversing, State.reverseDrive, Bool.and_eq_true, beq_iff_eq,
    decide_eq_true_eq, and_assoc]
  rfl

theorem standbyCounts_iff {s : State} : s.standbyCounts = true ↔
    s.spc.state = .atSpeed ∧ s.queue = [] ∧ s.ccu.state = .latched := by
  simp [State.standbyCounts, and_assoc]

theorem standbyDue_iff {s : State} : s.standbyDue = true ↔
    s.spc.state = .atSpeed ∧ s.queue = [] ∧ s.ccu.state = .latched ∧ s.downs.standby = none ∧
      0 < s.tbs.params.standby ∧ s.tbs.params.standby * 10000000 ≤ s.spc.standbyElapsed := by
  simp only [State.standbyDue, Bool.and_eq_true, standbyCounts_iff, decide_eq_true_eq,
    Option.isNone_iff_eq_none, State.standbyPeriod, Config.standbyUnit]
  grind

/-- The spindle after one tick. -/
theorem elapse_spc (s : State) : (s.elapse 1).spc = { s.spc with
    revTimer := s.spc.revTimer + 1,
    standbyElapsed := s.spc.standbyElapsed + (if s.spc.state = .atSpeed ∧ s.queue = [] ∧
      s.ccu.state = .latched then 1 else 0),
    boundaryTicks := s.spc.boundaryTicks + (if s.spc.state = .stopped then 1 else 0),
    wedgeWait := s.spc.wedgeWait - 1,
    firstIndexWatch := s.spc.firstIndexWatch.map (Timer.tick 1),
    spinUpTimer := s.spc.spinUpTimer.map (Timer.tick 1),
    lostIndexWatch := s.spc.lostIndexWatch.map (Timer.tick 1),
    stopWindow := s.spc.stopWindow.map (Timer.tick 1) } := by
  have hstandby : (if s.standbyCounts then s.spc.standbyElapsed + 1 else s.spc.standbyElapsed) =
      s.spc.standbyElapsed + (if s.spc.state = .atSpeed ∧ s.queue = [] ∧ s.ccu.state = .latched
        then 1 else 0) := by
    simp only [standbyCounts_iff]
    split <;> rfl
  have hboundary : (if s.spc.state == .stopped then s.spc.boundaryTicks + 1 else s.spc.boundaryTicks) =
      s.spc.boundaryTicks + (if s.spc.state = .stopped then 1 else 0) := by
    simp only [beq_iff_eq]
    split <;> rfl
  simp only [State.elapse, State.onCcu_spc, State.onPos_spc, State.onSpc_spc, hstandby, hboundary]

/-- Settles O2. -/
theorem emptyQueueTicks : Obligations.EmptyQueueTicks := by
  intro s hs
  refine ⟨s.tick, by simp [step, hs], elapse_spc s, rfl, rfl, rfl, rfl, rfl, rfl, rfl, rfl, rfl, rfl, rfl,
    rfl, rfl, rfl, rfl, ?_⟩
  have hdue (i : Instr) : i ∈ s.tick.pending ↔ (true, i) ∈ _ := mem_due
  refine ⟨?_, ?_, ?_, ?_, ?_, ?_, ?_, ?_, ?_, ?_, due_sublist _⟩ <;> rw [hdue] <;>
    simp only [List.mem_cons, Prod.mk.injEq, reduceCtorEq, and_true, and_false, List.not_mem_nil,
      or_false, false_or]
  case refine_4 => exact eq_comm.trans reverseLate_iff
  case refine_6 => exact eq_comm.trans standbyDue_iff
  case refine_9 => exact eq_comm.trans pulseOver_iff
  all_goals exact eq_comm.trans any_due_iff

/-! ## Power-on reset -/

/-- The laws of the whole part hold of what a power-on reset leaves. -/
theorem powerOn_safe (cause : ResetCause) (present protect park turn bus : Bool) (waiting : List Instr) :
    (State.powerOn cause present protect park turn bus waiting).safe := by
  refine ⟨powerOn_currentBounded .., List.nodup_nil, ⟨Nat.zero_le _, List.nodup_nil⟩,
    powerOn_brakeSafe cause present protect park turn bus waiting,
    ?_, powerOn_slotsAccounted .., ?_, ?_⟩
  · simp [State.countsInRange, State.powerOn, Counters.zero]
  · simp [State.repliesFit, State.powerOn, State.reserved, Inbound.owesReply]
  · simp [State.recordSound, State.powerOn]

theorem powerOn_tablesInLimits (cause : ResetCause) (present protect park turn bus : Bool)
    (waiting : List Instr) : (State.powerOn cause present protect park turn bus waiting).tablesInLimits :=
  allInLimits_of_defaults rfl rfl rfl rfl rfl rfl

/-- A power-on reset asks for attention (R194). -/
theorem powerOn_atn (cause : ResetCause) (present protect park turn bus : Bool) (waiting : List Instr) :
    (State.powerOn cause present protect park turn bus waiting).atn = true := rfl

/-- Settles O3. -/
theorem resetValues : Obligations.ResetValues :=
  ⟨rfl, rfl, rfl, rfl, rfl, rfl, rfl, rfl, rfl, rfl, rfl, rfl, rfl, rfl, rfl, rfl, rfl, rfl, rfl, rfl, rfl,
    rfl, rfl, rfl, rfl, rfl, rfl, rfl, rfl, powerOn_atn .., rfl, rfl, rfl, rfl, powerOn_safe ..,
    powerOn_tablesInLimits ..⟩

/-- Settles O58. -/
theorem powerOnResets : Obligations.PowerOnResets := by
  intro s present protect park
  refine ⟨_, rfl, rfl, rfl, rfl, rfl, rfl, ?_, rfl, rfl, rfl, rfl, rfl, rfl, rfl, rfl, rfl, rfl, rfl, rfl,
    rfl, rfl, rfl, rfl, rfl, powerOn_atn .., rfl, rfl, rfl, powerOn_safe .., powerOn_tablesInLimits ..⟩
  cases park <;> rfl

end Sys2Proof.Machine
end

section
/-! An idle drive reacts with the disk, the heads and the latch alone, and a calm one not at all: what an event
leaves of a calm drive is what its effect leaves, while that is calm too. -/

namespace Sys2Proof.Machine

/-! ## Idle and calm -/

/-- The parts of an idle drive, by name. -/
structure State.Idle (s : State) : Prop where
  queue : s.queue = []
  job : s.job = .idle
  endWith : s.endWith = none
  work : s.work = none
  downs : s.downs = ⟨none, none, none, false⟩
  eject : s.ccu.eject = none
  op : s.record.op = .idle
  readWanted : s.record.readWanted = false
  eng : s.eng = Engine.none
  supplied : s.supplyLow = false

/-- The host holds the turn, between two packets. -/
structure State.Hosted (s : State) : Prop where
  turn : s.dbi.turn = true
  inb : s.dbi.inb = .idle

/-- The parts of a calm drive, by name. -/
structure State.Calm (s : State) : Prop extends State.Idle s, State.Hosted s where
  noStart : s.pendingStart = false
  noLoad : s.pendingLoad = false
  noBrake : s.spc.brakePending = false
  noCheck : s.ccu.state ≠ .stopCheck
  noRelease : s.ccu.releasePending = false
  grounded : s.spc.state = .atSpeed ∨ ¬(s.pos.state = .loading ∨ s.pos.state.flying = true)

theorem idleDrive_iff {s : State} : s.idleDrive = true ↔ s.Idle := by
  constructor
  · intro h
    simp only [State.idleDrive, Bool.and_eq_true, List.isEmpty_iff, beq_iff_eq, Bool.not_eq_true'] at h
    obtain ⟨⟨⟨⟨⟨⟨⟨⟨⟨hq, hj⟩, he⟩, hw⟩, hd⟩, hx⟩, ho⟩, hr⟩, hg⟩, hs⟩ := h
    exact ⟨hq, hj, he, hw, hd, hx, ho, hr, hg, hs⟩
  · rintro ⟨hq, hj, he, hw, hd, hx, ho, hr, hg, hs⟩
    simp [State.idleDrive, *]

theorem calm_iff {s : State} : s.calm = true ↔ s.Calm := by
  constructor
  · intro h
    simp only [State.calm, Bool.and_eq_true, beq_iff_eq, Bool.not_eq_true', bne_iff_ne, Bool.or_eq_true,
      Bool.or_eq_false_iff, idleDrive_iff] at h
    obtain ⟨⟨⟨⟨⟨⟨⟨⟨hi, ht⟩, hb⟩, hs⟩, hl⟩, hp⟩, hc⟩, hr⟩, hg⟩ := h
    refine ⟨hi, ⟨ht, hb⟩, hs, hl, hp, hc, hr, hg.imp_right fun h => ?_⟩
    simpa using h
  · rintro ⟨hi, ⟨ht, hb⟩, hs, hl, hp, hc, hr, hg⟩
    have hi := idleDrive_iff.mpr hi
    simp_all [State.calm]

/-! ## Reactions -/

/-- The reactions of the disk, the heads and the latch, which no command, work or eject is part of. -/
def mechanical : List (State → Option State) :=
  [reactOwnUnload, reactStopCheck, reactRelease, reactBrake, reactStart, reactLoad]

theorem react_of_idle {s : State} (h : s.Idle) : react s = mechanical.findSome? fun r => r s := by
  obtain ⟨hq, hj, he, hw, hd, hx, ho, hr, hg, hs⟩ := h
  have hex : s.executing = none := by simp [State.executing, hq]
  have hjr : (s.job == .ready) = false := by rw [hj]; rfl
  simp [react, rules, mechanical, List.findSome?_cons, hs, reactFlight, reactRecordLost, State.recordOpLost,
    reactEjecting, reactStopped, reactParked, reactEjectParked, reactWorkCut, reactEnd, reactWork, reactReadDue,
    reactReached, reactRecordSeek, reactRecordSlot, reactEngine, reactDrain, reactDown, Downs.stepOf, reactEject,
    reactBegin, reactStranded, reactReady, reactTransfer, guarded, hq, hj, he, hw, hd, hx, ho, hr, hg, hex,
    Engine.none]

theorem react_of_calm {s : State} (h : s.Calm) : react s = none := by
  have hg : (s.spc.state != .atSpeed && (s.pos.state == .loading || s.pos.state.flying)) = false := by
    rcases h.grounded with hs | hp
    · simp [hs]
    · simp_all
  simp [react_of_idle h.toIdle, mechanical, reactOwnUnload, reactStopCheck, reactRelease, reactBrake,
    reactStart, reactLoad, guarded, hg, h.noStart, h.noLoad, h.noBrake, h.noCheck, h.noRelease]

/-! ## Events -/

theorem commit_of_hosted {s : State} (h : s.Hosted) : s.commit = s := by
  have hr : s.releaseWaiting = s := by simp [State.releaseWaiting, h.inb]
  rw [State.commit, hr, startOutbound_of_turn h.turn]

theorem event_of_quiet {s : State} (h : react s = none) (hh : s.Hosted) : s.event = s := by
  rw [State.event, settle_of_quiet h, commit_of_hosted hh]

theorem event_of_calm {s : State} (h : s.Calm) : s.event = s := event_of_quiet (react_of_calm h) h.toHosted

/-- One state reacts into another in a number of steps. -/
def ReactsIn : Nat → State → State → Prop
  | 0, s, t => t = s
  | n + 1, s, t => ∃ u, react s = some u ∧ ReactsIn n u t

theorem settleN_of_reactsIn {t : State} (hq : react t = none) : ∀ {k : Nat} {s : State} (n : Nat),
    ReactsIn k s t → settleN (k + n) s = t
  | 0, s, n, h => by
    cases h
    cases n with
    | zero => rfl
    | succ n => simp [settleN, hq]
  | k + 1, s, n, ⟨u, hu, h⟩ => by
    rw [Nat.add_right_comm, settleN, hu]
    exact settleN_of_reactsIn hq n h

theorem settle_of_reactsIn {s t : State} {k : Nat} (h : ReactsIn k s t) (hk : k ≤ 200) (hq : react t = none) :
    s.settle = t := by
  have hn := settleN_of_reactsIn hq (200 - k) h
  rwa [Nat.add_sub_cancel' hk] at hn

/-- The last of a chain of reactions is what the event leaves, while the host holds the turn. -/
theorem event_of_reactsIn {s t : State} {k : Nat} (h : ReactsIn k s t) (hk : k ≤ 200) (hq : react t = none)
    (hh : t.Hosted) : s.event = t := by
  rw [State.event, settle_of_reactsIn h hk hq, commit_of_hosted hh]

theorem completes_of_calm {i : Instr} {s m : State} {Q : State → Prop} (h : exec i s = .next m.event)
    (hm : m.Calm) (hQ : Q m) : s.completes i Q :=
  ⟨m, by rw [h, event_of_calm hm], hQ⟩

/-! ## What keeps a drive calm -/

/-- What the calm of a drive depends on, but for the disk and the heads. -/
def State.affairs (s : State) :=
  ((s.queue, s.job, s.endWith, s.work, s.downs), (s.ccu.eject, s.ccu.state, s.ccu.releasePending),
    (s.record.op, s.record.readWanted, s.eng, s.supplyLow), (s.dbi.turn, s.dbi.inb),
    (s.pendingStart, s.pendingLoad, s.spc.brakePending))

theorem State.Idle.of_affairs {s t : State} (h : s.Idle) (e : t.affairs = s.affairs) : t.Idle := by
  simp only [State.affairs, Prod.mk.injEq] at e
  obtain ⟨⟨hq, hj, he, hw, hd⟩, ⟨hx, hc, hr⟩, ⟨ho, hrw, hen, hs⟩, -, -⟩ := e
  exact ⟨hq ▸ h.queue, hj ▸ h.job, he ▸ h.endWith, hw ▸ h.work, hd ▸ h.downs, hx ▸ h.eject, ho ▸ h.op,
    hrw ▸ h.readWanted, hen ▸ h.eng, hs ▸ h.supplied⟩

theorem State.Calm.of_affairs {s t : State} (h : s.Calm) (e : t.affairs = s.affairs)
    (hg : t.spc.state = .atSpeed ∨ ¬(t.pos.state = .loading ∨ t.pos.state.flying = true)) : t.Calm := by
  simp only [State.affairs, Prod.mk.injEq] at e
  obtain ⟨⟨hq, hj, he, hw, hd⟩, ⟨hx, hc, hr⟩, ⟨ho, hrw, hen, hs⟩, ⟨ht, hi⟩, hst, hl, hb⟩ := e
  exact ⟨⟨hq ▸ h.queue, hj ▸ h.job, he ▸ h.endWith, hw ▸ h.work, hd ▸ h.downs, hx ▸ h.eject, ho ▸ h.op,
    hrw ▸ h.readWanted, hen ▸ h.eng, hs ▸ h.supplied⟩, ⟨ht ▸ h.turn, hi ▸ h.inb⟩, hst ▸ h.noStart, hl ▸ h.noLoad,
    hb ▸ h.noBrake, hc ▸ h.noCheck, hr ▸ h.noRelease, hg⟩

/-- The disk and the heads as they were. -/
theorem State.Calm.of_motion {s t : State} (h : s.Calm) (e : t.affairs = s.affairs) (hm : t.motion = s.motion) :
    t.Calm := by
  obtain ⟨hs, hp⟩ := motion_eq_iff.mp hm
  exact h.of_affairs e (by rw [hs, hp]; exact h.grounded)

theorem PerKind.any_set {α : Type} {p : α → Bool} {m : PerKind α} {k : FaultKind} {v : α}
    (h : p v = p (m.get k)) : (m.set k v).any p = m.any p := by
  cases k <;> simp only [PerKind.get] at h <;> simp [PerKind.any, FaultKind.all, PerKind.set, PerKind.get, h]

theorem PerKind.any_map {α β : Type} (p : β → Bool) (f : α → β) (m : PerKind α) :
    (m.map f).any p = m.any fun x => p (f x) := by
  simp [PerKind.any]

section Frames

variable (s : State)

@[simp] theorem State.onSpc_affairs {f : Spindle → Spindle} (hb : (f s.spc).brakePending = s.spc.brakePending)
    (hw : (f s.spc).startByWork = s.spc.startByWork) : (s.onSpc f).affairs = s.affairs := by
  simp [State.affairs, State.pendingStart, State.pendingLoad, hb, hw]

@[simp] theorem State.onPos_affairs {f : Positioner → Positioner}
    (hw : (f s.pos).loadByWork = s.pos.loadByWork) : (s.onPos f).affairs = s.affairs := by
  simp [State.affairs, State.pendingStart, State.pendingLoad, hw]

@[simp] theorem State.onCcu_affairs {f : Cartridge → Cartridge} (he : (f s.ccu).eject = s.ccu.eject)
    (hs : (f s.ccu).state = s.ccu.state) (hr : (f s.ccu).releasePending = s.ccu.releasePending) :
    (s.onCcu f).affairs = s.affairs := by
  simp [State.affairs, State.pendingStart, State.pendingLoad, he, hs, hr]

@[simp] theorem State.onAtc_affairs (f : Attention → Attention) : (s.onAtc f).affairs = s.affairs := rfl
@[simp] theorem State.onCounters_affairs (f : Counters → Counters) : (s.onCounters f).affairs = s.affairs := rfl
@[simp] theorem State.onTbs_affairs (f : TableStore → TableStore) : (s.onTbs f).affairs = s.affairs := rfl
@[simp] theorem State.setSlots_affairs (l : List Slot) : (s.setSlots l).affairs = s.affairs := rfl
@[simp] theorem State.request_affairs (x : Source) : (s.request x).affairs = s.affairs := rfl
@[simp] theorem State.countDrop_affairs : s.countDrop.affairs = s.affairs := rfl
@[simp] theorem State.countSeek_affairs : s.countSeek.affairs = s.affairs := rfl
@[simp] theorem State.countTrackSlip_affairs : s.countTrackSlip.affairs = s.affairs := rfl

@[simp] theorem State.onFsv_affairs {f : Supervisor → Supervisor}
    (hs : (f s.fsv).kinds.any KindStatus.wantsStart = s.fsv.kinds.any KindStatus.wantsStart)
    (hl : (f s.fsv).kinds.any KindStatus.wantsLoad = s.fsv.kinds.any KindStatus.wantsLoad) :
    (s.onFsv f).affairs = s.affairs := by
  simp [State.affairs, State.pendingStart, State.pendingLoad, hs, hl]

@[simp] theorem State.onKind_affairs {k : FaultKind} {f : KindStatus → KindStatus}
    (hs : (f (s.fsv.kinds.get k)).wantsStart = (s.fsv.kinds.get k).wantsStart)
    (hl : (f (s.fsv.kinds.get k)).wantsLoad = (s.fsv.kinds.get k).wantsLoad) :
    (s.onKind k f).affairs = s.affairs :=
  s.onFsv_affairs (PerKind.any_set hs) (PerKind.any_set hl)

@[simp] theorem State.onRecord_affairs (k : FaultKind) (f : FaultRecord → FaultRecord) :
    (s.onRecord k f).affairs = s.affairs := rfl

@[simp] theorem State.absent_affairs (k : FaultKind) : (s.absent k).affairs = s.affairs :=
  s.onKind_affairs rfl rfl

@[simp] theorem State.nowPresent_affairs (k : FaultKind) : (s.nowPresent k).affairs = s.affairs :=
  s.onKind_affairs rfl rfl

@[simp] theorem State.elapse_affairs (n : Nat) : (s.elapse n).affairs = s.affairs := rfl

theorem foldl_affairs {α : Type} {f : State → α → State} (h : ∀ s a, (f s a).affairs = s.affairs)
    (l : List α) : (l.foldl f s).affairs = s.affairs := by
  induction l generalizing s with
  | nil => rfl
  | cons a l ih => exact (ih _).trans (h s a)

@[simp] theorem State.absents_affairs (l : List FaultKind) : (s.absents l).affairs = s.affairs :=
  foldl_affairs s (fun s k => s.absent_affairs k) l

@[simp] theorem State.beginWatch_affairs (k : FaultKind) : (s.beginWatch k).affairs = s.affairs := by
  unfold State.beginWatch
  dsimp only
  split
  · exact s.onKind_affairs rfl rfl
  · rfl

@[simp] theorem State.successPoint_affairs (spindle : Bool) : (s.successPoint spindle).affairs = s.affairs :=
  foldl_affairs s (fun s k => s.beginWatch_affairs k) _

@[simp] theorem State.takeTables_affairs : s.takeTables.affairs = s.affairs := by
  rcases takeTables_cases s with h | ⟨-, -, -, h⟩ <;> rw [h]
  rfl

@[simp] theorem State.recovers_affairs (k : FaultKind) : (s.recovers k).affairs = s.affairs := by
  simp [State.recovers]

@[simp] theorem State.countWatch_affairs (k : FaultKind) : (s.countWatch k).affairs = s.affairs := by
  unfold State.countWatch
  dsimp only
  split
  · rfl
  · split
    · rfl
    · split
      · exact s.recovers_affairs k
      · exact s.onKind_affairs rfl rfl

@[simp] theorem State.countWatches_affairs (l : List FaultKind) : (s.countWatches l).affairs = s.affairs :=
  foldl_affairs s (fun s k => s.countWatch_affairs k) l

end Frames

/-! ## The host's side -/

/-- What `keepsHost` compares. -/
def State.hostSide (s : State) :=
  ((s.dbi, s.queue, s.job, s.eng, s.slots), (s.tbs, s.record, s.pending, s.supplyLow))

theorem keepsHost_of_hostSide {s t : State} (h : t.hostSide = s.hostSide) : s.keepsHost t := by
  simp only [State.hostSide, Prod.mk.injEq] at h
  obtain ⟨⟨hd, hq, hj, he, hs⟩, ht, hr, hp, hl⟩ := h
  exact ⟨hd, hq, hj, he, hs, ht, hr, hp, hl⟩

section Frames

variable (s : State)

@[simp] theorem State.onSpc_hostSide (f : Spindle → Spindle) : (s.onSpc f).hostSide = s.hostSide := rfl
@[simp] theorem State.onPos_hostSide (f : Positioner → Positioner) : (s.onPos f).hostSide = s.hostSide := rfl
@[simp] theorem State.onCcu_hostSide (f : Cartridge → Cartridge) : (s.onCcu f).hostSide = s.hostSide := rfl
@[simp] theorem State.onFsv_hostSide (f : Supervisor → Supervisor) : (s.onFsv f).hostSide = s.hostSide := rfl
@[simp] theorem State.onAtc_hostSide (f : Attention → Attention) : (s.onAtc f).hostSide = s.hostSide := rfl
@[simp] theorem State.onCounters_hostSide (f : Counters → Counters) : (s.onCounters f).hostSide = s.hostSide := rfl
@[simp] theorem State.onKind_hostSide (k : FaultKind) (f : KindStatus → KindStatus) :
    (s.onKind k f).hostSide = s.hostSide := rfl
@[simp] theorem State.onRecord_hostSide (k : FaultKind) (f : FaultRecord → FaultRecord) :
    (s.onRecord k f).hostSide = s.hostSide := rfl
@[simp] theorem State.absent_hostSide (k : FaultKind) : (s.absent k).hostSide = s.hostSide := rfl
@[simp] theorem State.nowPresent_hostSide (k : FaultKind) : (s.nowPresent k).hostSide = s.hostSide := rfl
@[simp] theorem State.request_hostSide (x : Source) : (s.request x).hostSide = s.hostSide := rfl
@[simp] theorem State.elapse_hostSide (n : Nat) : (s.elapse n).hostSide = s.hostSide := rfl
@[simp] theorem State.recovers_hostSide (k : FaultKind) : (s.recovers k).hostSide = s.hostSide := rfl

theorem foldl_hostSide {α : Type} {f : State → α → State} (h : ∀ s a, (f s a).hostSide = s.hostSide)
    (l : List α) : (l.foldl f s).hostSide = s.hostSide := by
  induction l generalizing s with
  | nil => rfl
  | cons a l ih => exact (ih _).trans (h s a)

@[simp] theorem State.absents_hostSide (l : List FaultKind) : (s.absents l).hostSide = s.hostSide :=
  foldl_hostSide s (fun s k => s.absent_hostSide k) l

@[simp] theorem State.beginWatch_hostSide (k : FaultKind) : (s.beginWatch k).hostSide = s.hostSide := by
  unfold State.beginWatch
  dsimp only
  split <;> rfl

@[simp] theorem State.successPoint_hostSide (spindle : Bool) : (s.successPoint spindle).hostSide = s.hostSide :=
  foldl_hostSide s (fun s k => s.beginWatch_hostSide k) _

end Frames

/-! ## What is kept for a kind alone changes -/

section Frames

variable (s : State)

@[simp] theorem State.onKind_spc (k : FaultKind) (f : KindStatus → KindStatus) : (s.onKind k f).spc = s.spc := rfl
@[simp] theorem State.onKind_pos (k : FaultKind) (f : KindStatus → KindStatus) : (s.onKind k f).pos = s.pos := rfl
@[simp] theorem State.onKind_ccu (k : FaultKind) (f : KindStatus → KindStatus) : (s.onKind k f).ccu = s.ccu := rfl
@[simp] theorem State.onKind_atc (k : FaultKind) (f : KindStatus → KindStatus) : (s.onKind k f).atc = s.atc := rfl
@[simp] theorem State.onKind_counters (k : FaultKind) (f : KindStatus → KindStatus) : (s.onKind k f).counters = s.counters := rfl
@[simp] theorem State.onKind_tbs (k : FaultKind) (f : KindStatus → KindStatus) : (s.onKind k f).tbs = s.tbs := rfl
@[simp] theorem State.onKind_records (k : FaultKind) (f : KindStatus → KindStatus) : (s.onKind k f).fsv.records = s.fsv.records := rfl

@[simp] theorem State.absent_records (k : FaultKind) : (s.absent k).fsv.records = s.fsv.records := rfl

@[simp] theorem State.nowPresent_records (k : FaultKind) : (s.nowPresent k).fsv.records = s.fsv.records := rfl

@[simp] theorem State.endRetry_spc (k : FaultKind) : (s.endRetry k).spc = s.spc := rfl
@[simp] theorem State.endRetry_pos (k : FaultKind) : (s.endRetry k).pos = s.pos := rfl
@[simp] theorem State.endRetry_ccu (k : FaultKind) : (s.endRetry k).ccu = s.ccu := rfl
@[simp] theorem State.endRetry_atc (k : FaultKind) : (s.endRetry k).atc = s.atc := rfl
@[simp] theorem State.endRetry_counters (k : FaultKind) : (s.endRetry k).counters = s.counters := rfl
@[simp] theorem State.endRetry_tbs (k : FaultKind) : (s.endRetry k).tbs = s.tbs := rfl
@[simp] theorem State.endRetry_records (k : FaultKind) : (s.endRetry k).fsv.records = s.fsv.records := rfl

@[simp] theorem State.startDelay_spc (k : FaultKind) (r : FaultRow) : (s.startDelay k r).spc = s.spc := rfl
@[simp] theorem State.startDelay_pos (k : FaultKind) (r : FaultRow) : (s.startDelay k r).pos = s.pos := rfl
@[simp] theorem State.startDelay_ccu (k : FaultKind) (r : FaultRow) : (s.startDelay k r).ccu = s.ccu := rfl
@[simp] theorem State.startDelay_atc (k : FaultKind) (r : FaultRow) : (s.startDelay k r).atc = s.atc := rfl
@[simp] theorem State.startDelay_counters (k : FaultKind) (r : FaultRow) : (s.startDelay k r).counters = s.counters := rfl
@[simp] theorem State.startDelay_tbs (k : FaultKind) (r : FaultRow) : (s.startDelay k r).tbs = s.tbs := rfl
@[simp] theorem State.startDelay_records (k : FaultKind) (r : FaultRow) : (s.startDelay k r).fsv.records = s.fsv.records := rfl

@[simp] theorem State.cancelRestarts_spc : s.cancelRestarts.spc = s.spc := rfl
@[simp] theorem State.cancelRestarts_pos : s.cancelRestarts.pos = s.pos := rfl
@[simp] theorem State.cancelRestarts_ccu : s.cancelRestarts.ccu = s.ccu := rfl
@[simp] theorem State.cancelRestarts_atc : s.cancelRestarts.atc = s.atc := rfl
@[simp] theorem State.cancelRestarts_counters : s.cancelRestarts.counters = s.counters := rfl
@[simp] theorem State.cancelRestarts_tbs : s.cancelRestarts.tbs = s.tbs := rfl
@[simp] theorem State.cancelRestarts_records : s.cancelRestarts.fsv.records = s.fsv.records := rfl

end Frames

/-! ## Time passes -/

section Frames

variable (s : State)

@[simp] theorem State.elapse_pending (n : Nat) : (s.elapse n).pending = s.pending := rfl
@[simp] theorem State.elapse_dbi (n : Nat) : (s.elapse n).dbi = s.dbi := rfl
@[simp] theorem State.elapse_queue (n : Nat) : (s.elapse n).queue = s.queue := rfl
@[simp] theorem State.elapse_job (n : Nat) : (s.elapse n).job = s.job := rfl
@[simp] theorem State.elapse_endWith (n : Nat) : (s.elapse n).endWith = s.endWith := rfl
@[simp] theorem State.elapse_eng (n : Nat) : (s.elapse n).eng = s.eng := rfl
@[simp] theorem State.elapse_slots (n : Nat) : (s.elapse n).slots = s.slots := rfl
@[simp] theorem State.elapse_work (n : Nat) : (s.elapse n).work = s.work := rfl
@[simp] theorem State.elapse_downs (n : Nat) : (s.elapse n).downs = s.downs := rfl
@[simp] theorem State.elapse_record (n : Nat) : (s.elapse n).record = s.record := rfl
@[simp] theorem State.elapse_fsv (n : Nat) : (s.elapse n).fsv = s.fsv := rfl
@[simp] theorem State.elapse_tbs (n : Nat) : (s.elapse n).tbs = s.tbs := rfl
@[simp] theorem State.elapse_counters (n : Nat) : (s.elapse n).counters = s.counters := rfl
@[simp] theorem State.elapse_atc (n : Nat) : (s.elapse n).atc = s.atc := rfl
@[simp] theorem State.elapse_supplyLow (n : Nat) : (s.elapse n).supplyLow = s.supplyLow := rfl

/-- The heads' own timers advance. -/
theorem State.elapse_heads (n : Nat) : (s.elapse n).pos = { s.pos with
    unloadWatch := s.pos.unloadWatch.map (Timer.tick n)
    retractWindow := s.pos.retractWindow.map (Timer.tick n) } := rfl

/-- The eject window advances. -/
theorem State.elapse_cartridge (n : Nat) : (s.elapse n).ccu = { s.ccu with
    ejectWindow := s.ccu.ejectWindow.map (Timer.tick n) } := rfl

/-- The disk's own timers advance. -/
theorem State.elapse_disk (n : Nat) : (s.elapse n).spc = { s.spc with
    revTimer := s.spc.revTimer + n
    standbyElapsed := if s.standbyCounts then s.spc.standbyElapsed + n else s.spc.standbyElapsed
    firstIndexWatch := s.spc.firstIndexWatch.map (Timer.tick n)
    spinUpTimer := s.spc.spinUpTimer.map (Timer.tick n)
    lostIndexWatch := s.spc.lostIndexWatch.map (Timer.tick n)
    stopWindow := s.spc.stopWindow.map (Timer.tick n)
    boundaryTicks := if s.spc.state == .stopped then s.spc.boundaryTicks + n else s.spc.boundaryTicks
    wedgeWait := s.spc.wedgeWait - n } := rfl

end Frames

/-! ## A fault meets an idle drive -/

section

variable {s : State} (h : s.Idle)
include h

theorem State.Idle.onSpc (f : Spindle → Spindle) : (s.onSpc f).Idle := { h with }
theorem State.Idle.onPos (f : Positioner → Positioner) : (s.onPos f).Idle := { h with }
theorem State.Idle.onFsv (f : Supervisor → Supervisor) : (s.onFsv f).Idle := { h with }
theorem State.Idle.onAtc (f : Attention → Attention) : (s.onAtc f).Idle := { h with }
theorem State.Idle.onCounters (f : Counters → Counters) : (s.onCounters f).Idle := { h with }
theorem State.Idle.elapse (n : Nat) : (s.elapse n).Idle := { h with }

theorem State.Idle.onKind (k : FaultKind) (f : KindStatus → KindStatus) : (s.onKind k f).Idle := { h with }
theorem State.Idle.absent (k : FaultKind) : (s.absent k).Idle := { h with }

theorem State.Idle.absents (l : List FaultKind) : (s.absents l).Idle := by
  induction l generalizing s with
  | nil => exact h
  | cons k l ih => exact ih (h.absent k)

theorem State.Idle.leavePowered (st : SpindleState) (brake : Bool) (d : StopDemand) :
    (s.leavePowered st brake d).Idle := (h.onSpc _).absents _

theorem State.Idle.cancelRestarts : s.cancelRestarts.Idle := h.onFsv _

theorem State.Idle.withdrawLoads : s.withdrawLoads.Idle := (h.onPos _).onFsv _

end

/-- No work, no command and no record operation meets a fault in an idle drive. -/
theorem meetFault_of_idle {s : State} (h : s.Idle) (reaches : Bool) : s.meetFault reaches = s := by
  simp [State.meetFault, h.supplied, State.recordOpLost, h.op, State.workMeetsFault, h.work,
    State.headMeetsFault, h.job, State.downsMeetFault, h.downs]

theorem PerKind.any_eq_false {α : Type} {p : α → Bool} {m : PerKind α} :
    m.any p = false ↔ ∀ k, p (m.get k) = false := by
  constructor
  · intro h k
    simp only [PerKind.any, List.any_eq_false, Bool.not_eq_true] at h
    exact h k (by cases k <;> decide)
  · intro h
    simp [PerKind.any, h]

/-! ## Changes that keep a drive calm -/

section

variable {s : State} (h : s.Calm)
include h

/-- No restart waits for a start or a load. -/
theorem State.Calm.wants (k : FaultKind) :
    (s.fsv.kinds.get k).wantsStart = false ∧ (s.fsv.kinds.get k).wantsLoad = false := by
  have hs := h.noStart
  have hl := h.noLoad
  simp only [State.pendingStart, State.pendingLoad, Bool.or_eq_false_iff, PerKind.any_eq_false] at hs hl
  exact ⟨hs.2 k, hl.2 k⟩

/-- A change of the Spindle Controller that starts and brakes nothing. -/
theorem State.Calm.onSpc {f : Spindle → Spindle} (hb : (f s.spc).brakePending = false)
    (hw : (f s.spc).startByWork = s.spc.startByWork)
    (hg : (f s.spc).state = .atSpeed ∨ ¬(s.pos.state = .loading ∨ s.pos.state.flying = true)) :
    (s.onSpc f).Calm :=
  h.of_affairs (s.onSpc_affairs (hb.trans h.noBrake.symm) hw) hg

/-- A change of the Positioner that asks for no load. -/
theorem State.Calm.onPos {f : Positioner → Positioner} (hw : (f s.pos).loadByWork = s.pos.loadByWork)
    (hg : s.spc.state = .atSpeed ∨ ¬((f s.pos).state = .loading ∨ (f s.pos).state.flying = true)) :
    (s.onPos f).Calm :=
  h.of_affairs (s.onPos_affairs hw) hg

/-- A change of the Fault Supervisor after which no restart waits. -/
theorem State.Calm.onFsv {f : Supervisor → Supervisor}
    (hk : ∀ k, ((f s.fsv).kinds.get k).wantsStart = false ∧ ((f s.fsv).kinds.get k).wantsLoad = false) :
    (s.onFsv f).Calm := by
  have hs := h.noStart
  have hl := h.noLoad
  simp only [State.pendingStart, State.pendingLoad, Bool.or_eq_false_iff] at hs hl
  have hks := PerKind.any_eq_false.mpr fun k => (hk k).1
  have hkl := PerKind.any_eq_false.mpr fun k => (hk k).2
  refine h.of_motion (s.onFsv_affairs ?_ ?_) rfl
  · rw [hs.2]
    exact hks
  · rw [hl.2]
    exact hkl

theorem State.Calm.onKind {k : FaultKind} {f : KindStatus → KindStatus}
    (hs : (f (s.fsv.kinds.get k)).wantsStart = false) (hl : (f (s.fsv.kinds.get k)).wantsLoad = false) :
    (s.onKind k f).Calm := by
  refine h.onFsv fun j => ?_
  by_cases hj : j = k
  · subst hj
    simp [hs, hl]
  · simp [PerKind.get_set_ne _ hj, h.wants j]

theorem State.Calm.absent (k : FaultKind) : (s.absent k).Calm := h.onKind (h.wants k).1 (h.wants k).2

theorem State.Calm.absents (l : List FaultKind) : (s.absents l).Calm :=
  h.of_motion (s.absents_affairs l) (s.absents_motion l)

theorem State.Calm.nowPresent (k : FaultKind) : (s.nowPresent k).Calm := h.onKind (h.wants k).1 (h.wants k).2

theorem State.Calm.onAtc (f : Attention → Attention) : (s.onAtc f).Calm := h.of_motion rfl rfl

theorem State.Calm.onCounters (f : Counters → Counters) : (s.onCounters f).Calm := h.of_motion rfl rfl

theorem State.Calm.elapse (n : Nat) : (s.elapse n).Calm :=
  h.of_motion (s.elapse_affairs n) (s.elapse_motion n)

theorem State.Calm.endRetry (k : FaultKind) : (s.endRetry k).Calm := h.onKind rfl rfl

theorem State.Calm.startDelay (k : FaultKind) (r : FaultRow) : (s.startDelay k r).Calm := h.onKind rfl rfl

theorem State.Calm.cancelRestarts : s.cancelRestarts.Calm := h.onFsv fun k => by simp

theorem State.Calm.withdrawLoads : s.withdrawLoads.Calm := by
  have hl := h.noLoad
  simp only [State.pendingLoad, Bool.or_eq_false_iff] at hl
  exact (h.onPos hl.1.symm h.grounded).onFsv fun k => by simpa using (h.wants k).1

/-- A disk whose drive goes off, with no brake pending. -/
theorem State.Calm.leavePowered (st : SpindleState) (d : StopDemand)
    (hp : ¬(s.pos.state = .loading ∨ s.pos.state.flying = true)) : (s.leavePowered st false d).Calm :=
  State.Calm.absents (h.onSpc rfl rfl (.inr hp)) _

end

/-! ## Operations of the Fault Supervisor alone -/

/-- Nothing but what the Fault Supervisor keeps differs. -/
def State.OnlyFsv (s t : State) : Prop := t = { s with fsv := t.fsv }

theorem State.OnlyFsv.refl (s : State) : s.OnlyFsv s := rfl

theorem State.OnlyFsv.trans {s t u : State} (h : s.OnlyFsv t) (h' : t.OnlyFsv u) : s.OnlyFsv u := by
  unfold State.OnlyFsv at *
  rw [h', h]

theorem onFsv_onlyFsv (f : Supervisor → Supervisor) (s : State) : s.OnlyFsv (s.onFsv f) := rfl

theorem State.OnlyFsv.foldl {α : Type} {f : State → α → State} (h : ∀ (s : State) a, s.OnlyFsv (f s a)) (l : List α)
    (s : State) : s.OnlyFsv (l.foldl f s) := by
  induction l generalizing s with
  | nil => exact .refl s
  | cons a l ih => exact (h s a).trans (ih _)

theorem absents_onlyFsv (l : List FaultKind) (s : State) : s.OnlyFsv (s.absents l) :=
  .foldl (f := fun t k => t.absent k) (fun _ _ => rfl) l s

theorem beginWatch_onlyFsv (k : FaultKind) (s : State) : s.OnlyFsv (s.beginWatch k) := by
  unfold State.beginWatch
  dsimp only
  split
  · exact onFsv_onlyFsv _ s
  · exact .refl s

theorem successPoint_onlyFsv (spindle : Bool) (s : State) : s.OnlyFsv (s.successPoint spindle) :=
  .foldl (fun s k => beginWatch_onlyFsv k s) _ s

section

variable {s t : State} (h : s.OnlyFsv t)
include h

theorem State.OnlyFsv.spc : t.spc = s.spc := by rw [h]
theorem State.OnlyFsv.pos : t.pos = s.pos := by rw [h]
theorem State.OnlyFsv.ccu : t.ccu = s.ccu := by rw [h]
theorem State.OnlyFsv.atc : t.atc = s.atc := by rw [h]
theorem State.OnlyFsv.counters : t.counters = s.counters := by rw [h]
theorem State.OnlyFsv.hostSide : t.hostSide = s.hostSide := by
  rw [h]
  rfl
theorem State.OnlyFsv.motion : t.motion = s.motion := by
  rw [h]
  rfl

end

end Sys2Proof.Machine
end

section
/-! The slip stage, counted: what stands below its result is the positions before it and the listed slots. -/

namespace Sys2Proof.Machine

/-- One number fewer passes a test that leaves out a number that passed it. -/
theorem length_filter_range_without {p : Nat → Bool} {a n : Nat} (ha : a < n) (hp : p a = true) :
    ((List.range n).filter fun x => p x && x != a).length + 1 = ((List.range n).filter p).length := by
  have hmem : a ∈ (List.range n).filter p := List.mem_filter.mpr ⟨List.mem_range.mpr ha, hp⟩
  have hnd : ((List.range n).filter p).Nodup := List.nodup_range.filter _
  have herase : ((List.range n).filter fun x => p x && x != a) = ((List.range n).filter p).erase a := by
    rw [hnd.erase_eq_filter, List.filter_filter]
    exact List.filter_congr fun x _ => Bool.and_comm _ _
  have hlen := List.length_erase_of_mem hmem
  have hpos := List.length_pos_of_mem hmem
  rw [herase]
  omega

/-- The slots below the result of ascending slip entries that none of them lists are as many as the position
says (R23). -/
theorem length_unlisted_foldl_passSlip (es : List SlipEntry) (h : es.Pairwise fun a b => a.slot < b.slot) :
    ∀ k, ((List.range (es.foldl passSlip k)).filter fun x => !es.any fun e => e.slot == x).length = k := by
  induction es with
  | nil =>
    intro k
    exact (congrArg List.length (List.filter_eq_self.mpr fun _ _ => rfl)).trans List.length_range
  | cons e es ih =>
    intro k
    have hlater : ∀ g ∈ es, e.slot < g.slot := fun g hg => List.rel_of_pairwise_cons h hg
    have hsplit : (fun x => !(e :: es).any fun g => g.slot == x) =
        fun x => (!es.any fun g => g.slot == x) && x != e.slot := by
      funext x
      rw [List.any_cons, Bool.not_or, Bool.and_comm, bne, BEq.comm]
    rw [List.foldl_cons, hsplit]
    by_cases hk : e.slot ≤ k
    · have hpass : passSlip k e = k + 1 := if_pos hk
      have hbelow : e.slot < es.foldl passSlip (k + 1) := by
        have := (foldl_passSlip_bounds es (k + 1)).1
        omega
      have hfree : (!es.any fun g => g.slot == e.slot) = true := by
        simp only [Bool.not_eq_true', List.any_eq_false, beq_iff_eq]
        exact fun g hg => Nat.ne_of_gt (hlater g hg)
      have hrest := ih h.of_cons (k + 1)
      have hone := length_filter_range_without (p := fun x => !es.any fun g => g.slot == x) hbelow hfree
      rw [hpass]
      omega
    · have hlt : k < e.slot := Nat.lt_of_not_le hk
      have hstay : es.foldl passSlip k = k :=
        foldl_passSlip_of_lt es fun g hg => Nat.lt_trans hlt (hlater g hg)
      have hrest := ih h.of_cons k
      rw [passSlip_of_lt hlt]
      rw [hstay] at hrest ⊢
      refine Eq.trans (congrArg List.length (List.filter_congr fun x hx => ?_)) hrest
      have hx : x < k := List.mem_range.mp hx
      have hne : (x != e.slot) = true := by
        rw [bne_iff_ne]
        omega
      rw [hne, Bool.and_true]

/-- Settles O20: the entries of the cylinder ascend, so each listed slot that the position passes adds one. -/
theorem slipStage_spec : Obligations.SlipStage := by
  intro img d k z himg hz _ hk
  have hsorted := himg.slips_sorted d
  have hlen := himg.slips_length_le hz
  have hle := (foldl_passSlip_bounds (img.slips.filter fun e => e.cylinder == d) k).2
  have hlisted : ∀ x, ((img.slips.filter fun e => e.cylinder == d).any fun e => e.slot == x) =
      img.slips.any fun e => e.cylinder == d && e.slot == x := fun _ => List.any_filter
  refine ⟨?_, ?_, ?_⟩
  · rw [slipStage_eq_foldl]
    unfold Zone.lpc at hk
    omega
  · simp only [List.any_eq_false, Bool.and_eq_true, beq_iff_eq, not_and]
    exact fun e he hd => (himg.slipStage_ne d k he hd).symm
  · have hcount := length_unlisted_foldl_passSlip _ hsorted k
    simp only [hlisted] at hcount
    exact hcount

end Sys2Proof.Machine
end

section
/-! The stop demand and the stop request (R45). -/

namespace Sys2Proof.Machine

theorem combine_eq_coast {old d : StopDemand} : old.combine d = .coast ↔ old = .coast ∨ d = .coast := by
  cases old <;> cases d <;> decide

theorem combine_eq_reverse {old d : StopDemand} (hd : d ≠ .none) :
    old.combine d = .reverse ↔ d = .reverse ∧ (old = .reverse ∨ old = .none) := by
  cases old <;> cases d <;> simp_all [StopDemand.combine]

theorem powered_iff {x : SpindleState} :
    x.powered = true ↔ x = .starting ∨ x = .accelerating ∨ x = .purging ∨ x = .atSpeed := by
  cases x <;> decide

/-- Outside the conditions of the spindle kinds, the drive goes off in the Spindle Controller alone. -/
theorem leavePowered_spc (st : SpindleState) (brake : Bool) (d : StopDemand) (s : State) :
    (s.leavePowered st brake d).spc = { s.spc with
      state := st, demand := d, brakePending := brake, driveAtLimit := false,
      brakeMode := if st == .braking then d.brakeMode else s.spc.brakeMode,
      lockCount := 0, excursionCount := 0, overcurrentCount := 0, noRotationCount := 0,
      spinUpTimeoutCount := 0, lostIndexCount := 0, firstIndexWatch := none, spinUpTimer := none,
      lostIndexWatch := none, stopWindow := s.freshStopWindow } := rfl

/-- A request meets a powered disk (R45, R46): COAST and heads off the ramp let it coast, else it is braked. -/
theorem stopRequest_of_powered {s : State} (h : s.spc.state.powered = true) (d : StopDemand) :
    s.stopRequest d =
      if s.spc.demand.combine d = .coast then s.leavePowered .coasting false (s.spc.demand.combine d)
      else if s.pos.state = .unloaded then s.leavePowered .braking false (s.spc.demand.combine d)
      else s.leavePowered .coasting true (s.spc.demand.combine d) := by
  rcases powered_iff.mp h with h | h | h | h <;> simp [State.stopRequest, h]

theorem stopRequest_of_coasting {s : State} (h : s.spc.state = .coasting) (d : StopDemand) :
    s.stopRequest d = s.onSpc fun p => { p with
      demand := s.spc.demand.combine d,
      brakePending := p.brakePending && s.spc.demand.combine d != .coast } := by
  simp [State.stopRequest, h]

theorem stopRequest_of_braking {s : State} (h : s.spc.state = .braking) (d : StopDemand) :
    s.stopRequest d =
      if s.spc.demand.combine d = .coast then s.onSpc fun p => { p with
        state := .coasting, demand := s.spc.demand.combine d, brakePending := false,
        stopWindow := s.freshStopWindow }
      else s.onSpc fun p => { p with
        demand := s.spc.demand.combine d,
        brakeMode := if s.spc.demand.combine d = .dynamic then .dynamic else p.brakeMode } := by
  simp [State.stopRequest, h]

/-- What a disk that turns does when a request meets it. -/
theorem turning_cases {x : SpindleState} (h : x ≠ .stopped) :
    x.powered = true ∨ x = .coasting ∨ x = .braking := by
  cases x <;> simp_all [SpindleState.powered]

theorem stopRequest_demand {s : State} (h : s.spc.state ≠ .stopped) (d : StopDemand) :
    (s.stopRequest d).spc.demand = s.spc.demand.combine d := by
  rcases turning_cases h with h | h | h
  · rw [stopRequest_of_powered h]
    split
    · rfl
    · split <;> rfl
  · rw [stopRequest_of_coasting h]
    rfl
  · rw [stopRequest_of_braking h]
    split <;> rfl

theorem stopRequest_drive {s : State} (h : s.spc.state ≠ .stopped) (d : StopDemand) :
    (s.stopRequest d).drive = false := by
  rcases turning_cases h with h | h | h
  · rw [stopRequest_of_powered h]
    split
    · rfl
    · split <;> rfl
  · rw [stopRequest_of_coasting h, State.drive, State.onSpc_spc, h]
    rfl
  · rw [stopRequest_of_braking h, State.drive]
    split
    · rfl
    · rw [State.onSpc_spc, h]
      rfl

/-- A COAST request lets every turning disk coast, with no brake pending. -/
theorem stopRequest_coast {s : State} (h : s.spc.state ≠ .stopped) :
    (s.stopRequest .coast).spc.state = .coasting ∧ (s.stopRequest .coast).spc.brakePending = false := by
  have hc : s.spc.demand.combine .coast = .coast := combine_eq_coast.mpr (.inr rfl)
  rcases turning_cases h with h | h | h
  · rw [stopRequest_of_powered h, if_pos hc]
    exact ⟨rfl, rfl⟩
  · simp [stopRequest_of_coasting h, h, hc]
  · rw [stopRequest_of_braking h, if_pos hc]
    exact ⟨rfl, rfl⟩

/-- Settles O29. -/
theorem stopDemandCombines : Obligations.StopDemandCombines := by
  intro s d hd hs
  refine ⟨?_, ?_, stopRequest_drive hs d, ?_, ?_⟩
  · rw [stopRequest_demand hs]
    exact combine_eq_coast
  · rw [stopRequest_demand hs]
    exact combine_eq_reverse hd
  · intro hp hdc hold
    have hc : ¬ s.spc.demand.combine d = .coast := fun h => (combine_eq_coast.mp h).elim hold hdc
    rw [stopRequest_of_powered hp, if_neg hc]
    by_cases hu : s.pos.state = .unloaded
    · rw [if_pos hu, if_pos hu, hu]
      exact ⟨rfl, rfl⟩
    · rw [if_neg hu, if_neg hu, beq_false_of_ne hu]
      exact ⟨rfl, rfl⟩
  · rintro rfl
    exact stopRequest_coast hs

end Sys2Proof.Machine
end

section
/-! The spindle's events in a calm drive: the timed watches, the wedge time, the stopped boundary, the purge, the
end of a braking. -/

namespace Sys2Proof.Machine

/-! ## Observations -/

/-- One observation below the deglitch count is counted and no more (R34). -/
theorem observe_below {s : State} {k : FaultKind} {n : Nat} (h : n + 1 < s.deglitch k)
    (put : Nat → Spindle → Spindle) : s.observe k n put = s.onSpc (put (n + 1)) :=
  if_neg (Nat.not_le_of_lt h)

theorem observe_reached {s : State} {k : FaultKind} {n : Nat} (h : s.deglitch k ≤ n + 1)
    (put : Nat → Spindle → Spindle) : s.observe k n put = (s.onSpc (put 0)).recognise k none :=
  if_pos h

/-- A running timer's expiry acts after the ticks left to it. -/
theorem expire_of_some {t : Option Timer} {x : Timer} (h : t = some x) (act : State → State) (s : State) :
    s.expire t act = (act (s.elapse x.left)).event := by
  rw [h]
  rfl

/-! ## A fault with a COAST action -/

/-- The fault list after a recognition that latches a kind without a record. -/
theorem putRecord_of_none {s : State} {k : FaultKind} (h : s.recordOf k = none) (sub : Option SubCause)
    (st : FaultState) (retries : Nat) (kept : Option FaultRow) :
    s.putRecord k sub st retries kept =
      s.onFsv fun v => { v with records := v.records ++ [s.newRecord k sub st kept] } := by
  simp [State.putRecord, h]

/-- A recognition under LATCH of a kind without a record (R145). -/
theorem recognise_latch {s : State} {k : FaultKind} (h : s.recordOf k = none)
    (hm : (s.activeRow k).mode = .latch) (sub : Option SubCause) :
    s.recognise k sub = (s.nowPresent k).latchFault k sub 0 (s.activeRow k) := by
  have h' : (s.nowPresent k).recordOf k = none := h
  simp [State.recognise, h', hm]

/-- The action of a row that only stops the spindle, over heads on the ramp in an idle drive (R147). -/
theorem act_coast {s : State} (hi : s.Idle) (hp : s.spc.state.powered = true) (hu : s.pos.state = .unloaded)
    {r : FaultRow} (hc : r.spindle = .coast) (hn : r.positioner = .none) (k : FaultKind) (latched : Bool) :
    s.act k r latched = (s.cancelRestarts.leavePowered .coasting false .coast).withdrawLoads := by
  have hreach : r.reaches = true := by simp [FaultRow.reaches, hc]
  have hcoast : s.spc.demand.combine .coast = .coast := combine_eq_coast.mpr (.inr rfl)
  have hspin : s.cancelRestarts.spindleAction r = s.cancelRestarts.leavePowered .coasting false .coast := by
    have hstop : s.cancelRestarts.stopRequest .coast = s.cancelRestarts.leavePowered .coasting false .coast := by
      rw [stopRequest_of_powered (s := s.cancelRestarts) hp, show s.cancelRestarts.spc = s.spc from rfl, hcoast,
        if_pos rfl]
    simp [State.spindleAction, hc, SpindleAction.demand, hstop]
  have hhead : (s.cancelRestarts.leavePowered .coasting false .coast).positionerAction k r =
      (s.cancelRestarts.leavePowered .coasting false .coast).withdrawLoads := by
    have hu' : (s.cancelRestarts.leavePowered .coasting false .coast).withdrawLoads.pos.state = .unloaded := hu
    simp [State.positionerAction, hn, hc, State.unloadRequest, State.beginUnload, hu']
  have heject : (s.cancelRestarts.leavePowered .coasting false .coast).withdrawLoads.ejectRetracts k =
      (s.cancelRestarts.leavePowered .coasting false .coast).withdrawLoads := by
    have he : (s.cancelRestarts.leavePowered .coasting false .coast).withdrawLoads.ccu.eject = none := hi.eject
    simp [State.ejectRetracts, he]
  have hidle : (s.cancelRestarts.leavePowered .coasting false .coast).withdrawLoads.Idle :=
    (hi.cancelRestarts.leavePowered _ _ _).withdrawLoads
  simp only [State.act, hreach, if_true, hspin, hhead, heject, Bool.true_or, meetFault_of_idle hidle]

@[simp] theorem State.leavePowered_records (st : SpindleState) (brake : Bool) (d : StopDemand) (s : State) :
    (s.leavePowered st brake d).fsv.records = s.fsv.records := by
  simp [State.leavePowered, State.absents, spindleKinds, State.absent, State.onKind]

@[simp] theorem State.leavePowered_counters (st : SpindleState) (brake : Bool) (d : StopDemand) (s : State) :
    (s.leavePowered st brake d).counters = s.counters := by
  simp [State.leavePowered, State.absents, spindleKinds, State.absent, State.onKind]

@[simp] theorem State.leavePowered_hostSide (st : SpindleState) (brake : Bool) (d : StopDemand) (s : State) :
    (s.leavePowered st brake d).hostSide = s.hostSide := by
  simp [State.leavePowered]

@[simp] theorem State.cancelRestarts_hostSide (s : State) : s.cancelRestarts.hostSide = s.hostSide := rfl
@[simp] theorem State.withdrawLoads_hostSide (s : State) : s.withdrawLoads.hostSide = s.hostSide := rfl

/-- A kind without a record is latched by a row that stops the disk with COAST, over heads on the ramp
(R145, R147). -/
def State.stopsFor (k : FaultKind) (r : FaultRow) (s : State) : State :=
  ((((s.nowPresent k).onFsv fun v => { v with
    records := v.records ++ [s.newRecord k none .latched (some r)] }).endRetry k).cancelRestarts.leavePowered
      .coasting false .coast).withdrawLoads

theorem recognise_latch_coast {s : State} (hi : s.Idle) (hp : s.spc.state.powered = true)
    (hu : s.pos.state = .unloaded) {k : FaultKind} (h : s.recordOf k = none) {r : FaultRow}
    (hrow : s.activeRow k = r) (hm : r.mode = .latch) (hc : r.spindle = .coast) (hn : r.positioner = .none) :
    s.recognise k none = s.stopsFor k r := by
  subst hrow
  have h' : (s.nowPresent k).recordOf k = none := h
  rw [recognise_latch h hm, State.latchFault, putRecord_of_none h', act_coast _ _ _ hc hn]
  · rfl
  · exact ((hi.onKind k _).onFsv _).onKind k _
  · exact hp
  · exact hu

@[simp] theorem stopsFor_records (k : FaultKind) (r : FaultRow) (s : State) :
    (s.stopsFor k r).fsv.records = s.fsv.records ++ [s.newRecord k none .latched (some r)] := by
  simp [State.stopsFor, State.endRetry, State.onKind, State.nowPresent, State.cancelRestarts, State.withdrawLoads]

/-- Only the disk's own timers, counts and demand change. -/
theorem stopsFor_spc (k : FaultKind) (r : FaultRow) (s : State) :
    (s.stopsFor k r).spc = (s.leavePowered .coasting false .coast).spc := by
  simp [State.stopsFor, State.endRetry, State.onKind, State.nowPresent, State.cancelRestarts, State.withdrawLoads,
    leavePowered_spc, State.freshStopWindow]

theorem stopsFor_hostSide (k : FaultKind) (r : FaultRow) (s : State) :
    (s.stopsFor k r).hostSide = s.hostSide := by
  simp [State.stopsFor, State.endRetry]

theorem stopsFor_counters (k : FaultKind) (r : FaultRow) (s : State) :
    (s.stopsFor k r).counters = s.counters := by
  simp [State.stopsFor, State.endRetry, State.onKind, State.nowPresent, State.cancelRestarts, State.withdrawLoads]

theorem State.Calm.stopsFor {s : State} (h : s.Calm)
    (hp : ¬(s.pos.state = .loading ∨ s.pos.state.flying = true)) (k : FaultKind) (r : FaultRow) :
    (s.stopsFor k r).Calm :=
  ((((h.nowPresent k).onFsv (h.nowPresent k).wants).endRetry k).cancelRestarts.leavePowered _ _ hp).withdrawLoads

/-- A watch of the spindle expires: the timer is armed again and its kind observed (R34). -/
theorem expiry_observes {i : Instr} {s : State} {timer : Option Timer} {x : Timer} {k : FaultKind} {n : Nat}
    {arm : Spindle → Spindle} {put : Nat → Spindle → Spindle} {count : Spindle → Nat} (hx : timer = some x)
    (hexec : exec i s = .next (s.expire timer fun t => (t.onSpc arm).observe k (count t.spc) put))
    (hn : count (s.elapse x.left).spc = n) :
    (n + 1 < s.deglitch k → exec i s = .next ((s.elapse x.left).onSpc fun p => put (n + 1) (arm p)).event) ∧
    (s.deglitch k ≤ n + 1 →
      exec i s = .next (((s.elapse x.left).onSpc fun p => put 0 (arm p)).recognise k none).event) := by
  rw [hexec, expire_of_some hx, hn]
  refine ⟨fun hd => ?_, fun hd => ?_⟩
  · have hd' : n + 1 < ((s.elapse x.left).onSpc arm).deglitch k := hd
    rw [observe_below hd']
    rfl
  · have hd' : ((s.elapse x.left).onSpc arm).deglitch k ≤ n + 1 := hd
    rw [observe_reached hd']
    rfl

/-- A watch of the spindle that expires below the deglitch count of its kind counts one observation, in a calm
drive (R34). -/
theorem completes_of_watch {i : Instr} {s : State} {timer : Option Timer} {x : Timer} {k : FaultKind} {n : Nat}
    {arm : Spindle → Spindle} {put : Nat → Spindle → Spindle} {count : Spindle → Nat} {Q : State → Prop}
    (h : s.Calm) (hx : timer = some x)
    (hexec : exec i s = .next (s.expire timer fun t => (t.onSpc arm).observe k (count t.spc) put))
    (hn : count (s.elapse x.left).spc = n) (hd : n + 1 < s.deglitch k)
    (hstate : ∀ p, (put (n + 1) (arm p)).state = p.state)
    (hbrake : ∀ p, (put (n + 1) (arm p)).brakePending = p.brakePending)
    (hstart : ∀ p, (put (n + 1) (arm p)).startByWork = p.startByWork)
    (hQ : Q ((s.elapse x.left).onSpc fun p => put (n + 1) (arm p))) : s.completes i Q := by
  have hc : ((s.elapse x.left).onSpc fun p => put (n + 1) (arm p)).Calm :=
    (h.elapse _).onSpc ((hbrake _).trans h.noBrake) (hstart _) (by rw [hstate]; exact h.grounded)
  exact completes_of_calm ((expiry_observes hx hexec hn).1 hd) hc hQ

/-- Settles O27. -/
theorem timedWatches : Obligations.TimedWatches := by
  refine ⟨fun s x hcalm => ?_, fun s x hcalm hx hs hu hd hm hc hn hr => ?_⟩
  · have h := calm_iff.mp hcalm
    refine ⟨fun hx hs hd => ?_, fun hx hs hd => ?_, fun hx hs hd => ?_⟩
    · refine completes_of_watch h hx rfl (n := s.spc.noRotationCount) rfl hd (fun _ => rfl) (fun _ => rfl)
        (fun _ => rfl) ⟨rfl, rfl, hs, keepsHost_of_hostSide ?_, ?_⟩
      · simp
      · rfl
    · refine completes_of_watch h hx rfl (n := s.spc.spinUpTimeoutCount) rfl hd (fun _ => rfl) (fun _ => rfl)
        (fun _ => rfl) ⟨?_, rfl, rfl, keepsHost_of_hostSide ?_, ?_⟩
      · simp [State.elapse, hx, Timer.tick]
      · simp
      · rfl
    · refine completes_of_watch h hx rfl (n := s.spc.lostIndexCount) rfl hd (fun _ => rfl) (fun _ => rfl)
        (fun _ => rfl) ⟨rfl, rfl, rfl, keepsHost_of_hostSide ?_, ?_⟩
      · simp
      · rfl
  · have h := calm_iff.mp hcalm
    have hq : ((s.elapse x.left).onSpc fun p => { p with
        firstIndexWatch := some ⟨0, Config.firstIndexTicks⟩, noRotationCount := 0 }).Calm :=
      (h.elapse _).onSpc h.noBrake rfl h.grounded
    have hrec := recognise_latch_coast hq.toIdle (k := .noRotation) (r := s.tbs.actions.noRotation)
      (by simp [hs, State.elapse, SpindleState.powered]) hu hr rfl hm hc hn
    have hexec := (expiry_observes hx (i := .firstIndexWatchExpiry) rfl (k := .noRotation)
      (n := s.spc.noRotationCount) rfl).2 hd
    rw [hrec] at hexec
    refine completes_of_calm hexec (hq.stopsFor (by simp [State.elapse, hu, PosState.flying]) _ _) ?_
    refine ⟨?_, ?_, ?_, ?_, ?_, ?_, ?_, ?_, ?_, stopsFor_counters _ _ _⟩
    · simp [State.newRecord, State.elapse, hs, hu]
    · rw [stopsFor_spc, leavePowered_spc]
    · rw [stopsFor_spc, leavePowered_spc]
    · rw [stopsFor_spc, leavePowered_spc]
    · rw [stopsFor_spc, leavePowered_spc]
    · rw [stopsFor_spc, leavePowered_spc]
      rfl
    · rw [State.drive, stopsFor_spc, leavePowered_spc]
      rfl
    · simp [State.requested, State.anyLatched, State.newRecord]
    · exact keepsHost_of_hostSide ((stopsFor_hostSide _ _ _).trans (by simp))

end Sys2Proof.Machine
end

section
/-! The purge and the standby timer, the wedge time, the end of a braking and of a stop. -/

namespace Sys2Proof.Machine

/-! ## The wedge time -/

/-- A sense that recognizes nothing, of a current below the deglitch count (R34, R44). -/
theorem senseCurrent_below {s : State} {high : Bool}
    (h : high = true → s.spc.state.supervised = true → s.spc.overcurrentCount + 1 < s.deglitch .spindleOvercurrent) :
    s.senseCurrent high =
      if s.spc.state.supervised = true then
        if high = true then s.onSpc fun p => { p with overcurrentCount := s.spc.overcurrentCount + 1 }
        else (s.onSpc fun p => { p with overcurrentCount := 0 }).absent .spindleOvercurrent
      else if s.spc.state.powered = true then s.onSpc fun p => { p with driveAtLimit := high }
      else s := by
  unfold State.senseCurrent
  split
  · next hs =>
    split
    · next hh => exact observe_below (h hh hs) _
    · rfl
  · rfl

theorem nextWindow_of_untaken {s : State} (h : s.takesSamples = false) : s.nextWindow = s := by
  simp [State.nextWindow, h]

theorem supervised_iff {x : SpindleState} : x.supervised = true ↔ x = .purging ∨ x = .atSpeed := by
  cases x <;> decide


/-- The disk at a wedge time, before its current sense is read (R33). -/
def State.wedged (s : State) : State :=
  (s.elapse s.spc.wedgeWait).onSpc fun p => { p with wedgeWait := s.wedgeSpacing }

@[simp] theorem wedged_spc_state (s : State) : s.wedged.spc.state = s.spc.state := rfl
@[simp] theorem wedged_wedgeWait (s : State) : s.wedged.spc.wedgeWait = s.wedgeSpacing := rfl
@[simp] theorem wedged_overcurrentCount (s : State) :
    s.wedged.spc.overcurrentCount = s.spc.overcurrentCount := rfl
@[simp] theorem wedged_driveAtLimit (s : State) : s.wedged.spc.driveAtLimit = s.spc.driveAtLimit := rfl
@[simp] theorem wedged_fsv (s : State) : s.wedged.fsv = s.fsv := rfl
@[simp] theorem wedged_counters (s : State) : s.wedged.counters = s.counters := rfl
@[simp] theorem wedged_atc (s : State) : s.wedged.atc = s.atc := rfl
@[simp] theorem wedged_hostSide (s : State) : s.wedged.hostSide = s.hostSide := rfl
@[simp] theorem wedged_takesSamples (s : State) : s.wedged.takesSamples = s.takesSamples := rfl

theorem wedge_eq (high : Bool) (s : State) : s.wedge high = (s.wedged.senseCurrent high).nextWindow := rfl

theorem State.Calm.wedged {s : State} (h : s.Calm) : s.wedged.Calm := (h.elapse _).onSpc h.noBrake rfl h.grounded

theorem takesSamples_of_pos {s t : State} (h : t.pos = s.pos) : t.takesSamples = s.takesSamples := by
  simp [State.takesSamples, h]

/-- A sense that leaves the heads alone is the whole of a wedge time in which no samples are taken. -/
theorem exec_wedgeTime {s u : State} {high : Bool} (hn : s.takesSamples = false)
    (hu : s.wedged.senseCurrent high = u) (hpos : u.pos = s.wedged.pos) :
    exec (.wedgeTime high) s = .next u.event := by
  have hexec : exec (.wedgeTime high) s = .next (s.wedged.senseCurrent high).nextWindow.event := rfl
  have hnot : u.takesSamples = false := by
    rw [takesSamples_of_pos hpos, wedged_takesSamples, hn]
  rw [hexec, hu, nextWindow_of_untaken hnot]

/-- What each sense leaves of the disk while nothing is recognized (R34, R37, R44). -/
theorem completes_wedgeTime {s : State} (h : s.Calm) (hn : s.takesSamples = false) {high : Bool}
    (hd : high = true → s.spc.state.supervised = true →
      s.spc.overcurrentCount + 1 < s.deglitch .spindleOvercurrent) {Q : State → Prop}
    (hover : s.spc.state.supervised = true → high = true →
      Q (s.wedged.onSpc fun p => { p with overcurrentCount := s.spc.overcurrentCount + 1 }))
    (hlow : s.spc.state.supervised = true → high = false →
      Q ((s.wedged.onSpc fun p => { p with overcurrentCount := 0 }).absent .spindleOvercurrent))
    (hrise : s.spc.state.supervised = false → s.spc.state.powered = true →
      Q (s.wedged.onSpc fun p => { p with driveAtLimit := high }))
    (hidle : s.spc.state.supervised = false → s.spc.state.powered = false → Q s.wedged) :
    s.completes (.wedgeTime high) Q := by
  have hsense := senseCurrent_below (s := s.wedged) hd
  simp only [wedged_spc_state, wedged_overcurrentCount] at hsense
  have hw := h.wedged
  cases hs : s.spc.state.supervised with
  | true =>
    cases high with
    | true =>
      simp only [hs, if_true] at hsense
      exact completes_of_calm (exec_wedgeTime hn hsense rfl) (hw.onSpc hw.noBrake rfl hw.grounded) (hover hs rfl)
    | false =>
      simp only [hs, if_true, Bool.false_eq_true, if_false] at hsense
      exact completes_of_calm (exec_wedgeTime hn hsense rfl) ((hw.onSpc hw.noBrake rfl hw.grounded).absent _)
        (hlow hs rfl)
  | false =>
    cases hp : s.spc.state.powered with
    | true =>
      simp only [hs, hp, if_true, Bool.false_eq_true, if_false] at hsense
      exact completes_of_calm (exec_wedgeTime hn hsense rfl) (hw.onSpc hw.noBrake rfl hw.grounded) (hrise hs hp)
    | false =>
      simp only [hs, hp, Bool.false_eq_true, if_false] at hsense
      exact completes_of_calm (exec_wedgeTime hn hsense rfl) hw (hidle hs hp)

/-- The disk speeds up where the drive is on and the speed is not yet supervised. -/
theorem accelerates_iff {x : SpindleState} :
    x = .starting ∨ x = .accelerating ↔ x.supervised = false ∧ x.powered = true := by
  cases x <;> decide

/-! ## The purge -/

/-- A disk that enters AT_SPEED differs in the state and the standby time, in the request, and in what the
Fault Supervisor keeps (R41, R152). -/
theorem enterAtSpeed_onlyFsv (s : State) :
    ((s.onSpc fun p => { p with state := .atSpeed, standbyElapsed := 0 }).request .spindleReady).OnlyFsv
      s.enterAtSpeed :=
  successPoint_onlyFsv true _

theorem State.Calm.enterAtSpeed {s : State} (h : s.Calm) : s.enterAtSpeed.Calm := by
  have hs : (s.onSpc fun p => { p with state := .atSpeed, standbyElapsed := 0 }).Calm :=
    h.onSpc h.noBrake rfl (.inl rfl)
  exact (hs.onAtc _).of_motion (State.successPoint_affairs _ true) (enterAtSpeed_onlyFsv s).motion

@[simp] theorem mem_request {s : State} {x y : Source} :
    y ∈ (s.request x).atc.requests ↔ y ∈ s.atc.requests ∨ y = x := by
  simp [State.request]

end Sys2Proof.Machine
end

section
/-! A revolution boundary counts retry delays and recovery watches (R150, R152): what changes for each kind, and
what a restart that falls due leaves alone. -/

namespace Sys2Proof.Machine

/-! ## Restarts -/

/-- Nothing differs but what is kept for each kind, the hold flag, and whether a load in progress is a restart's. -/
def State.OnlyRestarts (s t : State) : Prop :=
  t = { s with
    fsv := { s.fsv with kinds := t.fsv.kinds }
    pos := { s.pos with hold := t.pos.hold, restartLoad := t.pos.restartLoad } }

theorem State.OnlyRestarts.refl (s : State) : s.OnlyRestarts s := rfl

theorem State.OnlyRestarts.trans {s t u : State} (h : s.OnlyRestarts t) (h' : t.OnlyRestarts u) :
    s.OnlyRestarts u := by
  unfold State.OnlyRestarts at *
  rw [h', h]

theorem State.OnlyRestarts.foldl {α : Type} {f : State → α → State} (h : ∀ (s : State) a, s.OnlyRestarts (f s a))
    (l : List α) (s : State) : s.OnlyRestarts (l.foldl f s) := by
  induction l generalizing s with
  | nil => exact .refl s
  | cons a l ih => exact (h s a).trans (ih _)

theorem onKind_onlyRestarts (k : FaultKind) (f : KindStatus → KindStatus) (s : State) :
    s.OnlyRestarts (s.onKind k f) := rfl

theorem restart_onlyRestarts (k : FaultKind) (r : FaultRow) (s : State) : s.OnlyRestarts (s.restart k r) := rfl

theorem beginWatch_onlyRestarts (k : FaultKind) (s : State) : s.OnlyRestarts (s.beginWatch k) := by
  unfold State.beginWatch
  dsimp only
  split
  · exact onKind_onlyRestarts k _ s
  · exact .refl s

section

variable {s t : State} (h : s.OnlyRestarts t)
include h

theorem State.OnlyRestarts.spc : t.spc = s.spc := by rw [h]
theorem State.OnlyRestarts.ccu : t.ccu = s.ccu := by rw [h]
theorem State.OnlyRestarts.atc : t.atc = s.atc := by rw [h]
theorem State.OnlyRestarts.counters : t.counters = s.counters := by rw [h]
theorem State.OnlyRestarts.records : t.fsv.records = s.fsv.records := by rw [h]
theorem State.OnlyRestarts.otwCount : t.fsv.otwCount = s.fsv.otwCount := by rw [h]
theorem State.OnlyRestarts.posState : t.pos.state = s.pos.state := by rw [h]
theorem State.OnlyRestarts.timerOn : t.pos.timerOn = s.pos.timerOn := by rw [h]
theorem State.OnlyRestarts.hostSide : t.hostSide = s.hostSide := by
  rw [h]
  rfl
theorem State.OnlyRestarts.idle (hs : s.Idle) : t.Idle := by
  rw [h]
  exact { hs with }

end

/-- The three ways a retry delay that ends goes on (R150 to R152): no restart, a restart, and with either a
watch. -/
theorem delayExpires_eq (k : FaultKind) (s : State) :
    ∃ u, (u = s.endRetry k ∨ ∃ r, s.ccu.state = .latched ∧ s.anyLatched = false ∧ s.recordOf k = some r ∧
      u = (s.endRetry k).restart k (r.kept.getD (s.activeRow k))) ∧
      s.delayExpires k = if u.atSuccess k = true then u.beginWatch k else u := by
  unfold State.delayExpires
  dsimp only
  refine ⟨_, ?_, rfl⟩
  split
  · exact .inl rfl
  · next r hr =>
    split
    · next hg =>
      simp only [Bool.and_eq_true, beq_iff_eq, Bool.not_eq_true'] at hg
      exact .inr ⟨r, hg.1, hg.2, hr, rfl⟩
    · exact .inl rfl

theorem delayExpires_onlyRestarts (k : FaultKind) (s : State) : s.OnlyRestarts (s.delayExpires k) := by
  obtain ⟨u, hu, he⟩ := delayExpires_eq k s
  have hsu : s.OnlyRestarts u := by
    rcases hu with rfl | ⟨r, -, -, -, rfl⟩
    · exact onKind_onlyRestarts k _ s
    · exact (onKind_onlyRestarts k _ s).trans (restart_onlyRestarts k _ _)
  rw [he]
  split
  · exact hsu.trans (beginWatch_onlyRestarts k u)
  · exact hsu

theorem countDelay_onlyRestarts (s : State) (k : FaultKind) : s.OnlyRestarts (s.countDelay k) := by
  unfold State.countDelay
  split
  · exact .refl s
  · split
    · exact delayExpires_onlyRestarts k s
    · exact onKind_onlyRestarts k _ s

theorem countDelays_onlyRestarts (s : State) : s.OnlyRestarts s.countDelays := .foldl countDelay_onlyRestarts _ s

/-! ## What is kept for each kind -/

theorem onKind_get (k : FaultKind) (f : KindStatus → KindStatus) (s : State) :
    (s.onKind k f).fsv.kinds.get k = f (s.fsv.kinds.get k) := PerKind.get_set _ _ _

theorem onKind_get_ne {j k : FaultKind} (h : j ≠ k) (f : KindStatus → KindStatus) (s : State) :
    (s.onKind k f).fsv.kinds.get j = s.fsv.kinds.get j := PerKind.get_set_ne _ h _

/-- A condition that becomes absent changes nothing else of its kind. -/
theorem absent_get (j k : FaultKind) (s : State) : (s.absent k).fsv.kinds.get j =
    { s.fsv.kinds.get j with present := if j = k then false else (s.fsv.kinds.get j).present } := by
  by_cases h : j = k
  · subst h
    rw [State.absent, onKind_get, if_pos rfl]
  · rw [State.absent, onKind_get_ne h, if_neg h]

theorem beginWatch_get_ne {j k : FaultKind} (h : j ≠ k) (s : State) :
    (s.beginWatch k).fsv.kinds.get j = s.fsv.kinds.get j := by
  unfold State.beginWatch
  dsimp only
  split
  · exact onKind_get_ne h _ s
  · rfl

/-- The watch begins without a change of a delay or a pending request of its kind. -/
theorem beginWatch_get (k : FaultKind) (s : State) :
    ((s.beginWatch k).fsv.kinds.get k).delay = (s.fsv.kinds.get k).delay ∧
    ((s.beginWatch k).fsv.kinds.get k).wantsStart = (s.fsv.kinds.get k).wantsStart ∧
    ((s.beginWatch k).fsv.kinds.get k).wantsLoad = (s.fsv.kinds.get k).wantsLoad := by
  unfold State.beginWatch
  dsimp only
  split
  · rw [onKind_get]
    exact ⟨rfl, rfl, rfl⟩
  · exact ⟨rfl, rfl, rfl⟩

theorem delayExpires_get_ne {j k : FaultKind} (h : j ≠ k) (s : State) :
    (s.delayExpires k).fsv.kinds.get j = s.fsv.kinds.get j := by
  obtain ⟨u, hu, he⟩ := delayExpires_eq k s
  have hj : u.fsv.kinds.get j = s.fsv.kinds.get j := by
    rcases hu with rfl | ⟨r, -, -, -, rfl⟩
    · simp [State.endRetry, onKind_get_ne h]
    · simp [State.restart, State.endRetry, onKind_get_ne h]
  rw [he]
  split
  · rw [beginWatch_get_ne h, hj]
  · exact hj

theorem delayExpires_delay (k : FaultKind) (s : State) : ((s.delayExpires k).fsv.kinds.get k).delay = none := by
  obtain ⟨u, hu, he⟩ := delayExpires_eq k s
  have hk : (u.fsv.kinds.get k).delay = none := by
    rcases hu with rfl | ⟨r, -, -, -, rfl⟩
    · simp [State.endRetry, onKind_get]
    · simp [State.restart, State.endRetry, onKind_get]
  rw [he]
  split
  · rw [(beginWatch_get k u).1, hk]
  · exact hk

theorem countDelay_get_ne {j k : FaultKind} (h : j ≠ k) (s : State) :
    (s.countDelay k).fsv.kinds.get j = s.fsv.kinds.get j := by
  unfold State.countDelay
  split
  · rfl
  · split
    · exact delayExpires_get_ne h s
    · exact onKind_get_ne h _ s

/-- A delay after a boundary. -/
def Timer.boundary (x : Timer) : Option Timer :=
  if x.length ≤ x.elapsed + 1 then none else some ⟨x.elapsed + 1, x.length⟩

theorem countDelay_delay (k : FaultKind) (s : State) :
    ((s.countDelay k).fsv.kinds.get k).delay = (s.fsv.kinds.get k).delay.bind Timer.boundary := by
  unfold State.countDelay
  split
  · next hn => simp [hn]
  · next x hx =>
    rw [hx, Option.bind_some, Timer.boundary]
    split
    · exact delayExpires_delay k s
    · rw [onKind_get]

theorem nodup_all : FaultKind.all.Nodup := by decide

theorem mem_all (k : FaultKind) : k ∈ FaultKind.all := by cases k <;> decide

/-- An operation for each kind of a list that changes what is kept for its own kind only. -/
theorem foldl_get_of_not_mem {f : State → FaultKind → State}
    (hf : ∀ (s : State) j k, j ≠ k → (f s k).fsv.kinds.get j = s.fsv.kinds.get j) {j : FaultKind}
    {l : List FaultKind} (h : j ∉ l) (s : State) : (l.foldl f s).fsv.kinds.get j = s.fsv.kinds.get j := by
  induction l generalizing s with
  | nil => rfl
  | cons k l ih =>
    have hjk : j ≠ k := fun e => h (e ▸ List.mem_cons_self)
    rw [List.foldl_cons, ih (fun hl => h (List.mem_cons_of_mem k hl)), hf s j k hjk]

theorem foldl_get_of_mem {f : State → FaultKind → State} {α : Type} {g : KindStatus → α} {p : α → α}
    (hf : ∀ (s : State) j k, j ≠ k → (f s k).fsv.kinds.get j = s.fsv.kinds.get j)
    (hg : ∀ (s : State) k, g ((f s k).fsv.kinds.get k) = p (g (s.fsv.kinds.get k))) {j : FaultKind}
    {l : List FaultKind} (hn : l.Nodup) (h : j ∈ l) (s : State) :
    g ((l.foldl f s).fsv.kinds.get j) = p (g (s.fsv.kinds.get j)) := by
  induction l generalizing s with
  | nil => exact absurd h List.not_mem_nil
  | cons k l ih =>
    obtain ⟨hk, hl⟩ := List.nodup_cons.mp hn
    rw [List.foldl_cons]
    by_cases e : j = k
    · subst e
      rw [foldl_get_of_not_mem hf hk, hg]
    · rw [ih hl ((List.mem_cons.mp h).resolve_left e), hf s j k e]

/-- Every delay counts the boundary, or ends with it (R150). -/
theorem countDelays_delay (k : FaultKind) (s : State) :
    ((s.countDelays).fsv.kinds.get k).delay = (s.fsv.kinds.get k).delay.bind Timer.boundary := by
  by_cases hk : (s.fsv.kinds.get k).delay.isSome = true
  · exact foldl_get_of_mem (f := State.countDelay) (g := KindStatus.delay) (p := fun x => x.bind Timer.boundary)
      (fun s j k h => countDelay_get_ne h s) (fun s k => countDelay_delay k s) (nodup_all.filter _)
      (List.mem_filter.mpr ⟨mem_all k, hk⟩) s
  · have hn : (s.fsv.kinds.get k).delay = none := by simpa using hk
    have hmem : k ∉ FaultKind.all.filter fun k => (s.fsv.kinds.get k).delay.isSome := by simp [hn]
    unfold State.countDelays
    rw [foldl_get_of_not_mem (fun s j k h => countDelay_get_ne h s) hmem, hn]
    rfl

theorem recovers_get_ne {j k : FaultKind} (h : j ≠ k) (s : State) :
    (s.recovers k).fsv.kinds.get j = s.fsv.kinds.get j := by
  simp [State.recovers, State.request, State.onRecord, onKind_get_ne h]

theorem countWatch_get_ne {j k : FaultKind} (h : j ≠ k) (s : State) :
    (s.countWatch k).fsv.kinds.get j = s.fsv.kinds.get j := by
  unfold State.countWatch
  dsimp only
  split
  · rfl
  · split
    · rfl
    · split
      · exact recovers_get_ne h s
      · exact onKind_get_ne h _ s

theorem countWatch_delay (s : State) (j k : FaultKind) :
    ((s.countWatch k).fsv.kinds.get j).delay = (s.fsv.kinds.get j).delay := by
  by_cases h : j = k
  · subst h
    unfold State.countWatch
    dsimp only
    split
    · rfl
    · split
      · rfl
      · split
        · simp [State.recovers, State.request, State.onRecord, onKind_get]
        · rw [onKind_get]
  · rw [countWatch_get_ne h]

theorem countWatches_delay (l : List FaultKind) (j : FaultKind) (s : State) :
    ((s.countWatches l).fsv.kinds.get j).delay = (s.fsv.kinds.get j).delay := by
  unfold State.countWatches
  induction l generalizing s with
  | nil => rfl
  | cons k l ih => rw [List.foldl_cons, ih, countWatch_delay]

/-! ## What a recovery watch leaves alone -/

/-- Nothing but the records, what is kept for each kind, and the attention requests differs. -/
def State.OnlyReports (s t : State) : Prop :=
  t = { s with fsv := { t.fsv with otwCount := s.fsv.otwCount }, atc := t.atc }

theorem State.OnlyReports.refl (s : State) : s.OnlyReports s := rfl

theorem State.OnlyReports.trans {s t u : State} (h : s.OnlyReports t) (h' : t.OnlyReports u) :
    s.OnlyReports u := by
  unfold State.OnlyReports at *
  rw [h', h]

theorem countWatch_onlyReports (s : State) (k : FaultKind) : s.OnlyReports (s.countWatch k) := by
  unfold State.countWatch
  dsimp only
  split
  · exact .refl s
  · split
    · exact .refl s
    · split
      · rfl
      · rfl

theorem countWatches_onlyReports (l : List FaultKind) (s : State) : s.OnlyReports (s.countWatches l) := by
  unfold State.countWatches
  induction l generalizing s with
  | nil => exact .refl s
  | cons k l ih => exact (countWatch_onlyReports s k).trans (ih _)

section

variable {s t : State} (h : s.OnlyReports t)
include h

theorem State.OnlyReports.spc : t.spc = s.spc := by rw [h]
theorem State.OnlyReports.pos : t.pos = s.pos := by rw [h]
theorem State.OnlyReports.ccu : t.ccu = s.ccu := by rw [h]
theorem State.OnlyReports.counters : t.counters = s.counters := by rw [h]
theorem State.OnlyReports.otwCount : t.fsv.otwCount = s.fsv.otwCount := by rw [h]
theorem State.OnlyReports.hostSide : t.hostSide = s.hostSide := by
  rw [h]
  rfl

end

end Sys2Proof.Machine
end

section
/-! A stopped disk: its revolution boundary, the end of a braking and of a stop, and the start that waited. -/

namespace Sys2Proof.Machine

/-! ## A pending start -/

section

variable {s : State} (hi : s.Idle)
include hi

theorem State.Idle.clearStarts : s.clearStarts.Idle := (hi.onSpc _).onFsv _

theorem State.Idle.enterStarting : s.enterStarting.Idle := (hi.onSpc _).clearStarts

end

theorem enterStarting_pendingStart (s : State) : s.enterStarting.pendingStart = false := by
  simp [State.enterStarting, State.clearStarts, State.pendingStart, PerKind.any]

/-- A disk in STARTING, its heads not flying, reacts to nothing more. -/
theorem react_of_starting {s : State} (hi : s.Idle) (hs : s.spc.state = .starting)
    (hf : ¬(s.pos.state = .loading ∨ s.pos.state.flying = true)) : react s = none := by
  have hnot : (s.pos.state == .loading || s.pos.state.flying) = false := by simpa using hf
  simp [react_of_idle hi, mechanical, reactOwnUnload, reactStopCheck, reactRelease, reactBrake, reactStart,
    reactLoad, guarded, State.atRest, State.loadAllowed, hs, hnot]

/-- A stopped disk, its heads not flying and no latch to release, takes a pending start and no more (R35). -/
theorem event_of_stopped {s : State} (hi : s.Idle) (hh : s.Hosted) (hs : s.spc.state = .stopped)
    (hf : ¬(s.pos.state = .loading ∨ s.pos.state.flying = true)) (hc : s.ccu.state ≠ .stopCheck)
    (hr : s.ccu.releasePending = false) :
    s.event = if s.pos.state = .unloaded ∧ s.pendingStart = true then s.enterStarting else s := by
  have hnot : (s.pos.state == .loading || s.pos.state.flying) = false := by simpa using hf
  by_cases hst : s.pos.state = .unloaded ∧ s.pendingStart = true
  · have hreact : react s = some s.enterStarting := by
      simp [react_of_idle hi, mechanical, reactOwnUnload, reactStopCheck, reactRelease, reactBrake, reactStart,
        guarded, State.atRest, hs, hc, hr, hst.1, hst.2, PosState.flying]
    rw [if_pos hst]
    exact event_of_reactsIn (k := 1) ⟨_, hreact, rfl⟩ (by decide)
      (react_of_starting hi.enterStarting rfl hf) ⟨hh.turn, hh.inb⟩
  · have hstart : (s.atRest && s.pendingStart) = false := by
      simpa [State.atRest, hs] using hst
    have hreact : react s = none := by
      simp [react_of_idle hi, mechanical, reactOwnUnload, reactStopCheck, reactRelease, reactBrake, reactStart,
        reactLoad, guarded, State.loadAllowed, hs, hnot, hc, hr, hstart]
    rw [if_neg hst]
    exact event_of_quiet hreact hh

/-- What a start takes up leaves the boundary's counts and the host's side as they are. -/
theorem enterStarting_keeps (s : State) :
    s.enterStarting.spc.revCount = s.spc.revCount ∧ s.enterStarting.spc.boundaryTicks = s.spc.boundaryTicks ∧
    s.enterStarting.fsv.otwCount = s.fsv.otwCount ∧
    (∀ k, (s.enterStarting.fsv.kinds.get k).delay = (s.fsv.kinds.get k).delay) ∧
    s.enterStarting.hostSide = s.hostSide ∧ s.enterStarting.counters = s.counters :=
  ⟨rfl, rfl, rfl, fun k => by simp [State.enterStarting, State.clearStarts], rfl, rfl⟩

/-! ## The stopped revolution boundary -/

/-- A sample of the warning comparator that recognizes nothing (R142). -/
theorem sampleWarning_below {s : State} {warning : Bool}
    (h : warning = true → s.fsv.otwCount + 1 < s.deglitch .overTempWarn) :
    s.OnlyFsv (s.sampleWarning warning) ∧
    (s.sampleWarning warning).fsv.otwCount = (if warning then s.fsv.otwCount + 1 else 0) ∧
    (∀ k, ((s.sampleWarning warning).fsv.kinds.get k).delay = (s.fsv.kinds.get k).delay) ∧
    (s.sampleWarning warning).affairs = s.affairs := by
  unfold State.sampleWarning
  cases warning with
  | true =>
    have hn : ¬ s.deglitch .overTempWarn ≤ s.fsv.otwCount + 1 := Nat.not_le_of_lt (h rfl)
    simp only [if_true, if_neg hn]
    exact ⟨onFsv_onlyFsv _ s, rfl, fun _ => rfl, rfl⟩
  | false =>
    simp only [Bool.false_eq_true, if_false]
    exact ⟨rfl, rfl, fun k => by simp [absent_get], by simp⟩

/-- The disk at a stopped revolution boundary, before it counts (R33). -/
def State.boundary (s : State) : State :=
  (s.elapse (Config.pNom - s.spc.boundaryTicks)).onSpc fun p => { p with boundaryTicks := 0 }

theorem State.Calm.boundary {s : State} (h : s.Calm) : s.boundary.Calm :=
  (h.elapse _).onSpc h.noBrake rfl h.grounded

@[simp] theorem boundary_hostSide (s : State) : s.boundary.hostSide = s.hostSide := rfl

theorem tbs_of_hostSide {s t : State} (h : t.hostSide = s.hostSide) : t.tbs = s.tbs :=
  (keepsHost_of_hostSide h).2.2.2.2.2.1

/-- Settles O25. -/
theorem boundaryAndWedge : Obligations.BoundaryAndWedge := by
  refine ⟨fun s warning => ⟨fun hs => ?_, fun hcalm hs hoff hd => ?_⟩, fun s high hcalm hn hd => ?_⟩
  · have hne : (s.spc.state == .stopped) = false := beq_false_of_ne hs
    exact congrArg Host.Outcome.next (if_neg (by simp [hne]))
  · have h := calm_iff.mp hcalm
    have hu := h.boundary
    have hcounts : s.boundary.boundaryCounts = s.boundary.countDelays := by
      have hoff' : s.boundary.countDelays.pos.timerOn = false :=
        (countDelays_onlyRestarts _).timerOn.trans hoff
      simp [State.boundaryCounts, State.countSeekTimer, hoff']
    have hexec : exec (.stoppedRevolutionBoundary warning) s =
        .next ((s.boundary.countDelays.sampleWarning warning).countWatches s.watched).event := by
      rw [← hcounts]
      exact congrArg Host.Outcome.next (if_pos (by simp [hs]))
    have hdelays := countDelays_onlyRestarts s.boundary
    obtain ⟨hwarn, hotw, hdel, haff⟩ := sampleWarning_below (s := s.boundary.countDelays) (warning := warning)
      (by
        rw [hdelays.otwCount, State.deglitch, State.activeRow, tbs_of_hostSide hdelays.hostSide]
        exact hd)
    have hwatch := countWatches_onlyReports s.watched (s.boundary.countDelays.sampleWarning warning)
    have hwdel := fun k => countWatches_delay s.watched k (s.boundary.countDelays.sampleWarning warning)
    have hwaff := State.countWatches_affairs (s.boundary.countDelays.sampleWarning warning) s.watched
    obtain ⟨m, hm⟩ : ∃ m, m = (s.boundary.countDelays.sampleWarning warning).countWatches s.watched := ⟨_, rfl⟩
    rw [← hm] at hexec hwatch hwaff
    simp only [← hm] at hwdel
    have hspc : m.spc = s.boundary.spc := by rw [hwatch.spc, hwarn.spc, hdelays.spc]
    have hccu : m.ccu = s.boundary.ccu := by rw [hwatch.ccu, hwarn.ccu, hdelays.ccu]
    have hpos : m.pos.state = s.pos.state := by
      rw [hwatch.pos, hwarn.pos, hdelays.posState]
      rfl
    have hhost : m.hostSide = s.boundary.hostSide := by rw [hwatch.hostSide, hwarn.hostSide, hdelays.hostSide]
    have hcnt : m.counters = s.boundary.counters := by rw [hwatch.counters, hwarn.counters, hdelays.counters]
    have hidle : m.Idle := (((hdelays.idle hu.toIdle).of_affairs haff).of_affairs hwaff)
    have hkeep := keepsHost_of_hostSide (hhost.trans (boundary_hostSide s))
    have hland : ¬(m.pos.state = .loading ∨ m.pos.state.flying = true) := by
      rw [hpos]
      exact h.grounded.resolve_left (by simp [hs])
    have hevent := event_of_stopped hidle ⟨hkeep.1 ▸ h.turn, hkeep.1 ▸ h.inb⟩ (by rw [hspc]; exact hs) hland
      (by rw [hccu]; exact h.noCheck) (by rw [hccu]; exact h.noRelease)
    obtain ⟨x, hx⟩ : ∃ x, x = if m.pos.state = .unloaded ∧ m.pendingStart = true then m.enterStarting else m :=
      ⟨_, rfl⟩
    have hfinal : x.spc.revCount = m.spc.revCount ∧ x.spc.boundaryTicks = m.spc.boundaryTicks ∧
        x.fsv.otwCount = m.fsv.otwCount ∧ (∀ k, (x.fsv.kinds.get k).delay = (m.fsv.kinds.get k).delay) ∧
        x.hostSide = m.hostSide ∧ x.counters = m.counters := by
      rw [hx]
      split
      · exact enterStarting_keeps m
      · exact ⟨rfl, rfl, rfl, fun _ => rfl, rfl, rfl⟩
    obtain ⟨hrev, hbound, hxotw, hxdel, hxhost, hxcnt⟩ := hfinal
    rw [hevent, ← hx] at hexec
    obtain ⟨hdbi, hqueue, -, -, hslots, htbs, hrecord, -⟩ :=
      keepsHost_of_hostSide (hxhost.trans (hhost.trans (boundary_hostSide s)))
    refine ⟨x, hexec, ?_, ?_, ?_, fun k y hy => ?_, hdbi, hqueue, hslots, htbs, ?_, hrecord⟩
    · rw [hrev, hspc]
      rfl
    · rw [hbound, hspc]
      rfl
    · rw [hxotw, hwatch.otwCount, hotw, hdelays.otwCount]
      rfl
    · have hsame : (s.boundary.fsv.kinds.get k).delay = some y := hy
      rw [hxdel, hwdel, hdel, countDelays_delay, hsame]
      rfl
    · rw [hxcnt, hcnt]
      rfl
  · have h := calm_iff.mp hcalm
    have hwait : s.wedgeSpacing = if s.spc.lastPeriod = 0 then 260 else s.spc.lastPeriod / 64 := by
      unfold State.wedgeSpacing
      rfl
    simp only [accelerates_iff]
    refine completes_wedgeTime h hn hd (fun hs hh => ?_) (fun hs hh => ?_) (fun hs hp => ?_) (fun hs hp => ?_)
    · exact ⟨by simp, by simpa using hwait, by simp [hs, hh], by simp [hs], fun _ hl => by simp [hh] at hl,
        fun hl => by simp [hs] at hl, by simp, keepsHost_of_hostSide (by simp), by simp, by simp⟩
    · exact ⟨by simp, by simpa using hwait, by simp [hs, hh], by simp [hs], fun _ _ => by rw [absent_get]; rfl,
        fun hl => by simp [hs] at hl, by simp, keepsHost_of_hostSide (by simp), by simp, by simp⟩
    · exact ⟨by simp, by simpa using hwait, by simp [hs], by simp [hs, hp], fun hl => by simp [hs] at hl,
        fun _ => by simp, by simp, keepsHost_of_hostSide (by simp), by simp, by simp⟩
    · exact ⟨by simp, by simpa using hwait, by simp [hs], by simp [hs, hp], fun hl => by simp [hs] at hl,
        fun _ => by simp, by simp, keepsHost_of_hostSide (by simp), by simp, by simp⟩

end Sys2Proof.Machine
end

section
/-! The purge ends, the standby timer expires, a braking and a stop end. -/

namespace Sys2Proof.Machine

/-! ## The purge -/

theorem purge_completes {s : State} (h : s.Calm) (hs : s.spc.state = .purging)
    (hd : s.tbs.params.purgeRevs ≤ s.spc.purgeCount) :
    s.completes .purgeComplete fun t =>
      t.spc.state = .atSpeed ∧ t.spc.standbyElapsed = 0 ∧ t.requested .spindleReady = true ∧
      t.spc = { s.spc with state := .atSpeed, standbyElapsed := 0 } ∧
      s.keepsHost t ∧ t.pos = s.pos ∧ t.ccu = s.ccu ∧ t.counters = s.counters ∧
      t.atc.inService = s.atc.inService ∧ t.atc.mask = s.atc.mask := by
  have hexec : exec .purgeComplete s = .next s.enterAtSpeed.event := congrArg Host.Outcome.next (if_pos (by simp [hs, hd]))
  have hf := enterAtSpeed_onlyFsv s
  have hreq : s.enterAtSpeed.requested .spindleReady = true := by
    simp [State.requested, hf.atc]
  refine completes_of_calm hexec h.enterAtSpeed ⟨?_, ?_, hreq, hf.spc, ?_, hf.pos, hf.ccu, hf.counters, ?_, ?_⟩
  · rw [hf.spc]
    rfl
  · rw [hf.spc]
    rfl
  · exact keepsHost_of_hostSide (hf.hostSide.trans (by simp))
  · rw [hf.atc]
    rfl
  · rw [hf.atc]
    rfl

/-! ## The internal spin-down -/

/-- While a spin-down of standby stands beside an idle drive at speed with its heads off the ramp, the spin-down's
own step is the one reaction (R54). -/
theorem react_of_standby {s : State} (hi : (s.onDowns fun _ => ⟨none, none, none, false⟩).Idle) {x : DownStep}
    {left : Bool} (hd : s.downs = ⟨none, some x, none, left⟩) (hs : s.spc.state = .atSpeed)
    (hp : s.pos.state ≠ .unloaded) : react s = reactDown .standby s := by
  obtain ⟨hq, hj, he, hw, -, hx, ho, hr, hg, hl⟩ := hi
  simp only [State.onDowns_queue, State.onDowns_job, State.onDowns_endWith, State.onDowns_work, State.onDowns_ccu,
    State.onDowns_record, State.onDowns_eng, State.onDowns_supplyLow] at hq hj he hw hx ho hr hg hl
  have hex : s.executing = none := by simp [State.executing, hq]
  cases hdown : reactDown .standby s <;>
  simp [react, rules, List.findSome?_cons, hl, reactOwnUnload, reactStopCheck, reactRelease, reactBrake, reactStart,
    reactLoad, State.loadAllowed, State.atRest, reactFlight, reactRecordLost, State.recordOpLost,
    reactEjecting, reactStopped, reactParked, reactEjectParked, reactWorkCut, reactEnd, reactWork, reactReadDue,
    reactReached, reactRecordSeek, reactRecordSlot, reactEngine, reactDrain, hdown, reactEject,
    reactBegin, reactStranded, reactReady, reactTransfer, guarded, hq, hj, he, hw, hx, ho, hr, hg, hex,
    Engine.none, hs, hp]
  all_goals simp [reactDown, Downs.stepOf, hd]

/-- A seek that fails for nobody who waits only loses its requester. -/
theorem seekFailed_of_unsought {s : State} (hj : s.job ≠ .seeking ∧ s.job ≠ .transfer) (ho : s.record.op = .idle)
    (byHold : Bool) : s.seekFailed byHold = s.onPos fun p => { p with requester := .none } := by
  unfold State.seekFailed
  cases hr : s.pos.requester <;> simp [hj, ho]

theorem seekFailed_of_idle {s : State} (hj : s.job = .idle) (ho : s.record.op = .idle) (byHold : Bool) :
    s.seekFailed byHold = s.onPos fun p => { p with requester := .none } :=
  seekFailed_of_unsought (by simp [hj]) ho byHold

/-- Nothing but the Positioner and what the Fault Supervisor keeps differs. -/
def State.OnlyHeads (s t : State) : Prop := t = { s with pos := t.pos, fsv := t.fsv }

theorem State.OnlyHeads.refl (s : State) : s.OnlyHeads s := rfl

theorem State.OnlyHeads.trans {s t u : State} (h : s.OnlyHeads t) (h' : t.OnlyHeads u) : s.OnlyHeads u := by
  unfold State.OnlyHeads at *
  rw [h', h]

theorem onPos_onlyHeads (f : Positioner → Positioner) (s : State) : s.OnlyHeads (s.onPos f) := rfl
theorem absent_onlyHeads (k : FaultKind) (s : State) : s.OnlyHeads (s.absent k) := rfl
theorem State.OnlyFsv.onlyHeads {s t : State} (h : s.OnlyFsv t) : s.OnlyHeads t := by
  unfold State.OnlyFsv at h
  unfold State.OnlyHeads
  rw [h]

section

variable {s t : State} (h : s.OnlyHeads t)
include h

theorem State.OnlyHeads.spc : t.spc = s.spc := by rw [h]
theorem State.OnlyHeads.ccu : t.ccu = s.ccu := by rw [h]
theorem State.OnlyHeads.downs : t.downs = s.downs := by rw [h]
theorem State.OnlyHeads.atc : t.atc = s.atc := by rw [h]
theorem State.OnlyHeads.counters : t.counters = s.counters := by rw [h]
theorem State.OnlyHeads.hostSide : t.hostSide = s.hostSide := by
  rw [h]
  rfl
theorem State.OnlyHeads.idle (hs : s.Idle) : t.Idle := by
  rw [h]
  exact { hs with }
theorem State.OnlyHeads.onDowns (f : Downs → Downs) : (s.onDowns f).OnlyHeads (t.onDowns f) := by
  rw [h]
  rfl

end

theorem beginToRamp_onlyHeads (s : State) : s.OnlyHeads s.beginToRamp := rfl

theorem withdrawLoads_onlyHeads (s : State) : s.OnlyHeads s.withdrawLoads := rfl

/-- Off the park sensor the way to the ramp only begins. -/
theorem enterToRamp_of_away {s : State} (h : s.pos.parkSensor = false) : s.enterToRamp = s.beginToRamp := by
  have hp : s.beginToRamp.pos.parkSensor = false := h
  simp [State.enterToRamp, State.rampReached, hp]

theorem enterToCylinder0_of_away {s : State} (h : s.pos.parkSensor = false) :
    s.OnlyHeads s.enterToCylinder0 ∧ s.enterToCylinder0.pos.state = .unloading := by
  unfold State.enterToCylinder0
  extract_lets len t
  have ht : s.OnlyHeads t := rfl
  have hp : t.pos.parkSensor = false := h
  have hs : t.pos.state = .unloading := rfl
  clear_value t
  split
  · rw [enterToRamp_of_away hp]
    exact ⟨ht.trans (beginToRamp_onlyHeads t), rfl⟩
  · exact ⟨ht, hs⟩

/-- The heads leave TRACKING for the ramp, and nobody waits for a load. -/
theorem unloadRequest_of_tracking {s : State} (hj : s.job ≠ .seeking ∧ s.job ≠ .transfer) (ho : s.record.op = .idle)
    (ht : s.pos.state = .tracking) (hp : s.pos.parkSensor = false) :
    s.OnlyHeads s.unloadRequest ∧ s.unloadRequest.pos.state = .unloading := by
  have he : s.unloadRequest = (s.withdrawLoads.onPos fun p => { p with requester := .none }).enterToCylinder0 := by
    have ht' : s.withdrawLoads.pos.state = .tracking := ht
    have hf := seekFailed_of_unsought (s := s.withdrawLoads) hj ho false
    simp [State.unloadRequest, State.beginUnload, ht', hf]
  have hw := (withdrawLoads_onlyHeads s).trans (onPos_onlyHeads (fun p => { p with requester := .none }) _)
  obtain ⟨ha, hb⟩ := enterToCylinder0_of_away (s := s.withdrawLoads.onPos fun p => { p with requester := .none }) hp
  rw [he]
  exact ⟨hw.trans ha, hb⟩

/-- The internal spin-down of a calm drive with a clean record goes as far as the unload (R54). -/
theorem standDown {s : State} (h : s.Calm) (hs : s.spc.state = .atSpeed) (ht : s.pos.state = .tracking)
    (hp : s.pos.parkSensor = false) (hclean : s.needsWriteBack = false) :
    ∃ t, (s.onDowns fun d => { d with standby := some .point, standbyLeft := false }).event = t ∧
      t.downs.standby = some .unload ∧ t.pos.state = .unloading ∧
      (s.onDowns fun _ => ⟨none, some .unload, none, false⟩).OnlyHeads t := by
  have hput : ∀ (x : DownStep) (y : DownStep), ((s.onDowns fun _ => ⟨none, some x, none, false⟩).onDowns fun d =>
      d.at (some y) .standby) = s.onDowns fun _ => ⟨none, some y, none, false⟩ := fun _ _ => rfl
  have hstart : (s.onDowns fun d => { d with standby := some .point, standbyLeft := false }) =
      s.onDowns fun _ => ⟨none, some .point, none, false⟩ := by
    simp [State.onDowns, h.downs]
  have hi : ∀ x, ((s.onDowns fun _ => ⟨none, some x, none, false⟩).onDowns fun _ => ⟨none, none, none, false⟩).Idle :=
    fun x => { h with downs := rfl }
  obtain ⟨hheads, hland⟩ := unloadRequest_of_tracking (s := s.onDowns fun _ => ⟨none, some .unload, none, false⟩)
    (by simp [State.onDowns, h.job]) h.op ht hp
  have hpoint : react (s.onDowns fun _ => ⟨none, some .point, none, false⟩) =
      some (s.onDowns fun _ => ⟨none, some .ask, none, false⟩) := by
    have hcl : (s.onDowns fun _ => ⟨none, some .point, none, false⟩).needsWriteBack = false := hclean
    rw [react_of_standby (hi .point) rfl hs (by simp [ht])]
    simp [reactDown, Downs.stepOf, hcl, hput]
  have hask : react (s.onDowns fun _ => ⟨none, some .ask, none, false⟩) =
      some (s.onDowns fun _ => ⟨none, some .unload, none, false⟩).unloadRequest := by
    rw [react_of_standby (hi .ask) rfl hs (by simp [ht])]
    simp [reactDown, Downs.stepOf, ht, hput]
  generalize hq : (s.onDowns fun _ => ⟨none, some .unload, none, false⟩).unloadRequest = t at *
  have hlast : react t = none := by
    rw [react_of_standby ((hheads.onDowns _).idle (hi .unload)) (by rw [hheads.downs]; rfl)
      (by rw [hheads.spc]; exact hs) (by simp [hland])]
    simp [reactDown, Downs.stepOf, hheads.downs]
  have hdbi := (keepsHost_of_hostSide hheads.hostSide).1
  refine ⟨t, ?_, by rw [hheads.downs]; rfl, hland, hheads⟩
  rw [hstart]
  exact event_of_reactsIn (k := 2) ⟨_, hpoint, _, hask, rfl⟩ (by decide) hlast
    ⟨hdbi ▸ h.turn, hdbi ▸ h.inb⟩

theorem exec_standbyExpiry (s : State) : exec .standbyExpiry s = .next (if s.standbyArmed then
    ((s.elapse (s.standbyPeriod - s.spc.standbyElapsed)).onDowns fun d =>
      { d with standby := some .point, standbyLeft := false }).event else s) := rfl

theorem standby_completes {s : State} (h : s.Calm) (hs : s.spc.state = .atSpeed) (ht : s.pos.state = .tracking)
    (hc : s.ccu.state = .latched) (hp : s.pos.parkSensor = false) (hclean : s.needsWriteBack = false) {n : Nat}
    (hexec : exec .standbyExpiry s = .next ((s.elapse n).onDowns fun d =>
      { d with standby := some .point, standbyLeft := false }).event) :
    s.completes .standbyExpiry fun t =>
      t.downs.standby = some .unload ∧ t.pos.state = .unloading ∧ t.spc.state = .atSpeed ∧
      t.ccu.state = .latched ∧ t.dbi = s.dbi ∧ t.queue = s.queue ∧ t.slots = s.slots ∧
      t.atc = s.atc ∧ t.record.state = s.record.state ∧ t.record.image = s.record.image ∧
      t.tbs = s.tbs ∧ t.counters = s.counters := by
  have hcl : (s.elapse n).needsWriteBack = false := by
    simpa [State.needsWriteBack, State.elapse_cartridge] using hclean
  obtain ⟨t, hevent, hdown, hland, hheads⟩ := standDown (h.elapse n) hs ht hp hcl
  obtain ⟨hdbi, hqueue, -, -, hslots, htbs, hrecord, -⟩ := keepsHost_of_hostSide hheads.hostSide
  refine ⟨t, by rw [hexec, hevent], hdown, hland, ?_, ?_, hdbi, hqueue, hslots, ?_, ?_, ?_, htbs, ?_⟩
  · rw [hheads.spc]
    exact hs
  · rw [hheads.ccu]
    exact hc
  · rw [hheads.atc]
    rfl
  · rw [hrecord]
    rfl
  · rw [hrecord]
    rfl
  · rw [hheads.counters]
    rfl

/-- Settles O26. -/
theorem purgeAndStandby : Obligations.PurgeAndStandby := by
  refine ⟨fun s hcalm hs hd => purge_completes (calm_iff.mp hcalm) hs hd,
    fun s => ⟨fun ha => ?_, fun hready hcalm hp hpos hclean => ?_⟩⟩
  · rw [exec_standbyExpiry, ha]
    rfl
  · have h := calm_iff.mp hcalm
    simp only [State.readyDrive, Bool.and_eq_true, beq_iff_eq] at hready
    obtain ⟨⟨⟨⟨⟨-, hs⟩, ht⟩, hc⟩, -⟩, -⟩ := hready
    have harmed : s.standbyArmed = true := by
      simp [State.standbyArmed, State.standbyCounts, hs, hc, h.queue, h.downs, hpos]
    refine standby_completes h hs ht hc hp hclean ?_ (n := s.standbyPeriod - s.spc.standbyElapsed)
    rw [exec_standbyExpiry, harmed]
    rfl

end Sys2Proof.Machine
end

section
/-! The end of a REVERSE phase, and what a disk that stops lets go (R47, R48, R125, R126, R166). -/

namespace Sys2Proof.Machine

theorem exec_reversePhaseTimeout (s : State) : exec .reversePhaseTimeout s = .next (if s.reversing then
    ((s.elapse (Config.reverseEnd + 1 - s.spc.revTimer)).onSpc fun p => { p with brakeMode := .dynamic }).event
    else s) := rfl

theorem exec_stopWindowExpiry {s : State} {x : Timer} (h : s.spc.stopWindow = some x) :
    exec .stopWindowExpiry s = .next (s.elapse x.left).enterStopped.event :=
  congrArg Host.Outcome.next (expire_of_some h _ s)

/-! ## The disk stops -/

/-- The disk in STOPPED, before the tables are taken (R48). -/
def State.halted (s : State) : State := s.onSpc fun p => { p with
  state := .stopped, demand := .none, brakePending := false, stopWindow := none, boundaryTicks := 0 }

theorem enterStopped_eq (s : State) : s.enterStopped = s.halted.takeTables := rfl

/-- A take reaches the tables, the held current and the attention requests (R166). -/
theorem takeTables_frame (s : State) :
    s.takeTables.spc = s.spc ∧ s.takeTables.ccu = s.ccu ∧ s.takeTables.dbi = s.dbi ∧
    s.takeTables.queue = s.queue ∧ s.takeTables.slots = s.slots ∧ s.takeTables.record = s.record ∧
    s.takeTables.fsv = s.fsv ∧ s.takeTables.counters = s.counters ∧
    s.takeTables.pos.state = s.pos.state := by
  rcases takeTables_cases s with h | ⟨-, -, -, h⟩ <;> rw [h] <;> exact ⟨rfl, rfl, rfl, rfl, rfl, rfl, rfl, rfl, rfl⟩

theorem takeTables_of_none {s : State} (h : s.tbs.hold = true ∨ s.anyStaged = false) : s.takeTables = s := by
  rcases h with h | h <;> simp [State.takeTables, h]

theorem takeTables_taken {s : State} (hh : s.tbs.hold = false) (hs : s.anyStaged = true) (hl : s.supplyLow = false) :
    s.takeTables.tbs.profile = s.tbs.stagedProfile.getD s.tbs.profile ∧
    s.takeTables.tbs.actions = s.tbs.stagedActions.getD s.tbs.actions ∧
    s.takeTables.tbs.params = s.tbs.stagedParams.getD s.tbs.params ∧ s.takeTables.anyStaged = false ∧
    s.takeTables.requested .tablesTaken = true := by
  have h : s.takeTables = ((s.onTbs fun t => { t with
      profile := t.stagedProfile.getD t.profile, actions := t.stagedActions.getD t.actions,
      params := t.stagedParams.getD t.params, stagedProfile := none, stagedActions := none,
      stagedParams := none }).clampCurrent).request .tablesTaken := by
    simp [State.takeTables, hh, hs, hl]
  rw [h]
  exact ⟨rfl, rfl, rfl, rfl, by simp [State.requested]⟩

theorem State.Calm.enterStopped {s : State} (h : s.Calm) (hu : s.pos.state = .unloaded) : s.enterStopped.Calm := by
  have hh : s.halted.Calm := h.onSpc rfl rfl (.inr (by simp [hu, PosState.flying]))
  exact hh.of_motion s.halted.takeTables_affairs s.halted.takeTables_motion

theorem State.Idle.enterStopped {s : State} (h : s.Idle) : s.enterStopped.Idle :=
  (h.onSpc _ : s.halted.Idle).of_affairs s.halted.takeTables_affairs

/-- What the stopped disk leaves of the rest of the drive. -/
theorem enterStopped_frame (s : State) :
    s.enterStopped.spc = s.halted.spc ∧ s.enterStopped.ccu = s.ccu ∧ s.enterStopped.dbi = s.dbi ∧
    s.enterStopped.queue = s.queue ∧ s.enterStopped.slots = s.slots ∧ s.enterStopped.record = s.record ∧
    s.enterStopped.fsv = s.fsv ∧ s.enterStopped.counters = s.counters ∧
    s.enterStopped.pos.state = s.pos.state := takeTables_frame s.halted

/-! ## The latch lets go -/

/-- The latch released by a disk that has stopped under heads on the ramp (R125 to R127). -/
def State.letGo (s : State) : State :=
  if s.ccu.state = .stopCheck then
    (s.onCcu fun c => { c with state := .seated, latch := false }).absent .doorForced
  else if s.ccu.state = .absent ∧ s.ccu.releasePending = true then
    (s.onCcu fun c => { c with latch := false, releasePending := false }).absent .doorForced
  else s

/-- A pending start taken up. -/
def State.startsUp (s : State) : State := if s.pendingStart = true then s.enterStarting else s

theorem react_letGo {s : State} (hi : s.Idle) (hs : s.spc.state = .stopped) (hu : s.pos.state = .unloaded) :
    (s.ccu.state = .stopCheck ∨ s.ccu.state = .absent ∧ s.ccu.releasePending = true → react s = some s.letGo) ∧
    (¬(s.ccu.state = .stopCheck ∨ s.ccu.state = .absent ∧ s.ccu.releasePending = true) → s.letGo = s ∧
      react s = if s.pendingStart = true then some s.enterStarting else none) := by
  refine ⟨fun h => ?_, fun h => ?_⟩
  · rcases h with hc | ⟨hc, hr⟩
    · simp [react_of_idle hi, mechanical, reactOwnUnload, reactStopCheck, guarded, State.atRest, State.letGo, hs, hu,
        hc, PosState.flying]
    · simp [react_of_idle hi, mechanical, reactOwnUnload, reactStopCheck, reactRelease, guarded, State.atRest,
        State.letGo, hs, hu, hc, hr, PosState.flying]
  · obtain ⟨hc, hr⟩ := not_or.mp h
    have hrel : (s.ccu.state == .absent && s.ccu.releasePending) = false := by simpa using hr
    refine ⟨by simp [State.letGo, hc, hr], ?_⟩
    cases hp : s.pendingStart <;>
    simp [react_of_idle hi, mechanical, reactOwnUnload, reactStopCheck, reactRelease, reactBrake, reactStart,
      reactLoad, State.loadAllowed, guarded, State.atRest, hs, hu, hc, hrel, hp, PosState.flying]

section

variable (s : State)

theorem letGo_spc : s.letGo.spc = s.spc := by unfold State.letGo; split <;> (try split) <;> rfl
theorem letGo_pos : s.letGo.pos = s.pos := by unfold State.letGo; split <;> (try split) <;> rfl
theorem letGo_hostSide : s.letGo.hostSide = s.hostSide := by unfold State.letGo; split <;> (try split) <;> rfl
theorem letGo_pendingStart : s.letGo.pendingStart = s.pendingStart := by
  have hk : ∀ f : Cartridge → Cartridge,
      ((s.onCcu f).absent .doorForced).pendingStart = s.pendingStart := fun f => by
    have hp := State.absent_affairs (s.onCcu f) .doorForced
    simp only [State.affairs, Prod.mk.injEq] at hp
    exact hp.2.2.2.2.1
  unfold State.letGo
  split
  · exact hk _
  · split
    · exact hk _
    · rfl

/-- What the latch and the door show when the disk has let go. -/
theorem letGo_latch :
    (s.ccu.state = .stopCheck → s.letGo.ccu.state = .seated ∧ s.letGo.ccu.latch = false) ∧
    (s.ccu.state = .absent → s.ccu.releasePending = true → s.letGo.ccu.state = .absent ∧
      s.letGo.ccu.latch = false ∧ s.letGo.ccu.releasePending = false ∧
      (s.letGo.fsv.kinds.get .doorForced).present = false) ∧
    (s.ccu.state = .latched → s.letGo.ccu = s.ccu) := by
  refine ⟨fun h => ?_, fun h hr => ?_, fun h => ?_⟩
  · simp [State.letGo, h]
  · simp [State.letGo, h, hr, absent_get]
  · simp [State.letGo, h]

theorem letGo_held : ¬(s.letGo.ccu.state = .stopCheck ∨
    s.letGo.ccu.state = .absent ∧ s.letGo.ccu.releasePending = true) := by
  unfold State.letGo
  split
  · simp
  · next hc =>
    split
    · simp [hc]
    · next hr => exact fun h => h.elim hc hr

end

theorem State.Idle.letGo {s : State} (h : s.Idle) : s.letGo.Idle := by
  have hk : ∀ f : Cartridge → Cartridge, (f s.ccu).eject = s.ccu.eject → ((s.onCcu f).absent .doorForced).Idle :=
    fun f hf => by
      have hc : (s.onCcu f).Idle := { h with eject := hf.trans h.eject }
      exact hc.absent _
  unfold State.letGo
  split
  · exact hk _ rfl
  · split
    · exact hk _ rfl
    · exact h

theorem State.Hosted.of_dbi {s t : State} (h : s.Hosted) (e : t.dbi = s.dbi) : t.Hosted := ⟨e ▸ h.turn, e ▸ h.inb⟩

/-- A disk that has stopped under heads on the ramp releases the latch and takes a pending start. -/
theorem event_of_halted {s : State} (hi : s.Idle) (hh : s.Hosted) (hs : s.spc.state = .stopped)
    (hu : s.pos.state = .unloaded) : s.event = s.letGo.startsUp := by
  have hdbi : s.letGo.dbi = s.dbi := (keepsHost_of_hostSide (letGo_hostSide s)).1
  have hlast := (react_letGo hi.letGo (by rw [letGo_spc, hs]) (by rw [letGo_pos, hu])).2 (letGo_held s)
  have hstarted : s.letGo.pendingStart = true → react s.letGo.enterStarting = none := fun _ =>
    react_of_starting hi.letGo.enterStarting rfl (by
      have hp : s.letGo.enterStarting.pos = s.pos := letGo_pos s
      simp [hp, hu, PosState.flying])
  have hend : ∃ k, k ≤ 1 ∧ ReactsIn k s.letGo s.letGo.startsUp ∧ react s.letGo.startsUp = none ∧
      s.letGo.startsUp.dbi = s.dbi := by
    unfold State.startsUp
    split
    · next hp =>
      rw [if_pos hp] at hlast
      exact ⟨1, Nat.le_refl 1, ⟨_, hlast.2, rfl⟩, hstarted hp, hdbi⟩
    · next hp =>
      rw [if_neg hp] at hlast
      exact ⟨0, Nat.zero_le 1, rfl, hlast.2, hdbi⟩
  obtain ⟨k, hk, hchain, hq, hd⟩ := hend
  by_cases hc : s.ccu.state = .stopCheck ∨ s.ccu.state = .absent ∧ s.ccu.releasePending = true
  · have hfirst := (react_letGo hi hs hu).1 hc
    exact event_of_reactsIn (k := k + 1) ⟨_, hfirst, hchain⟩ (by omega) hq (hh.of_dbi hd)
  · have hsame := ((react_letGo hi hs hu).2 hc).1
    rw [hsame] at hchain hq hd ⊢
    exact event_of_reactsIn hchain (by omega) hq (hh.of_dbi hd)

/-- Settles O28. -/
theorem spindleStops : Obligations.SpindleStops := by
  refine ⟨fun s x hcalm => ?_, fun s x hidle hturn hinb hx hu hload => ?_⟩
  · have h := calm_iff.mp hcalm
    refine ⟨fun hs hm => ?_, fun hx hu => ?_⟩
    · have hrev : s.reversing = true := by simp [State.reversing, State.reverseDrive, hs, hm]
      have hexec := exec_reversePhaseTimeout s
      rw [hrev, if_pos rfl] at hexec
      generalize Config.reverseEnd + 1 - s.spc.revTimer = n at hexec
      have hbraking : ∀ n, (s.elapse n).spc.state = .braking := fun n => hs
      refine completes_of_calm hexec ((h.elapse n).onSpc (h.elapse n).noBrake rfl (h.elapse n).grounded) ?_
      refine ⟨rfl, ?_, ?_, ?_, ?_, keepsHost_of_hostSide (by simp), by simp⟩
      · simp [State.dynamicBrake, hbraking]
      · simp [State.reverseDrive]
      · simp [hbraking]
      · simp [State.elapse_disk]
    · generalize hn : x.left = n
      have hexec := exec_stopWindowExpiry hx
      rw [hn] at hexec
      have hc := (h.elapse n).enterStopped hu
      obtain ⟨hspc, -, hdbi, hqueue, hslots, hrecord, hfsv, hcnt, hpos⟩ := enterStopped_frame (s.elapse n)
      refine completes_of_calm hexec hc ?_
      rw [hspc, hdbi, hqueue, hslots, hrecord, hfsv, hcnt, hpos]
      refine ⟨rfl, rfl, rfl, rfl, rfl, rfl, fun hk => ?_, fun hk ha => ?_, rfl, rfl, rfl, rfl, rfl, rfl, hu⟩
      · rw [enterStopped_eq, takeTables_of_none (s := (s.elapse n).halted) hk]
        rfl
      · exact takeTables_taken (s := (s.elapse n).halted) hk ha h.supplied
  · have hi := idleDrive_iff.mp hidle
    generalize hn : x.left = n
    have hexec := exec_stopWindowExpiry hx
    rw [hn] at hexec
    obtain ⟨m, hm⟩ : ∃ m, m = (s.elapse n).enterStopped := ⟨_, rfl⟩
    have hframe := enterStopped_frame (s.elapse n)
    have hmi : m.Idle := hm ▸ (hi.elapse n).enterStopped
    have hstart : m.pendingStart = s.pendingStart := by
      have ha := State.takeTables_affairs (s.elapse n).halted
      simp only [State.affairs, Prod.mk.injEq] at ha
      rw [hm]
      exact ha.2.2.2.2.1
    rw [← hm] at hexec hframe
    obtain ⟨hspc, hccu, hdbi, hqueue, hslots, hrecord, hfsv, -, hpos⟩ := hframe
    have hstop : m.spc.state = .stopped := by rw [hspc]; rfl
    have hevent := event_of_halted hmi (State.Hosted.of_dbi ⟨hturn, hinb⟩ hdbi) hstop (hpos.trans hu)
    rw [hevent] at hexec
    have hletstart : m.letGo.pendingStart = s.pendingStart := (letGo_pendingStart m).trans hstart
    obtain ⟨hcheck, habsent, hlatched⟩ := letGo_latch m
    have hupccu : m.letGo.startsUp.ccu = m.letGo.ccu := by unfold State.startsUp; split <;> rfl
    have huppresent : (m.letGo.startsUp.fsv.kinds.get .doorForced).present =
        (m.letGo.fsv.kinds.get .doorForced).present := by
      unfold State.startsUp
      split
      · simp [State.enterStarting, State.clearStarts]
      · rfl
    have huphost : m.letGo.startsUp.hostSide = m.hostSide := by
      rw [← letGo_hostSide m]
      unfold State.startsUp
      split <;> rfl
    obtain ⟨hd, hq, -, -, hsl, -, hr, -⟩ := keepsHost_of_hostSide huphost
    have hccus : m.ccu.state = s.ccu.state ∧ m.ccu.releasePending = s.ccu.releasePending ∧
        m.ccu.latch = s.ccu.latch := by
      rw [hccu]
      exact ⟨rfl, rfl, rfl⟩
    rw [hccus.1, hccus.2.1] at habsent
    rw [hccus.1] at hcheck hlatched
    refine ⟨_, hexec, fun hp => ?_, fun hp => ?_, fun hc => ?_, fun hc hrel => ?_, fun hc => ?_, hd.trans hdbi,
      hq.trans hqueue, hsl.trans hslots, hr.trans hrecord⟩
    · rw [State.startsUp, if_neg (by simp [hletstart, hp]), letGo_spc, hstop]
    · rw [State.startsUp, if_pos (hletstart.trans hp)]
      exact ⟨rfl, enterStarting_pendingStart _, rfl, rfl, rfl, rfl⟩
    · rw [hupccu]
      exact hcheck hc
    · rw [hupccu, huppresent]
      exact habsent hc hrel
    · rw [hupccu, hlatched hc]
      exact ⟨hccus.1.trans hc, hccus.2.2⟩

end Sys2Proof.Machine
end

section
/-! The demand speed by the selected row, and its monotony (R81, R82). -/

namespace Sys2Proof.Machine

theorem dist_le_of_rowsRise {r : ProfileRow} {rows : List ProfileRow} (h : rowsRise (r :: rows) = true) {i : Nat}
    {a : ProfileRow} (ha : (r :: rows)[i]? = some a) : r.dist ≤ a.dist := by
  induction rows generalizing r i with
  | nil =>
    cases i with
    | zero => cases ha; exact Nat.le_refl _
    | succ i => simp at ha
  | cons q rest ih =>
    obtain ⟨hdist, -, hrest⟩ := rowsRise_cons_cons.mp h
    cases i with
    | zero => cases ha; exact Nat.le_refl _
    | succ i => exact Nat.le_trans (Nat.le_of_lt hdist) (ih hrest (by simpa using ha))

/-- The rows before the selected one do not count. -/
theorem demandSpeed_drop {rows : List ProfileRow} (h : rowsRise rows = true) {i d : Nat} {a : ProfileRow}
    (ha : rows[i]? = some a) (hd : a.dist * 256 ≤ d) : demandSpeed rows d = demandSpeed (rows.drop i) d := by
  induction i generalizing rows with
  | zero => rfl
  | succ i ih =>
    match rows, h, ha with
    | [r], _, ha => simp at ha
    | r :: q :: rest, h, ha =>
      obtain ⟨-, -, hrest⟩ := rowsRise_cons_cons.mp h
      have ha' : (q :: rest)[i]? = some a := by simpa using ha
      have hq : q.dist * 256 ≤ d := Nat.le_trans (Nat.mul_le_mul_right _ (dist_le_of_rowsRise hrest ha')) hd
      rw [demandSpeed, if_pos hq, ih hrest ha']
      rfl

theorem rowsRise_drop {rows : List ProfileRow} (h : rowsRise rows = true) (i : Nat) :
    rowsRise (rows.drop i) = true := by
  induction i generalizing rows with
  | zero => exact h
  | succ i ih =>
    match rows, h with
    | [], h => exact h
    | [r], _ => exact ih (rows := []) rfl
    | r :: q :: rest, h => exact ih (rowsRise_cons_cons.mp h).2.2

/-- The first row's speed is the least. -/
theorem speed_le_demandSpeed {r : ProfileRow} {rows : List ProfileRow} (h : rowsRise (r :: rows) = true) (d : Nat) :
    r.speed ≤ demandSpeed (r :: rows) d := by
  induction rows generalizing r with
  | nil => exact Nat.le_refl _
  | cons q rest ih =>
    obtain ⟨-, hspeed, hrest⟩ := rowsRise_cons_cons.mp h
    unfold demandSpeed
    split
    · exact Nat.le_trans hspeed (ih hrest)
    · exact Nat.le_add_right _ _

theorem demandSpeed_mono {rows : List ProfileRow} (h : rowsRise rows = true) {d far : Nat} (hd : d ≤ far) :
    demandSpeed rows d ≤ demandSpeed rows far := by
  match rows, h with
  | [], _ => exact Nat.le_refl _
  | [r], _ => exact Nat.le_refl _
  | r :: q :: rest, h =>
    obtain ⟨hdist, hspeed, hrest⟩ := rowsRise_cons_cons.mp h
    have ih := demandSpeed_mono hrest hd
    unfold demandSpeed
    by_cases hq : q.dist * 256 ≤ d
    · rw [if_pos hq, if_pos (Nat.le_trans hq hd)]
      exact ih
    · rw [if_neg hq]
      split
      · exact Nat.le_trans (interpolation_le hspeed (by omega)) (speed_le_demandSpeed hrest far)
      · exact Nat.add_le_add_left (Nat.div_le_div_right (Nat.mul_le_mul_left _ (by omega))) _

/-- Settles O33. -/
theorem demandSpeed_spec : Obligations.DemandSpeed := by
  intro p i d far a b hp ha hd
  have hrise := rowsRise_of_inLimits hp
  have hi : i < p.rows.length := (List.getElem?_eq_some_iff.mp ha).1
  have hdrop : p.rows.drop i = a :: p.rows.drop (i + 1) := by
    rw [List.drop_eq_getElem_cons hi, (List.getElem?_eq_some_iff.mp ha).2]
  have hsel := demandSpeed_drop hrise ha hd
  refine ⟨demandSpeed_mono hrise, fun hn => ?_, fun hb hlt => ?_⟩
  · have hend : p.rows.drop (i + 1) = [] := List.drop_eq_nil_iff.mpr (List.getElem?_eq_none_iff.mp hn)
    rw [hsel, hdrop, hend]
    rfl
  · have hi' := (List.getElem?_eq_some_iff.mp hb).1
    have hdrop' : p.rows.drop (i + 1) = b :: p.rows.drop (i + 2) := by
      rw [List.drop_eq_getElem_cons hi', (List.getElem?_eq_some_iff.mp hb).2]
    have hval : demandSpeed p.rows d =
        a.speed + ((b.speed - a.speed) * (d - a.dist * 256)) / ((b.dist - a.dist) * 256) := by
      rw [hsel, hdrop, hdrop', demandSpeed, if_neg (Nat.not_le_of_lt hlt)]
    have hpair : a.speed ≤ b.speed := by
      have hrest := rowsRise_drop hrise i
      rw [hdrop, hdrop'] at hrest
      exact (rowsRise_cons_cons.mp hrest).2.1
    refine ⟨hval, ?_, ?_⟩
    · rw [hval]
      exact Nat.le_add_right _ _
    · rw [hval]
      exact interpolation_le hpair (by omega)

end Sys2Proof.Machine
end

section
/-! Servo samples in a calm drive at speed (R58 to R60, R65 to R68, R80 to R84). -/

namespace Sys2Proof.Machine

theorem exec_servoSample (valid : Bool) (c h : Nat) (pes : Int) (s : State) :
    exec (.servoSample valid c h pes) s = .next (s.takeSample valid c h pes).event := rfl

/-! ## The heads move -/

/-- Only the heads move, and nobody waits for a load because of it. -/
structure State.Steers (s t : State) : Prop where
  heads : s.OnlyHeads t
  affairs : t.affairs = s.affairs

theorem State.Steers.refl (s : State) : s.Steers s := ⟨.refl s, rfl⟩

theorem State.Steers.trans {s t u : State} (h : s.Steers t) (h' : t.Steers u) : s.Steers u :=
  ⟨h.heads.trans h'.heads, h'.affairs.trans h.affairs⟩

theorem State.Steers.onPos {s t : State} (h : s.Steers t) {f : Positioner → Positioner}
    (hw : (f t.pos).loadByWork = t.pos.loadByWork) : s.Steers (t.onPos f) :=
  h.trans ⟨onPos_onlyHeads f t, t.onPos_affairs hw⟩

theorem State.Steers.absent {s t : State} (h : s.Steers t) (k : FaultKind) : s.Steers (t.absent k) :=
  h.trans ⟨absent_onlyHeads k t, t.absent_affairs k⟩

/-- A calm drive at speed stays calm. -/
theorem State.Calm.steers {s t : State} (h : s.Calm) (hs : s.spc.state = .atSpeed) (hm : s.Steers t) : t.Calm :=
  h.of_affairs hm.affairs (.inl (by rw [hm.heads.spc, hs]))

/-- The sample taken, before the rule of the state (R59). -/
def State.sampled (c : Nat) (pes : Int) (s : State) : State :=
  (s.onPos fun p => { p with window := .taken, fix := some (Fix.next p.fix c pes), dropCount := 0 }).absent .servoLost

theorem sampled_steers (c : Nat) (pes : Int) (s : State) : s.Steers (s.sampled c pes) :=
  ((State.Steers.refl s).onPos rfl).absent _

theorem sampled_pos (c : Nat) (pes : Int) (s : State) : (s.sampled c pes).pos = { s.pos with
    window := .taken, fix := some (Fix.next s.pos.fix c pes), dropCount := 0 } := rfl

theorem sampled_records (c : Nat) (pes : Int) (s : State) : (s.sampled c pes).fsv.records = s.fsv.records := rfl

theorem sampled_servoLost (c : Nat) (pes : Int) (s : State) :
    ((s.sampled c pes).fsv.kinds.get .servoLost).present = false := by
  unfold State.sampled
  rw [absent_get]
  rfl

/-- A valid sample of the selected head in an open window meets the rule of the state. -/
theorem takeSample_valid {s : State} {c h : Nat} {pes : Int} (ht : s.takesSamples = true)
    (hw : s.pos.window = .waiting) (hh : s.pos.head = h) :
    s.takeSample true c h pes = (s.onPos fun p => { p with window := .taken }).validSample c pes := by
  simp [State.takeSample, ht, hw, hh]

theorem validSample_eq (c : Nat) (pes : Int) (s : State) :
    (s.onPos fun p => { p with window := .taken }).validSample c pes =
      match s.pos.state with
      | .loading => ((s.sampled c pes).onPos fun p => { p with
          state := .settling, target := some c, settleCount := 0, loadWindows := 0 }).settleSample
            (Fix.next s.pos.fix c pes)
      | .settling => (s.sampled c pes).settleSample (Fix.next s.pos.fix c pes)
      | .tracking => (s.sampled c pes).trackSample (Fix.next s.pos.fix c pes)
      | .seeking => (s.sampled c pes).seekSample (Fix.next s.pos.fix c pes)
      | .unloading => if withinHalfTrack 0 (Fix.next s.pos.fix c pes).position then (s.sampled c pes).enterToRamp
          else (s.sampled c pes).seekCompute
      | _ => s.sampled c pes := rfl

theorem next_cylinder (old : Option Fix) (c : Nat) (pes : Int) : (Fix.next old c pes).cylinder = c := by
  cases old <;> rfl
theorem next_pes (old : Option Fix) (c : Nat) (pes : Int) : (Fix.next old c pes).pes = pes := by
  cases old <;> rfl
theorem next_position (old : Option Fix) (c : Nat) (pes : Int) :
    (Fix.next old c pes).position = c * 256 + pes := by
  cases old <;> rfl
theorem next_of_some (f : Fix) (c : Nat) (pes : Int) : Fix.next (some f) c pes =
    ⟨c, pes, c * 256 + pes, c * 256 + pes, Int.tdiv (c * 256 + pes - f.previous) f.since, 1⟩ := rfl

/-- On the target the following law works from the position error alone (R65). -/
theorem followCurrent_on (t : SeekProfile) {old : Option Fix} {c : Nat} {pes : Int} :
    followCurrent t c (Fix.next old c pes) = clampTo t.ilim (-Int.tdiv (t.kp * pes) 16) := by
  simp [followCurrent, followError, next_cylinder, next_pes]

/-! ## The seek computation -/

/-- A seek computation below the deglitch count sets the current and the clamp count, whatever it computes (R84). -/
theorem seekCompute_below {s : State} (hc : s.pos.clampCount = 0)
    (hd : 1 < s.tbs.actions.actuatorSaturation.deglitch) :
    ∃ i n, s.seekCompute = s ∨
      s.seekCompute = s.onPos (fun p => { p with current := i, clampCount := n }) ∨
      s.seekCompute = (s.onPos fun p => { p with current := i, clampCount := n }).absent .actuatorSaturation := by
  unfold State.seekCompute
  split
  · next f t hf ht =>
    dsimp only
    split
    · have hn : ¬ s.deglitch .actuatorSaturation ≤ s.pos.clampCount + 1 := by
        rw [hc]
        exact Nat.not_le_of_lt hd
      rw [if_neg hn]
      exact ⟨_, _, .inr (.inl rfl)⟩
    · exact ⟨_, _, .inr (.inr rfl)⟩
  · exact ⟨0, 0, .inl rfl⟩

/-- A seek computation inside the limit (R83, R84). -/
theorem seekCompute_free {s : State} {f : Fix} {target : Nat} (hf : s.pos.fix = some f)
    (ht : s.pos.target = some target)
    (hr : (seekRaw s.tbs.profile target f.position f.velocity).natAbs ≤ s.tbs.profile.ilim) :
    s.seekCompute = (s.onPos fun p => { p with
      current := seekRaw s.tbs.profile target f.position f.velocity, clampCount := 0 }).absent
        .actuatorSaturation := by
  have hc : isClamped s.tbs.profile (seekRaw s.tbs.profile target f.position f.velocity) = false := by
    simp [isClamped, hr]
  simp [State.seekCompute, hf, ht, hc, clampTo_of_bound hr]

theorem sign_mul_eq {d : Int} {v : Nat} (h : d ≠ 0) : d.sign * v = if 0 < d then (v : Int) else -v := by
  split
  · next hp => rw [Int.sign_eq_one_of_pos hp, Int.one_mul]
  · next hn =>
    have hneg : d < 0 := by omega
    rw [Int.sign_eq_neg_one_of_neg hneg, Int.neg_one_mul]

/-- Settles O32. -/
theorem seekingSample : Obligations.SeekingSample := by
  intro s c h target pes f hcalm hs hp hw ht hh hf p v d speed e hd hraw
  have hc := calm_iff.mp hcalm
  have htakes : s.takesSamples = true := by simp [State.takesSamples, hp]
  obtain ⟨u, hu⟩ : ∃ u, u = s.sampled c pes := ⟨_, rfl⟩
  have hsteers : s.Steers u := hu ▸ sampled_steers c pes s
  have hupos := sampled_pos c pes s
  rw [← hu] at hupos
  have htbs : u.tbs = s.tbs := tbs_of_hostSide hsteers.heads.hostSide
  have hfix : u.pos.fix = some ⟨c, pes, p, p, v, 1⟩ := by rw [hupos, hf, next_of_some]
  have htarget : u.pos.target = some target := by rw [hupos, ht]
  have hval : seekRaw u.tbs.profile target p v = Int.tdiv (s.tbs.profile.kv * e) 16 := by
    have hne : (target : Int) * 256 - p ≠ 0 := fun h0 => by
      have : d.natAbs = 0 := by simp only [d, h0, Int.natAbs_zero]
      omega
    rw [htbs, seekRaw, velocityError, distanceToGo, sign_mul_eq hne]
  have hnot : u.withinWindow = false := by
    simp only [State.withinWindow, hfix, htarget, withinHalfTrack, distanceToGo]
    exact decide_eq_false (Nat.not_le_of_lt hd)
  have hcompute := seekCompute_free hfix htarget (by rw [hval, htbs]; exact hraw)
  rw [hval] at hcompute
  have hexec : exec (.servoSample true c h pes) s = .next ((u.onPos fun p => { p with
      current := Int.tdiv (s.tbs.profile.kv * e) 16, clampCount := 0 }).absent .actuatorSaturation).event := by
    rw [exec_servoSample, takeSample_valid htakes hw hh, validSample_eq, hp, ← hcompute, hu]
    simp only [State.seekSample, ← hu, hnot]
    rfl
  have hlast := (hsteers.onPos (f := fun p => { p with
    current := Int.tdiv (s.tbs.profile.kv * e) 16, clampCount := 0 }) rfl).absent .actuatorSaturation
  refine completes_of_calm hexec (hc.steers hs hlast) ?_
  have hheads := hlast.heads
  refine ⟨rfl, ?_, rfl, ?_, ?_, ?_, ?_, ?_, keepsHost_of_hostSide hheads.hostSide, hheads.spc, hheads.ccu,
    hheads.counters⟩
  · simp [hupos, hp]
  · simpa using hfix
  · simpa using htarget
  · simp [hupos]
  · simp [hupos]
  · rw [absent_get]
    rfl

/-! ## Tracking -/

/-- A sample on the target sets the current alone (R65). -/
theorem trackSample_on {s : State} {f : Fix} (ht : s.pos.target = some f.cylinder) :
    s.trackSample f = s.onPos fun p => { p with current := followCurrent s.tbs.profile f.cylinder f } := by
  simp [State.trackSample, ht]

theorem trackSample_off {s : State} {f : Fix} (ht : s.pos.target ≠ some f.cylinder) :
    s.trackSample f = s.trackSlip f := by
  simp [State.trackSample, ht]

theorem sample_on_target {s : State} {c h : Nat} {pes : Int} {f : Fix} (hc : s.Calm) (hs : s.spc.state = .atSpeed)
    (hp : s.pos.state = .tracking) (hw : s.pos.window = .waiting) (hf : s.pos.fix = some f)
    (ht : s.pos.target = some c) (hh : s.pos.head = h) :
    s.completes (.servoSample true c h pes) fun t =>
      let p : Int := c * 256 + pes
      t.pos = { s.pos with
        fix := some ⟨c, pes, p, p, Int.tdiv (p - f.previous) f.since, 1⟩, dropCount := 0,
        window := .taken,
        current := clampTo s.tbs.profile.ilim (-Int.tdiv (s.tbs.profile.kp * pes) 16) } ∧
      (t.fsv.kinds.get .servoLost).present = false ∧ t.fsv.records = s.fsv.records ∧
      s.keepsHost t ∧ t.spc = s.spc ∧ t.ccu = s.ccu ∧ t.counters = s.counters ∧ t.atc = s.atc := by
  have htakes : s.takesSamples = true := by simp [State.takesSamples, hp]
  have hsteers := sampled_steers c pes s
  have htbs : (s.sampled c pes).tbs = s.tbs := tbs_of_hostSide hsteers.heads.hostSide
  have htarget : (s.sampled c pes).pos.target = some (Fix.next s.pos.fix c pes).cylinder := by
    rw [sampled_pos, next_cylinder]
    exact ht
  have hcur : followCurrent (s.sampled c pes).tbs.profile (Fix.next s.pos.fix c pes).cylinder
      (Fix.next s.pos.fix c pes) = clampTo s.tbs.profile.ilim (-Int.tdiv (s.tbs.profile.kp * pes) 16) := by
    rw [next_cylinder, followCurrent_on, htbs]
  have hexec : exec (.servoSample true c h pes) s = .next ((s.sampled c pes).onPos fun p => { p with
      current := clampTo s.tbs.profile.ilim (-Int.tdiv (s.tbs.profile.kp * pes) 16) }).event := by
    rw [exec_servoSample, takeSample_valid htakes hw hh, validSample_eq, hp]
    simp only [trackSample_on htarget, hcur]
  have hlast := hsteers.onPos (f := fun p => { p with
    current := clampTo s.tbs.profile.ilim (-Int.tdiv (s.tbs.profile.kp * pes) 16) }) rfl
  have hheads := hlast.heads
  refine completes_of_calm hexec (hc.steers hs hlast) ?_
  refine ⟨?_, sampled_servoLost c pes s, rfl, keepsHost_of_hostSide hheads.hostSide, hheads.spc, hheads.ccu,
    hheads.counters, hheads.atc⟩
  simp [sampled_pos, hf, next_of_some]

/-- A record in a window already taken changes nothing (R58). -/
theorem sample_ignored {s : State} (hc : s.Calm) (hw : s.pos.window = .taken) (valid : Bool) (c h : Nat)
    (pes : Int) : exec (.servoSample valid c h pes) s = .next s := by
  have hsame : s.takeSample valid c h pes = s := by simp [State.takeSample, hw]
  rw [exec_servoSample, hsame, event_of_calm hc]

/-- Half a track away from the target no sample of a legal error is on it. -/
theorem settleSample_off {s : State} {f : Fix} {t : Nat} (ht : s.pos.target = some t)
    (hw : withinHalfTrack t f.position = true) (hne : f.cylinder ≠ t) (hn : 0 < s.tbs.params.settleCount) :
    s.settleSample f = s.onPos fun p => { p with
      current := followCurrent s.tbs.profile t f, settleCount := 0 } := by
  have hcount : ¬ s.tbs.params.settleCount ≤ 0 := by omega
  simp [State.settleSample, ht, hw, hne, hcount]

/-- The seek back to the target of a slipped head (R67). -/
def State.slipped (s : State) : State :=
  (s.countTrackSlip.onPos fun p => { p with state := .seeking, settleCount := 0, requester := .none }).startSeekTimer

theorem trackSlip_free {s : State} (f : Fix) (hh : s.pos.hold = false) :
    s.trackSlip f = if s.slipped.withinWindow = true then s.slipped.enterSettling.settleSample f
      else s.slipped.seekCompute := by
  have hh' : s.countTrackSlip.pos.hold = false := hh
  simp only [State.trackSlip, hh', Bool.false_eq_true, if_false]
  rfl

theorem trackSlip_held {s : State} (f : Fix) (hh : s.pos.hold = true) :
    s.trackSlip f = s.countTrackSlip.onPos fun p => { p with
      state := .settling, target := some f.cylinder, settleCount := 0,
      current := followCurrent s.tbs.profile f.cylinder f } := by
  have hh' : s.countTrackSlip.pos.hold = true := hh
  simp only [State.trackSlip, hh', if_true]
  rfl

theorem startSeekTimer_steers (s : State) : s.Steers s.startSeekTimer := ⟨rfl, s.onPos_affairs rfl⟩

theorem slipped_steers (s : State) : s.countTrackSlip.Steers s.slipped :=
  ((State.Steers.refl s.countTrackSlip).onPos rfl).trans (startSeekTimer_steers _)

theorem enterSettling_steers (s : State) : s.Steers s.enterSettling :=
  (((State.Steers.refl s).onPos rfl).onPos rfl).absent _

theorem seekCompute_steers {s : State} (hc : s.pos.clampCount = 0)
    (hd : 1 < s.tbs.actions.actuatorSaturation.deglitch) :
    s.Steers s.seekCompute ∧ ∃ i n, s.seekCompute.pos = { s.pos with current := i, clampCount := n } := by
  obtain ⟨i, n, h | h | h⟩ := seekCompute_below hc hd <;> rw [h]
  · exact ⟨.refl s, s.pos.current, s.pos.clampCount, rfl⟩
  · exact ⟨(State.Steers.refl s).onPos rfl, i, n, rfl⟩
  · exact ⟨((State.Steers.refl s).onPos rfl).absent _, i, n, rfl⟩

/-- A slip without the hold flag turns back to the target, or settles where the target is within half a track
(R67, R80). -/
theorem trackSlip_seeks {s : State} {f : Fix} {target : Nat} (hh : s.pos.hold = false)
    (ht : s.pos.target = some target) (hf : s.pos.fix = some f) (hne : f.cylinder ≠ target)
    (hc : s.pos.clampCount = 0) (hd : 1 < s.tbs.actions.actuatorSaturation.deglitch)
    (hn : 1 < s.tbs.params.settleCount) :
    s.countTrackSlip.Steers (s.trackSlip f) ∧
    ((s.trackSlip f).pos.state = .seeking ∨
      (s.trackSlip f).pos.state = .settling ∧ (distanceToGo target f.position).natAbs ≤ 128) ∧
    (s.trackSlip f).pos.target = some target ∧ (s.trackSlip f).pos.timerOn = true ∧
    (s.trackSlip f).pos.timerCount = 0 ∧ (s.trackSlip f).pos.timerLength = s.tbs.params.seekTimeout ∧
    (s.trackSlip f).pos.requester = .none := by
  rw [trackSlip_free f hh]
  have hwindow : s.slipped.withinWindow = withinHalfTrack target f.position := by
    have hf' : s.slipped.pos.fix = some f := hf
    have ht' : s.slipped.pos.target = some target := ht
    simp [State.withinWindow, hf', ht']
  split
  · next hw =>
    rw [hwindow] at hw
    have hset : s.slipped.enterSettling.settleSample f = s.slipped.enterSettling.onPos fun p => { p with
        current := followCurrent s.slipped.enterSettling.tbs.profile target f, settleCount := 0 } :=
      settleSample_off (s := s.slipped.enterSettling) ht hw hne (Nat.lt_trans Nat.zero_lt_one hn)
    rw [hset]
    refine ⟨((slipped_steers s).trans (enterSettling_steers _)).onPos rfl, .inr ⟨rfl, ?_⟩, ht, rfl, rfl, rfl, rfl⟩
    simpa [withinHalfTrack] using hw
  · obtain ⟨hsteers, i, n, hpos⟩ := seekCompute_steers (s := s.slipped) hc hd
    rw [hpos]
    exact ⟨(slipped_steers s).trans hsteers, .inl rfl, ht, rfl, rfl, rfl, rfl⟩

/-- Settles O30. -/
theorem trackingSamples : Obligations.TrackingSamples := by
  refine ⟨fun s valid c h pes f hcalm => ?_, fun s c h target pes f hcalm hs hp hw hf ht hne hh _ _ => ?_⟩
  · have hc := calm_iff.mp hcalm
    exact ⟨fun _ hw => sample_ignored hc hw valid c h pes,
      fun hs hp hw hf ht hh => sample_on_target hc hs hp hw hf ht hh⟩
  · have hc := calm_iff.mp hcalm
    have htakes : s.takesSamples = true := by simp [State.takesSamples, hp]
    obtain ⟨u, hu⟩ : ∃ u, u = s.sampled c pes := ⟨_, rfl⟩
    have hsteers : s.Steers u := hu ▸ sampled_steers c pes s
    have hupos := sampled_pos c pes s
    rw [← hu] at hupos
    have htbs : u.tbs = s.tbs := tbs_of_hostSide hsteers.heads.hostSide
    obtain ⟨g, hg⟩ : ∃ g, g = Fix.next s.pos.fix c pes := ⟨_, rfl⟩
    have hgc : g.cylinder = c := hg ▸ next_cylinder _ c pes
    have hgp : g.position = c * 256 + pes := hg ▸ next_position _ c pes
    rw [← hg] at hupos
    have hexec : exec (.servoSample true c h pes) s = .next (u.trackSlip g).event := by
      have hoff : u.pos.target ≠ some g.cylinder := by
        rw [hupos, hgc, ht]
        exact fun e => hne (Option.some.inj e).symm
      rw [exec_servoSample, takeSample_valid htakes hw hh, validSample_eq, hp, ← trackSample_off hoff, hu, hg]
    have hcount : u.countTrackSlip.Calm := (hc.steers hs hsteers).onCounters _
    have hcs : u.countTrackSlip.spc = s.spc := hsteers.heads.spc
    have hcc : u.countTrackSlip.ccu = s.ccu := hsteers.heads.ccu
    have hch : u.countTrackSlip.hostSide = s.hostSide := hsteers.heads.hostSide
    have hcnt : u.countTrackSlip.counters =
        { s.counters with trackSlips := min 65535 (s.counters.trackSlips + 1) } := by
      have hsame : u.counters = s.counters := hsteers.heads.counters
      simp [State.countTrackSlip, hsame, bump, satAdd, Config.counterTop]
    refine ⟨fun hhold hd hclamp hn => ?_, fun hhold => ?_⟩
    · obtain ⟨hslip, hstate, htarget, hon, hzero, hlen, hreq⟩ := trackSlip_seeks (s := u) (f := g)
        (target := target) (by rw [hupos]; exact hhold) (by rw [hupos]; exact ht) (by rw [hupos])
        (by rw [hgc]; exact hne) (by rw [hupos]; exact hclamp) (by rw [htbs]; exact hd) (by rw [htbs]; exact hn)
      refine completes_of_calm hexec (hcount.steers (by rw [hcs, hs]) hslip) ?_
      refine ⟨hstate.imp_right fun hset => ⟨hset.1, ?_⟩, htarget, hon, hzero, ?_, hreq, ?_, ?_, ?_, ?_⟩
      · rw [← hgp]
        exact hset.2
      · rw [hlen, htbs]
      · rw [hslip.heads.counters, hcnt]
      · exact keepsHost_of_hostSide (hslip.heads.hostSide.trans hch)
      · rw [hslip.heads.spc, hcs]
      · rw [hslip.heads.ccu, hcc]
    · rw [trackSlip_held g (by rw [hupos]; exact hhold)] at hexec
      have hslip := (State.Steers.refl u.countTrackSlip).onPos (f := fun p => { p with
        state := .settling, target := some g.cylinder, settleCount := 0,
        current := followCurrent u.tbs.profile g.cylinder g }) rfl
      refine completes_of_calm hexec (hcount.steers (by rw [hcs, hs]) hslip) ?_
      refine ⟨rfl, by rw [← hgc]; rfl, rfl, ?_, hcnt, keepsHost_of_hostSide hch, hcs, hcc⟩
      have hon : u.pos.timerOn = s.pos.timerOn := by rw [hupos]
      exact hon

end Sys2Proof.Machine
end

section
/-! SETTLING, the entry of TRACKING, and dropped samples, in a calm drive (R60, R65, R66, R88). -/

namespace Sys2Proof.Machine

/-! ## The entry of TRACKING -/

theorem withdrawLoads_steers {s : State} (h : s.pendingLoad = false) : s.Steers s.withdrawLoads := by
  simp only [State.pendingLoad, Bool.or_eq_false_iff] at h
  have hpos : (s.onPos fun p => { p with loadByWork := false }).affairs = s.affairs :=
    s.onPos_affairs h.1.symm
  refine ⟨withdrawLoads_onlyHeads s, Eq.trans (State.onFsv_affairs _ ?_ ?_) hpos⟩
  · simp [PerKind.any_map]
  · exact (PerKind.any_eq_false.mpr fun k => by simp).trans h.2.symm

theorem successPoint_steers (spindle : Bool) (s : State) : s.Steers (s.successPoint spindle) :=
  ⟨(successPoint_onlyFsv spindle s).onlyHeads, s.successPoint_affairs spindle⟩

/-- The Positioner's fields in TRACKING (R66, R88). -/
def Positioner.tracked (p : Positioner) : Positioner := { p with
  state := .tracking, settleCount := 0, timerOn := false, requester := .none, restartLoad := false,
  seekTimeoutCount := if p.timerOn then 0 else p.seekTimeoutCount }

/-- TRACKING is entered with no record read due and no SEEK waiting: a seek in flight is counted (R88). -/
theorem enterTracking_steers {s : State} (hl : s.pendingLoad = false) (hj : s.job = .idle)
    (hr : s.pos.restartLoad = false ∨ s.record.state ≠ .notRead) :
    (if s.pos.timerOn then s.countSeek else s).Steers s.enterTracking ∧
    s.enterTracking.pos = { s.pos.tracked with loadByWork := false } := by
  obtain ⟨t, ht⟩ : ∃ t, t = ((s.onPos Positioner.tracked).withdrawLoads.absent .seekTimeout) := ⟨_, rfl⟩
  have hnone : (s.fsv.kinds.any KindStatus.wantsLoad) = false := by
    simp only [State.pendingLoad, Bool.or_eq_false_iff] at hl
    exact hl.2
  have hdue : ((s.pos.restartLoad || s.fsv.kinds.any KindStatus.wantsLoad) && s.record.state == .notRead) =
      false := by
    rcases hr with hr | hr <;> simp [hr, hnone]
  have hst : s.Steers t := by
    rw [ht]
    exact (((State.Steers.refl s).onPos rfl).trans
      (withdrawLoads_steers (s := s.onPos Positioner.tracked) hl)).absent _
  have htpos : t.pos = { s.pos.tracked with loadByWork := false } := by rw [ht]; rfl
  have htj : t.job = .idle := by rw [ht]; exact hj
  have heq : s.enterTracking = (if s.pos.timerOn then t.countSeek else t).successPoint false := by
    have hjob : ((if s.pos.timerOn then t.countSeek else t).successPoint false).job = .idle := by
      have hkeep := (keepsHost_of_hostSide (successPoint_onlyFsv false (if s.pos.timerOn then t.countSeek else t)).hostSide).2.2.1
      rw [hkeep]
      split
      · exact htj
      · exact htj
    have hunfold : s.enterTracking =
        if (s.pos.requester == .seekCommand &&
          ((if s.pos.timerOn then t.countSeek else t).successPoint false).job == .seeking) = true then
          ((if s.pos.timerOn then t.countSeek else t).successPoint false).completeHead .ok
        else (if s.pos.timerOn then t.countSeek else t).successPoint false := by
      rw [ht]
      unfold State.enterTracking
      simp only [hdue, Bool.false_eq_true, if_false]
      rfl
    rw [hunfold, hjob, if_neg (by simp)]
  rw [heq]
  have hpos := (successPoint_onlyFsv false (if s.pos.timerOn then t.countSeek else t)).pos
  rw [hpos]
  split
  · refine ⟨State.Steers.trans ⟨?_, ?_⟩ (successPoint_steers false _), htpos⟩
    · have := hst.heads
      unfold State.OnlyHeads at this ⊢
      rw [this]
      rfl
    · exact hst.affairs
  · exact ⟨hst.trans (successPoint_steers false _), htpos⟩

/-! ## A sample in SETTLING -/

/-- What a sample on the target counts (R66). -/
def State.goodCount (s : State) (pes : Int) : Nat :=
  if pes.natAbs ≤ s.tbs.params.settleWindow then s.pos.settleCount + 1 else 0

/-- A legal sample of the target lies within half a track of it. -/
theorem withinHalfTrack_on {c : Nat} {pes : Int} (hlow : -128 ≤ pes) (hhigh : pes ≤ 127) :
    withinHalfTrack c (c * 256 + pes) = true := by
  unfold withinHalfTrack distanceToGo
  exact decide_eq_true (by omega)

/-- The count is taken, and TRACKING entered where it is reached (R66). -/
def State.settleStep (i : Int) (n : Nat) (s : State) : State :=
  if s.tbs.params.settleCount ≤ n then (s.onPos fun p => { p with current := i, settleCount := n }).enterTracking
  else s.onPos fun p => { p with current := i, settleCount := n }

theorem settleSample_on {s : State} {f : Fix} (ht : s.pos.target = some f.cylinder)
    (hw : withinHalfTrack f.cylinder f.position = true) :
    s.settleSample f = s.settleStep (followCurrent s.tbs.profile f.cylinder f) (s.goodCount f.pes) := by
  unfold State.settleSample
  rw [ht]
  dsimp only
  rw [if_pos hw]
  simp only [beq_self_eq_true, Bool.true_and, decide_eq_true_eq]
  rfl

theorem takeSample_settling {s : State} {c h : Nat} {pes : Int} (hp : s.pos.state = .settling)
    (hw : s.pos.window = .waiting) (ht : s.pos.target = some c) (hh : s.pos.head = h) (hlow : -128 ≤ pes)
    (hhigh : pes ≤ 127) : s.takeSample true c h pes = (s.sampled c pes).settleStep
      (clampTo s.tbs.profile.ilim (-Int.tdiv (s.tbs.profile.kp * pes) 16)) (s.goodCount pes) := by
  have htakes : s.takesSamples = true := by simp [State.takesSamples, hp]
  have htarget : (s.sampled c pes).pos.target = some (Fix.next s.pos.fix c pes).cylinder := by
    rw [sampled_pos, next_cylinder]
    exact ht
  have hwithin : withinHalfTrack (Fix.next s.pos.fix c pes).cylinder (Fix.next s.pos.fix c pes).position = true := by
    rw [next_cylinder, next_position]
    exact withinHalfTrack_on hlow hhigh
  have hset := settleSample_on htarget hwithin
  rw [next_cylinder, followCurrent_on, next_pes] at hset
  rw [takeSample_valid htakes hw hh, validSample_eq, hp]
  exact hset

/-- What the count leaves, where no record read becomes due. -/
theorem settleStep_steers {s : State} (hl : s.pendingLoad = false) (hj : s.job = .idle)
    (hr : s.pos.restartLoad = false ∨ s.record.state ≠ .notRead) (i : Int) (n : Nat) :
    (n < s.tbs.params.settleCount → s.Steers (s.settleStep i n) ∧
      (s.settleStep i n).pos = { s.pos with current := i, settleCount := n }) ∧
    (s.tbs.params.settleCount ≤ n → (if s.pos.timerOn then s.countSeek else s).Steers (s.settleStep i n) ∧
      (s.settleStep i n).pos = { s.pos.tracked with current := i, loadByWork := false }) := by
  have hput := (State.Steers.refl s).onPos (f := fun p => { p with current := i, settleCount := n }) rfl
  refine ⟨fun hn => ?_, fun hn => ?_⟩
  · rw [State.settleStep, if_neg (Nat.not_le_of_lt hn)]
    exact ⟨hput, rfl⟩
  · rw [State.settleStep, if_pos hn]
    obtain ⟨hst, hpos⟩ := enterTracking_steers (s := s.onPos fun p => { p with current := i, settleCount := n })
      hl hj hr
    refine ⟨State.Steers.trans ?_ hst, hpos⟩
    change (if s.pos.timerOn then s.countSeek else s).Steers (if s.pos.timerOn then _ else _)
    split
    · exact ⟨rfl, hput.affairs⟩
    · exact hput

theorem settlingSample_first {s : State} {c h : Nat} {pes : Int} (hc : s.Calm) (hs : s.spc.state = .atSpeed)
    (hp : s.pos.state = .settling) (hw : s.pos.window = .waiting) (ht : s.pos.target = some c)
    (hh : s.pos.head = h) (hlow : -128 ≤ pes) (hhigh : pes ≤ 127)
    (hr : s.pos.restartLoad = false ∨ s.record.state ≠ .notRead) {n : Nat} (hn : s.goodCount pes = n) :
    s.completes (.servoSample true c h pes) fun t =>
      (n < s.tbs.params.settleCount → t.pos.state = .settling ∧ t.pos.settleCount = n ∧
        t.pos.timerOn = s.pos.timerOn ∧ t.counters = s.counters) ∧
      (s.tbs.params.settleCount ≤ n → t.pos.state = .tracking ∧ t.pos.settleCount = 0 ∧
        t.pos.timerOn = false ∧ t.pos.requester = .none ∧
        t.counters.seeksCompleted = (if s.pos.timerOn
          then min 65535 (s.counters.seeksCompleted + 1) else s.counters.seeksCompleted)) ∧
      t.pos.target = some c ∧
      t.pos.current = clampTo s.tbs.profile.ilim (-Int.tdiv (s.tbs.profile.kp * pes) 16) ∧
      s.keepsHost t ∧ t.spc = s.spc ∧ t.ccu = s.ccu := by
  have hexec := exec_servoSample true c h pes s
  rw [takeSample_settling hp hw ht hh hlow hhigh, hn] at hexec
  generalize clampTo s.tbs.profile.ilim (-Int.tdiv (s.tbs.profile.kp * pes) 16) = i at hexec ⊢
  have hsteers := sampled_steers c pes s
  have hpos := sampled_pos c pes s
  have hrec : (s.sampled c pes).record = s.record := rfl
  generalize s.sampled c pes = u at *
  have hu := hc.steers hs hsteers
  have htbs : u.tbs = s.tbs := tbs_of_hostSide hsteers.heads.hostSide
  obtain ⟨hshort, hfull⟩ := settleStep_steers (s := u) hu.noLoad hu.job (by rw [hpos, hrec]; exact hr) i n
  rw [htbs] at hshort hfull
  rcases Nat.lt_or_ge n s.tbs.params.settleCount with hlt | hge
  · obtain ⟨hst, hlast⟩ := hshort hlt
    have hall := hsteers.trans hst
    refine completes_of_calm hexec (hc.steers hs hall) ?_
    rw [hlast, hpos]
    exact ⟨fun _ => ⟨hp, rfl, rfl, hall.heads.counters⟩, fun hge => absurd hge (Nat.not_le_of_lt hlt), ht, rfl,
      keepsHost_of_hostSide hall.heads.hostSide, hall.heads.spc, hall.heads.ccu⟩
  · obtain ⟨hst, hlast⟩ := hfull hge
    have hcs : (if u.pos.timerOn then u.countSeek else u).spc = s.spc ∧
        (if u.pos.timerOn then u.countSeek else u).ccu = s.ccu ∧
        (if u.pos.timerOn then u.countSeek else u).hostSide = s.hostSide ∧
        (if u.pos.timerOn then u.countSeek else u).counters.seeksCompleted = (if s.pos.timerOn
          then min 65535 (s.counters.seeksCompleted + 1) else s.counters.seeksCompleted) ∧
        (if u.pos.timerOn then u.countSeek else u).Calm := by
      have hon : u.pos.timerOn = s.pos.timerOn := by rw [hpos]
      rw [hon, ← hsteers.heads.spc, ← hsteers.heads.ccu, ← hsteers.heads.hostSide, ← hsteers.heads.counters]
      split
      · exact ⟨rfl, rfl, rfl, rfl, hu.onCounters _⟩
      · exact ⟨rfl, rfl, rfl, rfl, hu⟩
    obtain ⟨hspc, hccu, hhost, hcnt, hcalm⟩ := hcs
    refine completes_of_calm hexec (hcalm.steers (by rw [hspc, hs]) hst) ?_
    rw [hlast, hpos]
    exact ⟨fun hlt => absurd hge (Nat.not_le_of_lt hlt), fun _ => ⟨rfl, rfl, rfl, rfl, by rw [hst.heads.counters, hcnt]⟩,
      ht, rfl, keepsHost_of_hostSide (hst.heads.hostSide.trans hhost), hst.heads.spc.trans hspc,
      hst.heads.ccu.trans hccu⟩

/-! ## The record read of a restart -/

/-- Heads that fly over a disk at speed leave an idle drive without a reaction, whoever waits for a load. -/
theorem react_of_flying {s : State} (hi : s.Idle) (hs : s.spc.state = .atSpeed) (hf : s.pos.state.flying = true) :
    react s = none := by
  have hu : s.pos.state ≠ .unloaded := fun e => by simp [e, PosState.flying] at hf
  simp [react_of_idle hi, mechanical, reactOwnUnload, reactStopCheck, reactRelease, reactBrake, reactStart, reactLoad,
    State.atRest, State.loadAllowed, guarded, hs, hu]

/-- The drive is idle but for the record. -/
structure State.BesidesRecord (s : State) : Prop where
  queue : s.queue = []
  job : s.job = .idle
  endWith : s.endWith = none
  work : s.work = none
  downs : s.downs = ⟨none, none, none, false⟩
  eject : s.ccu.eject = none
  eng : s.eng = Engine.none
  supplied : s.supplyLow = false

theorem State.Idle.besidesRecord {s : State} (h : s.Idle) : s.BesidesRecord := { h with }

/-- Beside an idle drive with its heads in flight, the record's own reactions are left (R5, R10). -/
theorem react_of_record {s : State} (h : s.BesidesRecord) (hs : s.spc.state = .atSpeed)
    (hf : s.pos.state.flying = true) {r : RecordRead} :
    (s.record.op = .idle → s.record.readWanted = true → s.pos.state = .tracking →
      s.record.state = .notRead → react s = some s.startRecordRead) ∧
    (s.record.op = .reading r → s.record.readWanted = false → s.pos.hold = true ∨ s.inPlace 0 0 = true →
      react s = none) := by
  obtain ⟨hq, hj, he, hw, hd, hx, hg, hl⟩ := h
  have hu : s.pos.state ≠ .unloaded := fun e => by simp [e, PosState.flying] at hf
  have hex : s.executing = none := by simp [State.executing, hq]
  refine ⟨fun ho hr ht hn => ?_, fun ho hr hp => ?_⟩
  · have hfree : s.engineFree = true := by simp [State.engineFree, ho, hg, Engine.none]
    simp [react, rules, hl, reactOwnUnload, reactStopCheck, reactRelease, reactBrake, reactStart,
      reactLoad, State.loadAllowed, State.atRest, reactFlight, reactRecordLost, State.recordOpLost,
      reactEjecting, reactStopped, reactParked, reactEjectParked, reactWorkCut, reactEnd, reactWork, reactReadDue,
      guarded, he, hw, hx, ho, hr, hg, Engine.none, hs, ht, hn, hfree]
  · have hready : s.spindleReady = true := by simp [State.spindleReady, hs, hf]
    rcases hp with hp | hp <;> cases hempty : s.emptySlot <;>
    simp [react, rules, hl, reactOwnUnload, reactStopCheck, reactRelease, reactBrake, reactStart,
      reactLoad, State.loadAllowed, State.atRest, reactFlight, reactRecordLost, State.recordOpLost,
      reactEjecting, reactStopped, reactParked, reactEjectParked, reactWorkCut, reactEnd, reactWork, reactReadDue,
      reactReached, reactRecordSeek, reactRecordSlot, reactEngine, reactDrain, reactDown, Downs.stepOf, reactEject,
      reactBegin, reactStranded, reactReady, reactTransfer, guarded, hq, hj, he, hw, hx, ho, hr, hg, hex,
      Engine.none, hs, hu, hd, hready, hp]

/-- TRACKING, entered now, brings a record read (R5, R151). -/
def State.readDue (s : State) : Bool :=
  (s.pos.restartLoad || s.fsv.kinds.any KindStatus.wantsLoad) && s.record.state == .notRead

/-- TRACKING entered with no SEEK waiting: no load waits, and a record read that is due is wanted (R5, R62). -/
theorem enterTracking_eq {s : State} (hj : s.job ≠ .seeking) :
    s.enterTracking = { s with
      pos := { s.pos.tracked with loadByWork := false }, fsv := s.enterTracking.fsv,
      counters := s.enterTracking.counters,
      record := if s.readDue then { s.record with readWanted := true } else s.record } ∧
    s.enterTracking.pendingLoad = false := by
  obtain ⟨u, hu⟩ : ∃ u, u = (s.onPos Positioner.tracked).withdrawLoads.absent .seekTimeout := ⟨_, rfl⟩
  have hheads : s.OnlyHeads u := hu ▸ ((onPos_onlyHeads _ s).trans (withdrawLoads_onlyHeads _)).trans
    (absent_onlyHeads _ _)
  have hupos : u.pos = { s.pos.tracked with loadByWork := false } := by rw [hu]; rfl
  have huload : u.pendingLoad = false := by
    have ha := State.absent_affairs (s.onPos Positioner.tracked).withdrawLoads .seekTimeout
    simp only [State.affairs, Prod.mk.injEq] at ha
    rw [hu, ha.2.2.2.2.2.1]
    simp [State.withdrawLoads, State.pendingLoad, PerKind.any]
  obtain ⟨v, hv⟩ : ∃ v, v = if s.pos.timerOn then u.countSeek else u := ⟨_, rfl⟩
  obtain ⟨t, ht⟩ : ∃ t, t = if s.readDue then v.onRec fun r => { r with readWanted := true } else v := ⟨_, rfl⟩
  have hkeep : t = { s with
      pos := { s.pos.tracked with loadByWork := false }, fsv := t.fsv, counters := t.counters,
      record := if s.readDue then { s.record with readWanted := true } else s.record } := by
    unfold State.OnlyHeads at hheads
    rw [hupos] at hheads
    generalize u.fsv = w at hheads
    rw [ht, hv, hheads]
    cases s.readDue <;> cases s.pos.timerOn <;> rfl
  have hload : t.pendingLoad = false := by
    rw [ht, hv]
    cases s.readDue <;> cases s.pos.timerOn <;> exact huload
  have hfsv := successPoint_onlyFsv false t
  have heq : s.enterTracking = t.successPoint false := by
    have hjob : (t.successPoint false).job ≠ .seeking := by
      rw [(keepsHost_of_hostSide hfsv.hostSide).2.2.1, hkeep]
      exact hj
    have hunfold : s.enterTracking = if (s.pos.requester == .seekCommand &&
        (t.successPoint false).job == .seeking) = true then (t.successPoint false).completeHead .ok
        else t.successPoint false := by
      rw [ht, hv, hu]
      rfl
    rw [hunfold, if_neg (by simp [hjob])]
  rw [heq]
  refine ⟨?_, ?_⟩
  · have hcnt := hfsv.counters
    unfold State.OnlyFsv at hfsv
    rw [hcnt]
    generalize (t.successPoint false).fsv = v at hfsv
    rw [hfsv]
    rw [hkeep]
  · have ha := t.successPoint_affairs false
    simp only [State.affairs, Prod.mk.injEq] at ha
    rw [ha.2.2.2.2.2.1, hload]

/-- The same at the end of a restart's load, with a record to read (R5, R151). -/
theorem enterTracking_due {s : State} (hj : s.job = .idle) (hr : s.pos.restartLoad = true)
    (hn : s.record.state = .notRead) :
    s.enterTracking = { s with
      pos := { s.pos.tracked with loadByWork := false }, fsv := s.enterTracking.fsv,
      counters := s.enterTracking.counters, record := { s.record with readWanted := true } } ∧
    s.enterTracking.pendingLoad = false := by
  have hdue : s.readDue = true := by simp [State.readDue, hr, hn]
  obtain ⟨h, hload⟩ := enterTracking_eq (s := s) (by simp [hj])
  rw [hdue, if_pos rfl] at h
  exact ⟨h, hload⟩

/-- The heads of a TRACKING positioner sent to a cylinder and head (R61, R67, R68, R79): they are in place,
switch heads, settle at once within half a track, or seek. -/
theorem seekRequest_tracking {s : State} {f : Fix} {c : Nat} (ht : s.pos.state = .tracking)
    (hh : s.pos.hold = false) (hc : s.pos.clampCount = 0) (hd : 1 < s.tbs.actions.actuatorSaturation.deglitch)
    (hf : s.pos.fix = some f) (htarget : s.pos.target = some c) (req : Requester) (cylinder head : Nat) :
    ∃ x, s.seekRequest req cylinder head = some x ∧ s.Steers x ∧ x.pos.target = some cylinder ∧
      x.pos.head = head ∧ x.pos.restartLoad = s.pos.restartLoad ∧ x.pos.state.flying = true ∧
      (c ≠ cylinder → withinHalfTrack cylinder f.position = false → x.pos.state = .seeking ∧
        x.pos.requester = req ∧ x.pos.timerOn = true ∧ x.pos.timerCount = 0) ∧
      (c = cylinder → s.pos.head = head → x.pos.state = .tracking) := by
  by_cases hsame : c = cylinder
  · have heq : s.seekRequest req cylinder head = some (s.headSwitch head) := by
      simp [State.seekRequest, hh, ht, htarget, hsame]
    refine ⟨_, heq, ?_⟩
    by_cases hhead : s.pos.head = head
    · have hstay : s.headSwitch head = s := by simp [State.headSwitch, hhead]
      rw [hstay]
      exact ⟨.refl s, hsame ▸ htarget, hhead, rfl, by simp [ht, PosState.flying], fun h => absurd hsame h,
        fun _ _ => ht⟩
    · have hswitch : s.headSwitch head = s.onPos fun p =>
          { p with head := head, state := .settling, settleCount := 0 } := by
        simp [State.headSwitch, hhead, ht]
      rw [hswitch]
      exact ⟨(State.Steers.refl s).onPos rfl, hsame ▸ htarget, rfl, rfl, rfl, fun h => absurd hsame h,
        fun _ h => absurd h hhead⟩
  · obtain ⟨u, hu⟩ : ∃ u, u = (s.onPos fun p => { p with
        state := .seeking, target := some cylinder, head := head, requester := req, settleCount := 0 }).startSeekTimer :=
      ⟨_, rfl⟩
    have hsu : s.Steers u := hu ▸ ((State.Steers.refl s).onPos rfl).trans (startSeekTimer_steers _)
    have heq : s.seekRequest req cylinder head =
        some (if u.withinWindow then u.enterSettling else u.seekCompute) := by
      have hne : (s.pos.target == some cylinder) = false := by simp [htarget, hsame]
      rw [hu]
      simp only [State.seekRequest, hh, ht, hne, Bool.false_eq_true, if_false]
      rfl
    have hwindow : u.withinWindow = withinHalfTrack cylinder f.position := by
      have hf' : u.pos.fix = some f := by rw [hu]; exact hf
      have ht' : u.pos.target = some cylinder := by rw [hu]; rfl
      simp [State.withinWindow, hf', ht']
    have hpos : u.pos = { s.pos with
        state := .seeking, target := some cylinder, head := head, requester := req, settleCount := 0,
        timerOn := true, timerCount := 0, timerLength := s.tbs.params.seekTimeout } := by
      rw [hu]
      rfl
    have htbs : u.tbs = s.tbs := tbs_of_hostSide hsu.heads.hostSide
    refine ⟨_, heq, ?_⟩
    rw [hwindow]
    cases hw : withinHalfTrack cylinder f.position with
    | true =>
      have hset : u.enterSettling.pos = { u.pos with state := .settling, settleCount := 0, clampCount := 0 } := rfl
      rw [if_pos rfl, hset, hpos]
      exact ⟨hsu.trans (enterSettling_steers u), rfl, rfl, rfl, rfl, fun _ h => by simp at h,
        fun h => absurd h hsame⟩
    | false =>
      obtain ⟨hsteer, i, n, hlast⟩ := seekCompute_steers (s := u) (by rw [hpos]; exact hc) (by rw [htbs]; exact hd)
      rw [if_neg (by simp), hlast, hpos]
      exact ⟨hsu.trans hsteer, rfl, rfl, rfl, rfl, fun _ _ => ⟨rfl, rfl, rfl, rfl⟩, fun h => absurd h hsame⟩

/-- What a record read has before its first sector. -/
def RecordRead.fresh : RecordRead := ⟨List.replicate Config.recordSectors none, List.replicate Config.recordSectors 0⟩

/-- The record read of a TRACKING drive begins with its seek (R5). -/
theorem startRecordRead_tracking {s : State} {f : Fix} {c : Nat} (ht : s.pos.state = .tracking)
    (hh : s.pos.hold = false) (hc : s.pos.clampCount = 0) (hd : 1 < s.tbs.actions.actuatorSaturation.deglitch)
    (hf : s.pos.fix = some f) (htarget : s.pos.target = some c) :
    ∃ x, s.startRecordRead = x ∧
      (s.onRec fun r => { r with readWanted := false, op := .reading RecordRead.fresh }).Steers x ∧
      x.pos.target = some 0 ∧ x.pos.head = 0 ∧ x.pos.restartLoad = s.pos.restartLoad ∧
      x.pos.state.flying = true ∧
      (c ≠ 0 → withinHalfTrack 0 f.position = false → x.pos.state = .seeking ∧
        x.pos.requester = .engine ∧ x.pos.timerOn = true ∧ x.pos.timerCount = 0) ∧
      (c = 0 → s.pos.head = 0 → x.pos.state = .tracking) := by
  obtain ⟨x, hx, hrest⟩ := seekRequest_tracking
    (s := s.onRec fun r => { r with readWanted := false, op := .reading RecordRead.fresh }) ht hh hc hd hf htarget
    .engine 0 0
  have heq : s.startRecordRead = (s.onRec fun r => { r with
      readWanted := false, op := .reading RecordRead.fresh }).recordSeek := rfl
  refine ⟨x, ?_, hrest⟩
  rw [heq, State.recordSeek, hx]

/-- The last sample of a restart's load begins the record read in the same event (R5, R151). -/
theorem settling_starts_record {s : State} {c h : Nat} {pes : Int} (hi : s.Idle) (hh : s.Hosted)
    (hs : s.spc.state = .atSpeed) (hp : s.pos.state = .settling) (hw : s.pos.window = .waiting)
    (ht : s.pos.target = some c) (hhead : s.pos.head = h) (hlow : -128 ≤ pes) (hhigh : pes ≤ 127)
    (hr : s.pos.restartLoad = true) (hn : s.record.state = .notRead) (hhold : s.pos.hold = false)
    (hclamp : s.pos.clampCount = 0) (hd : 1 < s.tbs.actions.actuatorSaturation.deglitch)
    (hcount : s.tbs.params.settleCount ≤ s.goodCount pes) :
    s.completes (.servoSample true c h pes) fun t =>
      t.record = { s.record with op := .reading RecordRead.fresh } ∧
      t.pos.target = some 0 ∧ t.pos.head = 0 ∧ t.pos.restartLoad = false ∧ t.pendingLoad = false ∧
      (128 < (c : Int) * 256 + pes → t.pos.state = .seeking ∧ t.pos.requester = .engine ∧
        t.pos.timerOn = true ∧ t.pos.timerCount = 0) ∧
      (c = 0 → h = 0 → t.pos.state = .tracking) ∧
      t.dbi = s.dbi ∧ t.queue = s.queue ∧ t.slots = s.slots ∧ t.tbs = s.tbs ∧ t.spc = s.spc ∧
      t.ccu = s.ccu := by
  have hexec := exec_servoSample true c h pes s
  rw [takeSample_settling hp hw ht hhead hlow hhigh] at hexec
  generalize clampTo s.tbs.profile.ilim (-Int.tdiv (s.tbs.profile.kp * pes) 16) = i at hexec
  have hsteers := sampled_steers c pes s
  have hpos := sampled_pos c pes s
  generalize s.sampled c pes = u at *
  have htbs : u.tbs = s.tbs := tbs_of_hostSide hsteers.heads.hostSide
  obtain ⟨v, hv⟩ : ∃ v, v = u.onPos fun p => { p with current := i, settleCount := s.goodCount pes } := ⟨_, rfl⟩
  have hsv : s.Steers v := hv ▸ hsteers.onPos rfl
  have hvpos : v.pos = { s.pos with
      window := .taken, fix := some (Fix.next s.pos.fix c pes), dropCount := 0, current := i,
      settleCount := s.goodCount pes } := by
    rw [hv, State.onPos_pos, hpos]
  have hstep : u.settleStep i (s.goodCount pes) = v.enterTracking := by
    rw [State.settleStep, htbs, if_pos hcount, hv]
  obtain ⟨-, -, -, -, -, -, hvrec, -⟩ := keepsHost_of_hostSide hsv.heads.hostSide
  obtain ⟨hent, hload⟩ := enterTracking_due (s := v) (hsv.heads.idle hi).job (by rw [hvpos]; exact hr)
    (by rw [hvrec]; exact hn)
  rw [hstep] at hexec
  generalize v.enterTracking = w at *
  have hwpos : w.pos = { v.pos.tracked with loadByWork := false } := by rw [hent]
  have hwrec : w.record = { s.record with readWanted := true } := by rw [hent, ← hvrec]
  have hwspc : w.spc = s.spc := by rw [← hsv.heads.spc, hent]
  have hwccu : w.ccu = s.ccu := by rw [← hsv.heads.ccu, hent]
  have hwb : w.BesidesRecord := by
    rw [hent]
    exact { (hsv.heads.idle hi).besidesRecord with }
  have hwside : w.dbi = s.dbi ∧ w.queue = s.queue ∧ w.slots = s.slots ∧ w.tbs = s.tbs := by
    obtain ⟨hd, hq, -, -, hsl, htb, -⟩ := keepsHost_of_hostSide hsv.heads.hostSide
    rw [hent]
    exact ⟨hd, hq, hsl, htb⟩
  clear hent
  have hwt : w.pos.state = .tracking := by rw [hwpos]; rfl
  have hwfix : w.pos.fix = some (Fix.next s.pos.fix c pes) := by rw [hwpos, hvpos]; rfl
  have hfirst := (react_of_record hwb (by rw [hwspc, hs]) (by rw [hwt]; rfl) (r := RecordRead.fresh)).1
    (by rw [hwrec]; exact hi.op) (by rw [hwrec]) hwt (by rw [hwrec]; exact hn)
  obtain ⟨x, hx, hxs, hxt, hxh, hxr, hxf, hseek, htrack⟩ := startRecordRead_tracking (s := w) (c := c) hwt
    (by rw [hwpos, hvpos]; exact hhold) (by rw [hwpos, hvpos]; exact hclamp) (by rw [hwside.2.2.2]; exact hd)
    hwfix (by rw [hwpos, hvpos]; exact ht)
  rw [hx] at hfirst
  have hxrec : x.record = { s.record with op := .reading RecordRead.fresh } := by
    obtain ⟨-, -, -, -, -, -, hr', -⟩ := keepsHost_of_hostSide hxs.heads.hostSide
    rw [hr', State.onRec_record, hwrec, ← hi.readWanted]
  obtain ⟨hxdbi, hxq, -, -, hxsl, hxtbs, -⟩ := keepsHost_of_hostSide hxs.heads.hostSide
  have hxspc : x.spc = s.spc := hxs.heads.spc.trans hwspc
  have hxccu : x.ccu = s.ccu := hxs.heads.ccu.trans hwccu
  have hxb : x.BesidesRecord := by
    have hheads := hxs.heads
    unfold State.OnlyHeads at hheads
    rw [hheads]
    exact { hwb with }
  have hlast := (react_of_record hxb (by rw [hxspc, hs]) hxf (r := RecordRead.fresh)).2 (by rw [hxrec])
    (by rw [hxrec]; exact hi.readWanted) (.inr (by simp [State.inPlace, hxf, hxt, hxh]))
  have hxload : x.pendingLoad = false := by
    have ha := hxs.affairs
    simp only [State.affairs, Prod.mk.injEq] at ha
    rw [ha.2.2.2.2.2.1]
    exact hload
  have hxd : x.dbi = s.dbi := hxdbi.trans hwside.1
  have hevent : w.event = x := event_of_reactsIn (k := 1) ⟨_, hfirst, rfl⟩ (by decide) hlast (hh.of_dbi hxd)
  rw [hevent] at hexec
  refine ⟨x, hexec, hxrec, hxt, hxh, ?_, hxload, fun hfar => ?_, fun hc0 hh0 => ?_, hxd, hxq.trans hwside.2.1,
    hxsl.trans hwside.2.2.1, hxtbs.trans hwside.2.2.2, hxspc, hxccu⟩
  · rw [hxr, hwpos]
    rfl
  · refine hseek (fun h0 => ?_) ?_
    · subst h0
      omega
    · rw [next_position]
      exact decide_eq_false (by unfold distanceToGo; omega)
  · refine htrack hc0 ?_
    rw [hwpos, hvpos, ← hh0]
    exact hhead

/-- Settles O31. -/
theorem settlingSample : Obligations.SettlingSample := by
  refine ⟨fun s c h pes hcalm hs hp hw ht hh hlow hhigh hr =>
      settlingSample_first (calm_iff.mp hcalm) hs hp hw ht hh hlow hhigh hr rfl,
    fun s c h pes hcalm hs hp hw ht hh hlow hhigh hr hn hhold hclamp hd hgood => ?_⟩
  have hcalm := calm_iff.mp hcalm
  have hi : s.Idle := { hcalm.toIdle with }
  have hhost : s.Hosted := ⟨hcalm.turn, hcalm.inb⟩
  have hcount : s.goodCount pes = s.pos.settleCount + 1 := if_pos hgood
  rcases Nat.lt_or_ge (s.pos.settleCount + 1) s.tbs.params.settleCount with hlt | hge
  · have hexec := exec_servoSample true c h pes s
    have hsteers := sampled_steers c pes s
    have hpos := sampled_pos c pes s
    have htbs : (s.sampled c pes).tbs = s.tbs := tbs_of_hostSide hsteers.heads.hostSide
    rw [takeSample_settling hp hw ht hh hlow hhigh, State.settleStep, htbs, hcount,
      if_neg (Nat.not_le_of_lt hlt)] at hexec
    generalize clampTo s.tbs.profile.ilim (-Int.tdiv (s.tbs.profile.kp * pes) 16) = i at hexec
    have hall := hsteers.onPos (f := fun p => { p with current := i, settleCount := s.pos.settleCount + 1 }) rfl
    have hquiet := react_of_flying (hall.heads.idle hi) (by rw [hall.heads.spc, hs])
      (by rw [State.onPos_pos, hpos]; simp [hp, PosState.flying])
    rw [event_of_quiet hquiet (hhost.of_dbi rfl)] at hexec
    refine ⟨_, hexec, fun _ => ⟨hp, rfl, hr, sampled_servoLost c pes s, rfl,
      keepsHost_of_hostSide hall.heads.hostSide, hall.heads.spc, hall.heads.ccu⟩,
      fun hge => absurd hge (Nat.not_le_of_lt hlt)⟩
  · obtain ⟨t, hexec, hfacts⟩ := settling_starts_record hi hhost hs hp hw ht hh hlow hhigh hr hn hhold hclamp hd
      (by rw [hcount]; exact hge)
    exact ⟨t, hexec, fun hlt => absurd hge (Nat.not_le_of_lt hlt), fun _ => hfacts⟩

end Sys2Proof.Machine
end

section
/-! Dropped samples in a calm drive (R58, R60, R63, R66, R86). -/

namespace Sys2Proof.Machine

/-- The heads after a dropped sample that raises nothing (R60). -/
def Positioner.dropped (p : Positioner) : Positioner := { p with
  fix := p.fix.map Fix.drop, dropCount := satAdd 255 p.dropCount 1,
  settleCount := if p.state = .settling then 0 else p.settleCount }

/-- A drop short of the deglitch count, or in LOADING, is counted and no more (R60). -/
theorem dropSample_below {s : State}
    (h : s.pos.state = .loading ∨ satAdd 255 s.pos.dropCount 1 < s.deglitch .servoLost) :
    s.dropSample = (s.onPos Positioner.dropped).countDrop := by
  have hraise : (!(s.pos.state == .loading) && decide (s.deglitch .servoLost ≤ satAdd 255 s.pos.dropCount 1)) =
      false := by
    rcases h with h | h
    · simp [h]
    · simp [Nat.not_le_of_lt h]
  unfold State.dropSample
  simp only [hraise, Bool.false_eq_true, if_false, beq_iff_eq]
  rfl

theorem dropped_steers (s : State) : s.Steers (s.onPos Positioner.dropped) := (State.Steers.refl s).onPos rfl

/-- A sample of no value in an open window is a drop. -/
theorem takeSample_invalid {s : State} (ht : s.takesSamples = true) (hw : s.pos.window = .waiting) (c h : Nat)
    (pes : Int) : s.takeSample false c h pes = (s.onPos fun p => { p with window := .taken }).dropSample := by
  simp [State.takeSample, ht, hw]

/-- The states in which dropped samples count towards SERVO_LOST take samples. -/
theorem takesSamples_of_following {s : State}
    (h : s.pos.state = .settling ∨ s.pos.state = .tracking ∨ s.pos.state = .seeking ∨
      s.pos.state = .unloading ∧ s.pos.phase = .toCylinder0) : s.takesSamples = true := by
  rcases h with h | h | h | ⟨h, hp⟩ <;> simp [State.takesSamples, *]

theorem invalid_completes {s : State} (hc : s.Calm) (hs : s.spc.state = .atSpeed) (ht : s.takesSamples = true)
    (hw : s.pos.window = .waiting)
    (hd : s.pos.state = .loading ∨ satAdd 255 s.pos.dropCount 1 < s.deglitch .servoLost) (c h : Nat) (pes : Int) :
    s.completes (.servoSample false c h pes) fun t =>
      t.pos = { s.pos.dropped with window := .taken } ∧
      t.counters = { s.counters with sampleDrops := min 65535 (s.counters.sampleDrops + 1) } ∧
      s.keepsHost t ∧ t.spc = s.spc ∧ t.fsv = s.fsv := by
  have htaken := (State.Steers.refl s).onPos (f := fun p => { p with window := .taken }) rfl
  have hdrop := dropSample_below (s := s.onPos fun p => { p with window := .taken }) hd
  have hexec := exec_servoSample false c h pes s
  rw [takeSample_invalid ht hw, hdrop] at hexec
  have hall := htaken.trans (dropped_steers _)
  refine completes_of_calm hexec (State.Calm.onCounters (hc.steers hs hall) _) ?_
  exact ⟨rfl, rfl, keepsHost_of_hostSide rfl, rfl, rfl⟩

/-! ## A window that closes untaken -/

theorem wedged_heads (s : State) : s.wedged.pos = { s.pos with
    unloadWatch := s.pos.unloadWatch.map (Timer.tick s.spc.wedgeWait)
    retractWindow := s.pos.retractWindow.map (Timer.tick s.spc.wedgeWait) } := rfl

/-- The disk and the sense at a quiet wedge time at speed. -/
def State.sensedLow (s : State) : State :=
  (s.wedged.onSpc fun p => { p with overcurrentCount := 0 }).absent .spindleOvercurrent

theorem exec_wedgeTime_low {s : State} (hs : s.spc.state = .atSpeed) :
    exec (.wedgeTime false) s = .next s.sensedLow.nextWindow.event := by
  have hexec : exec (.wedgeTime false) s = .next (s.wedged.senseCurrent false).nextWindow.event := rfl
  have hsense : s.wedged.senseCurrent false = s.sensedLow := by
    have hsup : s.wedged.spc.state.supervised = true := by simp [hs, SpindleState.supervised]
    unfold State.senseCurrent
    rw [if_pos hsup]
    rfl
  rw [hexec, hsense]

/-- What the sense leaves of the rest. -/
theorem sensedLow_frame (s : State) :
    s.sensedLow.pos = s.wedged.pos ∧ s.sensedLow.counters = s.counters ∧ s.sensedLow.hostSide = s.hostSide ∧
    s.sensedLow.fsv.records = s.fsv.records ∧ s.sensedLow.spc.state = s.spc.state ∧
    s.sensedLow.takesSamples = s.takesSamples := by
  have hpos : s.sensedLow.pos = s.wedged.pos := by simp [State.sensedLow]
  refine ⟨hpos, ?_, ?_, ?_, ?_, (takesSamples_of_pos hpos).trans (wedged_takesSamples s)⟩ <;>
  simp [State.sensedLow]

theorem State.Calm.sensedLow {s : State} (h : s.Calm) : s.sensedLow.Calm :=
  State.Calm.absent (h.wedged.onSpc h.wedged.noBrake rfl h.wedged.grounded) _

/-- A window that closes untaken below the deglitch count, outside LOADING (R58, R60). -/
theorem nextWindow_dropped {s : State} (ht : s.takesSamples = true) (hw : s.pos.window = .waiting)
    (hl : s.pos.state ≠ .loading) (hd : satAdd 255 s.pos.dropCount 1 < s.deglitch .servoLost) :
    s.nextWindow = (s.onPos Positioner.dropped).countDrop.onPos fun p => { p with window := .waiting } := by
  have hdrop := dropSample_below (.inr hd)
  have htakes : (s.onPos Positioner.dropped).countDrop.takesSamples = true := ht
  unfold State.nextWindow
  simp [ht, hw, hl, hdrop, htakes]

/-- The same in LOADING, where the window is counted too (R63). -/
theorem nextWindow_loading {s : State} (hp : s.pos.state = .loading) (hw : s.pos.window = .waiting)
    (hn : s.pos.loadWindows + 1 < 128) :
    s.nextWindow = ((s.onPos Positioner.dropped).countDrop.onPos fun p => { p with
      loadWindows := s.pos.loadWindows + 1 }).onPos fun p => { p with window := .waiting } := by
  have hdrop := dropSample_below (.inl hp)
  have ht : s.takesSamples = true := by simp [State.takesSamples, hp]
  have hlimit : ¬ Config.loadWindowLimit ≤ s.pos.loadWindows + 1 := Nat.not_le_of_lt hn
  have htakes : ((s.onPos Positioner.dropped).countDrop.onPos fun p => { p with
      loadWindows := s.pos.loadWindows + 1 }).takesSamples = true := ht
  unfold State.nextWindow
  simp [ht, hw, hp, hdrop, hlimit, htakes]

/-- Settles O34. -/
theorem droppedSample : Obligations.DroppedSample := by
  refine ⟨fun s c h pes f hcalm hs hp hw hf hd => ?_, fun s c h pes hcalm hs hp hf hw => ?_⟩
  · have hc := calm_iff.mp hcalm
    have ht := takesSamples_of_following hp
    have hl : s.pos.state ≠ .loading := by rcases hp with h | h | h | ⟨h, -⟩ <;> simp [h]
    refine ⟨?_, ?_⟩
    · obtain ⟨t, hexec, hpos, hrest⟩ := invalid_completes hc hs ht hw (.inr hd) c h pes
      refine ⟨t, hexec, ?_, hrest⟩
      rw [hpos]
      simp [Positioner.dropped, hf, Fix.drop, satAdd]
    · have hexec := exec_wedgeTime_low hs
      obtain ⟨hpos, hcnt, hhost, -, hspc, htakes⟩ := sensedLow_frame s
      have hcu := hc.sensedLow
      generalize s.sensedLow = u at *
      rw [wedged_heads] at hpos
      rw [nextWindow_dropped (htakes.trans ht) (by rw [hpos]; exact hw) (by rw [hpos]; exact hl)
        (by rw [hpos, State.deglitch, State.activeRow, tbs_of_hostSide hhost]; exact hd)] at hexec
      have hcalm' := State.Calm.onCounters (hcu.steers (hspc.trans hs) (dropped_steers u)) fun c =>
        { c with sampleDrops := bump c.sampleDrops }
      refine completes_of_calm hexec (hcalm'.onPos rfl (.inl (hspc.trans hs))) ?_
      have hp' : ((u.onPos Positioner.dropped).countDrop.onPos fun p => { p with window := .waiting }).pos =
          { u.pos.dropped with window := .waiting } := rfl
      have hn' : ((u.onPos Positioner.dropped).countDrop.onPos fun p => { p with window := .waiting }).counters =
          { u.counters with sampleDrops := bump u.counters.sampleDrops } := rfl
      rw [hp', hn', hpos, hcnt]
      exact ⟨rfl, rfl, rfl, rfl, rfl, rfl⟩
  · have hc := calm_iff.mp hcalm
    have ht : s.takesSamples = true := by simp [State.takesSamples, hp]
    refine ⟨?_, fun hn => ?_⟩
    · obtain ⟨t, hexec, hpos, hrest⟩ := invalid_completes hc hs ht hw (.inl hp) c h pes
      refine ⟨t, hexec, ?_, hrest⟩
      rw [hpos]
      simp [Positioner.dropped, hf, hp, satAdd]
    · have hexec := exec_wedgeTime_low hs
      obtain ⟨hpos, hcnt, hhost, hrecs, hspc, -⟩ := sensedLow_frame s
      have hcu := hc.sensedLow
      generalize s.sensedLow = u at *
      rw [wedged_heads] at hpos
      rw [nextWindow_loading (by rw [hpos]; exact hp) (by rw [hpos]; exact hw) (by rw [hpos]; exact hn)] at hexec
      have hcalm' := State.Calm.onCounters (hcu.steers (hspc.trans hs) (dropped_steers u)) fun c =>
        { c with sampleDrops := bump c.sampleDrops }
      refine completes_of_calm hexec
        ((hcalm'.onPos rfl (.inl (hspc.trans hs))).onPos rfl (.inl (hspc.trans hs))) ?_
      have hp' : (((u.onPos Positioner.dropped).countDrop.onPos fun p => { p with
          loadWindows := u.pos.loadWindows + 1 }).onPos fun p => { p with window := .waiting }).pos =
          { u.pos.dropped with loadWindows := u.pos.loadWindows + 1, window := .waiting } := rfl
      have hn' : (((u.onPos Positioner.dropped).countDrop.onPos fun p => { p with
          loadWindows := u.pos.loadWindows + 1 }).onPos fun p => { p with window := .waiting }).counters =
          { u.counters with sampleDrops := bump u.counters.sampleDrops } := rfl
      rw [hp', hn', hpos, hcnt]
      exact ⟨hp, rfl, congrArg (Option.map Fix.drop) hf, rfl, rfl, rfl, rfl, rfl, hrecs, keepsHost_of_hostSide hhost⟩

end Sys2Proof.Machine
end

section
/-! The heads on their way to the ramp (R64, R74, R75), and the ends of seek timers, retry delays and recovery
watches (R89, R150 to R152), in a calm drive. -/

namespace Sys2Proof.Machine

/-! ## A recognition under REPORT -/

theorem recognise_report {s : State} {k : FaultKind} (h : s.recordOf k = none)
    (hm : (s.activeRow k).mode = .report) (sub : Option SubCause) :
    s.recognise k sub = ((s.nowPresent k).onFsv fun v => { v with
      records := v.records ++ [s.newRecord k sub .reported none] }).request .faultReported := by
  have h' : (s.nowPresent k).recordOf k = none := h
  have hm' : ((s.nowPresent k).activeRow k).mode = .report := hm
  have hput := putRecord_of_none h' sub .reported 0 none
  unfold State.recognise
  simp only [h', hm, hput]
  rfl

/-! ## The load timeout -/

theorem exec_loadTimeout {s : State} (hp : s.pos.state = .loading) (hn : 128 ≤ s.pos.loadWindows) :
    exec .loadTimeout s = .next s.loadTimesOut.event := by
  have hg : (s.pos.state == .loading && decide (Config.loadWindowLimit ≤ s.pos.loadWindows)) = true := by
    simp [hp, Config.loadWindowLimit, hn]
  have hexec : exec .loadTimeout s = .next (if s.pos.state == .loading &&
      decide (Config.loadWindowLimit ≤ s.pos.loadWindows) then s.loadTimesOut.event else s) := rfl
  rw [hexec, hg, if_pos rfl]

theorem beginToRamp_pos (s : State) : s.beginToRamp.pos = { s.pos with
    state := .unloading, phase := .toRamp, current := clampTo s.tbs.profile.ilim (-500), settleCount := 0,
    window := .closed, timerOn := false, unloadWatch := some ⟨0, 33334⟩, clampCount := 0 } := rfl

theorem beginToRamp_steers (s : State) : s.Steers s.beginToRamp :=
  (((State.Steers.refl s).onPos rfl).onPos rfl).absent _

/-- Heads that leave a calm drive for the ramp, or stand on it, leave it calm. -/
theorem State.Calm.landing {s t : State} (h : s.Calm) (hm : s.Steers t)
    (hp : ¬(t.pos.state = .loading ∨ t.pos.state.flying = true)) : t.Calm :=
  h.of_affairs hm.affairs (.inr hp)

theorem loadTimeout_completes {s : State} (hc : s.Calm) (hp : s.pos.state = .loading)
    (hn : 128 ≤ s.pos.loadWindows) (hpark : s.pos.parkSensor = false) (hr : s.recordOf .servoLost = none)
    (hm : s.tbs.actions.servoLost.mode = .report) :
    s.completes .loadTimeout fun t =>
      t.pos.state = .unloading ∧ t.pos.phase = .toRamp ∧
      t.pos.current = clampTo s.tbs.profile.ilim (-500) ∧
      t.pos.unloadWatch = some ⟨0, 33334⟩ ∧
      t.fsv.records = s.fsv.records ++ [⟨.servoLost, .reported, some .load, 1, s.spc.revCount,
        s.spc.revCount, s.pos.fix.map Fix.cylinder, s.spc.state, .unloading, 0, none⟩] ∧
      t.requested .faultReported = true ∧ s.keepsHost t ∧ t.counters = s.counters := by
  have hexec := exec_loadTimeout hp hn
  have hsteer := beginToRamp_steers s
  have hpos := beginToRamp_pos s
  have hrecs : s.beginToRamp.fsv.records = s.fsv.records := rfl
  have hrow : (s.beginToRamp.activeRow .servoLost).mode = .report := hm
  have hrec : s.beginToRamp.recordOf .servoLost = none := by
    rw [State.recordOf, hrecs]
    exact hr
  have htimes : s.loadTimesOut = (s.beginToRamp.recognise .servoLost (some .load)).rampReached := rfl
  rw [htimes, recognise_report hrec hrow] at hexec
  generalize s.beginToRamp = u at *
  have hu : u.Calm := hc.landing hsteer (by rw [hpos]; simp [PosState.flying])
  have haway : ((((u.nowPresent .servoLost).onFsv fun v => { v with
      records := v.records ++ [u.newRecord .servoLost (some .load) .reported none] }).request
        .faultReported)).rampReached = (((u.nowPresent .servoLost).onFsv fun v => { v with
      records := v.records ++ [u.newRecord .servoLost (some .load) .reported none] }).request .faultReported) := by
    simp [State.rampReached, hpos, hpark]
  rw [haway] at hexec
  refine completes_of_calm hexec (((hu.nowPresent _).onFsv (hu.nowPresent _).wants).onAtc _) ?_
  have hlast : (((u.nowPresent .servoLost).onFsv fun v => { v with
      records := v.records ++ [u.newRecord .servoLost (some .load) .reported none] }).request
        .faultReported).pos = u.pos := rfl
  rw [hlast, hpos]
  refine ⟨rfl, rfl, rfl, rfl, ?_, by simp [State.requested], keepsHost_of_hostSide hsteer.heads.hostSide,
    hsteer.heads.counters⟩
  simp [hrecs, State.newRecord, hpos, hsteer.heads.spc]

/-! ## The unload watch -/

theorem exec_unloadWatchExpiry {s : State} {x : Timer} (h : s.pos.unloadWatch = some x) :
    exec .unloadWatchExpiry s = .next (s.elapse x.left).unloadLate.event :=
  congrArg Host.Outcome.next (expire_of_some h _ s)

theorem unloadLate_below {s : State} (h : s.pos.unloadFailedCount + 1 < s.deglitch .unloadFailed) :
    s.unloadLate = s.onPos fun p => { p with
      unloadWatch := some ⟨0, Config.unloadWatchTicks⟩, unloadFailedCount := s.pos.unloadFailedCount + 1 } := by
  have hn : ¬ s.deglitch .unloadFailed ≤ s.pos.unloadFailedCount + 1 := Nat.not_le_of_lt h
  simp [State.unloadLate, hn]

/-! ## The ramp reached -/

theorem clearedTo_supplied {α : Type} {s : State} (h : s.supplyLow = false) (a b : α) : s.clearedTo a b = a := by
  simp [State.clearedTo, h]

/-- The Positioner's fields in UNLOADED, while the supply holds. -/
def Positioner.landed (p : Positioner) : Positioner := { p with
  state := .unloaded, current := 0, target := none, fix := none, settleCount := 0, dropCount := 0,
  window := .closed, unloadWatch := none, unloadFailedCount := 0, retractWindow := none, causing := none,
  timerOn := false, timerCount := 0, restartLoad := false, seekTimeoutCount := 0, clampCount := 0 }

theorem enterUnloaded_eq {s : State} (h : s.supplyLow = false) (hr : s.record.readWanted = false) :
    s.enterUnloaded =
      (s.onPos Positioner.landed).absents [.servoLost, .seekTimeout, .unloadFailed, .actuatorSaturation] := by
  have hrec : ∀ t : State, t.record = s.record → (t.onRec fun r => { r with readWanted := false }) = t := by
    intro t ht
    have : t.record.readWanted = false := by rw [ht, hr]
    simp only [State.onRec, ← this]
  unfold State.enterUnloaded
  simp only [clearedTo_supplied h]
  rw [hrec _ (by simp [State.absents])]
  rfl

theorem enterUnloaded_steers {s : State} (h : s.supplyLow = false) (hr : s.record.readWanted = false) :
    s.Steers s.enterUnloaded ∧ s.enterUnloaded.pos = s.pos.landed ∧
    s.enterUnloaded.fsv.records = s.fsv.records := by
  rw [enterUnloaded_eq h hr]
  refine ⟨?_, ?_, ?_⟩
  · exact ((((State.Steers.onPos (.refl s) rfl).absent _).absent _).absent _).absent _
  · simp [State.absents]
  · simp [State.absents]

theorem enterUnloaded_calm {s : State} (h : s.Calm) : s.enterUnloaded.Calm :=
  h.landing (enterUnloaded_steers h.supplied h.readWanted).1 (by
    rw [(enterUnloaded_steers h.supplied h.readWanted).2.1]
    simp [Positioner.landed, PosState.flying])

theorem unloadWatch_completes {s : State} {x : Timer} (hc : s.Calm) (hp : s.pos.state = .unloading)
    (hw : s.pos.unloadWatch = some x)
    (hn : s.pos.unloadFailedCount + 1 < s.tbs.actions.unloadFailed.deglitch) :
    s.completes .unloadWatchExpiry fun t =>
      t.pos.unloadWatch = some ⟨0, 33334⟩ ∧ t.pos.unloadFailedCount = s.pos.unloadFailedCount + 1 ∧
      t.pos.state = .unloading ∧ t.pos.current = s.pos.current ∧ s.keepsHost t ∧ t.fsv = s.fsv := by
  have hexec := exec_unloadWatchExpiry hw
  generalize x.left = n at hexec
  have hlate := unloadLate_below (s := s.elapse n) hn
  rw [hlate] at hexec
  refine completes_of_calm hexec ?_ ⟨rfl, rfl, ?_, rfl, ?_, rfl⟩
  · exact (hc.elapse n).onPos rfl (.inr (by simp [State.elapse_heads, hp, PosState.flying]))
  · exact hp
  · exact keepsHost_of_hostSide (by simp)

/-! ## The ends of a way to the ramp -/

/-- The park sensor reads on-ramp. -/
def State.parked (s : State) : State :=
  s.onPos fun p => { p with parkSensor := true, parkUnconfirmed := false }

theorem parkOnRamp_arrives {s : State}
    (hp : s.pos.state = .retracting ∨ s.pos.state = .unloading ∧ s.pos.phase = .toRamp) :
    s.parkOnRamp = s.parked.enterUnloaded := by
  rcases hp with hp | ⟨hp, hph⟩
  · simp only [State.parkOnRamp, hp]
    rfl
  · simp only [State.parkOnRamp, hp, hph]
    rfl

theorem parkOnRamp_stays {s : State} (hp : s.pos.state = .tracking ∨ s.pos.state = .unloaded) :
    s.parkOnRamp = s.parked := by
  rcases hp with hp | hp <;> simp only [State.parkOnRamp, hp] <;> rfl

theorem State.Calm.parked {s : State} (h : s.Calm) : s.parked.Calm := h.onPos rfl h.grounded

theorem parkSensor_completes {s : State} (hc : s.Calm)
    (hp : s.pos.state = .retracting ∨ s.pos.state = .unloading ∧ s.pos.phase = .toRamp) :
    s.completes .parkSensorOnRamp fun t =>
      t.pos.state = .unloaded ∧ t.pos.current = 0 ∧ t.pos.fix = none ∧ t.pos.target = none ∧
      t.pos.parkSensor = true ∧ t.pos.parkUnconfirmed = false ∧ t.pos.hold = s.pos.hold ∧
      t.pos.head = s.pos.head ∧ s.keepsHost t ∧ t.fsv.records = s.fsv.records ∧
      t.spc = s.spc ∧ t.ccu = s.ccu ∧ t.counters = s.counters := by
  have hexec : exec .parkSensorOnRamp s = .next s.parkOnRamp.event := rfl
  rw [parkOnRamp_arrives hp] at hexec
  have hu := hc.parked
  obtain ⟨hsteers, hpos, hrecs⟩ := enterUnloaded_steers hu.supplied hu.readWanted
  refine completes_of_calm hexec (enterUnloaded_calm hu) ?_
  rw [hpos]
  exact ⟨rfl, rfl, rfl, rfl, rfl, rfl, rfl, rfl, keepsHost_of_hostSide hsteers.heads.hostSide, hrecs,
    hsteers.heads.spc, hsteers.heads.ccu, hsteers.heads.counters⟩

theorem retractWindow_completes {s : State} {x : Timer} {k : FaultKind} (hc : s.Calm)
    (hw : s.pos.retractWindow = some x) (hk : s.pos.causing = some k) :
    s.completes .retractWindowExpiry fun t =>
      t.pos.state = .unloaded ∧ t.pos.current = 0 ∧ t.pos.parkUnconfirmed = true ∧
      t.fsv.records = s.fsv.records.map (fun r =>
        if r.kind = k then { r with sub := some .retractUnconfirmed } else r) ∧
      s.keepsHost t ∧ t.counters = s.counters := by
  have hexec : exec .retractWindowExpiry s = .next (s.elapse x.left).retractExpires.event :=
    congrArg Host.Outcome.next (expire_of_some hw _ s)
  generalize x.left = n at hexec
  have hu := hc.elapse n
  have hk' : (s.elapse n).pos.causing = some k := hk
  obtain ⟨hsteers, hpos, hrecs⟩ := enterUnloaded_steers hu.supplied hu.readWanted
  have hexp : (s.elapse n).retractExpires = ((s.elapse n).enterUnloaded.onPos fun p => { p with
      parkUnconfirmed := true }).onRecord k fun r => { r with sub := some .retractUnconfirmed } := by
    simp only [State.retractExpires, hk']
  rw [hexp] at hexec
  have hcalm := (enterUnloaded_calm hu).onPos (f := fun p => { p with parkUnconfirmed := true }) rfl
    (enterUnloaded_calm hu).grounded
  refine completes_of_calm hexec (hcalm.onFsv hcalm.wants) ?_
  refine ⟨by simp [hpos, Positioner.landed], by simp [hpos, Positioner.landed], rfl, ?_, ?_, ?_⟩
  · simp [State.onRecord, hrecs]
  · exact keepsHost_of_hostSide (by simpa using hsteers.heads.hostSide)
  · simpa using hsteers.heads.counters

/-- Settles O35. -/
theorem rampEvents : Obligations.RampEvents := by
  refine ⟨fun s x hcalm => ?_, fun s x k hcalm => ?_⟩
  · have hc := calm_iff.mp hcalm
    exact ⟨loadTimeout_completes hc, unloadWatch_completes hc⟩
  · have hc := calm_iff.mp hcalm
    refine ⟨parkSensor_completes hc, fun hp => ?_, retractWindow_completes hc⟩
    have hexec : exec .parkSensorOnRamp s = .next s.parkOnRamp.event := rfl
    rw [hexec, parkOnRamp_stays hp, event_of_calm hc.parked]
    rfl

end Sys2Proof.Machine
end

section
/-! Seek timers, retry delays and recovery watches that run out (R89, R150 to R152), and the start or the load that
a restart then asks for (R35, R62). -/

namespace Sys2Proof.Machine

/-! ## A restart that falls due -/

/-- A drive calm but for restarts that ask for a start or a load. -/
structure State.Restful (s : State) : Prop extends State.Idle s, State.Hosted s where
  noBrake : s.spc.brakePending = false
  noCheck : s.ccu.state ≠ .stopCheck
  noRelease : s.ccu.releasePending = false
  grounded : s.spc.state = .atSpeed ∨ ¬(s.pos.state = .loading ∨ s.pos.state.flying = true)

theorem State.Calm.restful {s : State} (h : s.Calm) : s.Restful := { h with }

theorem State.Restful.of_onlyRestarts {s t : State} (h : s.Restful) (e : s.OnlyRestarts t) : t.Restful where
  toIdle := e.idle h.toIdle
  turn := by rw [e]; exact h.turn
  inb := by rw [e]; exact h.inb
  noBrake := by rw [e.spc]; exact h.noBrake
  noCheck := by rw [e.ccu]; exact h.noCheck
  noRelease := by rw [e.ccu]; exact h.noRelease
  grounded := by rw [e.spc, e.posState]; exact h.grounded

theorem State.Idle.enterLoading {s : State} (h : s.Idle) : s.enterLoading.Idle := (h.onPos _).absent _

/-- Heads that load at speed in an idle drive bring no reaction. -/
theorem react_of_loading {s : State} (hi : s.Idle) (hs : s.spc.state = .atSpeed) (hp : s.pos.state = .loading)
    (hc : s.ccu.state ≠ .stopCheck) (hr : s.ccu.releasePending = false) : react s = none := by
  simp [react_of_idle hi, mechanical, reactOwnUnload, reactStopCheck, reactRelease, reactBrake, reactStart,
    reactLoad, guarded, State.atRest, State.loadAllowed, hs, hp, hc, hr]

/-- A start or a load that a restart asks for is taken, where the drive can take it (R35, R62). -/
theorem State.Restful.event {s : State} (h : s.Restful) : s.event =
    if s.atRest = true ∧ s.pendingStart = true then s.enterStarting
    else if s.loadAllowed = true ∧ s.pendingLoad = true then s.enterLoading else s := by
  have hg : (s.spc.state != .atSpeed && (s.pos.state == .loading || s.pos.state.flying)) = false := by
    rcases h.grounded with hs | hp
    · simp [hs]
    · simp_all
  have hown : reactOwnUnload s = none := by simp [reactOwnUnload, guarded, hg]
  have hcheck : reactStopCheck s = none := by simp [reactStopCheck, guarded, h.noCheck]
  have hrel : reactRelease s = none := by simp [reactRelease, guarded, h.noRelease]
  have hbrake : reactBrake s = none := by simp [reactBrake, guarded, h.noBrake]
  have hreact : react s = (reactStart s <|> reactLoad s) := by
    rw [react_of_idle h.toIdle]
    simp only [mechanical, List.findSome?_cons, List.findSome?_nil, hown, hcheck, hrel, hbrake]
    cases reactStart s <;> cases reactLoad s <;> rfl
  by_cases hst : s.atRest = true ∧ s.pendingStart = true
  · have hrest := hst.1
    simp only [State.atRest, Bool.and_eq_true, beq_iff_eq] at hrest
    rw [if_pos hst]
    refine event_of_reactsIn (k := 1) ⟨_, ?_, rfl⟩ (by decide)
      (react_of_starting h.enterStarting rfl ?_) ⟨h.turn, h.inb⟩
    · rw [hreact]
      simp [reactStart, guarded, hst]
    · change ¬(s.pos.state = .loading ∨ s.pos.state.flying = true)
      simp [hrest.2, PosState.flying]
  · rw [if_neg hst]
    have hs : reactStart s = none := by simpa [reactStart, guarded] using hst
    by_cases hld : s.loadAllowed = true ∧ s.pendingLoad = true
    · have hload := hld.1
      simp only [State.loadAllowed, Bool.and_eq_true, beq_iff_eq] at hload
      rw [if_pos hld]
      refine event_of_reactsIn (k := 1) ⟨_, ?_, rfl⟩ (by decide)
        (react_of_loading h.enterLoading hload.1.2 rfl h.noCheck h.noRelease) ⟨h.turn, h.inb⟩
      rw [hreact, hs]
      simp [reactLoad, guarded, hld]
    · rw [if_neg hld]
      have hl : reactLoad s = none := by simpa [reactLoad, guarded] using hld
      exact event_of_quiet (by rw [hreact, hs, hl]; rfl) h.toHosted

/-- What a restart that falls due leaves: the counts of the disk's boundaries, the records and the host's side. -/
theorem State.Restful.event_keeps {s : State} (h : s.Restful) :
    s.event.fsv.records = s.fsv.records ∧ s.event.hostSide = s.hostSide ∧ s.event.counters = s.counters ∧
    ∀ k, (s.event.fsv.kinds.get k).delay = (s.fsv.kinds.get k).delay := by
  rw [h.event]
  split
  · exact ⟨rfl, rfl, rfl, fun k => (enterStarting_keeps s).2.2.2.1 k⟩
  · split
    · refine ⟨rfl, rfl, rfl, fun k => ?_⟩
      unfold State.enterLoading
      rw [absent_get]
      split <;> rfl
    · exact ⟨rfl, rfl, rfl, fun _ => rfl⟩

/-! ## The seek timer -/

theorem exec_seekTimerExpiry (s : State) : exec .seekTimerExpiry s =
    .next (if (s.pos.timerOn && decide (s.pos.timerLength ≤ s.pos.timerCount)) = true then
      s.seekTimerExpires.event else s) := rfl

theorem seekTimerExpires_below {s : State} (hp : s.pos.state ≠ .unloading) (ht : s.pos.timerOn = true)
    (hn : s.pos.seekTimeoutCount + 1 < s.deglitch .seekTimeout) :
    s.seekTimerExpires = s.onPos fun p => { p with
      timerCount := 0, seekTimeoutCount := s.pos.seekTimeoutCount + 1 } := by
  have hd : decide (s.deglitch .seekTimeout ≤ s.pos.seekTimeoutCount + 1) = false :=
    decide_eq_false (Nat.not_le_of_lt hn)
  have hu : (s.pos.state == .unloading) = false := by simp [hp]
  simp only [State.seekTimerExpires, hd, hu, State.onPos, Bool.not_false, Bool.false_and, Bool.false_eq_true,
    if_false, ht]

/-! ## The retry delay -/

theorem retryDelay_completes {s : State} {k : FaultKind} {x : Timer} (hc : s.Calm)
    (hx : (s.fsv.kinds.get k).delay = some x) (hdue : x.length ≤ x.elapsed) :
    s.completes (.retryDelayExpiry k) fun t =>
      (t.fsv.kinds.get k).delay = none ∧
      (s.anyLatched = true ∨ s.ccu.state ≠ .latched →
        (t.fsv.kinds.get k).wantsStart = false ∧ (t.fsv.kinds.get k).wantsLoad = false ∧
        t.pos = s.pos ∧ t.spc = s.spc) ∧
      t.fsv.records = s.fsv.records ∧ s.keepsHost t ∧ t.counters = s.counters := by
  have hexec : exec (.retryDelayExpiry k) s = .next (if (s.fsv.kinds.get k).delay.any Timer.due then
      (s.delayExpires k).event else s) := rfl
  have hany : (s.fsv.kinds.get k).delay.any Timer.due = true := by simp [hx, Timer.due, hdue]
  rw [hany, if_pos rfl] at hexec
  have honly := delayExpires_onlyRestarts k s
  have hu := hc.restful.of_onlyRestarts honly
  obtain ⟨hrecs, hside, hcount, hdelay⟩ := hu.event_keeps
  refine ⟨_, hexec, ?_, ?_, hrecs.trans honly.records, keepsHost_of_hostSide (hside.trans honly.hostSide),
    hcount.trans honly.counters⟩
  · rw [hdelay, delayExpires_delay]
  · intro hno
    obtain ⟨u, he, hexp⟩ := delayExpires_eq k s
    obtain rfl : u = s.endRetry k := by
      rcases he with he | ⟨r, hl, ha, -⟩
      · exact he
      · rcases hno with hno | hno
        · rw [ha] at hno
          cases hno
        · exact absurd hl hno
    have hend := hc.endRetry k
    have hcalm : (s.delayExpires k).Calm ∧ (s.delayExpires k).pos = s.pos ∧ (s.delayExpires k).spc = s.spc := by
      rw [hexp]
      split
      · refine ⟨?_, (beginWatch_onlyFsv k _).pos, (beginWatch_onlyFsv k _).spc⟩
        unfold State.beginWatch
        dsimp only
        split
        · exact hend.onKind (hend.wants k).1 (hend.wants k).2
        · exact hend
      · exact ⟨hend, rfl, rfl⟩
    obtain ⟨hcalm, hpos, hspc⟩ := hcalm
    rw [event_of_calm hcalm]
    exact ⟨(hcalm.wants k).1, (hcalm.wants k).2, hpos, hspc⟩

/-! ## The recovery watch -/

theorem recovery_completes {s : State} {k : FaultKind} {n : Nat} (hc : s.Calm)
    (hx : (s.fsv.kinds.get k).watch = some n) (hn : 64 ≤ n) :
    s.completes (.recoveryWatchEnd k) fun t =>
      t.fsv.records = s.fsv.records.map (fun r => if r.kind = k
        then { r with state := .recovered, retries := 0, kept := none } else r) ∧
      (t.fsv.kinds.get k).watch = none ∧ t.requested .faultReported = true ∧
      s.keepsHost t ∧ t.pos = s.pos ∧ t.spc = s.spc ∧ t.ccu = s.ccu ∧ t.counters = s.counters := by
  have hexec : exec (.recoveryWatchEnd k) s = .next (if ((s.fsv.kinds.get k).watch.any fun n =>
      decide (Config.recoveryBoundaries ≤ n)) = true then (s.recovers k).event else s) := rfl
  have hany : ((s.fsv.kinds.get k).watch.any fun n => decide (Config.recoveryBoundaries ≤ n)) = true := by
    simp [hx, Config.recoveryBoundaries, hn]
  rw [hany, if_pos rfl] at hexec
  have hrec : (s.onRecord k fun r => { r with state := .recovered, retries := 0, kept := none }).Calm :=
    hc.onFsv hc.wants
  have hend := hrec.onKind (k := k) (f := fun x => { x with watch := none }) (hrec.wants k).1 (hrec.wants k).2
  refine completes_of_calm hexec (hend.of_motion (State.request_affairs _ _) (State.request_motion _ _)) ?_
  refine ⟨?_, ?_, by simp [State.recovers, State.requested], keepsHost_of_hostSide rfl, rfl, rfl, rfl, rfl⟩
  · simp [State.recovers, State.onRecord]
  · simp [State.recovers, State.request, onKind_get]

/-- Settles O36. -/
theorem countedExpiries : Obligations.CountedExpiries := by
  refine ⟨fun s => ⟨fun hlt => ?_, fun hcalm hp ht hle hn => ?_⟩, fun s k x n hcalm => ?_⟩
  · rw [exec_seekTimerExpiry, decide_eq_false (Nat.not_le_of_lt hlt), Bool.and_false, if_neg (by decide)]
  · have hc := calm_iff.mp hcalm
    have hu : s.pos.state ≠ .unloading := by rcases hp with hp | hp <;> simp [hp]
    rw [exec_seekTimerExpiry, ht, decide_eq_true hle, Bool.and_true, if_pos rfl, seekTimerExpires_below hu ht hn,
      event_of_calm (hc.onPos rfl hc.grounded)]
    rfl
  · have hc := calm_iff.mp hcalm
    exact ⟨retryDelay_completes hc, recovery_completes hc⟩

end Sys2Proof.Machine
end

section
/-! The cartridge sensor, the eject button, the ejector's pulse and the eject window, in a drive at rest from commands
(R121 to R139). -/

namespace Sys2Proof.Machine

/-! ## An insertion -/

theorem exec_cartridgeSensorPresent (protect : Bool) (s : State) :
    exec (.cartridgeSensorPresent protect) s = .next (s.sensorPresent protect).event := rfl

/-- The latch let go under a cartridge in STOP_CHECK (R126). -/
def State.seats (s : State) : State :=
  (s.onCcu fun c => { c with state := .seated, latch := false }).absent .doorForced

/-- A drive whose cartridge has come in releases a latch at rest, or brakes a coasting disk, and does no more. -/
theorem event_of_inserted {s : State} (hi : s.Idle) (hh : s.Hosted) (hs : s.pendingStart = false)
    (hl : s.pendingLoad = false) (hr : s.ccu.releasePending = false)
    (hg : s.spc.state = .atSpeed ∨ s.pos.state ≠ .loading ∧ s.pos.state.flying = false) :
    s.event = if s.ccu.state = .stopCheck ∧ s.atRest = true then s.seats
      else if s.spc.state = .coasting ∧ s.spc.brakePending = true ∧ s.pos.state = .unloaded then s.applyBrake
      else s := by
  have hown : (s.spc.state != .atSpeed && (s.pos.state == .loading || s.pos.state.flying)) = false := by
    rcases hg with hg | ⟨hp, hf⟩
    · simp [hg]
    · simp [hp, hf]
  by_cases hstop : s.ccu.state = .stopCheck ∧ s.atRest = true
  · rw [if_pos hstop]
    obtain ⟨hst, hrest⟩ := hstop
    have hreact : react s = some s.seats := by
      simp only [react_of_idle hi, mechanical, List.findSome?_cons, reactOwnUnload, guarded, hown, reactStopCheck, hst,
        hrest]
      rfl
    simp only [State.atRest, Bool.and_eq_true, beq_iff_eq] at hrest
    have hi' : s.seats.Idle := by unfold State.seats; exact { hi with }
    have hs' : s.seats.pendingStart = false :=
      (congrArg (fun a => a.2.2.2.2.1) (State.absent_affairs _ _)).trans hs
    have hspc : s.seats.spc = s.spc := rfl
    have hpos : s.seats.pos = s.pos := rfl
    have hccu : s.seats.ccu.state = .seated := rfl
    refine event_of_reactsIn (k := 1) ⟨_, hreact, rfl⟩ (by decide) ?_ ⟨hh.turn, hh.inb⟩
    rw [react_of_idle hi']
    simp [mechanical, reactOwnUnload, reactStopCheck, reactRelease, reactBrake, reactStart, reactLoad, guarded,
      State.atRest, State.loadAllowed, hs', hspc, hpos, hccu, hrest.1, hrest.2, PosState.flying]
  · rw [if_neg hstop]
    have hcheck : reactStopCheck s = none := by simpa [reactStopCheck, guarded] using hstop
    have hrel : reactRelease s = none := by simp [reactRelease, guarded, hr]
    have hst : reactStart s = none := by simp [reactStart, guarded, hs]
    have hld : reactLoad s = none := by simp [reactLoad, guarded, hl]
    have hou : reactOwnUnload s = none := by simp [reactOwnUnload, guarded, hown]
    have hreact : react s = reactBrake s := by
      simp only [react_of_idle hi, mechanical, List.findSome?_cons, List.findSome?_nil, hou, hcheck, hrel, hst, hld]
      cases reactBrake s <;> rfl
    by_cases hb : s.spc.state = .coasting ∧ s.spc.brakePending = true ∧ s.pos.state = .unloaded
    · rw [if_pos hb]
      have hbrake : react s = some s.applyBrake := by
        rw [hreact]
        simp [reactBrake, guarded, hb]
      refine event_of_reactsIn (k := 1) ⟨_, hbrake, rfl⟩ (by decide) ?_ ⟨hh.turn, hh.inb⟩
      have hi' : s.applyBrake.Idle := by unfold State.applyBrake; exact hi.onSpc _
      have hspc : s.applyBrake.spc.state = .braking := rfl
      have hpos : s.applyBrake.pos = s.pos := rfl
      have hccu : s.applyBrake.ccu = s.ccu := rfl
      rw [react_of_idle hi']
      simp [mechanical, reactOwnUnload, reactStopCheck, reactRelease, reactBrake, reactStart, reactLoad, guarded,
        State.atRest, State.loadAllowed, hspc, hpos, hccu, hb.2.2, hr, PosState.flying]
    · rw [if_neg hb]
      refine event_of_quiet (hreact.trans ?_) hh
      simpa [reactBrake, guarded, and_assoc] using hb

/-- The state in which a cartridge has come into an ABSENT drive. -/
def State.insertion (protect : Bool) (s : State) : State :=
  (s.onCcu fun c => { c with present := true }).insertCartridge protect

theorem sensorPresent_absent {s : State} (hc : s.ccu.state = .absent) (hl : s.supplyLow = false) (protect : Bool) :
    s.sensorPresent protect = s.insertion protect := by
  simp [State.sensorPresent, State.insertion, hc, hl]

theorem sensorPresent_held {s : State} (hc : s.ccu.state ≠ .absent) (protect : Bool) :
    s.sensorPresent protect = s.onCcu fun c => { c with present := true } := by
  have : (s.ccu.state == .absent) = false := by simp [hc]
  simp [State.sensorPresent, this]

theorem insertion_ccu (protect : Bool) (s : State) : (s.insertion protect).ccu = { s.ccu with
    present := true
    state := if s.ccu.releasePending then .stopCheck else .seated
    releasePending := false
    protect := protect
    holdCount := 0
    buttonRefused := false } := rfl

/-- An insertion leaves the host's side, but for the record, and the mechanism. -/
theorem insertion_frame (protect : Bool) (s : State) :
    (s.insertion protect).hostSide = (s.onRec fun r => { r with
      state := .notRead, reason := none, image := none, check := none, readWanted := false }).hostSide ∧
    (s.insertion protect).spc = s.spc ∧ (s.insertion protect).pos = s.pos ∧ (s.insertion protect).fsv = s.fsv ∧
    (s.insertion protect).counters = s.counters ∧ (s.insertion protect).endWith = s.endWith ∧
    (s.insertion protect).work = s.work ∧ (s.insertion protect).downs = s.downs := by
  simp [State.insertion, State.insertCartridge, State.clearHolds, State.forgetRecord, State.hostSide]

theorem insertion_completes {s : State} {protect : Bool} (hi : s.Idle) (hh : s.Hosted) (hs : s.pendingStart = false)
    (hl : s.pendingLoad = false) (hc : s.ccu.state = .absent)
    (hg : s.spc.state = .atSpeed ∨ s.pos.state ≠ .loading ∧ s.pos.state.flying = false) :
    s.completes (.cartridgeSensorPresent protect) fun t =>
      t.ccu.state = (if s.ccu.releasePending && !s.atRest then .stopCheck else .seated) ∧
      (s.ccu.releasePending = true → s.atRest = true → t.ccu.latch = false) ∧
      (s.ccu.releasePending = false → t.ccu.latch = s.ccu.latch) ∧
      t.ccu.protect = protect ∧ t.ccu.present = true ∧ t.ccu.holdCount = 0 ∧
      t.ccu.mediaChange = s.ccu.mediaChange ∧ t.record.state = .notRead ∧
      t.record.image = none ∧ t.requested .cartridgeInserted = true ∧ t.dbi = s.dbi ∧
      t.queue = s.queue ∧ t.slots = s.slots ∧ t.tbs = s.tbs ∧ t.counters = s.counters := by
  have hexec := exec_cartridgeSensorPresent protect s
  rw [sensorPresent_absent hc hi.supplied] at hexec
  have hccu := insertion_ccu protect s
  have hreq : (s.insertion protect).requested .cartridgeInserted = true := by
    simp [State.insertion, State.insertCartridge, State.requested]
  obtain ⟨hside, hspc, hpos, hfsv, hcount, hend, hwork, hdowns⟩ := insertion_frame protect s
  generalize s.insertion protect = u at *
  simp only [State.hostSide, Prod.mk.injEq, State.onRec_dbi, State.onRec_queue, State.onRec_job, State.onRec_eng,
    State.onRec_slots, State.onRec_tbs, State.onRec_record, State.onRec_pending, State.onRec_supplyLow] at hside
  obtain ⟨⟨hdbi, hqueue, hjob, heng, hslots⟩, htbs, hrec, -, hlow⟩ := hside
  have hu : u.Idle := ⟨hqueue.trans hi.queue, hjob.trans hi.job, hend.trans hi.endWith, hwork.trans hi.work,
    hdowns.trans hi.downs, by rw [hccu]; exact hi.eject, by rw [hrec]; exact hi.op, by rw [hrec],
    heng.trans hi.eng, hlow.trans hi.supplied⟩
  have hrest : u.atRest = s.atRest := by simp [State.atRest, hspc, hpos]
  have hevent := event_of_inserted hu (hh.of_dbi hdbi) (by rw [State.pendingStart, hspc, hfsv]; exact hs)
    (by rw [State.pendingLoad, hpos, hfsv]; exact hl) (by rw [hccu]) (by rw [hspc, hpos]; exact hg)
  refine ⟨_, hexec, ?_⟩
  rw [hevent, hrest]
  by_cases hat : u.ccu.state = .stopCheck ∧ s.atRest = true
  · have hrp : s.ccu.releasePending = true := by
      rw [hccu] at hat
      simpa using hat.1
    rw [if_pos hat]
    exact ⟨by simp [State.seats, hat.2], fun _ _ => rfl, by simp [hrp], by simp [State.seats, hccu],
      by simp [State.seats, hccu], by simp [State.seats, hccu], by simp [State.seats, hccu],
      by simp [State.seats, hrec], by simp [State.seats, hrec], hreq, hdbi, hqueue, hslots, htbs, hcount⟩
  · have hstate : u.ccu.state = if s.ccu.releasePending && !s.atRest then .stopCheck else .seated := by
      rw [hccu] at hat ⊢
      cases hrp : s.ccu.releasePending <;> cases hat' : s.atRest <;> simp_all
    have hno : s.ccu.releasePending = true → s.atRest = true → u.ccu.latch = false := by
      intro hrp hrest
      exact absurd ⟨by simp [hccu, hrp], hrest⟩ hat
    have hq : ∀ t : State, t.ccu = u.ccu → t.atc = u.atc → t.record = u.record → t.dbi = u.dbi → t.queue = u.queue →
        t.slots = u.slots → t.tbs = u.tbs → t.counters = u.counters →
        t.ccu.state = (if s.ccu.releasePending && !s.atRest then .stopCheck else .seated) ∧
        (s.ccu.releasePending = true → s.atRest = true → t.ccu.latch = false) ∧
        (s.ccu.releasePending = false → t.ccu.latch = s.ccu.latch) ∧
        t.ccu.protect = protect ∧ t.ccu.present = true ∧ t.ccu.holdCount = 0 ∧
        t.ccu.mediaChange = s.ccu.mediaChange ∧ t.record.state = .notRead ∧
        t.record.image = none ∧ t.requested .cartridgeInserted = true ∧ t.dbi = s.dbi ∧
        t.queue = s.queue ∧ t.slots = s.slots ∧ t.tbs = s.tbs ∧ t.counters = s.counters := by
      intro t hc' ha hr' hd hq hsl ht hco
      have hreq' : t.requested .cartridgeInserted = true := by
        simp only [State.requested] at hreq ⊢
        rw [ha]
        exact hreq
      rw [hc', hr', hd, hq, hsl, ht, hco]
      exact ⟨hstate, hno, fun _ => by rw [hccu], by rw [hccu], by rw [hccu], by rw [hccu], by rw [hccu], by rw [hrec],
        by rw [hrec], hreq', hdbi, hqueue, hslots, htbs, hcount⟩
    rw [if_neg hat]
    split
    · exact hq _ rfl rfl rfl rfl rfl rfl rfl rfl
    · exact hq _ rfl rfl rfl rfl rfl rfl rfl rfl

end Sys2Proof.Machine
end

section
/-! The cartridge taken out or forced out, the eject button, and the ends of the ejector's pulse and of the eject window
(R124, R127, R130, R132, R137, R139). -/

namespace Sys2Proof.Machine

/-! ## A cartridge that is pushed out -/

/-- A drive calm but for an eject whose phases are over. -/
structure State.Expels (s : State) (e : EjectRecord) : Prop where
  calm : (s.onCcu fun c => { c with eject := none }).Calm
  eject : s.ccu.eject = some e
  phase : e.phase = none

theorem State.Expels.react {s : State} {e : EjectRecord} (h : s.Expels e) : react s = none := by
  obtain ⟨⟨⟨hq, hj, he, hw, hd, -, ho, hr, hg, hs⟩, -, hst, hl, hb, hc, hrel, hground⟩, hx, hph⟩ := h
  simp only [State.onCcu_queue, State.onCcu_job, State.onCcu_endWith, State.onCcu_work, State.onCcu_downs,
    State.onCcu_record, State.onCcu_eng, State.onCcu_supplyLow, State.onCcu_spc, State.onCcu_pos,
    State.onCcu_ccu] at hq hj he hw hd ho hr hg hs hb hc hrel hground
  have hst : s.pendingStart = false := hst
  have hl : s.pendingLoad = false := hl
  have hex : s.executing = none := by simp [State.executing, hq]
  have hjr : (s.job == .ready) = false := by rw [hj]; rfl
  have hground : (s.spc.state != .atSpeed && (s.pos.state == .loading || s.pos.state.flying)) = false := by
    rcases hground with hs | hp
    · simp [hs]
    · simp_all
  simp [Machine.react, rules, hs, reactFlight, reactRecordLost, State.recordOpLost,
    reactEjecting, reactStopped, reactParked, reactEjectParked, reactWorkCut, reactEnd, reactWork, reactReadDue,
    reactReached, reactRecordSeek, reactRecordSlot, reactEngine, reactDrain, reactDown, Downs.stepOf, reactEject,
    reactBegin, reactStranded, reactReady, reactTransfer, guarded, hq, hj, he, hw, hd, hx, ho, hr, hg, hex,
    Engine.none, reactOwnUnload, reactStopCheck, reactRelease, reactBrake, reactStart, reactLoad, hground, hst, hl,
    hb, hc, hrel, hph]

theorem State.Expels.event {s : State} {e : EjectRecord} (h : s.Expels e) : s.event = s :=
  event_of_quiet h.react ⟨h.calm.turn, h.calm.inb⟩

theorem State.Expels.completes {i : Instr} {s m : State} {e : EjectRecord} {Q : State → Prop} (h : m.Expels e)
    (hexec : exec i s = .next m.event) (hQ : Q m) : s.completes i Q :=
  ⟨m, by rw [hexec, h.event], hQ⟩

/-! ## The cartridge leaves -/

theorem exec_cartridgeSensorAbsent (s : State) : exec .cartridgeSensorAbsent s = .next s.sensorAbsent.event := rfl

/-- A cartridge that leaves a drive without a work of SPIN UP. -/
theorem cartridgeLeaves_eq {s : State} (hw : s.work = none) : s.cartridgeLeaves =
    (((s.onCcu fun c => { c with
      state := .absent, mediaChange := (c.mediaChange + 1) % 256, protect := false,
      ejector := false }).clearHolds.request .cartridgeRemoved).forgetRecord).cancelRestarts := by
  have hw' : (((s.onCcu fun c => { c with
      state := .absent, mediaChange := (c.mediaChange + 1) % 256, protect := false,
      ejector := false }).clearHolds.request .cartridgeRemoved).forgetRecord).work = none := hw
  rw [State.cartridgeLeaves, State.endWork, hw']

/-- What a cartridge that leaves a drive without a work of SPIN UP changes. -/
theorem cartridgeLeaves_frame {s : State} (hw : s.work = none) :
    s.cartridgeLeaves.hostSide = (s.onRec fun r => { r with
      state := .notRead, reason := none, image := none, check := none, readWanted := false }).hostSide ∧
    s.cartridgeLeaves.spc = s.spc ∧ s.cartridgeLeaves.pos = s.pos ∧
    s.cartridgeLeaves.fsv.records = s.fsv.records ∧ s.cartridgeLeaves.endWith = s.endWith ∧
    s.cartridgeLeaves.work = none ∧ s.cartridgeLeaves.downs = s.downs ∧
    s.cartridgeLeaves.requested .cartridgeRemoved = true ∧
    s.cartridgeLeaves.ccu = { s.ccu with
      state := .absent
      mediaChange := (s.ccu.mediaChange + 1) % 256
      protect := false
      ejector := false
      holdCount := 0
      buttonRefused := false } := by
  rw [cartridgeLeaves_eq hw]
  simp [State.hostSide, State.clearHolds, State.forgetRecord, State.cancelRestarts, State.requested, hw]

/-- No restart is left for a kind once the cartridge is gone (R151). -/
theorem cartridgeLeaves_wants {s : State} (hw : s.work = none) (k : FaultKind) :
    (s.cartridgeLeaves.fsv.kinds.get k).wantsStart = false ∧
    (s.cartridgeLeaves.fsv.kinds.get k).wantsLoad = false := by
  rw [cartridgeLeaves_eq hw]
  simp [State.cancelRestarts]

/-- The host's side where nothing of it but the record is another. -/
theorem hostSide_onRec {s t : State} {f : RecordUnit → RecordUnit} (h : t.hostSide = (s.onRec f).hostSide) :
    t.dbi = s.dbi ∧ t.queue = s.queue ∧ t.job = s.job ∧ t.eng = s.eng ∧ t.slots = s.slots ∧ t.tbs = s.tbs ∧
    t.record = f s.record ∧ t.supplyLow = s.supplyLow := by
  simp only [State.hostSide, Prod.mk.injEq, State.onRec_dbi, State.onRec_queue, State.onRec_job, State.onRec_eng,
    State.onRec_slots, State.onRec_tbs, State.onRec_record, State.onRec_pending, State.onRec_supplyLow] at h
  obtain ⟨⟨hd, hq, hj, he, hs⟩, ht, hr, -, hl⟩ := h
  exact ⟨hd, hq, hj, he, hs, ht, hr, hl⟩

theorem cartridgeLeaves_calm {s : State} (h : s.Calm) : s.cartridgeLeaves.Calm := by
  obtain ⟨hside, hspc, hpos, -, hend, hwork, hdowns, -, hccu⟩ := cartridgeLeaves_frame h.work
  have hwant := cartridgeLeaves_wants h.work
  have hst := h.noStart
  have hld := h.noLoad
  simp only [State.pendingStart, State.pendingLoad, Bool.or_eq_false_iff] at hst hld
  generalize s.cartridgeLeaves = u at *
  obtain ⟨hdbi, hqueue, hjob, heng, -, -, hrec, hlow⟩ := hostSide_onRec hside
  exact ⟨⟨hqueue.trans h.queue, hjob.trans h.job, hend.trans h.endWith, hwork, hdowns.trans h.downs,
      by rw [hccu]; exact h.eject, by rw [hrec]; exact h.op, by rw [hrec], heng.trans h.eng, hlow.trans h.supplied⟩,
    h.toHosted.of_dbi hdbi,
    by rw [State.pendingStart, hspc, hst.1, PerKind.any_eq_false.mpr fun k => (hwant k).1]; rfl,
    by rw [State.pendingLoad, hpos, hld.1, PerKind.any_eq_false.mpr fun k => (hwant k).2]; rfl,
    by rw [hspc]; exact h.noBrake, by rw [hccu]; simp, by rw [hccu]; exact h.noRelease,
    by rw [hspc, hpos]; exact h.grounded⟩


theorem removal_completes {s : State} (hc : s.Calm) (hst : s.ccu.state = .seated) :
    s.completes .cartridgeSensorAbsent fun t =>
      t.ccu.state = .absent ∧ t.ccu.mediaChange = (s.ccu.mediaChange + 1) % 256 ∧
      t.ccu.protect = false ∧ t.ccu.holdCount = 0 ∧ t.ccu.buttonRefused = false ∧
      t.ccu.latch = s.ccu.latch ∧ t.record.state = .notRead ∧ t.record.image = none ∧
      t.requested .cartridgeRemoved = true ∧ t.dbi = s.dbi ∧ t.queue = s.queue ∧
      t.slots = s.slots ∧ t.tbs = s.tbs ∧ t.spc = s.spc ∧ t.pos = s.pos ∧
      t.fsv.records = s.fsv.records := by
  have hexec := exec_cartridgeSensorAbsent s
  have habs : s.sensorAbsent = (s.onCcu fun c => { c with present := false }).cartridgeLeaves := by
    simp [State.sensorAbsent, hc.supplied, hst]
  rw [habs] at hexec
  obtain ⟨u, hu⟩ : ∃ u, u = s.onCcu fun c => { c with present := false } := ⟨_, rfl⟩
  rw [← hu] at hexec
  have hcu : u.Calm := by
    rw [hu]
    exact hc.of_motion (s.onCcu_affairs rfl rfl rfl) rfl
  have hccu' : u.ccu = { s.ccu with present := false } := by rw [hu]; rfl
  obtain ⟨hside, hspc, hpos, hrecs, -, -, -, hreq, hccu⟩ := cartridgeLeaves_frame hcu.work
  refine completes_of_calm hexec (cartridgeLeaves_calm hcu) ?_
  obtain ⟨hdbi, hqueue, -, -, hslots, htbs, hrec, -⟩ := hostSide_onRec hside
  rw [hccu, hrec, hccu', hspc, hpos, hrecs, hdbi, hqueue, hslots, htbs]
  refine ⟨rfl, rfl, rfl, rfl, rfl, rfl, rfl, rfl, hreq, ?_⟩
  rw [hu]
  exact ⟨rfl, rfl, rfl, rfl, rfl, rfl, rfl⟩

/-! ## The heads retract -/

theorem absents_get_of_not_mem {k : FaultKind} {l : List FaultKind} (h : k ∉ l) (s : State) :
    (s.absents l).fsv.kinds.get k = s.fsv.kinds.get k := by
  induction l generalizing s with
  | nil => rfl
  | cons j l ih =>
    rw [List.mem_cons, not_or] at h
    have hj := ih h.2 (s.absent j)
    rw [absent_get, if_neg h.1] at hj
    exact hj

/-- A retract request takes heads that track off the disk, and nothing else moves (R75). -/
theorem retractRequest_of_tracking {s : State} (hj : s.job = .idle) (ho : s.record.op = .idle)
    (hp : s.pos.state = .tracking) (hpark : s.pos.parkSensor = false) (cause : FaultKind) :
    s.OnlyHeads (s.retractRequest cause) ∧ (s.retractRequest cause).pos.state = .retracting ∧
    (s.retractRequest cause).pos.causing = some cause ∧
    (s.retractRequest cause).fsv.records = s.fsv.records ∧
    ((s.retractRequest cause).fsv.kinds.get .doorForced).present = (s.fsv.kinds.get .doorForced).present := by
  have hfail := seekFailed_of_idle (s := s.withdrawLoads) hj ho false
  have hreq : s.retractRequest cause = (s.withdrawLoads.seekFailed false).enterRetracting (some cause) := by
    have : s.withdrawLoads.pos.state = .tracking := hp
    simp only [State.retractRequest, this]
  have hu : s.OnlyHeads (s.withdrawLoads.seekFailed false) := by
    rw [hfail]
    exact (withdrawLoads_onlyHeads s).trans (onPos_onlyHeads _ _)
  have hupark : (s.withdrawLoads.seekFailed false).pos.parkSensor = false := by
    rw [hfail]
    exact hpark
  have hurecs : (s.withdrawLoads.seekFailed false).fsv.records = s.fsv.records := by
    rw [hfail]
    rfl
  have hukind : ((s.withdrawLoads.seekFailed false).fsv.kinds.get .doorForced).present =
      (s.fsv.kinds.get .doorForced).present := by
    rw [hfail]
    simp [State.withdrawLoads]
  rw [hreq]
  generalize s.withdrawLoads.seekFailed false = u at *
  have hret : u.enterRetracting (some cause) = ((u.onPos fun p => { p with
      state := .retracting, current := u.drive1 Config.retractDrive, target := none,
      settleCount := u.clearedTo 0 p.settleCount, dropCount := u.clearedTo 0 p.dropCount,
      window := .closed, timerOn := false, unloadWatch := none,
      unloadFailedCount := u.clearedTo 0 p.unloadFailedCount,
      retractWindow := some ⟨0, Config.retractTicks⟩, causing := some cause,
      requester := .none }).leaveSeekLaw).absents [.servoLost, .unloadFailed] := by
    unfold State.enterRetracting
    dsimp only
    rw [hupark, if_neg (by decide)]
  rw [hret]
  refine ⟨hu.trans ?_, rfl, rfl, hurecs, ?_⟩
  · exact ((onPos_onlyHeads _ u).trans ((onPos_onlyHeads _ _).trans (absent_onlyHeads _ _))).trans
      (absents_onlyFsv _ _).onlyHeads
  · rw [absents_get_of_not_mem (by decide), State.leaveSeekLaw, absent_get]
    exact hukind

/-! ## The door is forced -/

theorem dropRecordOp_of_idle {s : State} (ho : s.record.op = .idle) (hf : s.eng.flight = none) :
    s.dropRecordOp = s.onPos fun p => { p with
      requester := if p.requester == .engine then .none else p.requester } := by
  have hrec : s.record = { s.record with op := .idle } := by rw [← ho]
  simp only [State.dropRecordOp, ho, RecordOp.slot, State.emptySlotOpt, hf, State.onRec, ← hrec]

/-- A forced door makes its record and its condition, and the release of the latch is left pending. -/
def State.forced (s : State) : State :=
  (((((s.nowPresent .doorForced).onFsv fun v => { v with
    records := v.records ++ [s.newRecord .doorForced none .latched (some (fixedRow .doorForced))] }).endRetry
      .doorForced).onPos fun p => { p with
        requester := if p.requester == .engine then .none else p.requester }).onCcu fun c => { c with
    eject := none, ejectWindow := none, releasePending := true })

theorem State.Idle.onCcu {s : State} (h : s.Idle) {f : Cartridge → Cartridge} (he : (f s.ccu).eject = none) :
    (s.onCcu f).Idle := { h with eject := he }

theorem State.Idle.forced {s : State} (h : s.Idle) : s.forced.Idle := by
  unfold State.forced State.nowPresent State.endRetry
  exact ((((h.onKind _ _).onFsv _).onKind _ _).onPos _).onCcu rfl

theorem forced_frame (s : State) :
    s.forced.hostSide = s.hostSide ∧ s.forced.spc = s.spc ∧
    (s.forced.pos.state = s.pos.state ∧ s.forced.pos.parkSensor = s.pos.parkSensor) ∧
    s.forced.ccu = { s.ccu with eject := none, ejectWindow := none, releasePending := true } ∧
    s.forced.fsv.records = s.fsv.records ++
      [s.newRecord .doorForced none .latched (some (fixedRow .doorForced))] ∧
    (s.forced.fsv.kinds.get .doorForced).present = true := by
  unfold State.forced
  refine ⟨by simp [State.endRetry], by simp [State.endRetry], by simp [State.endRetry], by simp [State.endRetry],
    by simp [State.endRetry], ?_⟩
  rw [State.onCcu_fsv, State.onPos_fsv, State.endRetry, onKind_get, State.onFsv_fsv, State.nowPresent, onKind_get]

theorem doorForced_of_calm {s : State} (h : s.Calm) (hr : s.recordOf .doorForced = none) :
    s.doorForced = (s.forced.cartridgeLeaves.retractRequest .doorForced).stopRequest .coast := by
  have hr' : (s.nowPresent .doorForced).recordOf .doorForced = none := hr
  have hput := putRecord_of_none hr' none .latched 0 (some (fixedRow .doorForced))
  unfold State.doorForced
  dsimp only
  rw [hput]
  obtain ⟨a, ha⟩ : ∃ a, a = ((s.nowPresent .doorForced).onFsv fun v => { v with
      records := v.records ++ [(s.nowPresent .doorForced).newRecord .doorForced none .latched
        (some (fixedRow .doorForced))] }).endRetry .doorForced := ⟨_, rfl⟩
  have hac : a.Calm := ha ▸ ((h.nowPresent _).onFsv (h.nowPresent _).wants).endRetry _
  rw [← ha, dropRecordOp_of_idle hac.op (by rw [hac.eng]; rfl)]
  obtain ⟨b, hb⟩ : ∃ b, b = a.onPos fun p => { p with
      requester := if p.requester == .engine then .none else p.requester } := ⟨_, rfl⟩
  have hbi : b.Idle := hb ▸ hac.toIdle.onPos _
  rw [← hb]
  have hdowns : (b.onDowns fun _ => ⟨none, none, none, false⟩) = b := by
    simp only [State.onDowns, ← hbi.downs]
  rw [hdowns]
  have hend : b.endEject .noCartridge = b.onCcu fun c => { c with eject := none, ejectWindow := none } := by
    simp [State.endEject, hbi.eject]
  rw [hend]
  have hforced : s.forced = (b.onCcu fun c => { c with eject := none, ejectWindow := none }).onCcu fun c =>
      { c with releasePending := true } := by
    rw [hb, ha]
    rfl
  have hex : (b.onCcu fun c => { c with eject := none, ejectWindow := none }).executing = none := by
    simp [State.executing, hbi.queue]
  rw [← hforced, hex]
  have hfi : s.forced.eng = Engine.none ∧ s.forced.endWith = none ∧ s.forced.queue = [] ∧ s.forced.work = none := by
    rw [hforced]
    exact ⟨hbi.eng, hbi.endWith, hbi.queue, hbi.work⟩
  obtain ⟨hfe, hfw, hfq, hfk⟩ := hfi
  have hcut : s.forced.cutWrite = s.forced := by simp [State.cutWrite, hfe, Engine.none]
  have hset : s.forced.setEnd none = s.forced := by simp only [State.setEnd, ← hfw]
  have hleft : s.forced.cartridgeLeaves.queue.length = 0 := by
    obtain ⟨-, hq, -⟩ := hostSide_onRec (cartridgeLeaves_frame hfk).1
    rw [hq, hfq]
    rfl
  rw [Option.map_none, hcut, hset, hleft]
  rfl

theorem doorForced_completes {s : State} (hc : s.Calm) (hl : s.ccu.state = .latched) (hs : s.spc.state = .atSpeed)
    (hp : s.pos.state = .tracking) (hpark : s.pos.parkSensor = false) (hr : s.recordOf .doorForced = none) :
    s.completes .cartridgeSensorAbsent fun t =>
      t.ccu.state = .absent ∧ t.ccu.releasePending = true ∧ t.ccu.latch = s.ccu.latch ∧
      t.ccu.mediaChange = (s.ccu.mediaChange + 1) % 256 ∧ t.record.state = .notRead ∧
      t.record.image = none ∧ t.requested .cartridgeRemoved = true ∧
      t.requested .faultLatched = true ∧ t.latchedKind .doorForced = true ∧
      (t.fsv.kinds.get .doorForced).present = true ∧ t.spc.state = .coasting ∧
      t.spc.demand = .coast ∧ t.pos.state = .retracting ∧ t.pos.causing = some .doorForced ∧
      t.dbi = s.dbi ∧ t.queue = s.queue ∧ t.tbs = s.tbs := by
  have hexec := exec_cartridgeSensorAbsent s
  obtain ⟨a, ha⟩ : ∃ a, a = s.onCcu fun c => { c with present := false } := ⟨_, rfl⟩
  have habs : s.sensorAbsent = a.doorForced := by
    rw [ha]
    simp [State.sensorAbsent, hc.supplied, hl]
  have hac : a.Calm := by
    rw [ha]
    exact hc.of_motion (s.onCcu_affairs rfl rfl rfl) rfl
  rw [habs, doorForced_of_calm hac (by rw [ha]; exact hr)] at hexec
  obtain ⟨hfside, hfspc, ⟨hfpos, hfpark⟩, hfccu, hfrecs, hfkind⟩ := forced_frame a
  have hfi := hac.toIdle.forced
  have haspc : a.spc = s.spc := by rw [ha]; rfl
  have hapos : a.pos = s.pos := by rw [ha]; rfl
  have haccu : a.ccu = { s.ccu with present := false } := by rw [ha]; rfl
  have haside : a.hostSide = s.hostSide := by rw [ha]; rfl
  generalize a.forced = f at *
  obtain ⟨hcside, hcspc, hcpos, hcrecs, hcend, hcwork, hcdowns, hcreq, hcccu⟩ := cartridgeLeaves_frame hfi.work
  have hckind : (f.cartridgeLeaves.fsv.kinds.get .doorForced).present = true := by
    rw [cartridgeLeaves_eq hfi.work]
    simpa [State.cancelRestarts, State.forgetRecord, State.clearHolds] using hfkind
  generalize f.cartridgeLeaves = g at *
  obtain ⟨hdbi, hqueue, hjob, heng, -, htbs, hrec, hlow⟩ := hostSide_onRec hcside
  have hgi : g.Idle := ⟨hqueue.trans hfi.queue, hjob.trans hfi.job, hcend.trans hfi.endWith, hcwork,
    hcdowns.trans hfi.downs, by rw [hcccu]; exact hfi.eject, by rw [hrec]; exact hfi.op, by rw [hrec],
    heng.trans hfi.eng, hlow.trans hfi.supplied⟩
  obtain ⟨hrheads, hrpos, hrcause, hrrecs, hrkind⟩ := retractRequest_of_tracking hgi.job hgi.op
    (by rw [hcpos, hfpos, hapos, hp]) (by rw [hcpos, hfpark, hapos, hpark]) .doorForced
  have hri := hrheads.idle hgi
  generalize g.retractRequest .doorForced = r at *
  have hrspc : r.spc = s.spc := by rw [hrheads.spc, hcspc, hfspc, haspc]
  have hcoast : r.spc.demand.combine .coast = .coast := combine_eq_coast.mpr (.inr rfl)
  rw [stopRequest_of_powered (by rw [hrspc, hs]; rfl), hcoast, if_pos rfl] at hexec
  have hrside := hrheads.hostSide
  have hti := hri.leavePowered .coasting false .coast
  have htside := r.leavePowered_hostSide .coasting false .coast
  have htspc := leavePowered_spc .coasting false .coast r
  have htrecs := r.leavePowered_records .coasting false .coast
  have htframe : (r.leavePowered .coasting false .coast).pos = r.pos ∧
      (r.leavePowered .coasting false .coast).ccu = r.ccu ∧ (r.leavePowered .coasting false .coast).atc = r.atc ∧
      ((r.leavePowered .coasting false .coast).fsv.kinds.get .doorForced).present =
        (r.fsv.kinds.get .doorForced).present := by
    unfold State.leavePowered
    refine ⟨(absents_onlyFsv _ _).pos, (absents_onlyFsv _ _).ccu, (absents_onlyFsv _ _).atc, ?_⟩
    rw [absents_get_of_not_mem (by decide)]
    rfl
  generalize r.leavePowered .coasting false .coast = t at *
  obtain ⟨htpos, htccu, htatc, htkind⟩ := htframe
  obtain ⟨hkdbi, hkqueue, -, -, -, hktbs, hkrec, -⟩ := keepsHost_of_hostSide (htside.trans hrside)
  have hstate : t.spc.state = .coasting ∧ t.spc.demand = .coast ∧ t.spc.brakePending = false := by
    rw [htspc]
    exact ⟨rfl, rfl, rfl⟩
  obtain ⟨hcoasting, hdemand, hbrake⟩ := hstate
  have hretract : t.pos.state = .retracting := by rw [htpos, hrpos]
  have htc : t.ccu = { s.ccu with
      present := false, eject := none, ejectWindow := none, releasePending := true
      state := .absent, mediaChange := (s.ccu.mediaChange + 1) % 256, protect := false, ejector := false
      holdCount := 0, buttonRefused := false } := by
    rw [htccu, hrheads.ccu, hcccu, hfccu, haccu]
  have hquiet : react t = none := by
    rw [react_of_idle hti]
    simp [mechanical, reactOwnUnload, reactStopCheck, reactRelease, reactBrake, reactStart, reactLoad, guarded,
      State.atRest, State.loadAllowed, hcoasting, hbrake, hretract, htc, PosState.flying]
  have hdbi' : t.dbi = s.dbi := by
    rw [hkdbi, hdbi]
    exact (keepsHost_of_hostSide (hfside.trans haside)).1
  have hrecs : t.fsv.records = s.fsv.records ++
      [a.newRecord .doorForced none .latched (some (fixedRow .doorForced))] := by
    rw [htrecs, hrrecs, hcrecs, hfrecs, ha]
    rfl
  refine ⟨t, by rw [hexec, event_of_quiet hquiet (hc.toHosted.of_dbi hdbi')], ?_⟩
  refine ⟨by rw [htc], by rw [htc], by rw [htc], by rw [htc], by rw [hkrec, hrec], by rw [hkrec, hrec], ?_, ?_, ?_, ?_,
    hcoasting, hdemand, hretract, by rw [htpos, hrcause], hdbi', ?_, ?_⟩
  · simp only [State.requested] at hcreq ⊢
    rw [htatc, hrheads.atc]
    exact hcreq
  · simp [State.requested, State.anyLatched, hrecs, State.newRecord]
  · simp [State.latchedKind, hrecs, State.newRecord]
  · rw [htkind, hrkind, hckind]
  · rw [hkqueue, hqueue]
    exact (keepsHost_of_hostSide (hfside.trans haside)).2.1
  · rw [hktbs, htbs]
    exact tbs_of_hostSide (hfside.trans haside)

/-! ## The end of an eject -/

theorem foldl_placeEjectDone (st : Status) (tags : List Byte) (s : State) :
    ∃ g : Attention → Attention, tags.foldl (fun v t => v.placeEjectDone t st) s =
      (s.onDbi fun d => { d with
        replies := d.replies ++ tags.map fun t => .done t st 0 0 0 none none }).onAtc g := by
  induction tags generalizing s with
  | nil =>
    refine ⟨id, ?_⟩
    rw [List.map_nil]
    simp only [List.foldl_nil, List.append_nil]
    rfl
  | cons t tags ih =>
    obtain ⟨g, hg⟩ := ih (s.placeEjectDone t st)
    refine ⟨fun a => g { a with requests := Source.all.filter fun y => a.requests.contains y || y == .commandDone }, ?_⟩
    rw [List.foldl_cons, hg, List.map_cons]
    simp only [State.onDbi, State.onAtc, State.placeEjectDone, State.place, State.request, List.append_assoc,
      List.singleton_append]

/-- An eject that ends answers its tags, in order, and is forgotten (R137 to R139). -/
theorem endEject_eq {s : State} {e : EjectRecord} (he : s.ccu.eject = some e) (st : Status) :
    ∃ g : Attention → Attention, s.endEject st = ((s.onDbi fun d => { d with
        replies := d.replies ++ e.tags.map fun t => .done t st 0 0 0 none none }).onAtc g).onCcu fun c =>
      { c with eject := none, ejectWindow := none } := by
  obtain ⟨g, hg⟩ := foldl_placeEjectDone st e.tags s
  refine ⟨g, ?_⟩
  simp only [State.endEject, he, Option.map_some, Option.getD_some, hg]

/-- The answers of an eject. -/
def State.answersEject (e : EjectRecord) (st : Status) (s : State) : List Packet :=
  s.dbi.replies ++ e.tags.map fun t => .done t st 0 0 0 none none

/-- With the answers given, a drive calm but for the eject is calm. -/
theorem endEject_calm {s : State} {e : EjectRecord} (hc : (s.onCcu fun c => { c with eject := none }).Calm)
    (he : s.ccu.eject = some e) (st : Status) :
    (s.endEject st).Calm ∧ (s.endEject st).dbi.replies = s.answersEject e st ∧
    (s.endEject st).queue = s.queue ∧ (s.endEject st).record = s.record ∧ (s.endEject st).tbs = s.tbs ∧
    (s.endEject st).ccu = { s.ccu with eject := none, ejectWindow := none } := by
  obtain ⟨g, hg⟩ := endEject_eq he st
  rw [hg]
  exact ⟨hc.of_motion rfl rfl, rfl, rfl, rfl, rfl, rfl⟩

theorem ejected_completes {s : State} {e : EjectRecord} (hc : (s.onCcu fun c => { c with eject := none }).Calm)
    (he : s.ccu.eject = some e) (hst : s.ccu.state = .ejecting) :
    s.completes .cartridgeSensorAbsent fun t =>
      t.ccu.state = .absent ∧ t.ccu.eject = none ∧ t.ccu.ejector = false ∧
      t.ccu.mediaChange = (s.ccu.mediaChange + 1) % 256 ∧ t.ccu.holdCount = 0 ∧
      t.dbi.replies = s.dbi.replies ++ e.tags.map (fun g => .done g .ok 0 0 0 none none) ∧
      t.requested .cartridgeRemoved = true ∧ t.record.image = none ∧ t.queue = s.queue := by
  have hexec := exec_cartridgeSensorAbsent s
  obtain ⟨a, ha⟩ : ∃ a, a = s.onCcu fun c => { c with present := false } := ⟨_, rfl⟩
  have habs : s.sensorAbsent = (a.endEject .ok).cartridgeLeaves := by
    have hl : s.supplyLow = false := hc.supplied
    rw [ha]
    simp [State.sensorAbsent, State.cartridgeLeft, hl, hst]
  have hac : (a.onCcu fun c => { c with eject := none }).Calm := by
    rw [ha]
    exact hc.of_motion rfl rfl
  obtain ⟨huc, hreplies, hqueue, hrec, -, hccu⟩ := endEject_calm hac (e := e) (by rw [ha]; exact he) .ok
  rw [habs] at hexec
  have haccu : a.ccu = { s.ccu with present := false } := by rw [ha]; rfl
  have hadbi : a.dbi = s.dbi := by rw [ha]; rfl
  have haqueue : a.queue = s.queue := by rw [ha]; rfl
  obtain ⟨hside, -, -, -, -, -, -, hreq, hlccu⟩ := cartridgeLeaves_frame huc.work
  refine completes_of_calm hexec (cartridgeLeaves_calm huc) ?_
  obtain ⟨hldbi, hlqueue, -, -, -, -, hlrec, -⟩ := hostSide_onRec hside
  rw [hlccu, hldbi, hlqueue, hlrec, hccu, hreplies, hqueue, haccu, haqueue, State.answersEject, hadbi]
  exact ⟨rfl, rfl, rfl, rfl, rfl, rfl, hreq, rfl, rfl⟩

/-- Settles O37. -/
theorem cartridgeSensor : Obligations.CartridgeSensor := by
  refine ⟨fun s protect => ⟨fun hcalm hc => ?_, fun hidle hturn hinb hs hl hc hg => ?_⟩,
    fun s e hturn hinb => ⟨fun hcalm => removal_completes (calm_iff.mp hcalm),
      fun hcalm => doorForced_completes (calm_iff.mp hcalm),
      fun hcalm => ejected_completes (calm_iff.mp hcalm)⟩⟩
  · rw [exec_cartridgeSensorPresent, sensorPresent_held hc,
      event_of_calm ((calm_iff.mp hcalm).of_motion (s.onCcu_affairs rfl rfl rfl) rfl)]
    rfl
  · exact insertion_completes (idleDrive_iff.mp hidle) ⟨hturn, hinb⟩ hs hl hc hg

end Sys2Proof.Machine
end

section
/-! The eject button, and the ends of the ejector's pulse and of the eject window (R130, R132, R137, R139). -/

namespace Sys2Proof.Machine

/-! ## A SEATED cartridge is pushed out -/

/-- An eject fires the ejector under a SEATED cartridge at once (R132, R137). -/
def State.pushed (mode : EjectMode) (force : Bool) (tags : List Byte) (s : State) : State :=
  (s.cancelRestarts.onCcu fun c => { c with
    eject := some ⟨none, mode, force, tags, .undecided⟩, buttonRefused := false, state := .ejecting, latch := false,
    ejector := true, ejectWindow := some ⟨0, Config.ejectWindowTicks⟩ }).absent .doorForced

theorem beginEject_seated {s : State} (hw : s.work = none) (hd : s.downs = ⟨none, none, none, false⟩)
    (hst : s.ccu.state = .seated) (mode : EjectMode) (force : Bool) (tags : List Byte) :
    s.beginEject mode force tags = s.pushed mode force tags := by
  have hdowns : s.cancelRestarts.onDowns Downs.leaveStandby = s.cancelRestarts := by
    have hd' : s.cancelRestarts.downs = ⟨none, none, none, false⟩ := hd
    have : Downs.leaveStandby s.cancelRestarts.downs = s.cancelRestarts.downs := by rw [hd']; rfl
    simp only [State.onDowns, this]
  have hawait : ∀ u : State, u.work = none → u.workAwaitsEject = u := by
    intro u hu
    simp only [State.workAwaitsEject, hu]
  have hseat : s.cancelRestarts.ccu.state = .seated := hst
  unfold State.beginEject
  dsimp only
  rw [hdowns]
  simp only [State.onCcu_ccu, hseat, beq_self_eq_true, if_true]
  unfold State.enterEjecting
  rw [hawait (State.onCcu _ s.cancelRestarts) hw]
  rfl

theorem State.Calm.pushed {s : State} (h : s.Calm) (mode : EjectMode) (force : Bool) (tags : List Byte) :
    (s.pushed mode force tags).Expels ⟨none, mode, force, tags, .undecided⟩ := by
  refine ⟨?_, rfl, rfl⟩
  have hc := h.cancelRestarts.absent .doorForced
  exact { hc with eject := rfl, noCheck := nofun }

/-! ## The button -/

theorem exec_ejectButtonPress {s : State} (hl : s.supplyLow = false) :
    exec .ejectButtonPress s = .next s.pressButton.event := by
  have hexec : exec .ejectButtonPress s = .next (if s.supplyLow then s else s.pressButton.event) := rfl
  rw [hexec, hl, if_neg (by decide)]

theorem pressButton_idle {s : State}
    (h : s.ccu.state = .absent ∨ s.ccu.state = .ejectPending ∨ s.ccu.state = .ejecting) : s.pressButton = s := by
  rcases h with h | h | h <;> simp [State.pressButton, h]

theorem pressButton_refused {s : State} (h : s.ccu.state = .seated ∨ s.ccu.state = .latched)
    (hn : 0 < s.ccu.holdCount) :
    s.pressButton = (s.onCcu fun c => { c with buttonRefused := true }).request .ejectButton := by
  rcases h with h | h <;> simp [State.pressButton, h, hn]

theorem pressButton_ejects {s : State} (h : s.ccu.state = .seated) (hn : s.ccu.holdCount = 0) :
    s.pressButton = (s.request .ejectButton).beginEject s.tbs.params.buttonMode false [] := by
  simp [State.pressButton, h, hn]

theorem press_completes {s : State} (hc : s.Calm) (hst : s.ccu.state = .seated) (hn : s.ccu.holdCount = 0) :
    s.completes .ejectButtonPress fun t =>
      t.ccu.state = .ejecting ∧ t.ccu.latch = false ∧ t.ccu.ejector = true ∧
      t.ccu.ejectWindow = some ⟨0, 2000000⟩ ∧ t.ccu.holdCount = s.ccu.holdCount ∧
      t.ccu.eject = some ⟨none, s.tbs.params.buttonMode, false, [], .undecided⟩ ∧
      t.requested .ejectButton = true ∧ s.keepsHost t ∧ t.spc = s.spc ∧ t.pos = s.pos := by
  have hexec := exec_ejectButtonPress hc.supplied
  rw [pressButton_ejects hst hn, beginEject_seated (s := s.request .ejectButton) hc.work hc.downs hst] at hexec
  have hu : (s.request .ejectButton).Calm := hc.of_motion (s.request_affairs _) (s.request_motion _)
  refine (hu.pushed _ _ _).completes hexec ⟨rfl, rfl, rfl, rfl, rfl, rfl, ?_,
    keepsHost_of_hostSide (by simp [State.pushed, State.cancelRestarts]), rfl, rfl⟩
  simp [State.pushed, State.requested, State.cancelRestarts]

/-! ## The ejector and the eject window -/

theorem pulseEnd_completes {s : State} {e : EjectRecord} (h : s.Expels e) (hst : s.ccu.state = .ejecting)
    (hx : s.ccu.ejector = true) :
    s.completes .ejectorPulseEnd fun t =>
      t.ccu.ejector = false ∧ t.ccu.state = .ejecting ∧ t.ccu.eject = some e ∧
      s.keepsHost t ∧ t.fsv = s.fsv ∧ t.atc = s.atc := by
  have hexec : exec .ejectorPulseEnd s = .next (if s.ccu.ejector then
      ((s.elapse (Config.ejectorTicks - s.sinceFired)).onCcu fun c => { c with ejector := false }).event else s) := rfl
  rw [hx, if_pos rfl] at hexec
  generalize Config.ejectorTicks - s.sinceFired = n at hexec
  have hexpels : ((s.elapse n).onCcu fun c => { c with ejector := false }).Expels e := by
    refine ⟨?_, h.eject, h.phase⟩
    exact h.calm.of_motion (by simp [State.affairs, State.pendingStart, State.pendingLoad, State.elapse_heads,
      State.elapse_disk, State.elapse_cartridge]) (by simp)
  exact hexpels.completes hexec ⟨rfl, hst, h.eject, keepsHost_of_hostSide rfl, rfl, rfl⟩

theorem ejectWindow_completes {s : State} {e : EjectRecord} {x : Timer} (h : s.Expels e)
    (hw : s.ccu.ejectWindow = some x) :
    s.completes .ejectWindowExpiry fun t =>
      t.ccu.state = .seated ∧ t.ccu.eject = none ∧ t.ccu.ejector = false ∧
      t.ccu.latch = s.ccu.latch ∧ t.ccu.holdCount = s.ccu.holdCount ∧
      t.dbi.replies = s.dbi.replies ++ e.tags.map (fun g => .done g .ejectFailed 0 0 0 none none) ∧
      t.requested .ejectFailed = true ∧ t.queue = s.queue ∧ t.record = s.record ∧ t.tbs = s.tbs := by
  have hl : s.supplyLow = false := h.calm.supplied
  have hexec : exec .ejectWindowExpiry s = .next (if s.supplyLow then s
      else s.expire s.ccu.ejectWindow fun t => t.failEject .ejectFailed .seated) := rfl
  rw [hl, if_neg (by decide), expire_of_some hw] at hexec
  generalize x.left = n at hexec
  obtain ⟨a, ha⟩ : ∃ a, a = s.elapse n := ⟨_, rfl⟩
  rw [← ha] at hexec
  have hac : (a.onCcu fun c => { c with eject := none }).Calm := by
    rw [ha]
    exact h.calm.of_motion (by simp [State.affairs, State.pendingStart, State.pendingLoad, State.elapse_heads,
      State.elapse_disk, State.elapse_cartridge]) (by simp)
  obtain ⟨huc, hreplies, hqueue, hrec, htbs, hccu⟩ := endEject_calm hac (e := e) (by rw [ha]; exact h.eject) .ejectFailed
  have hfail : a.failEject .ejectFailed .seated = ((a.endEject .ejectFailed).onCcu fun c => { c with
      state := .seated, ejector := false }).request .ejectFailed := rfl
  rw [hfail] at hexec
  have hcalm : ((a.endEject .ejectFailed).onCcu fun c => { c with state := .seated, ejector := false }).Calm :=
    { huc with noCheck := nofun }
  refine completes_of_calm hexec (hcalm.of_motion (State.request_affairs _ _) (State.request_motion _ _)) ?_
  have haccu := s.elapse_cartridge n
  rw [← ha] at haccu
  rw [show ∀ u : State, (u.request .ejectFailed).ccu = u.ccu from fun _ => rfl, State.onCcu_ccu, hccu, haccu]
  refine ⟨rfl, rfl, rfl, rfl, rfl, ?_, by simp [State.requested], ?_, ?_, ?_⟩
  · exact hreplies.trans (by rw [State.answersEject, ha]; rfl)
  · exact hqueue.trans (by rw [ha]; rfl)
  · exact hrec.trans (by rw [ha]; rfl)
  · exact htbs.trans (by rw [ha]; rfl)

/-- Settles O38. -/
theorem ejectEvents : Obligations.EjectEvents := by
  refine ⟨fun s => ⟨fun hst hset hturn hinb => ?_, fun hcalm hst hn => ?_, fun hcalm => press_completes (calm_iff.mp hcalm)⟩,
    fun s e x hcalm he hph hst => ?_⟩
  · have hexec : exec .ejectButtonPress s = .next (if s.supplyLow then s else s.pressButton.event) := rfl
    have hquiet : react s = none := by simpa [State.settled] using hset
    rw [hexec, pressButton_idle hst, event_of_quiet hquiet ⟨hturn, hinb⟩, ite_self]
  · have hc := calm_iff.mp hcalm
    have hexec := exec_ejectButtonPress hc.supplied
    rw [pressButton_refused hst hn] at hexec
    have hu : (s.onCcu fun c => { c with buttonRefused := true }).Calm :=
      hc.of_motion (s.onCcu_affairs rfl rfl rfl) rfl
    exact completes_of_calm hexec (hu.of_motion (State.request_affairs _ _) (State.request_motion _ _))
      ⟨rfl, by simp [State.requested], keepsHost_of_hostSide rfl, rfl, rfl, rfl⟩
  · have h : s.Expels e := ⟨calm_iff.mp hcalm, he, hph⟩
    exact ⟨pulseEnd_completes h hst, ejectWindow_completes h⟩

end Sys2Proof.Machine
end

section
/-! Immediate commands of a listening part: holds, the fault list, tables and snapshots (R129, R157, R158, R164 to
R171). -/

namespace Sys2Proof.Machine

/-- A COMMAND packet that passes the framing checks meets its owner in a listening part. -/
theorem command_of_framed {i : Instr} (act : State → State) {s : State} (hs : s.listens = true)
    (hf : packetFramed i = true) : s.command i act = act s := by
  simp only [State.listens, Bool.and_eq_true, beq_iff_eq, Bool.not_eq_true'] at hs
  obtain ⟨⟨hreceive, hidle⟩, hroom⟩ := hs
  cases hp : commandPayload i with
  | none => simp [packetFramed, hp] at hf
  | some tp =>
    have hg : headerRefused (commandHeader tp.1 tp.2) = false := by simpa [packetFramed, hp] using hf
    exact command_listening act hp hreceive hidle hroom hg

theorem supplyLow_of_listens {s : State} (hs : s.listens = true) : s.supplyLow = false := by
  simp only [State.listens, State.canReceive, Bool.and_eq_true, Bool.not_eq_true'] at hs
  exact hs.1.1.2

theorem twoWay_eq_none {b : Byte} (h : 1 < b.toNat) : twoWay b = none := by
  unfold twoWay
  split
  · next h0 => rw [h0] at h; exact absurd h (by decide)
  · next h1 => rw [h1] at h; exact absurd h (by decide)
  · rfl

theorem twoWay_ofNat {n : Nat} (h : n ≤ 1) : twoWay (BitVec.ofNat 8 n) = some (n == 1) := by
  obtain rfl | rfl : n = 0 ∨ n = 1 := by omega
  · rfl
  · rfl

/-! ## Holds -/

section

variable {s : State} {tag : Byte} (hs : s.listens = true) (htag : tag ≠ 0)
include hs htag

theorem exec_holdEject_of_listens : exec (.holdEject tag) s = .next (s.holdEject tag) :=
  congrArg _ (command_of_listens _ hs htag rfl (by simp) (by simp) rfl)

theorem exec_releaseEject_of_listens : exec (.releaseEject tag) s = .next (s.releaseEject tag) :=
  congrArg _ (command_of_listens _ hs htag rfl (by simp) (by simp) rfl)

theorem exec_readFaults_of_listens : exec (.readFaults tag) s = .next (s.readFaults tag) :=
  congrArg _ (command_of_listens _ hs htag rfl (by simp) (by simp) rfl)

theorem exec_clearFaults_of_listens : exec (.clearFaults tag) s = .next (s.clearFaults tag) :=
  congrArg _ (command_of_listens _ hs htag rfl (by simp) (by simp) rfl)

theorem exec_readLatched_of_listens : exec (.readLatched tag) s = .next (s.readLatched tag) :=
  congrArg _ (command_of_listens _ hs htag rfl (by simp) (by simp) rfl)

theorem exec_latch_of_listens {groups clear : Byte} {g : Groups} {c : Bool} (hg : groupsOf groups = some g)
    (hc : twoWay clear = some c) : exec (.latch tag groups clear) s = .next (s.latch tag g c) :=
  congrArg _ ((command_of_listens _ hs htag rfl (by simp) (by simp) rfl).trans (by rw [hg, hc]))

theorem exec_readTable_of_listens {selector copy : Byte} {c : Bool} (first : BitVec 16) (hc : twoWay copy = some c)
    (h : 1 ≤ selector.toNat ∧ selector.toNat ≤ 6) :
    exec (.readTable tag selector copy first) s = .next (s.readTable tag selector.toNat c first.toNat) :=
  congrArg _ ((command_of_listens _ hs htag rfl (by simp [be16]) (by simp [be16]) rfl).trans (by
    rw [hc]
    exact if_pos h))

theorem exec_readTable_unlisted {selector : Byte} (first : BitVec 16)
    (h : ¬(1 ≤ selector.toNat ∧ selector.toNat ≤ 6)) :
    exec (.readTable tag selector 0 first) s = .next (s.withReply tag .badPacket .empty) :=
  congrArg _ ((command_of_listens _ hs htag rfl (by simp [be16]) (by simp [be16]) rfl).trans (by
    exact if_neg h))

theorem exec_tableHold_of_listens {value : Byte} {v : Bool} (hv : twoWay value = some v) :
    exec (.tableHold tag value) s = .next (s.tableHold tag v) :=
  congrArg _ ((command_of_listens _ hs htag rfl (by simp) (by simp) rfl).trans (by rw [hv]))

theorem exec_tableHold_unlisted {value : Byte} (hv : twoWay value = none) :
    exec (.tableHold tag value) s = .next (s.withReply tag .badPacket .empty) :=
  congrArg _ ((command_of_listens _ hs htag rfl (by simp) (by simp) rfl).trans (by rw [hv]; rfl))

end

theorem ejectGoesOn_iff {s : State} : s.ejectGoesOn = true ↔ s.ccu.state = .ejectPending ∨ s.ccu.state = .ejecting := by
  simp [State.ejectGoesOn]

/-- Settles O50, check by check. -/
theorem holdsCounted : Obligations.HoldsCounted := by
  intro s tag hs htag hold release busy
  have hh : ∀ {t : State}, s.holdEject tag = t → hold t := fun h =>
    (exec_holdEject_of_listens hs htag).trans (by rw [h])
  have hr : ∀ {t : State}, s.releaseEject tag = t → release t := fun h =>
    (exec_releaseEject_of_listens hs htag).trans (by rw [h])
  refine ⟨fun ha => ⟨hh ?_, hr ?_⟩, fun hb => hh ?_, fun ha hb hn => hh ?_, fun ha hb hn => hh ?_, fun ha hn => hr ?_,
    fun ha hn => hr ?_, fun ha hn => hr ?_⟩
  · simp only [State.holdEject, ha]
    rfl
  · simp only [State.releaseEject, ha]
    rfl
  · have hna : (s.ccu.state == .absent) = false := by rcases hb with hb | hb <;> rw [hb] <;> rfl
    simp only [State.holdEject, hna, ejectGoesOn_iff.mpr hb]
    rfl
  · have hgo : s.ejectGoesOn = false := Bool.eq_false_iff.mpr fun h => hb (ejectGoesOn_iff.mp h)
    simp only [State.holdEject, beq_eq_false_iff_ne.mpr ha, hgo, if_neg (Nat.not_le_of_lt hn)]
    rfl
  · have hgo : s.ejectGoesOn = false := Bool.eq_false_iff.mpr fun h => hb (ejectGoesOn_iff.mp h)
    simp only [State.holdEject, beq_eq_false_iff_ne.mpr ha, hgo, if_pos (Nat.le_of_eq hn.symm)]
    rfl
  · simp only [State.releaseEject, beq_eq_false_iff_ne.mpr ha, if_pos hn]
    rfl
  · have hne : ¬ s.ccu.holdCount = 0 := by omega
    simp only [State.releaseEject, beq_eq_false_iff_ne.mpr ha, State.onCcu, hn]
    rfl
  · have hne : ¬ s.ccu.holdCount = 0 := by omega
    have hne1 : ¬ s.ccu.holdCount = 1 := by omega
    simp only [State.releaseEject, beq_eq_false_iff_ne.mpr ha, if_neg hne, State.onCcu, if_neg hne1]
    rfl

/-! ## The fault list -/

/-- CLEAR FAULTS leaves what is RETRYING, and what is LATCHED with its condition present (R157). -/
theorem keepsRecord_eq (s : State) : s.keepsRecord = fun r => r.state == .retrying ||
    (r.state == .latched && (s.fsv.kinds.get r.kind).present) := by
  funext r
  unfold State.keepsRecord
  cases r.state <;> rfl

/-- Settles O51. -/
theorem faultCommands : Obligations.FaultCommands := by
  intro s tag hs htag left
  refine ⟨exec_readFaults_of_listens hs htag, fun hcalm => ?_⟩
  have hc := calm_iff.mp hcalm
  have hclear : s.clearFaults tag = (((s.onFsv fun v => { v with records := left }).onPos fun p => { p with
      hold := false }).reply tag .ok (.cleared (s.fsv.records.length - left.length) left.length)).settle := by
    simp only [State.clearFaults, keepsRecord_eq]
    rfl
  have hu : ((s.onFsv fun v => { v with records := left }).onPos fun p => { p with hold := false }).Calm :=
    (hc.onFsv hc.wants).onPos rfl hc.grounded
  have hr : (((s.onFsv fun v => { v with records := left }).onPos fun p => { p with hold := false }).reply tag .ok
      (.cleared (s.fsv.records.length - left.length) left.length)).Calm := hu.of_motion rfl rfl
  rw [exec_clearFaults_of_listens hs htag, hclear, settle_of_quiet (react_of_calm hr)]
  rfl

/-! ## Tables -/

theorem idle_eq_not_powered (x : SpindleState) : x.idle = !x.powered := by cases x <;> rfl

/-- A take makes the staged tables the active ones and holds the current in the new limit (R166). -/
theorem takeTables_eq {s : State} (hh : s.tbs.hold = false) (hs : s.anyStaged = true) (hl : s.supplyLow = false) :
    s.takeTables = ((s.onTbs fun t => { t with
      profile := t.stagedProfile.getD t.profile, actions := t.stagedActions.getD t.actions,
      params := t.stagedParams.getD t.params, stagedProfile := none, stagedActions := none,
      stagedParams := none }).clampCurrent).request .tablesTaken := by
  simp [State.takeTables, hh, hs, hl]

section

variable {s : State} {tag selector : Byte} {body : List Byte} {x : LoadedTable} {n : Nat}
  (hs : s.listens = true) (hf : packetFramed (.loadTable tag selector body) = true)
include hs hf

theorem exec_loadTable_of_framed :
    exec (.loadTable tag selector body) s = .next (s.loadTable tag selector body) :=
  congrArg _ (command_of_framed _ hs hf)

theorem exec_loadTable_refused (ht : tableOf selector body = none) :
    exec (.loadTable tag selector body) s = .next (s.withReply tag .tableInvalid .empty) := by
  rw [exec_loadTable_of_framed hs hf]
  simp only [State.loadTable, ht]
  rfl

/-- The answer to a table that is taken (R165). -/
theorem exec_loadTable_taken (ht : tableOf selector body = some (x, n)) :
    exec (.loadTable tag selector body) s = .next
      ((if s.spc.state.idle then (s.stage x).takeTables else s.stage x).reply tag
        (if n = 0 then .ok else .okClamped) (if n = 0 then .empty else .clamped n)) := by
  rw [exec_loadTable_of_framed hs hf]
  simp only [State.loadTable, ht]
  by_cases hn : n = 0
  · simp only [if_pos hn]
  · simp only [if_neg hn]

/-- A table stays staged while the disk is powered or tables are held (R166). -/
theorem exec_loadTable_staged (ht : tableOf selector body = some (x, n))
    (hstay : s.spc.state.powered = true ∨ s.tbs.hold = true) :
    exec (.loadTable tag selector body) s = .next ((s.stage x).reply tag
      (if n = 0 then .ok else .okClamped) (if n = 0 then .empty else .clamped n)) := by
  have hsame : (if s.spc.state.idle then (s.stage x).takeTables else s.stage x) = s.stage x := by
    rcases hstay with hp | hh
    · rw [idle_eq_not_powered, hp, Bool.not_true, if_neg (by decide)]
    · have hhold : (s.stage x).tbs.hold = true := by cases x <;> exact hh
      rw [takeTables_of_none (.inl hhold), ite_self]
  rw [exec_loadTable_taken hs hf ht, hsame]

end

theorem loadParams_completes {s : State} {tag selector : Byte} {body : List Byte} {p : DriveParams} {n : Nat}
    (hs : s.listens = true) (hf : packetFramed (.loadTable tag selector body) = true)
    (ht : tableOf selector body = some (.params p, n)) (hp : s.spc.state.powered = false)
    (hh : s.tbs.hold = false) :
    s.completes (.loadTable tag selector body) fun t => t.tbs.params = p ∧ t.anyStaged = false ∧
      t.tbs.profile = s.tbs.stagedProfile.getD s.tbs.profile ∧
      t.tbs.actions = s.tbs.stagedActions.getD s.tbs.actions ∧
      t.requested .tablesTaken = true ∧ t.dbi.replies = s.dbi.replies ++
        [.reply tag (if n = 0 then .ok else .okClamped) (if n = 0 then .empty else .clamped n)] ∧
      t.pos.current = clampTo t.tbs.profile.ilim s.pos.current ∧ t.spc = s.spc ∧
      t.queue = s.queue ∧ t.record = s.record := by
  have hexec := exec_loadTable_taken hs hf ht
  have hstaged : (s.stage (.params p)).anyStaged = true := by simp [State.stage, State.anyStaged]
  rw [idle_eq_not_powered, hp, Bool.not_false, if_pos rfl,
    takeTables_eq (s := s.stage (.params p)) hh hstaged (supplyLow_of_listens hs)] at hexec
  refine ⟨_, hexec, ?_⟩
  simp [State.reply, State.place, State.clampCurrent, State.requested, State.anyStaged, State.stage]

theorem releaseTables_completes {s : State} {tag : Byte} (hs : s.listens = true) (htag : tag ≠ 0)
    (hh : s.tbs.hold = true) (ha : s.anyStaged = true) (hp : s.spc.state.powered = false) :
    s.completes (.tableHold tag 0) fun t =>
      t.tbs = { s.tbs with
        hold := false, profile := s.tbs.stagedProfile.getD s.tbs.profile,
        actions := s.tbs.stagedActions.getD s.tbs.actions,
        params := s.tbs.stagedParams.getD s.tbs.params, stagedProfile := none,
        stagedActions := none, stagedParams := none } ∧
      t.requested .tablesTaken = true ∧
      t.dbi.replies = s.dbi.replies ++ [.reply tag .ok .empty] ∧
      t.pos = { s.pos with current := clampTo t.tbs.profile.ilim s.pos.current } ∧
      t.spc = s.spc ∧ t.queue = s.queue ∧ t.record = s.record ∧ t.fsv = s.fsv ∧ t.ccu = s.ccu := by
  have hexec := exec_tableHold_of_listens hs htag (value := 0) (v := false) rfl
  have htake : s.tableHold tag false = (s.onTbs fun x => { x with hold := false }).takeTables.reply tag .ok .empty := by
    simp [State.tableHold, hh, idle_eq_not_powered, hp]
  rw [htake, takeTables_eq (s := s.onTbs fun x => { x with hold := false }) rfl ha (supplyLow_of_listens hs)] at hexec
  refine ⟨_, hexec, ?_⟩
  simp [State.reply, State.place, State.clampCurrent, State.requested]

theorem tableHold_kept {s : State} (h : s.anyStaged = false ∨ s.spc.state.powered = true) (tag : Byte) :
    s.tableHold tag false = { s.withReply tag .ok .empty with tbs := { s.tbs with hold := false } } := by
  rcases h with h | h
  · have hnone : (s.onTbs fun x => { x with hold := false }).takeTables = s.onTbs fun x => { x with hold := false } :=
      takeTables_of_none (.inr h)
    simp only [State.tableHold, hnone, ite_self]
    rfl
  · simp only [State.tableHold, idle_eq_not_powered, h, Bool.not_true, Bool.and_false]
    rfl

/-- Settles O52. -/
theorem tableCommands : Obligations.TableCommands := by
  intro s tag selector body copy first value p n img hs htag load st b
  refine ⟨fun hf ht => exec_loadTable_refused hs hf ht, fun hf ht hstay => exec_loadTable_staged hs hf ht hstay,
    fun hf ht hp hh _ => loadParams_completes hs hf ht hp hh, ?active, ?staged, fun himg h4 h6 hcopy => ?noImage,
    fun himg hfirst hcopy => ?image, fun hsel => ?unlisted, ?hold, fun hkept => ?kept,
    fun hh ha hp => releaseTables_completes hs htag hh ha hp, fun h2 h255 => ?badValue⟩
  case active => exact exec_readTable_of_listens hs htag (selector := 3) (copy := 0) (c := false) _ rfl (by decide)
  case staged => exact exec_readTable_of_listens hs htag (selector := 1) (copy := 1) (c := true) _ rfl (by decide)
  case noImage =>
    rw [exec_readTable_of_listens hs htag _ (twoWay_ofNat hcopy) ⟨by omega, h6⟩]
    have hbig : ¬ selector.toNat ≤ 3 := by omega
    simp only [State.readTable, if_neg hbig, himg]
    rfl
  case image =>
    intro read
    have hread : ∀ x : Byte, (1 ≤ x.toNat ∧ x.toNat ≤ 6) → ¬ x.toNat ≤ 3 →
        read x = .next (s.withReply tag .ok (imageReply x.toNat first img)) := by
      intro x hx hbig
      have hmod : (BitVec.ofNat 16 first).toNat = first := by
        rw [BitVec.toNat_ofNat]
        exact Nat.mod_eq_of_lt hfirst
      refine (exec_readTable_of_listens hs htag _ (twoWay_ofNat hcopy) hx).trans ?_
      simp only [State.readTable, if_neg hbig, himg, hmod]
      rfl
    exact ⟨hread 4 (by decide) (by decide), hread 5 (by decide) (by decide), hread 6 (by decide) (by decide)⟩
  case unlisted => exact exec_readTable_unlisted hs htag _ (by omega)
  case hold =>
    rw [exec_tableHold_of_listens hs htag (value := 1) (v := true) rfl]
    rfl
  case kept => rw [exec_tableHold_of_listens hs htag (value := 0) (v := false) rfl, tableHold_kept hkept]
  case badValue =>
    refine exec_tableHold_unlisted hs htag (twoWay_eq_none ?_)
    rw [BitVec.toNat_ofNat]
    omega

/-! ## Snapshots -/

/-- The group bits of LATCH (R170). -/
theorem groupsOf_bits (sp po co : Bool) :
    groupsOf ((if sp then 1 else 0) + (if po then 2 else 0) + (if co then 4 else 0)) = some ⟨sp, po, co⟩ := by
  cases sp <;> cases po <;> cases co <;> decide

theorem twoWay_bit (c : Bool) : twoWay (if c then 1 else 0) = some c := by
  cases c <;> rfl

/-- Settles O53. -/
theorem snapshotCommands : Obligations.SnapshotCommands := by
  refine ⟨fun s tag sp po co clear hs htag => ?_, fun s tag hs htag => ?_⟩
  · intro bit got had
    rw [exec_latch_of_listens hs htag (groupsOf_bits sp po co) (twoWay_bit clear)]
    have hgot : ∀ b : Bool, (b && !(s.tbs.latchedGroups).spindle) = (b && s.tbs.snapSpindle.isNone) ∧
        (b && !(s.tbs.latchedGroups).position) = (b && s.tbs.snapPosition.isNone) ∧
        (b && !(s.tbs.latchedGroups).counters) = (b && s.tbs.snapCounters.isNone) := by
      intro b
      simp [TableStore.latchedGroups]
    simp only [State.latch, (hgot _).1, (hgot _).2.1, (hgot _).2.2]
    change Host.Outcome.next _ = _
    by_cases hcl : (clear && got.counters) = true
    · have hcl' : (clear && (co && s.tbs.snapCounters.isNone)) = true := hcl
      rw [if_pos hcl, if_pos hcl']
      rfl
    · have hcl' : ¬ (clear && (co && s.tbs.snapCounters.isNone)) = true := hcl
      rw [if_neg hcl, if_neg hcl']
      rfl
  · rw [exec_readLatched_of_listens hs htag]
    rfl

end Sys2Proof.Machine
end

section
/-! The report of STATUS, and each loadable table read from its bytes (R161 to R165, R172, R187). -/

namespace Sys2Proof.Machine

/-! ## Fields of one and two bytes -/

theorem toNat_byte {v : Nat} (h : v ≤ 255) : (BitVec.ofNat 8 v).toNat = v := by
  rw [BitVec.toNat_ofNat]
  omega

theorem fieldBytes_one (v : Nat) : fieldBytes 1 v = [BitVec.ofNat 8 v] := by simp [fieldBytes]

theorem fieldBytes_two (v : Nat) : fieldBytes 2 v = [BitVec.ofNat 8 (v / 256), BitVec.ofNat 8 v] := by
  simp [fieldBytes]

theorem ofBe16_field {v : Nat} (h : v < 65536) :
    (ofBe16 (BitVec.ofNat 8 (v / 256)) (BitVec.ofNat 8 v)).toNat = v := by
  rw [ofBe16, BitVec.toNat_append, BitVec.toNat_ofNat, BitVec.toNat_ofNat, ← Nat.shiftLeft_add_eq_or_of_lt (by omega),
    Nat.shiftLeft_eq]
  omega

theorem clampNat_byte {lo v : Nat} (h : v ≤ 255) : clampNat lo 255 v = max lo v := by
  rw [clampNat, Nat.min_eq_right h]

theorem clampedBy_eq (lo hi v : Nat) : clampedBy lo hi v = if clampNat lo hi v = v then 0 else 1 := rfl

theorem clampedBy_eq_zero {lo hi v : Nat} : clampedBy lo hi v = 0 ↔ clampNat lo hi v = v := by
  unfold clampedBy
  split <;> simp_all

/-! ## SEEK PROFILE -/

/-- The bytes of the rows of a profile. -/
def rowsBytes (rows : List ProfileRow) : List Byte :=
  rows.flatMap fun r => fieldBytes 2 r.dist ++ fieldBytes 2 r.speed

theorem rowsBytes_cons (r : ProfileRow) (rows : List ProfileRow) : rowsBytes (r :: rows) =
    BitVec.ofNat 8 (r.dist / 256) :: BitVec.ofNat 8 r.dist :: BitVec.ofNat 8 (r.speed / 256) ::
      BitVec.ofNat 8 r.speed :: rowsBytes rows := by
  simp [rowsBytes, fieldBytes_two]

theorem rowsBytes_length (rows : List ProfileRow) : (rowsBytes rows).length = 4 * rows.length := by
  induction rows with
  | nil => rfl
  | cons r rows ih =>
    rw [rowsBytes_cons]
    simp only [List.length_cons, ih]
    omega

theorem profileRows_bytes {rows : List ProfileRow} (h : ∀ r ∈ rows, r.dist < 65536 ∧ r.speed < 65536)
    (rest : List Byte) : profileRows rows.length (rowsBytes rows ++ rest) = rows := by
  induction rows with
  | nil => cases rest <;> rfl
  | cons r rows ih =>
    obtain ⟨⟨hdist, hspeed⟩, hrows⟩ := List.forall_mem_cons.mp h
    rw [rowsBytes_cons, List.length_cons]
    simp only [List.cons_append, profileRows, ofBe16_field hdist, ofBe16_field hspeed, ih hrows]

theorem profileBytes_eq (p : SeekProfile) : profileBytes p = BitVec.ofNat 8 p.rows.length :: (rowsBytes p.rows ++
    [BitVec.ofNat 8 p.kv, BitVec.ofNat 8 p.kp, BitVec.ofNat 8 (p.ilim / 256), BitVec.ofNat 8 p.ilim]) := by
  simp [profileBytes, rowsBytes, fieldBytes_one, fieldBytes_two]

/-- Rows that rise from each to the next rise from each to all after it. -/
theorem rowsRise_iff_pairwise (rows : List ProfileRow) :
    rowsRise rows = true ↔ rows.Pairwise fun x y => x.dist < y.dist ∧ x.speed ≤ y.speed := by
  induction rows with
  | nil => simp [rowsRise]
  | cons r rows ih =>
    cases rows with
    | nil => simp [rowsRise]
    | cons q rest =>
      rw [List.pairwise_cons, ← ih]
      constructor
      · intro h
        obtain ⟨hd, hs, hrest⟩ := rowsRise_cons_cons.mp h
        refine ⟨fun x hx => ?_, hrest⟩
        rcases List.mem_cons.mp hx with rfl | hx
        · exact ⟨hd, hs⟩
        · obtain ⟨hd', hs'⟩ := List.rel_of_pairwise_cons (ih.mp hrest) hx
          exact ⟨Nat.lt_trans hd hd', Nat.le_trans hs hs'⟩
      · rintro ⟨hall, hrest⟩
        obtain ⟨hd, hs⟩ := hall q (List.mem_cons_self ..)
        exact rowsRise_cons_cons.mpr ⟨hd, hs, hrest⟩

/-- The structural checks of a profile (R164). -/
theorem profileOk_iff (rows : List ProfileRow) : profileOk rows = true ↔ 2 ≤ rows.length ∧ rows.length ≤ 16 ∧
    rows.head? = some ⟨0, 0⟩ ∧ (∀ r ∈ rows, r.dist ≤ 1231 ∧ r.speed ≤ 4095) ∧
    rows.Pairwise fun x y => x.dist < y.dist ∧ x.speed ≤ y.speed := by
  rw [← rowsRise_iff_pairwise]
  simp [profileOk, and_assoc]

/-- A profile is read from its bytes with its scalars clamped (R164, R165). -/
theorem profileOf_bytes {p : SeekProfile} (hn : p.rows.length ≤ 62)
    (hr : ∀ r ∈ p.rows, r.dist < 65536 ∧ r.speed < 65536) (hkv : p.kv ≤ 255) (hkp : p.kp ≤ 255) (hi : p.ilim < 65536) :
    profileOf (profileBytes p) = if profileOk p.rows = true then
      some (⟨p.rows, max 1 p.kv, max 1 p.kp, max 1 (min 2047 p.ilim)⟩,
        clampedBy 1 255 p.kv + clampedBy 1 255 p.kp + clampedBy 1 2047 p.ilim) else none := by
  have hlen : (BitVec.ofNat 8 p.rows.length).toNat = p.rows.length := toNat_byte (by omega)
  have hdrop : (rowsBytes p.rows ++ [BitVec.ofNat 8 p.kv, BitVec.ofNat 8 p.kp, BitVec.ofNat 8 (p.ilim / 256),
      BitVec.ofNat 8 p.ilim]).drop (4 * p.rows.length) = [BitVec.ofNat 8 p.kv, BitVec.ofNat 8 p.kp,
        BitVec.ofNat 8 (p.ilim / 256), BitVec.ofNat 8 p.ilim] := List.drop_left' (rowsBytes_length p.rows)
  rw [profileBytes_eq, profileOf]
  simp only [hlen, hdrop, profileRows_bytes hr, beq_self_eq_true, Bool.true_and, toNat_byte hkv, toNat_byte hkp,
    ofBe16_field hi, clampNat_byte hkv, clampNat_byte hkp, show clampNat 1 2047 p.ilim = max 1 (min 2047 p.ilim) from rfl]

theorem packetFramed_profile {tag : Byte} {p : SeekProfile} (htag : tag ≠ 0) (hn : p.rows.length ≤ 62) :
    packetFramed (.loadTable tag 1 (profileBytes p)) = true := by
  have hlen : (BitVec.ofNat 8 p.rows.length).toNat = p.rows.length := toNat_byte (by omega)
  have htag' : ¬ tag = 0#8 := htag
  have hle : ¬ 256 < 4 * p.rows.length + 4 + 1 + 1 + 1 := by omega
  have hcount : commandLength [0x50, 1, BitVec.ofNat 8 p.rows.length] = some (4 * p.rows.length + 4 + 1 + 1 + 1) := by
    have h : commandLength [0x50, 1, BitVec.ofNat 8 p.rows.length] =
        some (7 + 4 * (BitVec.ofNat 8 p.rows.length).toNat) := rfl
    rw [h, hlen]
    exact congrArg some (by omega)
  rw [profileBytes_eq]
  simp [packetFramed, commandPayload, commandHeader, headerRefused, htag', rowsBytes_length, hle]
  exact .inr hcount

/-! ## FAULT ACTIONS -/

theorem faultModeOf_code (x : FaultMode) : faultModeOf (BitVec.ofNat 8 x.code) = some x := by cases x <;> rfl
theorem spindleActionOf_code (x : SpindleAction) : spindleActionOf (BitVec.ofNat 8 x.code) = some x := by
  cases x <;> rfl
theorem posActionOf_code (x : PosAction) : posActionOf (BitVec.ofNat 8 x.code) = some x := by cases x <;> rfl

/-- A row with its scalars clamped into their ranges (R162, R165). -/
def FaultRow.clamped (r : FaultRow) : FaultRow := { r with
  deglitch := max 1 r.deglitch, budget := max 1 (min 7 r.budget), delay := max 1 r.delay }

/-- The number of scalars of a row that the clamp changes. -/
def FaultRow.clamps (r : FaultRow) : Nat := clampedBy 1 255 r.deglitch + clampedBy 1 7 r.budget + clampedBy 1 255 r.delay

/-- The scalars of a row fit their bytes. -/
def FaultRow.Bytes (r : FaultRow) : Prop := r.deglitch ≤ 255 ∧ r.budget ≤ 255 ∧ r.delay ≤ 255

theorem FaultRow.clamps_eq_zero {r : FaultRow} (h : r.Bytes) : r.clamps = 0 ↔ r.clamped = r := by
  obtain ⟨hd, hb, hl⟩ := h
  rw [FaultRow.clamps, Nat.add_eq_zero_iff, Nat.add_eq_zero_iff, clampedBy_eq_zero, clampedBy_eq_zero, clampedBy_eq_zero,
    clampNat_byte hd, clampNat_byte hl]
  cases r
  simp [FaultRow.clamped, clampNat, and_assoc]

theorem rowBytes_eq (r : FaultRow) : rowBytes r = [BitVec.ofNat 8 r.mode.code, BitVec.ofNat 8 r.spindle.code,
    BitVec.ofNat 8 r.positioner.code, BitVec.ofNat 8 r.deglitch, BitVec.ofNat 8 r.budget, BitVec.ofNat 8 r.delay] := by
  simp [rowBytes, fieldBytes_one]

theorem faultRowOf_bytes {r : FaultRow} (h : r.Bytes) :
    faultRowOf (BitVec.ofNat 8 r.mode.code) (BitVec.ofNat 8 r.spindle.code) (BitVec.ofNat 8 r.positioner.code)
      (BitVec.ofNat 8 r.deglitch) (BitVec.ofNat 8 r.budget) (BitVec.ofNat 8 r.delay) = some (r.clamped, r.clamps) := by
  obtain ⟨hd, hb, hl⟩ := h
  simp only [faultRowOf, faultModeOf_code, spindleActionOf_code, posActionOf_code, toNat_byte hd, toNat_byte hb,
    toNat_byte hl, clampNat_byte hd, clampNat_byte hl]
  rfl

theorem faultRows_bytes {rows : List FaultRow} (h : ∀ r ∈ rows, r.Bytes) :
    faultRows (rows.flatMap rowBytes) = some (rows.map FaultRow.clamped, (rows.map FaultRow.clamps).sum) := by
  induction rows with
  | nil => rfl
  | cons r rows ih =>
    obtain ⟨hr, hrows⟩ := List.forall_mem_cons.mp h
    rw [List.flatMap_cons, rowBytes_eq]
    simp only [List.cons_append, List.nil_append, faultRows, faultRowOf_bytes hr, ih hrows, List.map_cons, List.sum_cons]

/-- The rows of FAULT ACTIONS in the order of the kinds. -/
def FaultActions.rows (a : FaultActions) : List FaultRow :=
  [a.noRotation, a.spinUpTimeout, a.speedOutOfRange, a.lostIndex, a.spindleOvercurrent, a.actuatorSaturation,
    a.servoLost, a.seekTimeout, a.unloadFailed, a.overTempWarn]

theorem actionsBytes_eq (a : FaultActions) : actionsBytes a = a.rows.flatMap rowBytes := rfl

theorem actionsBytes_length (a : FaultActions) : (actionsBytes a).length = 60 := by
  simp [actionsBytes_eq, FaultActions.rows, rowBytes_eq]

/-- A table of actions with every row clamped. -/
def FaultActions.clamped (a : FaultActions) : FaultActions :=
  ⟨a.noRotation.clamped, a.spinUpTimeout.clamped, a.speedOutOfRange.clamped, a.lostIndex.clamped,
    a.spindleOvercurrent.clamped, a.actuatorSaturation.clamped, a.servoLost.clamped, a.seekTimeout.clamped,
    a.unloadFailed.clamped, a.overTempWarn.clamped⟩

theorem FaultActions.clamped_row (a : FaultActions) (k : FaultKind) :
    a.clamped.row k = (a.row k).map FaultRow.clamped := by cases k <;> rfl

theorem FaultActions.bytes_of_row {a : FaultActions}
    (h : ∀ k r, a.row k = some r → r.deglitch ≤ 255 ∧ r.budget ≤ 255 ∧ r.delay ≤ 255) : ∀ r ∈ a.rows, r.Bytes := by
  simp only [FaultActions.rows, List.forall_mem_cons]
  exact ⟨h .noRotation _ rfl, h .spinUpTimeout _ rfl, h .speedOutOfRange _ rfl, h .lostIndex _ rfl,
    h .spindleOvercurrent _ rfl, h .actuatorSaturation _ rfl, h .servoLost _ rfl, h .seekTimeout _ rfl,
    h .unloadFailed _ rfl, h .overTempWarn _ rfl, nofun⟩

/-- The rows that FAULT ACTIONS may not report or leave off (R162). -/
def FaultActions.armed (a : FaultActions) : Bool :=
  a.lostIndex.retryOrLatch && a.spindleOvercurrent.retryOrLatch && a.unloadFailed.retryOrLatch

theorem FaultActions.armed_iff (a : FaultActions) : a.armed = true ↔
    ∀ k r, (k = .lostIndex ∨ k = .spindleOvercurrent ∨ k = .unloadFailed) → a.row k = some r →
      r.mode = .retry ∨ r.mode = .latch := by
  simp only [FaultActions.armed, FaultRow.retryOrLatch, Bool.and_eq_true, Bool.or_eq_true, beq_iff_eq]
  constructor
  · rintro ⟨⟨hl, ho⟩, hu⟩ k r (rfl | rfl | rfl) hr <;> cases hr
    · exact hl
    · exact ho
    · exact hu
  · intro h
    exact ⟨⟨h .lostIndex _ (.inl rfl) rfl, h .spindleOvercurrent _ (.inr (.inl rfl)) rfl⟩,
      h .unloadFailed _ (.inr (.inr rfl)) rfl⟩

/-- FAULT ACTIONS is read from its bytes with its scalars clamped (R164, R165). -/
theorem actionsOf_bytes {a : FaultActions} (h : ∀ r ∈ a.rows, r.Bytes) :
    actionsOf (actionsBytes a) = if a.armed = true then some (a.clamped, (a.rows.map FaultRow.clamps).sum) else none := by
  rw [actionsBytes_eq, actionsOf, faultRows_bytes h]
  rfl

theorem FaultActions.clamps_eq_zero {a : FaultActions} (h : ∀ r ∈ a.rows, r.Bytes) :
    (a.rows.map FaultRow.clamps).sum = 0 ↔ a.clamped = a := by
  simp only [FaultActions.rows, List.forall_mem_cons] at h
  obtain ⟨h1, h2, h3, h4, h5, h6, h7, h8, h9, h10, -⟩ := h
  cases a
  simp [FaultActions.rows, FaultActions.clamped, FaultRow.clamps_eq_zero, h1, h2, h3, h4, h5, h6, h7, h8, h9, h10]

theorem packetFramed_actions {tag : Byte} (htag : tag ≠ 0) (a : FaultActions) :
    packetFramed (.loadTable tag 2 (actionsBytes a)) = true := by
  have hlen := actionsBytes_length a
  have htag' : ¬ tag = 0#8 := htag
  obtain ⟨b, l, hb⟩ := List.exists_cons_of_length_pos (hlen ▸ (by decide) : 0 < (actionsBytes a).length)
  have hcount : commandLength [0x50, 2, b] = some 62 := rfl
  have hl : l.length = 59 := by
    rw [hb] at hlen
    simpa using hlen
  rw [hb]
  simp [packetFramed, commandPayload, commandHeader, headerRefused, htag', hl]
  exact .inr hcount

/-! ## DRIVE PARAMETERS -/

theorem twoWay_yesNo (x : Bool) : twoWay (BitVec.ofNat 8 (yesNoCode x)) = some !x := by cases x <;> rfl
theorem twoWay_brake (x : BrakeMode) : twoWay (BitVec.ofNat 8 x.code) = some (x == .reverse) := by cases x <;> rfl
theorem twoWay_eject (x : EjectMode) : twoWay (BitVec.ofNat 8 x.code) = some (x == .cut) := by cases x <;> rfl

/-- The scalars of DRIVE PARAMETERS fit their bytes. -/
structure DriveParams.Bytes (d : DriveParams) : Prop where
  purge : d.purgeRevs < 65536
  spinUp : d.spinUpTimeout ≤ 255
  stop : d.stopWindow ≤ 255
  standby : d.standby ≤ 255
  reads : d.readRetries ≤ 255
  writes : d.writeRetries ≤ 255
  window : d.settleWindow ≤ 255
  count : d.settleCount ≤ 255
  off : d.offTrack ≤ 255
  seek : d.seekTimeout ≤ 255

/-- DRIVE PARAMETERS with its scalars clamped into their ranges (R163, R165). -/
def DriveParams.clamped (d : DriveParams) : DriveParams := { d with
  purgeRevs := min 1023 d.purgeRevs, spinUpTimeout := max 5 (min 60 d.spinUpTimeout),
  stopWindow := max 1 (min 16 d.stopWindow), readRetries := min 15 d.readRetries,
  writeRetries := min 15 d.writeRetries, settleWindow := max 1 (min 64 d.settleWindow),
  settleCount := max 1 (min 16 d.settleCount), offTrack := max 1 (min 127 d.offTrack),
  seekTimeout := max 1 d.seekTimeout }

/-- The number of scalars that the clamp changes. -/
def DriveParams.clamps (d : DriveParams) : Nat :=
  clampedBy 0 1023 d.purgeRevs + clampedBy 5 60 d.spinUpTimeout + clampedBy 1 16 d.stopWindow +
  clampedBy 0 255 d.standby + clampedBy 0 15 d.readRetries + clampedBy 0 15 d.writeRetries +
  clampedBy 1 64 d.settleWindow + clampedBy 1 16 d.settleCount + clampedBy 1 127 d.offTrack +
  clampedBy 1 255 d.seekTimeout

theorem clampNat_zero (hi v : Nat) : clampNat 0 hi v = min hi v := Nat.zero_max _

theorem DriveParams.clamps_eq_zero {d : DriveParams} (h : d.Bytes) : d.clamps = 0 ↔ d.clamped = d := by
  have hstandby : min 255 d.standby = d.standby := Nat.min_eq_right h.standby
  simp only [DriveParams.clamps, Nat.add_eq_zero_iff, clampedBy_eq_zero, clampNat_zero, clampNat_byte h.seek, hstandby]
  cases d
  simp [DriveParams.clamped, clampNat, and_assoc]

theorem paramsBytes_eq (d : DriveParams) : paramsBytes d =
    [BitVec.ofNat 8 (d.purgeRevs / 256), BitVec.ofNat 8 d.purgeRevs, BitVec.ofNat 8 d.spinUpTimeout,
      BitVec.ofNat 8 d.stopWindow, BitVec.ofNat 8 d.standby, BitVec.ofNat 8 d.brakeMode.code,
      BitVec.ofNat 8 d.readRetries, BitVec.ofNat 8 d.writeRetries, BitVec.ofNat 8 d.settleWindow,
      BitVec.ofNat 8 d.settleCount, BitVec.ofNat 8 d.offTrack, BitVec.ofNat 8 d.seekTimeout,
      BitVec.ofNat 8 (yesNoCode d.autoSpin), BitVec.ofNat 8 d.buttonMode.code, BitVec.ofNat 8 (yesNoCode d.autoEnd)] := by
  simp [paramsBytes, fieldBytes_one, fieldBytes_two]

/-- DRIVE PARAMETERS is read from its bytes with its scalars clamped (R163 to R165). -/
theorem paramsOf_bytes {d : DriveParams} (h : d.Bytes) : paramsOf (paramsBytes d) = some (d.clamped, d.clamps) := by
  have hstandby : min 255 d.standby = d.standby := Nat.min_eq_right h.standby
  have hbrake : (if (d.brakeMode == .reverse) = true then BrakeMode.reverse else .dynamic) = d.brakeMode := by
    cases d.brakeMode <;> rfl
  have heject : (if (d.buttonMode == .cut) = true then EjectMode.cut else .drain) = d.buttonMode := by
    cases d.buttonMode <;> rfl
  rw [paramsBytes_eq]
  simp only [paramsOf, twoWay_yesNo, twoWay_brake, twoWay_eject, toNat_byte h.spinUp, toNat_byte h.stop,
    toNat_byte h.standby, toNat_byte h.reads, toNat_byte h.writes, toNat_byte h.window, toNat_byte h.count,
    toNat_byte h.off, toNat_byte h.seek, ofBe16_field h.purge, hbrake, heject, clampNat_zero, hstandby,
    clampNat_byte h.seek, Bool.not_not]
  rfl

theorem packetFramed_params {tag : Byte} (htag : tag ≠ 0) (d : DriveParams) :
    packetFramed (.loadTable tag 3 (paramsBytes d)) = true := by
  have htag' : ¬ tag = 0#8 := htag
  have hcount : ∀ b : Byte, commandLength [0x50, 3, b] = some 17 := fun _ => rfl
  rw [paramsBytes_eq]
  simp [packetFramed, commandPayload, commandHeader, headerRefused, htag']
  exact .inr (hcount _)

/-! ## STATUS -/

theorem exec_status_of_listens {s : State} {tag : Byte} (hs : s.listens = true) (htag : tag ≠ 0) :
    exec (.status tag) s = .next (s.withReply tag .ok (.status s.report)) :=
  congrArg _ (command_of_listens _ hs htag rfl (by simp) (by simp) rfl)

theorem mem_latchedKinds {s : State} {k : FaultKind} :
    k ∈ s.report.latchedKinds ↔ ∃ f, s.recordOf k = some f ∧ f.state = .latched := by
  simp [State.report, mem_all, Option.any_eq_true]

theorem attentionAck_reports {s : State} {tag : Byte} (hs : s.listens = true) (htag : tag ≠ 0) :
    s.completes (.attentionAck tag) fun t =>
      t.dbi.replies = s.dbi.replies ++ [.reply tag .ok (.source s.report.source)] := by
  refine ⟨_, exec_attentionAck_of_listens hs htag, ?_⟩
  change _ = s.dbi.replies ++ [.reply tag .ok (.source s.pendingSource)]
  cases hp : s.pendingSource with
  | none => rw [attentionAck_of_none hp]; rfl
  | some x => rw [attentionAck_of_some hp]; rfl

/-- Settles O54. -/
theorem statusAndTableLoads : Obligations.StatusAndTableLoads := by
  refine ⟨fun s tag hs htag => ?_, fun s tag p a d hs htag hstay => ⟨?_, ?_, ?_⟩⟩
  · refine ⟨s.report, exec_status_of_listens hs htag, rfl, rfl, rfl, rfl, rfl, rfl, rfl, rfl, rfl, rfl, rfl, rfl, rfl,
      rfl, rfl, rfl, fun _ => mem_latchedKinds, rfl, ?_, attentionAck_reports hs htag⟩
    change s.pendingSource = none ↔ s.pendingSource.isSome = false
    simp
  · intro hn hr hkv hkp hi i good q n
    have hf := packetFramed_profile htag hn
    have hof := profileOf_bytes hn hr hkv hkp hi
    have hok := profileOk_iff p.rows
    refine ⟨fun hgood => ?_, fun hbad => ?_⟩
    · rw [if_pos (hok.mpr hgood)] at hof
      have ht : tableOf 1 (profileBytes p) = some (.profile q, n) := by
        change (profileOf (profileBytes p)).map _ = _
        rw [hof, clampedBy_eq, clampedBy_eq, clampedBy_eq, clampNat_byte hkv, clampNat_byte hkp]
        rfl
      exact exec_loadTable_staged hs hf ht hstay
    · rw [if_neg fun h => hbad (hok.mp h)] at hof
      refine exec_loadTable_refused hs hf ?_
      change (profileOf (profileBytes p)).map _ = _
      rw [hof]
      rfl
  · intro hrow i good
    have hbytes := FaultActions.bytes_of_row hrow
    have hf := packetFramed_actions htag a
    have hof := actionsOf_bytes hbytes
    refine ⟨fun hgood => ?_, fun hbad => ?_⟩
    · rw [if_pos (a.armed_iff.mpr hgood)] at hof
      have ht : tableOf 2 (actionsBytes a) = some (.actions a.clamped, (a.rows.map FaultRow.clamps).sum) := by
        change (actionsOf (actionsBytes a)).map _ = _
        rw [hof]
        rfl
      exact ⟨_, _, exec_loadTable_staged hs hf ht hstay, FaultActions.clamps_eq_zero hbytes, a.clamped_row⟩
    · rw [if_neg fun h => hbad (a.armed_iff.mp h)] at hof
      refine exec_loadTable_refused hs hf ?_
      change (actionsOf (actionsBytes a)).map _ = _
      rw [hof]
      rfl
  · intro h1 h2 h3 h4 h5 h6 h7 h8 h9 h10 q
    have hbytes : d.Bytes := ⟨h1, h2, h3, h4, h5, h6, h7, h8, h9, h10⟩
    have ht : tableOf 3 (paramsBytes d) = some (.params d.clamped, d.clamps) := by
      change (paramsOf (paramsBytes d)).map _ = _
      rw [paramsOf_bytes hbytes]
      rfl
    exact ⟨_, exec_loadTable_staged hs (packetFramed_params htag d) ht hstay, DriveParams.clamps_eq_zero hbytes⟩

end Sys2Proof.Machine
end

section
/-! The framing of inbound packets: which headers are taken, and what a parity error ends (R178 to R180). -/

namespace Sys2Proof.Machine

/-! ## The length of a COMMAND payload -/

/-- The framing checks of a COMMAND header (R178). -/
theorem headerRefused_command (tag : Byte) (n : Nat) (l : List Byte) : headerRefused ⟨1, tag, n, l⟩ = false ↔
    tag ≠ 0 ∧ n ≤ 256 ∧ n ≠ 0 ∧ (freeLength l = true ∨ commandLength l = some n) ∧
      (n ≤ 64 ∨ l.head? = some 0x50) := by
  simp [headerRefused]
  grind

/-- The framing checks of a DATA header (R178). -/
theorem headerRefused_data (tag : Byte) (n : Nat) (l : List Byte) :
    headerRefused ⟨2, tag, n, l⟩ = false ↔ tag ≠ 0 ∧ n = 514 := by
  simp [headerRefused]

theorem headerRefused_other {kind : Byte} (h1 : kind ≠ 1) (h2 : kind ≠ 2) (tag : Byte) (n : Nat) (l : List Byte) :
    headerRefused ⟨kind, tag, n, l⟩ = true := by
  have h1' : ¬ kind = 1#8 := h1
  have h2' : ¬ kind = 2#8 := h2
  simp [headerRefused, h1', h2']

/-- The lengths of commands whose first byte alone decides. -/
def fixedLength (a n : Nat) : Prop :=
  (a = 0x24 ∨ a = 0x25 ∨ a = 0x26 ∨ a = 0x42 ∨ a = 0x43 ∨ a = 0x48 ∨ a = 0x49 ∨ a = 0x59 ∨ a = 0x5A ∨ a = 0x60) ∧
    n = 1 ∨
  (a = 0x52 ∨ a = 0x61) ∧ n = 2 ∨ (a = 0x23 ∨ a = 0x40 ∨ a = 0x41 ∨ a = 0x58 ∨ a = 0x62) ∧ n = 3 ∨
  (a = 0x27 ∨ a = 0x51) ∧ n = 5

theorem fixedLength_small {a n : Nat} (h : fixedLength a n) : 1 ≤ n ∧ n ≤ 5 := by
  unfold fixedLength at h
  omega

theorem commandLength_one (a : Byte) (n : Nat) : commandLength [a] = some n ↔ fixedLength a.toNat n := by
  unfold fixedLength
  simp only [commandLength]
  split <;> simp_all <;> omega

theorem commandLength_two (a b : Byte) (n : Nat) : commandLength [a, b] = some n ↔ fixedLength a.toNat n ∨
    a.toNat = 0x50 ∧ (b.toNat = 2 ∧ n = 62 ∨ b.toNat = 3 ∧ n = 17) := by
  unfold fixedLength
  by_cases ha : a.toNat = 0x50
  · simp only [commandLength, ha]
    simp
    split <;> simp_all <;> omega
  · simp only [commandLength]
    split <;> simp_all <;> omega

theorem commandLength_three (a b c : Byte) (n : Nat) : commandLength [a, b, c] = some n ↔ fixedLength a.toNat n ∨
    (a.toNat = 0x20 ∨ a.toNat = 0x21 ∨ a.toNat = 0x22) ∧ n = 3 + 6 * c.toNat ∨
    a.toNat = 0x50 ∧ (b.toNat = 1 ∧ n = 7 + 4 * c.toNat ∨ b.toNat = 2 ∧ n = 62 ∨ b.toNat = 3 ∧ n = 17) := by
  unfold fixedLength
  by_cases ha : a.toNat = 0x50
  · simp only [commandLength, ha]
    simp
    split <;> simp_all <;> omega
  · simp only [commandLength]
    split <;> simp_all <;> omega

/-- A LOAD TABLE of no loadable table, once its selector has arrived (R178). -/
theorem freeLength_iff (a b : Byte) (l : List Byte) : freeLength (a :: b :: l) = true ↔
    a.toNat = 0x50 ∧ b.toNat ≠ 1 ∧ b.toNat ≠ 2 ∧ b.toNat ≠ 3 := by
  simp [freeLength, ← BitVec.toNat_inj, and_assoc]

/-- The lengths that the command summary gives the codes, as R178 takes them. -/
def sizedBy (a b c n : Nat) : Prop :=
  fixedLength a n ∨ (a = 0x20 ∨ a = 0x21 ∨ a = 0x22) ∧ n = 3 + 6 * c ∧ n ≤ 64 ∨
  a = 0x50 ∧ n ≤ 256 ∧ (b = 1 ∧ n = 7 + 4 * c ∨ b = 2 ∧ n = 62 ∨ b = 3 ∧ n = 17 ∨ b ≠ 1 ∧ b ≠ 2 ∧ b ≠ 3 ∧ 2 ≤ n)

theorem commandHeader_taken (tag a b c : Byte) (n : Nat) : headerRefused ⟨1, tag, n, [a, b, c].take n⟩ = false ↔
    tag ≠ 0 ∧ sizedBy a.toNat b.toNat c.toNat n := by
  have head : ∀ l : List Byte, (a :: l).head? = some 0x50 ↔ a.toNat = 0x50 := by
    intro l
    simp [← BitVec.toNat_inj]
  rw [headerRefused_command]
  obtain rfl | rfl | rfl | hn : n = 0 ∨ n = 1 ∨ n = 2 ∨ 3 ≤ n := by omega
  · simp [sizedBy, fixedLength]
    omega
  · rw [show [a, b, c].take 1 = [a] from rfl, commandLength_one, head]
    simp [sizedBy, fixedLength, freeLength]
    omega
  · rw [show [a, b, c].take 2 = [a, b] from rfl, commandLength_two, freeLength_iff, head]
    simp [sizedBy, fixedLength]
    omega
  · rw [List.take_of_length_le (by simpa using hn), commandLength_three, freeLength_iff, head]
    have hfixed := fixedLength_small (a := a.toNat) (n := n)
    simp only [sizedBy]
    generalize fixedLength a.toNat n = fixed at *
    by_cases hf : fixed
    · have := hfixed hf
      simp [hf]
      omega
    · simp only [hf, false_or]
      exact and_congr_right fun _ => by omega

/-! ## A header arrives -/

theorem exec_inboundPacketHeader {s : State} (hr : s.canReceive = true) (hi : s.dbi.inb = .idle) (kind tag : Byte)
    (length : BitVec 16) (a b c : Byte) : exec (.inboundPacketHeader kind tag length a b c) s =
      .next (s.beginPacket ⟨kind, tag, length.toNat, [a, b, c].take length.toNat⟩) := by
  have hexec : exec (.inboundPacketHeader kind tag length a b c) s =
      .next (if s.canReceive && s.dbi.inb == .idle then
        s.beginPacket ⟨kind, tag, length.toNat, [a, b, c].take length.toNat⟩ else s) := rfl
  rw [hexec, hr, hi, if_pos (by decide)]

theorem beginPacket_withheld {s : State} (hf : s.replyFull = true) (h : Header) :
    s.beginPacket h = { s with dbi := { s.dbi with inb := .waiting h } } := by
  rw [State.beginPacket, hf, if_pos rfl]
  rfl

theorem beginPacket_refused {s : State} (hf : s.replyFull = false) {h : Header} (hr : headerRefused h = true) :
    s.beginPacket h = { s with dbi := { s.dbi with
      replies := s.dbi.replies ++ [.reply h.tag .badPacket .empty]
      inb := if h.length = 0 then .idle else .discard } } := by
  rw [State.beginPacket, hf, if_neg (by decide), State.headerStep, hr, if_pos rfl]
  rfl

theorem beginPacket_taken {s : State} (hf : s.replyFull = false) {h : Header} (hr : headerRefused h = false) :
    s.beginPacket h = { s with dbi := { s.dbi with inb := .payload h } } := by
  rw [State.beginPacket, hf, if_neg (by decide), State.headerStep, hr, if_neg (by decide)]
  rfl

/-- The header that R178 takes: DATA of 514 bytes, or COMMAND with the length of its code. -/
theorem header_taken {kind tag a b c : Byte} {n : Nat} : headerRefused ⟨kind, tag, n, [a, b, c].take n⟩ = false ↔
    tag ≠ 0 ∧ (kind = 2 ∧ n = 514 ∨ kind = 1 ∧ sizedBy a.toNat b.toNat c.toNat n) := by
  by_cases h1 : kind = 1
  · subst h1
    rw [commandHeader_taken]
    simp
  · by_cases h2 : kind = 2
    · subst h2
      rw [headerRefused_data]
      simp
    · have h1' : ¬ kind = 1#8 := h1
      have h2' : ¬ kind = 2#8 := h2
      simp [headerRefused_other h1 h2, h1', h2']

/-! ## Parity errors -/

theorem exec_inboundParityError {s : State} (hr : s.canReceive = true) (p : ParityPlace) :
    exec (.inboundParityError p) s = .next (s.parityError p) := by
  have hexec : exec (.inboundParityError p) s = .next (if s.canReceive then s.parityError p else s) := rfl
  rw [hexec, hr, if_pos rfl]

/-- The length alone refuses no COMMAND header of a length that a packet may have (R178). -/
theorem leadRefused_nil {tag : Byte} {n : Nat} (ht : tag ≠ 0) (h1 : 1 ≤ n) (h256 : n ≤ 256) :
    leadRefused ⟨1, tag, n, []⟩ = false := by
  have ht' : ¬ tag = 0#8 := ht
  simp [leadRefused, ht', commandLength]
  omega

/-- Settles O41. -/
theorem inboundFraming : Obligations.InboundFraming := by
  refine ⟨fun s kind tag length b4 b5 b6 hr hi => ?header, fun s kind tag h n i hr => ?parity⟩
  case header =>
    intro n h i one sized good
    have hexec := exec_inboundPacketHeader hr hi kind tag length b4 b5 b6
    have hsized : sized ↔ sizedBy b4.toNat b5.toNat b6.toNat n := by
      simp only [sized, one, sizedBy, fixedLength, List.mem_cons, List.not_mem_nil, or_false, ne_eq, ← BitVec.toNat_inj, or_assoc]
      simp
    have hgood : headerRefused h = false ↔ good := header_taken.trans (by rw [← hsized])
    refine ⟨fun hf => ?_, fun hf hbad => ?_, fun hf hok => ?_⟩
    · exact hexec.trans (by rw [beginPacket_withheld hf])
    · have hrefused : headerRefused h = true := by
        cases hh : headerRefused h with
        | true => rfl
        | false => exact absurd (hgood.mp hh) hbad
      exact hexec.trans (by rw [beginPacket_refused hf hrefused])
    · exact hexec.trans (by rw [beginPacket_taken hf (hgood.mpr hok)])
  case parity =>
    intro after
    refine ⟨fun hi hf => ?_, fun hi hf hk ht => ?_, fun hi hf ht h1 h256 => ?_, fun hi => ?_, fun hi => ?_, fun hi => ?_⟩ <;>
      rw [exec_inboundParityError hr]
    · simp only [State.parityError, hi, hf]
      rfl
    · have hhead : headRefused kind tag = false := by
        have ht' : ¬ tag = 0#8 := ht
        rcases hk with rfl | rfl <;> simp [headRefused, ht']
      simp only [State.parityError, hi, hf, hhead]
      rfl
    · have hn : (BitVec.ofNat 16 n).toNat = n := by
        rw [BitVec.toNat_ofNat]
        omega
      simp only [State.parityError, hi, hf, hn, State.leadParity, leadRefused_nil ht h1 h256]
      rfl
    · simp only [State.parityError, State.payloadParity, hi]
      simp only [State.refuseRest, State.dropFilling, hi]
      rfl
    · simp only [State.parityError, State.payloadParity, hi]
      simp only [State.refuseRest, State.dropFilling, hi]
      rfl
    · rcases hi with hi | hi <;> simp only [State.parityError, State.payloadParity, hi]

end Sys2Proof.Machine
end

section
/-! What the reactions look at: a change of the drive bus, the counters and the attention requests wakes no rule, nor
does a slot that fills or a tally that rises. -/

namespace Sys2Proof.Machine

/-- What the guards of the rules look at, but for the slots, where the engine stands, an ending and what an
eject record says besides its phase. -/
def State.heeds (s : State) :=
  ((s.queue.head?, s.job, s.work, s.downs), (s.spc.state, s.spc.brakePending, s.spc.startByWork),
    (s.ccu.state, s.ccu.releasePending, s.ccu.protect, s.ccu.eject.bind EjectRecord.phase),
    (s.pos, s.record, s.fsv, s.supplyLow), s.engineFree)

/-- What the guards of the rules look at, but for the slots. -/
def State.watches (s : State) :=
  ((s.queue.head?, s.job, s.endWith, s.work, s.downs), (s.spc.state, s.spc.brakePending, s.spc.startByWork),
    (s.pos, s.ccu, s.record, s.fsv, s.supplyLow), (s.eng.state, s.eng.place, s.eng.flight))

theorem heeds_of_watches {s t : State} (h : t.watches = s.watches) : t.heeds = s.heeds := by
  simp only [State.watches, Prod.mk.injEq] at h
  simp [State.heeds, State.engineFree, h]

@[simp] theorem isSome_guarded (g : Bool) (t : State) : (guarded g t).isSome = g := by
  cases g <;> rfl

theorem isSome_ite (c : Prop) [Decidable c] (a b : Option State) :
    (if c then a else b).isSome = if c then a.isSome else b.isSome := apply_ite ..

theorem none_of_isSome {a b : Option State} (hab : a.isSome = b.isSome) (hb : b = none) : a = none := by
  rw [hb] at hab
  simpa using hab

theorem isEmpty_of_head? {α : Type} {a b : List α} (h : a.head? = b.head?) : a.isEmpty = b.isEmpty := by
  cases a with
  | nil => simp [List.head?_eq_none_iff.mp h.symm]
  | cons x l => cases b with
    | nil => cases h
    | cons y l' => rfl

theorem reactBegin_isSome (s : State) :
    (reactBegin s).isSome = s.queue.head?.any fun e => !e.executing && !s.standbyHolds && !s.retryWait := by
  cases hq : s.queue <;> simp [reactBegin, hq]

/-- A block of the head entry still waits to be sent. -/
def State.unsent (s : State) (e : Entry) : Bool :=
  s.slots.any fun x => x.tag == some e.tag && (x.state == .full || x.state == .draining)

theorem react_eq_none {s : State} : react s = none ↔ s.supplyLow = true ∨ ∀ r ∈ rules, r s = none := by
  unfold react
  split
  · next h => simp [h]
  · next h => simp [h]

section

variable {s t : State} (h : t.heeds = s.heeds)
include h

theorem heeds_executing : t.executing = s.executing := by
  simp only [State.heeds, Prod.mk.injEq] at h
  simp [State.executing, h]

theorem heeds_conditions :
    (∀ c k, t.trackingOn c k = s.trackingOn c k) ∧ (∀ c k, t.inPlace c k = s.inPlace c k) ∧
    t.needsWriteBack = s.needsWriteBack ∧ t.spindleReady = s.spindleReady ∧
    t.engineFree = s.engineFree ∧ t.ejectFlushes = s.ejectFlushes := by
  simp only [State.heeds, Prod.mk.injEq] at h
  simp [State.trackingOn, State.inPlace, State.needsWriteBack, State.spindleReady, State.ejectFlushes, h]

theorem heeds_spindle :
    (reactOwnUnload t).isSome = (reactOwnUnload s).isSome ∧ (reactStopCheck t).isSome = (reactStopCheck s).isSome ∧
    (reactRelease t).isSome = (reactRelease s).isSome ∧ (reactEjecting t).isSome = (reactEjecting s).isSome ∧
    (reactEjectParked t).isSome = (reactEjectParked s).isSome ∧ (reactBrake t).isSome = (reactBrake s).isSome ∧
    (reactStart t).isSome = (reactStart s).isSome ∧ (reactLoad t).isSome = (reactLoad s).isSome := by
  simp only [State.heeds, Prod.mk.injEq] at h
  simp [reactOwnUnload, reactStopCheck, reactRelease, reactEjecting, reactEjectParked, reactBrake, reactStart, reactLoad,
    State.atRest, State.loadAllowed, State.pendingStart, State.pendingLoad, h]

theorem heeds_stops :
    (reactStopped t).isSome = (reactStopped s).isSome ∧ (reactParked t).isSome = (reactParked s).isSome := by
  simp only [State.heeds, Prod.mk.injEq] at h
  simp only [reactStopped, reactParked, h]
  constructor <;> (repeat' split) <;> rfl

theorem reactWorkCut_heeds : (reactWorkCut t).isSome = (reactWorkCut s).isSome := by
  simp only [State.heeds, Prod.mk.injEq] at h
  simp only [reactWorkCut, State.recordReading, h]
  cases s.work.bind SpinUpWork.cut <;> simp

theorem reactWork_heeds : (reactWork t).isSome = (reactWork s).isSome := by
  simp only [State.heeds, Prod.mk.injEq] at h
  simp only [reactWork, workCartridge, workSpindle, workHeads, workRecord, State.recordReading, h]
  cases s.work with
  | none => rfl
  | some w =>
    dsimp only
    repeat' split
    all_goals simp_all

theorem heeds_record :
    (reactRecordLost t).isSome = (reactRecordLost s).isSome ∧ (reactReadDue t).isSome = (reactReadDue s).isSome ∧
    (reactReached t).isSome = (reactReached s).isSome ∧ (reactRecordSeek t).isSome = (reactRecordSeek s).isSome := by
  simp only [State.heeds, Prod.mk.injEq] at h
  refine ⟨?_, ?_, ?_, ?_⟩
  · simp [reactRecordLost, State.recordOpLost, State.spindleReady, h]
  · simp [reactReadDue, h]
  · simp only [reactReached, State.trackingOn, h]
    cases s.record.op <;> simp
  · simp [reactRecordSeek, State.inPlace, h]

theorem reactDown_heeds (who : Who) : (reactDown who t).isSome = (reactDown who s).isSome := by
  obtain ⟨-, -, hneeds, hready, hfree, hflush⟩ := heeds_conditions h
  simp only [State.heeds, Prod.mk.injEq] at h
  simp only [reactDown, hneeds, hready, hfree, hflush, h]
  cases s.downs.stepOf who with
  | none => rfl
  | some x => cases x <;> simp only [isSome_ite, isSome_guarded, Option.isSome_some]

theorem reactEject_heeds (hx : t.ccu.eject = s.ccu.eject) : (reactEject t).isSome = (reactEject s).isSome := by
  simp only [State.heeds, Prod.mk.injEq] at h
  simp only [reactEject, ejectFlush, ejectUnload, State.needsWriteBack, State.anyLatched, h, hx, isEmpty_of_head? h.1.1]
  cases s.ccu.eject with
  | none => rfl
  | some e =>
    dsimp only
    repeat' split
    all_goals simp_all

theorem reactBegin_heeds : (reactBegin t).isSome = (reactBegin s).isSome := by
  simp only [State.heeds, Prod.mk.injEq] at h
  simp only [reactBegin_isSome, State.standbyHolds, State.retryWait, h]

/-- A pending ending is looked at for an entry that waits to begin its own work. -/
theorem heeds_head (he : s.job = .ready ∨ s.job = .waitEngine → t.endWith = s.endWith) :
    (reactStranded t).isSome = (reactStranded s).isSome ∧ (reactReady t).isSome = (reactReady s).isSome ∧
    (reactTransfer t).isSome = (reactTransfer s).isSome := by
  have hx := heeds_executing h
  simp only [State.heeds, Prod.mk.injEq] at h
  have hneed : ∀ c, t.needsSpindle c = s.needsSpindle c := fun c => by
    cases c <;> simp [State.needsSpindle, State.needsWriteBack, h]
  by_cases hjob : s.job = .ready ∨ s.job = .waitEngine
  · have he := he hjob
    refine ⟨?_, ?_, ?_⟩
    · simp only [reactStranded, hx, hneed, State.spindleReady, h, he]
      cases s.executing <;> simp
    · simp only [reactReady, hx, State.needsWriteBack, h, he]
      cases s.executing <;> simp
    · simp [reactTransfer, h, he]
  · have hready : (s.job == .ready) = false := by simpa using fun e => hjob (.inl e)
    have hengine : (s.job == .waitEngine) = false := by simpa using fun e => hjob (.inr e)
    simp only [reactStranded, reactReady, reactTransfer, hx, h, hready, hengine]
    cases s.executing <;> simp

theorem reactRecordSlot_heeds
    (hslot : ∀ w, s.record.op = .writing w → t.emptySlot.isSome = true → s.emptySlot.isSome = true)
    (hs : reactRecordSlot s = none) : reactRecordSlot t = none := by
  simp only [State.heeds, Prod.mk.injEq] at h
  simp only [reactRecordSlot, h] at hs ⊢
  cases hop : s.record.op with
  | writing w =>
    cases ht : t.emptySlot with
    | none => rfl
    | some i =>
      obtain ⟨j, hj⟩ := Option.isSome_iff_exists.mp (hslot w hop (by rw [ht]; rfl))
      rw [hop, hj] at hs
      simpa [guarded] using hs
  | _ => rfl

theorem reactDrain_heeds (hsent : ∀ st e, s.job = .drain st → s.executing = some e → s.unsent e = true →
      t.unsent e = true) (hs : reactDrain s = none) : reactDrain t = none := by
  have hx := heeds_executing h
  simp only [State.heeds, Prod.mk.injEq] at h
  simp only [reactDrain, hx, h] at hs ⊢
  cases hj : s.job with
  | drain st =>
    cases he : s.executing with
    | none => rfl
    | some e =>
      rw [hj, he] at hs
      have hsent' : s.unsent e = true := by
        cases hu : s.unsent e with
        | true => rfl
        | false =>
          simp only [State.unsent] at hu
          simp only [hu, guarded] at hs
          cases hs
      have hsent' := hsent st e hj he hsent'
      simp only [State.unsent] at hsent'
      simp only [hsent', guarded]
      rfl
  | _ => rfl

/-- A quiet state stays quiet while the guards see the same, the endings and the engine's own rules find nothing, no
EMPTY slot appears for a write-back and no block that waits to be sent goes. -/
theorem quiet_of_heeds (he : s.job = .ready ∨ s.job = .waitEngine → t.endWith = s.endWith)
    (hx : t.ccu.eject = s.ccu.eject ∨ reactEject t = none) (hend : reactEnd t = none) (hflight : reactFlight t = none) (heng : reactEngine t = none)
    (hslot : ∀ w, s.record.op = .writing w → t.emptySlot.isSome = true → s.emptySlot.isSome = true)
    (hsent : ∀ st e, s.job = .drain st → s.executing = some e → s.unsent e = true → t.unsent e = true)
    (hs : react s = none) : react t = none := by
  obtain ⟨h1, h2, h3, h4, h5, h6, h7, h8⟩ := heeds_spindle h
  obtain ⟨h9, h10⟩ := heeds_stops h
  obtain ⟨h13, h14, h15, h16⟩ := heeds_record h
  have h17 := reactBegin_heeds h
  obtain ⟨h18, h19, h20⟩ := heeds_head h he
  have h11 := reactWorkCut_heeds h
  have h22 := reactWork_heeds h
  have h24 := reactDown_heeds h
  have h25 : reactEject s = none → reactEject t = none := fun hs =>
    hx.elim (fun hx => none_of_isSome (reactEject_heeds h hx) hs) id
  have h26 := reactRecordSlot_heeds h hslot
  have h27 := reactDrain_heeds h hsent
  have hlow : t.supplyLow = s.supplyLow := by
    simp only [State.heeds, Prod.mk.injEq] at h
    simp [h]
  rw [react_eq_none] at hs ⊢
  rw [hlow]
  refine hs.imp_right fun hs => ?_
  simp only [rules, List.forall_mem_cons] at hs ⊢
  obtain ⟨r1, -, r3, r4, r5, r6, r7, r8, r9, r10, r11, r12, r13, -, r15, r16, r17, r18, r19, -, r21, r22, r23, r24,
    r25, r26, r27, r28, r29, -⟩ := hs
  exact ⟨none_of_isSome h1 r1, hflight, none_of_isSome h13 r3, none_of_isSome h2 r4, none_of_isSome h3 r5,
    none_of_isSome h4 r6, none_of_isSome h9 r7, none_of_isSome h10 r8, none_of_isSome h5 r9, none_of_isSome h6 r10,
    none_of_isSome h7 r11, none_of_isSome h8 r12, none_of_isSome h11 r13, hend, none_of_isSome h22 r15,
    none_of_isSome h14 r16, none_of_isSome h15 r17, none_of_isSome h16 r18, h26 r19, heng, h27 r21,
    none_of_isSome (h24 _) r22, none_of_isSome (h24 _) r23, none_of_isSome (h24 _) r24, h25 r25,
    none_of_isSome h17 r26, none_of_isSome h18 r27, none_of_isSome h19 r28, none_of_isSome h20 r29, nofun⟩

theorem engine_heeds (hg : (t.eng.state, t.eng.place, t.eng.flight) = (s.eng.state, s.eng.place, s.eng.flight)) :
    (reactFlight t).isSome = (reactFlight s).isSome ∧ (reactEngine t).isSome = (reactEngine s).isSome := by
  obtain ⟨htrack, hplace, -⟩ := heeds_conditions h
  simp only [State.heeds, Prod.mk.injEq] at h hg
  constructor
  · simp only [reactFlight, h, hg]
    cases s.eng.flight with
    | none => rfl
    | some f => dsimp only; split <;> simp
  · simp only [reactEngine, htrack, hplace, State.ownFlight, h, hg]
    cases s.eng.place with
    | none => rfl
    | some pl => simp only [isSome_ite, isSome_guarded, Option.isSome_some]

theorem reactEnd_heeds (he : t.endWith = s.endWith)
    (hg : (t.eng.state, t.eng.place, t.eng.flight) = (s.eng.state, s.eng.place, s.eng.flight)) :
    (reactEnd t).isSome = (reactEnd s).isSome := by
  simp only [State.heeds, Prod.mk.injEq] at h hg
  simp only [reactEnd, State.endWaits, State.waitsEngine, State.ownFlight, State.recordReading, h, hg, he]
  cases s.endWith <;> simp

end

section

variable {s t : State} (h : t.watches = s.watches)
include h

/-- A quiet state stays quiet while the guards see the same, no EMPTY slot appears for a write-back and no block that
waits to be sent goes. -/
theorem quiet_of_watches
    (hslot : ∀ w, s.record.op = .writing w → t.emptySlot.isSome = true → s.emptySlot.isSome = true)
    (hsent : ∀ st e, s.job = .drain st → s.executing = some e → s.unsent e = true → t.unsent e = true)
    (hs : react s = none) : react t = none := by
  rcases react_eq_none.mp hs with hl | hr
  · simp only [State.watches, Prod.mk.injEq] at h
    exact react_eq_none.mpr (.inl (by simp [h, hl]))
  · obtain ⟨hwait, hx, hg⟩ : t.endWith = s.endWith ∧ t.ccu.eject = s.ccu.eject ∧
        (t.eng.state, t.eng.place, t.eng.flight) = (s.eng.state, s.eng.place, s.eng.flight) := by
      simp only [State.watches, Prod.mk.injEq] at h
      simp [h]
    exact quiet_of_heeds (heeds_of_watches h) (fun _ => hwait) (.inl hx) (none_of_isSome (reactEnd_heeds (heeds_of_watches h) hwait hg) (hr _ (by simp [rules])))
      (none_of_isSome (engine_heeds (heeds_of_watches h) hg).1 (hr _ (by simp [rules])))
      (none_of_isSome (engine_heeds (heeds_of_watches h) hg).2 (hr _ (by simp [rules]))) hslot hsent hs

end

end Sys2Proof.Machine
end

section
/-! The turn changes hands, and outbound packets begin and end (R174, R176, R178, R180 to R182). -/

namespace Sys2Proof.Machine

/-! ## The part may send -/

/-- The parts of a part that takes bytes, by name. -/
theorem canReceive_parts {s : State} (h : s.canReceive = true) :
    s.dbi.turn = true ∧ s.dbi.busReset = false ∧ s.dbi.out = .none ∧ s.supplyLow = false := by
  simpa [State.canReceive, State.hostSends, and_assoc] using h

theorem exec_turnNegated {s : State} (ht : s.dbi.turn = true) (hb : s.dbi.busReset = false) (hl : s.supplyLow = false)
    (cut : HeaderPart) : exec (.turnNegated cut) s =
      .next ((s.cutPacket cut).setInb .idle |>.onDbi fun d => { d with turn := false }).commit := by
  have hexec : exec (.turnNegated cut) s = .next (if s.dbi.turn then
      (((if s.supplyLow || s.dbi.busReset then s else s.cutPacket cut).setInb .idle).onDbi fun d =>
        { d with turn := false }).commit else s) := rfl
  rw [hexec, ht, if_pos rfl, hb, hl, if_neg (by decide)]

theorem commit_of_idle {s : State} (hi : s.dbi.inb = .idle) : s.commit = s.startOutbound := by
  have hr : s.releaseWaiting = s := by simp [State.releaseWaiting, hi]
  rw [State.commit, hr]

/-- The line and the interface let a packet begin (R174, R176, R184). -/
structure State.Sends (s : State) : Prop where
  turn : s.dbi.turn = false
  reset : s.dbi.busReset = false
  supply : s.supplyLow = false
  out : s.dbi.out = .none
  inb : s.dbi.inb = .idle

theorem startOutbound_queued {s : State} (h : s.Sends) (hr : s.dbi.replies ≠ []) :
    s.startOutbound = (s.onDbi fun d => { d with out := .queued }).driveStb true := by
  have he : s.dbi.replies.isEmpty = false := by simpa using hr
  simp [State.startOutbound, h.turn, h.reset, h.supply, h.out, h.inb, he]

theorem startOutbound_data {s : State} (h : s.Sends) (hr : s.dbi.replies = []) {i : Nat} {tag : Byte}
    (hd : s.drainSlot = some (i, tag)) :
    s.startOutbound = ((s.onSlot i fun x => { x with state := .draining }).onDbi fun d =>
      { d with out := .data i tag true }).driveStb true := by
  simp [State.startOutbound, h.turn, h.reset, h.supply, h.out, h.inb, hr, hd]

theorem startOutbound_nothing {s : State} (h : s.Sends) (hr : s.dbi.replies = []) (hd : s.drainSlot = none) :
    s.startOutbound = s := by
  simp [State.startOutbound, h.turn, h.reset, h.supply, h.out, h.inb, hr, hd]

/-- The state in which the host has given up the turn. -/
def State.yielded (s : State) : State :=
  (s.setInb .idle).onDbi fun d => { d with turn := false }

theorem yielded_sends {s : State} (hb : s.dbi.busReset = false) (hl : s.supplyLow = false) (ho : s.dbi.out = .none) :
    s.yielded.Sends := ⟨rfl, hb, hl, ho, rfl⟩

/-- With a packet to send, the part begins it as the host gives up the turn. -/
theorem yielded_queued {s : State} (hb : s.dbi.busReset = false) (hl : s.supplyLow = false) (ho : s.dbi.out = .none)
    (hr : s.dbi.replies ≠ []) : s.yielded.commit = { s with dbi := { s.dbi with
      turn := false, inb := .idle, stb := true, out := .queued } } := by
  rw [commit_of_idle rfl, startOutbound_queued (yielded_sends hb hl ho) hr]
  rfl

/-! ## The turn is negated -/

section

variable {s : State} (hr : s.canReceive = true)
include hr

theorem exec_turnNegated_of_receive (cut : HeaderPart) :
    exec (.turnNegated cut) s = .next (s.cutPacket cut).yielded.commit := by
  obtain ⟨ht, hb, -, hl⟩ := canReceive_parts hr
  exact exec_turnNegated ht hb hl cut

/-- A refused packet is the first thing that the part sends. -/
theorem cut_replied {cut : HeaderPart} {t : Byte} {b : ReplyBody} (hc : s.cutPacket cut = s.reply t .badPacket b) :
    exec (.turnNegated cut) s = .next { s with dbi := { s.dbi with
      turn := false, inb := .idle, stb := true, out := .queued,
      replies := s.dbi.replies ++ [.reply t .badPacket b] } } := by
  obtain ⟨-, hb, ho, hl⟩ := canReceive_parts hr
  rw [exec_turnNegated_of_receive hr, hc, yielded_queued (s := s.reply t .badPacket b) hb hl ho (by
    simp [State.reply, State.place])]
  rfl

theorem cutPacket_idle (hi : s.dbi.inb = .idle) (hf : s.replyFull = false) :
    s.cutPacket .kindByte = s.reply 0 .badPacket .empty ∧
    ∀ t, s.cutPacket (.kindAndTag t) = s.reply t .badPacket .empty := by
  simp [State.cutPacket, hi, hr, hf]

end

theorem cutPacket_nothing {s : State} (hi : s.dbi.inb = .idle) : s.cutPacket .nothing = s := by
  simp [State.cutPacket, hi]

theorem cutPacket_waiting {s : State} {h : Header} (hi : s.dbi.inb = .waiting h) (cut : HeaderPart) :
    s.cutPacket cut = s := by
  simp [State.cutPacket, hi]

/-! ## The slot that a READ sends -/

/-- The FULL slot of the EXECUTING READ with the lowest block sequence number is the one that drains (R181). -/
theorem drainSlot_lowest {s : State} {i : Nat} {x : Slot} {tag : Byte} {go : Bool} {l : List Extent}
    {rest : List Entry} (hq : s.queue = ⟨tag, .xfer .read go l, true⟩ :: rest) (hx : s.slots[i]? = some x)
    (hfull : x.state = .full) (htag : x.tag = some tag)
    (hmin : ∀ j y, s.slots[j]? = some y → y.state = .full → y.tag = some tag → j ≠ i → x.seq < y.seq)
    (hcut : s.cutByEject = false) : s.drainSlot = some (i, tag) := by
  have hex : s.executing = some ⟨tag, .xfer .read go l, true⟩ := by simp [State.executing, hq]
  have hmem : x ∈ s.slots.filter fun y => y.state == .full && y.tag == some tag := by
    simp [List.mem_of_getElem? hx, hfull, htag]
  have hlow : ∀ y ∈ s.slots.filter (fun y => y.state == .full && y.tag == some tag), x.seq ≤ y.seq := by
    intro y hy
    simp only [List.mem_filter, Bool.and_eq_true, beq_iff_eq] at hy
    obtain ⟨hin, hf, ht⟩ := hy
    obtain ⟨j, hj⟩ := List.mem_iff_getElem?.mp hin
    by_cases hji : j = i
    · subst hji
      rw [hx] at hj
      cases hj
      exact Nat.le_refl _
    · exact Nat.le_of_lt (hmin j y hj hf ht hji)
  have hseq : ((s.slots.filter fun y => y.state == .full && y.tag == some tag).map Slot.seq).min? = some x.seq := by
    refine List.min?_eq_some_iff.mpr ⟨List.mem_map_of_mem hmem, fun n hn => ?_⟩
    obtain ⟨y, hy, rfl⟩ := List.mem_map.mp hn
    exact hlow y hy
  obtain ⟨hi, hget⟩ := List.getElem?_eq_some_iff.mp hx
  have hslot : s.slotOf tag x.seq .full = some i := by
    refine List.findIdx?_eq_some_iff_getElem.mpr ⟨hi, by simp [hget, hfull, htag], fun j hji => ?_⟩
    rw [Bool.not_eq_true]
    refine Bool.eq_false_iff.mpr fun hj => ?_
    simp only [Bool.and_eq_true, beq_iff_eq] at hj
    obtain ⟨⟨hf, ht⟩, hs⟩ := hj
    have := hmin j _ (List.getElem?_eq_getElem (Nat.lt_trans hji hi)) hf ht (Nat.ne_of_lt hji)
    omega
  simp [State.drainSlot, hex, hcut, hseq, hslot]

theorem drainSlot_cut {s : State} (hcut : s.cutByEject = true) : s.drainSlot = none := by
  unfold State.drainSlot
  split
  · rw [hcut, if_pos rfl]
  · rfl

theorem drainSlot_none {s : State} (h : s.executing = none) : s.drainSlot = none := by
  simp [State.drainSlot, h]

/-! ## A packet is acknowledged -/

theorem exec_outboundPacketAcked (s : State) : exec .outboundPacketAcked s = .next s.packetSent.event := rfl

theorem packetSent_queued {s : State} (ho : s.dbi.out = .queued) (hl : s.supplyLow = false) :
    s.packetSent = { s with dbi := { s.dbi with out := .none, stb := false, replies := s.dbi.replies.tail } } := by
  have ha : ∀ d : Bus, { d with replies := d.replies.tail, answers := if s.supplyLow then d.answers - 1 else d.answers } =
      { d with replies := d.replies.tail } := fun d => by rw [hl, if_neg (by decide)]
  simp only [State.packetSent, ho, ha]
  rfl

theorem packetSent_data {s : State} {i : Nat} {tag : Byte} {live : Bool} (ho : s.dbi.out = .data i tag live) :
    s.packetSent = { s with
      dbi := { s.dbi with out := .none, stb := false }
      eng := if live then { s.eng with completed := s.eng.completed + 1 } else s.eng
      slots := s.slots.modify i fun _ => Slot.none } := by
  simp only [State.packetSent, ho]
  cases live <;> rfl

/-- Settles O42. -/
theorem turnsAndPackets : Obligations.TurnsAndPackets := by
  refine ⟨fun s cut h tag n i => ?turns, fun s i x tag go l rest hr hi hrep hq hx hfull htag hmin => ?drains,
    fun s i tag p rest => ?sent⟩
  case turns =>
    intro cutNow
    refine ⟨rfl, fun ht => ?_, fun hr hi => ?_, fun hr hi => ?_, fun hr hi hf => ⟨?_, ?_⟩, fun hr hi hne => ?_,
      fun hr hi he hex => ?_⟩
    · have hexec : exec (.turnNegated cut) s = .next (if s.dbi.turn then
          (((if s.supplyLow || s.dbi.busReset then s else s.cutPacket cut).setInb .idle).onDbi fun d =>
            { d with turn := false }).commit else s) := rfl
      rw [hexec, ht, if_neg (by decide)]
    · exact cut_replied hr (by simp only [State.cutPacket, hi])
    · obtain ⟨-, hb, ho, hl⟩ := canReceive_parts hr
      have hcut : s.cutPacket cut = (s.emptySlotAt i).reply tag .badPacket (.dataIndex n) := by
        simp only [State.cutPacket, hi, State.dropFilling]
        rfl
      rw [exec_turnNegated_of_receive hr, hcut,
        yielded_queued (s := (s.emptySlotAt i).reply tag .badPacket (.dataIndex n)) hb hl ho (by
          simp [State.reply, State.place])]
      rfl
    · exact cut_replied hr (cutPacket_idle hr hi hf).1
    · exact cut_replied hr ((cutPacket_idle hr hi hf).2 tag)
    · obtain ⟨-, hb, ho, hl⟩ := canReceive_parts hr
      rw [exec_turnNegated_of_receive hr, cutPacket_waiting hi, yielded_queued hb hl ho hne]
    · obtain ⟨-, hb, ho, hl⟩ := canReceive_parts hr
      rw [exec_turnNegated_of_receive hr, cutPacket_nothing hi, commit_of_idle rfl,
        startOutbound_nothing (yielded_sends hb hl ho) he (drainSlot_none hex)]
      simp only [State.yielded, State.setInb, State.onDbi, ← hi]
  case drains =>
    obtain ⟨-, hb, ho, hl⟩ := canReceive_parts hr
    refine ⟨fun hcut => ?_, fun hcut => ?_⟩ <;>
      rw [exec_turnNegated_of_receive hr, cutPacket_nothing hi, commit_of_idle rfl]
    · have hd : s.yielded.drainSlot = some (i, tag) := drainSlot_lowest (s := s.yielded) hq hx hfull htag hmin hcut
      rw [startOutbound_data (yielded_sends hb hl ho) hrep hd]
      simp only [State.yielded, State.setInb, State.onDbi, State.onSlot, State.driveStb, State.setSlots, ← hi]
    · rw [startOutbound_nothing (yielded_sends hb hl ho) hrep (drainSlot_cut (s := s.yielded) hcut)]
      simp only [State.yielded, State.setInb, State.onDbi, ← hi]
  case sent =>
    refine ⟨fun hcalm ho => ?_, fun hcalm ho => ?_, fun hset ho ht hb hl hi hrep hne => ?_, fun hr hi => ?_⟩
    · have hc := calm_iff.mp hcalm
      rw [exec_outboundPacketAcked, packetSent_queued ho hc.supplied]
      exact congrArg _ (event_of_calm (hc.of_motion rfl rfl))
    · have hc := calm_iff.mp hcalm
      rw [exec_outboundPacketAcked, packetSent_data ho]
      exact congrArg _ (event_of_calm (hc.of_motion rfl rfl))
    · have hquiet : react s = none := by simpa [State.settled] using hset
      obtain ⟨u, hu⟩ : ∃ u, u = s.packetSent := ⟨_, rfl⟩
      have hsent := packetSent_queued ho hl
      rw [← hu] at hsent
      have hq : react u = none := by
        rw [hsent]
        exact quiet_of_watches (s := s) rfl (fun _ _ h => h) (fun _ _ _ _ h => h) hquiet
      have hsends : u.Sends := by
        rw [hsent]
        exact ⟨ht, hb, hl, rfl, hi⟩
      have hmore : u.dbi.replies ≠ [] := by
        rw [hsent]
        simpa [hrep] using hne
      rw [exec_outboundPacketAcked, ← hu, State.event, settle_of_quiet hq, commit_of_idle hsends.inb,
        startOutbound_queued hsends hmore, hsent, hrep]
      rfl
    · have hexec : exec .discardedPacketEnd s = .next (if s.canReceive && s.dbi.inb == .discard then s.setInb .idle
          else s) := rfl
      rw [hexec, hr, hi]
      rfl

end Sys2Proof.Machine
end

section
/-! The last entry of the queue completes (R100), in a drive that is otherwise at rest: what its DONE changes, and that
no reaction follows. -/

namespace Sys2Proof.Machine

/-! ## A drive with nothing but its head entry in progress -/

/-- No work, spin-down, eject, record operation or sector in flight is in progress, and no ending waits. -/
structure State.Bare (s : State) : Prop where
  endWith : s.endWith = none
  work : s.work = none
  downs : s.downs = ⟨none, none, none, false⟩
  eject : s.ccu.eject = none
  op : s.record.op = .idle
  readWanted : s.record.readWanted = false
  flight : s.eng.flight = none
  supplied : s.supplyLow = false

theorem State.Idle.bare {s : State} (h : s.Idle) : s.Bare :=
  ⟨h.endWith, h.work, h.downs, h.eject, h.op, h.readWanted, by rw [h.eng]; rfl, h.supplied⟩

/-- The reactions of the Transfer Engine and of the head entry. -/
def headRules : List (State → Option State) := [reactEngine, reactDrain, reactBegin, reactReady, reactTransfer]

theorem react_of_bare {s : State} (h : s.Bare) : react s = (mechanical ++ headRules).findSome? fun r => r s := by
  obtain ⟨he, hw, hd, hx, ho, hr, hf, hs⟩ := h
  cases hex : s.executing <;>
  simp [react, rules, mechanical, headRules, List.findSome?_cons, hs, reactFlight, reactRecordLost, State.recordOpLost,
    reactEjecting, reactStopped, reactParked, reactEjectParked, reactWorkCut, reactEnd, reactWork, reactReadDue,
    reactReached, reactRecordSeek, reactRecordSlot, reactDown, Downs.stepOf, reactEject, reactStranded, guarded,
    he, hw, hd, hx, ho, hr, hf, hex]

/-- With the disk, the heads and the latch at rest the head entry alone reacts. -/
theorem react_of_head {s : State} (h : s.Bare) (hm : mechanical.findSome? (fun r => r s) = none) :
    react s = headRules.findSome? fun r => r s := by
  rw [react_of_bare h, List.findSome?_append, hm, Option.none_or]

/-! ## The disk, the heads and the latch -/

/-- What the reactions of the disk, the heads and the latch look at. -/
def State.mechanics (s : State) :=
  ((s.spc.state, s.spc.brakePending, s.spc.startByWork), (s.pos.state, s.pos.loadByWork),
    (s.ccu.state, s.ccu.releasePending), s.fsv.kinds)

theorem mechanical_quiet {s t : State} (h : t.mechanics = s.mechanics)
    (hs : mechanical.findSome? (fun r => r s) = none) : mechanical.findSome? (fun r => r t) = none := by
  simp only [State.mechanics, Prod.mk.injEq] at h
  rw [List.findSome?_eq_none_iff] at hs ⊢
  simp only [mechanical, List.forall_mem_cons, reactOwnUnload, reactStopCheck, reactRelease, reactBrake, reactStart,
    reactLoad, State.atRest, State.loadAllowed, State.pendingStart, State.pendingLoad,
    ← Option.not_isSome_iff_eq_none, isSome_guarded, h] at hs ⊢
  simpa using hs

theorem mechanical_of_quiet {s : State} (hs : react s = none) (hl : s.supplyLow = false) :
    mechanical.findSome? (fun r => r s) = none := by
  rcases react_eq_none.mp hs with h | h
  · rw [hl] at h
    cases h
  · rw [List.findSome?_eq_none_iff]
    intro r hr
    refine h r ?_
    simp only [mechanical, List.mem_cons, List.not_mem_nil, or_false] at hr
    simp only [rules, List.mem_cons]
    rcases hr with rfl | rfl | rfl | rfl | rfl | rfl <;> simp

theorem State.Calm.mechanical {s : State} (h : s.Calm) : mechanical.findSome? (fun r => r s) = none :=
  mechanical_of_quiet (react_of_calm h) h.supplied

theorem State.Idle.quiet {s : State} (h : s.Idle) (hm : mechanical.findSome? (fun r => r s) = none) : react s = none := by
  rw [react_of_idle h, hm]

/-! ## The last entry completes -/

/-- The state after the last entry of the queue has completed with a status, no work of SPIN UP having waited with it
(R100). -/
def State.finished (tag : Byte) (st : Status) (s : State) : State := { s with
  dbi := { s.dbi with
    replies := s.dbi.replies ++ [.done tag st s.eng.completed s.eng.errors s.eng.slips s.eng.firstError s.eng.damaged]
    out := s.dbi.out.leave tag }
  queue := []
  job := .idle
  endWith := none
  eng := s.eng.afterCommand
  slots := s.slots.map (Slot.release tag)
  spc := { s.spc with standbyElapsed := 0 }
  pos := { s.pos with
    requester := if s.record.op == .idle || s.pos.requester == .seekCommand then .none else s.pos.requester }
  downs := { s.downs with cmd := none }
  atc := { s.atc with requests := Source.all.filter fun y => s.atc.requests.contains y || y == .commandDone } }

theorem completeHead_last {s : State} {e : Entry} (hq : s.queue = [e]) (hw : s.work = none) (st : Status) :
    s.completeHead st = s.finished e.tag st := by
  have hleave : ∀ u : State, u.work = none → u.leaveWork .cmd = u := fun u hu => by simp only [State.leaveWork, hu]
  unfold State.completeHead
  rw [hq]
  dsimp only
  rw [hleave _ (by simpa [State.placeDone, State.releaseCommand, State.orphanSeek, State.place] using hw)]
  rfl

/-- A drive that had nothing else in progress is idle once its last entry has completed. -/
theorem State.Bare.finished {s : State} (h : s.Bare) (tag : Byte) (st : Status) : (s.finished tag st).Idle where
  queue := rfl
  job := rfl
  endWith := rfl
  work := h.work
  downs := by
    change { s.downs with cmd := none } = _
    rw [h.downs]
  eject := h.eject
  op := h.op
  readWanted := h.readWanted
  eng := by
    change s.eng.afterCommand = _
    rw [Engine.afterCommand, h.flight]
    rfl
  supplied := h.supplied

/-- Nothing follows the completion of the last entry. -/
theorem State.Bare.finished_quiet {s : State} (h : s.Bare) (hm : mechanical.findSome? (fun r => r s) = none)
    (tag : Byte) (st : Status) : react (s.finished tag st) = none :=
  (h.finished tag st).quiet (mechanical_quiet (s := s) rfl hm)

theorem finished_commandDone (tag : Byte) (st : Status) (s : State) :
    (s.finished tag st).requested .commandDone = true := by
  simp [State.finished, State.requested]

end Sys2Proof.Machine
end

section
/-! DATA packets: the checks of an inbound one and the slot it fills, and the block that an acknowledged one completes
(R108, R109, R182). -/

namespace Sys2Proof.Machine

theorem quiet_of_settled {s : State} (h : s.settled = true) : react s = none := by
  simpa [State.settled] using h

/-! ## The checks of an inbound DATA packet -/

theorem exec_dataPacketIndex {s : State} {tag : Byte} {index : BitVec 16} {h : Header} (hr : s.canReceive = true)
    (hi : s.dbi.inb = .payload h) (hk : h.kind = 2) (ht : h.tag = tag) (hl : h.lead.take 2 = be16 index) :
    exec (.dataPacketIndex tag index) s = .next (s.dataIndex tag index.toNat) := by
  have hexec : exec (.dataPacketIndex tag index) s = .next (if s.canReceive then
      match s.dbi.inb with
      | .payload h =>
        if h.kind == 2 && h.tag == tag && h.lead.take 2 == be16 index then s.dataIndex tag index.toNat else s
      | _ => s
    else s) := rfl
  have hg : (h.kind == 2 && h.tag == tag && h.lead.take 2 == be16 index) = true := by simp [hk, ht, hl]
  rw [hexec, hr, hi, if_pos rfl]
  dsimp only
  rw [hg, if_pos rfl]

theorem dataIndex_refused {s : State} {tag : Byte} {n : Nat} {st : Status} (h : s.dataRefused tag n = some st) :
    s.dataIndex tag n = { s with dbi := { s.dbi with
      replies := s.dbi.replies ++ [.reply tag st (.dataIndex n)], inb := .discard } } := by
  simp only [State.dataIndex, h]
  rfl

theorem writeOf_none {s : State} {tag : Byte} (h : ∀ e ∈ s.queue, e.tag ≠ tag) : s.writeOf tag = none := by
  simp only [State.writeOf, List.find?_eq_none, Bool.and_eq_true, beq_iff_eq, not_and]
  exact fun e he ht => absurd ht (h e he)

theorem writeOf_head {s : State} {tag : Byte} {go x : Bool} {l : List Extent} {rest : List Entry}
    (h : s.queue = ⟨tag, .xfer .write go l, x⟩ :: rest) : s.writeOf tag = some ⟨tag, .xfer .write go l, x⟩ := by
  simp [State.writeOf, h]

section

variable {s : State} {tag : Byte} {go : Bool} {l : List Extent} {rest : List Entry} {n : Nat}

theorem dataRefused_notYet (h : s.queue = ⟨tag, .xfer .write go l, false⟩ :: rest) :
    s.dataRefused tag n = some .notYet := by
  simp [State.dataRefused, writeOf_head h]

variable (h : s.queue = ⟨tag, .xfer .write go l, true⟩ :: rest)
include h

theorem dataRefused_executing : s.dataRefused tag n =
    if n != s.eng.nextIndex || decide (blocksOf l ≤ n) then some .dataOrder
    else if s.emptyCount == 0 || (s.record.state == .notRead && s.emptyCount == 1) then some .noSlot
    else none := by
  simp only [State.dataRefused, writeOf_head h, Entry.extents]
  rfl

theorem dataRefused_order (ho : n ≠ s.eng.nextIndex ∨ blocksOf l ≤ n) : s.dataRefused tag n = some .dataOrder := by
  have hg : (n != s.eng.nextIndex || decide (blocksOf l ≤ n)) = true := by simpa using ho
  rw [dataRefused_executing h, hg, if_pos rfl]

omit h in
theorem orderMet (hn : n = s.eng.nextIndex) (hl : n < blocksOf l) :
    (n != s.eng.nextIndex || decide (blocksOf l ≤ n)) = false := by
  simpa [hn] using hn ▸ hl

theorem dataRefused_noSlot (hn : n = s.eng.nextIndex) (hl : n < blocksOf l)
    (he : s.emptyCount = 0 ∨ s.emptyCount = 1 ∧ s.record.state = .notRead) :
    s.dataRefused tag n = some .noSlot := by
  have hc : (s.emptyCount == 0 || (s.record.state == .notRead && s.emptyCount == 1)) = true := by
    simpa [And.comm] using he
  rw [dataRefused_executing h, orderMet hn hl, hc]
  rfl

theorem dataRefused_none (hn : n = s.eng.nextIndex) (hl : n < blocksOf l) (hpos : 0 < s.emptyCount)
    (he : s.record.state ≠ .notRead ∨ 2 ≤ s.emptyCount) : s.dataRefused tag n = none := by
  have h0 : (s.emptyCount == 0) = false := by simp [Nat.ne_of_gt hpos]
  have h1 : (s.record.state == .notRead && s.emptyCount == 1) = false := by
    rcases he with he | he
    · simp [he]
    · have : s.emptyCount ≠ 1 := by omega
      simp [this]
  rw [dataRefused_executing h, orderMet hn hl, h0, h1]
  rfl

theorem dataIndex_taken {i : Nat} (hn : n = s.eng.nextIndex) (hl : n < blocksOf l) (hi : s.emptySlot = some i)
    (hpos : 0 < s.emptyCount) (he : s.record.state ≠ .notRead ∨ 2 ≤ s.emptyCount) :
    s.dataIndex tag n = { s with
      dbi := { s.dbi with inb := .data tag n i },
      slots := s.slots.modify i fun _ => ⟨.filling, some tag, n, (lbaAt l n).getD 0, 0, []⟩ } := by
  have hlba : ((s.writeOf tag).bind fun e => lbaAt e.extents n) = lbaAt l n := by
    rw [writeOf_head h]
    rfl
  simp only [State.dataIndex, dataRefused_none h hn hl hpos he, hi, hlba]
  rfl

end

theorem emptyCount_pos {s : State} {i : Nat} (h : s.emptySlot = some i) : 0 < s.emptyCount := by
  obtain ⟨x, hx, he⟩ := emptySlot_spec h
  exact List.length_pos_of_mem (List.mem_filter.mpr ⟨List.mem_of_getElem? hx, by simp [he]⟩)

/-! ## The packet's end -/

/-- A slot that becomes FULL in its place leaves no slot EMPTY that was not. -/
theorem emptySlot_of_filled {s t : State} {i : Nat} {f : Slot → Slot} (hf : ∀ x, (f x).state ≠ .empty)
    (ht : t.slots = s.slots.modify i f) (h : t.emptySlot.isSome = true) : s.emptySlot.isSome = true := by
  simp only [State.emptySlot, List.findIdx?_isSome, List.any_eq_true, ht] at h ⊢
  obtain ⟨y, hy, he⟩ := h
  obtain ⟨j, hj⟩ := List.mem_iff_getElem?.mp hy
  rw [List.getElem?_modify] at hj
  cases hs : s.slots[j]? with
  | none => simp [hs] at hj
  | some x =>
    by_cases hij : i = j
    · simp [hs, hij] at hj
      rw [← hj] at he
      exact absurd (eq_of_beq he) (hf x)
    · simp [hs, hij] at hj
      exact ⟨x, List.mem_of_getElem? hs, by rw [hj]; exact he⟩

/-- A block that waits to be sent still waits when a slot becomes FULL in its place. -/
theorem unsent_of_filled {s t : State} {i : Nat} {f : Slot → Slot} {e : Entry} (hf : ∀ x, (f x).state = .full)
    (htag : ∀ x, (f x).tag = x.tag) (ht : t.slots = s.slots.modify i f) (h : s.unsent e = true) :
    t.unsent e = true := by
  simp only [State.unsent, List.any_eq_true, ht] at h ⊢
  obtain ⟨x, hx, he⟩ := h
  obtain ⟨j, hj⟩ := List.mem_iff_getElem?.mp hx
  by_cases hij : i = j
  · refine ⟨f x, List.mem_iff_getElem?.mpr ⟨j, by rw [List.getElem?_modify, hj]; simp [hij]⟩, ?_⟩
    simp only [Bool.and_eq_true, beq_iff_eq] at he
    simp [hf, htag, he.1]
  · exact ⟨x, List.mem_iff_getElem?.mpr ⟨j, by rw [List.getElem?_modify, hj]; simp [hij]⟩, he⟩

theorem dataPacketEnd_taken {s : State} {tag : Byte} {n i : Nat} {x : Slot} (hr : s.canReceive = true)
    (hi : s.dbi.inb = .data tag n i) (hx : s.slots[i]? = some x) (ht : x.tag = some tag) (hq : react s = none)
    (data : List Byte) : exec (.dataPacketEnd data) s = .next { s with
      dbi := { s.dbi with inb := .idle, replies := s.dbi.replies ++ [.reply tag .ok (.dataIndex n)] },
      eng := { s.eng with nextIndex := s.eng.nextIndex + 1 },
      slots := s.slots.modify i fun y => { y with state := .full, data := data } } := by
  have hexec : exec (.dataPacketEnd data) s = .next (if s.canReceive then
      match s.dbi.inb with
      | .data t n i => (s.dataEnds t n i data).event
      | _ => s
    else s) := rfl
  have hends : s.dataEnds tag n i data = { s with
      dbi := { s.dbi with inb := .idle, replies := s.dbi.replies ++ [.reply tag .ok (.dataIndex n)] },
      eng := { s.eng with nextIndex := s.eng.nextIndex + 1 },
      slots := s.slots.modify i fun y => { y with state := .full, data := data } } := by
    have hg : (((s.setInb .idle).slots[i]?).any fun x => x.tag == some tag) = true := by
      simp [hx, ht]
    rw [State.dataEnds, hg, if_pos rfl]
    rfl
  rw [hexec, hr, hi, if_pos rfl]
  dsimp only
  rw [hends]
  refine congrArg _ (event_of_quiet ?_ ⟨(canReceive_parts hr).1, rfl⟩)
  exact quiet_of_watches (s := s) rfl
    (fun _ _ => emptySlot_of_filled (f := fun y => { y with state := .full, data := data }) nofun rfl)
    (fun _ _ _ _ => unsent_of_filled (f := fun y => { y with state := .full, data := data }) (fun _ => rfl)
      (fun _ => rfl) rfl) hq

/-! ## An outbound DATA packet is acknowledged -/

section

variable {s : State} {tag : Byte} {i : Nat} (hq : react s = none) (hl : s.supplyLow = false)
  (hh : s.Hosted) (hop : s.record.op = .idle) (ho : s.dbi.out = .data i tag true)
include hq hl hh hop ho

omit hl in
theorem packetAcked_transfer (hj : s.job = .transfer) :
    exec .outboundPacketAcked s = .next { s with
      dbi := { s.dbi with out := .none, stb := false },
      eng := { s.eng with completed := s.eng.completed + 1 },
      slots := s.slots.modify i fun _ => Slot.none } := by
  rw [exec_outboundPacketAcked, packetSent_data ho]
  refine congrArg _ (event_of_quiet ?_ ⟨hh.turn, hh.inb⟩)
  exact quiet_of_watches (s := s) rfl (fun w hw => by rw [hop] at hw; cases hw)
    (fun st _ hd => by rw [hj] at hd; cases hd) hq

theorem packetAcked_last {st : Status} {e : Entry} (hj : s.job = .drain st) (hqueue : s.queue = [e])
    (hex : e.executing = true) (htag : e.tag = tag) (hend : s.endWith = none) (hw : s.work = none)
    (hd : s.downs = ⟨none, none, none, false⟩) (hx : s.ccu.eject = none) (hrw : s.record.readWanted = false)
    (hf : s.eng.flight = none) (honly : ∀ j x, s.slots[j]? = some x → x.tag = some tag → j = i) :
    s.completes .outboundPacketAcked fun t =>
      t.dbi.replies = s.dbi.replies ++
        [.done tag st (s.eng.completed + 1) s.eng.errors s.eng.slips s.eng.firstError s.eng.damaged] ∧
      t.queue = [] ∧ t.slots = s.slots.modify i (fun _ => Slot.none) ∧ t.dbi.out = .none ∧
      t.requested .commandDone = true := by
  have hexec := exec_outboundPacketAcked s
  rw [packetSent_data ho] at hexec
  obtain ⟨u, hu⟩ : ∃ u, u = { s with
      dbi := { s.dbi with out := .none, stb := false }
      eng := if true then { s.eng with completed := s.eng.completed + 1 } else s.eng
      slots := s.slots.modify i fun _ => Slot.none } := ⟨_, rfl⟩
  rw [← hu] at hexec
  have hbare : u.Bare := by
    rw [hu]
    exact ⟨hend, hw, hd, hx, hop, hrw, hf, hl⟩
  have hmech := mechanical_quiet (s := s) (t := u) (by rw [hu]; rfl) (mechanical_of_quiet hq hl)
  have hslots : u.slots = s.slots.modify i fun _ => Slot.none := by rw [hu]
  have hgone : ∀ x ∈ u.slots, x.tag ≠ some tag := by
    intro x hx ht
    obtain ⟨j, hj'⟩ := List.mem_iff_getElem?.mp (hslots ▸ hx)
    rw [List.getElem?_modify] at hj'
    cases hs : s.slots[j]? with
    | none => simp [hs] at hj'
    | some y =>
      by_cases hij : i = j
      · simp [hs, hij] at hj'
        rw [← hj'] at ht
        cases ht
      · simp [hs, hij] at hj'
        exact hij (honly j y hs (hj' ▸ ht)).symm
  have huq : u.queue = [e] := by rw [hu]; exact hqueue
  have huj : u.job = .drain st := by rw [hu]; exact hj
  have hdrain : react u = some (u.completeHead st) := by
    have hunsent : (u.slots.any fun x => x.tag == some e.tag && (x.state == .full || x.state == .draining)) = false := by
      rw [List.any_eq_false]
      intro x hx
      have := hgone x hx
      simp [htag, this]
    have hexe : u.executing = some e := by simp [State.executing, huq, hex]
    rw [react_of_head hbare hmech]
    simp only [headRules, List.findSome?_cons, reactEngine, reactDrain, huj, hexe, hunsent]
    cases u.eng.place <;> rfl
  have hfin : u.completeHead st = u.finished e.tag st := completeHead_last huq hbare.work st
  have hevent : u.event = u.finished e.tag st := by
    refine event_of_reactsIn (k := 1) ⟨_, hdrain, hfin.symm⟩ (by decide) (hbare.finished_quiet hmech _ _) ?_
    rw [hu]
    exact ⟨hh.turn, hh.inb⟩
  refine ⟨_, hexec, ?_⟩
  rw [hevent, htag]
  have hrel : u.slots.map (Slot.release tag) = u.slots := by
    refine (List.map_congr_left fun x hx => ?_).trans (List.map_id _)
    simp [Slot.release, hgone x hx]
  refine ⟨by rw [hu]; rfl, rfl, hrel.trans hslots, by rw [hu]; rfl, finished_commandDone ..⟩

end

/-- Settles O43: the checks of an inbound DATA packet one by one, the slot it fills, and the block that an
acknowledged packet completes. -/
theorem dataPackets : Obligations.DataPackets := by
  unfold Obligations.DataPackets
  refine ⟨fun s tag index go l i x h data rest hr => ?_, fun s tag i st e hset hl ht hin hop ho => ?_⟩
  · have hpos (hi : s.emptySlot = some i) := emptyCount_pos hi
    refine ⟨fun ⟨hi, hk, htag, hlead⟩ hno => ?_, fun ⟨hi, hk, htag, hlead⟩ hw => ?_,
      fun ⟨hi, hk, htag, hlead⟩ hw hord => ?_, fun ⟨hi, hk, htag, hlead⟩ hw hn hlt he => ?_,
      fun ⟨hi, hk, htag, hlead⟩ hw hn hlt hslot he => ?_, fun hi hx htag hset => ?_⟩
    · rw [exec_dataPacketIndex hr hi hk htag hlead, dataIndex_refused]
      simp only [State.dataRefused, writeOf_none hno]
    · rw [exec_dataPacketIndex hr hi hk htag hlead, dataIndex_refused (dataRefused_notYet hw)]
    · rw [exec_dataPacketIndex hr hi hk htag hlead, dataIndex_refused (dataRefused_order hw hord)]
    · rw [exec_dataPacketIndex hr hi hk htag hlead, dataIndex_refused (dataRefused_noSlot hw hn hlt he)]
    · rw [exec_dataPacketIndex hr hi hk htag hlead, dataIndex_taken hw hn hlt hslot (hpos hslot) he]
    · exact dataPacketEnd_taken hr hi hx htag (quiet_of_settled hset) data
  · have hq := quiet_of_settled hset
    exact ⟨packetAcked_transfer hq ⟨ht, hin⟩ hop ho,
      fun hj hqueue hex htag hend hw hd hx hrw hf _ honly =>
        packetAcked_last hq hl ⟨ht, hin⟩ hop ho hj hqueue hex htag hend hw hd hx hrw hf honly⟩

end Sys2Proof.Machine
end

section
/-! The passing of sectors (R105 to R113): the awaited sector of a transfer begins or slips by, and its end finishes the
block. -/

namespace Sys2Proof.Machine

theorem reactFlight_of_none {s : State} (h : s.eng.flight = none) : reactFlight s = none := by
  simp only [reactFlight, h]

/-- The sector in flight runs on under heads that track over a disk at speed; a sector that is read asks nothing of the
disk. -/
theorem reactFlight_tracking {s : State} {f : Flight} (h : s.eng.flight = some f) (ht : s.pos.state = .tracking)
    (hs : (f.kind = .write ∨ f.kind = .recordWrite) → s.spc.state = .atSpeed) : reactFlight s = none := by
  simp only [reactFlight, h]
  split
  · next hk =>
    have hk : f.kind = .write ∨ f.kind = .recordWrite := by simpa using hk
    simp [ht, hs hk, guarded]
  · simp [ht, guarded]

/-! ## A transfer in progress -/

/-- A quiet host transfer between sectors, in its waiting for a pass. -/
structure State.Waits (s : State) (p : Placement) : Prop where
  quiet : react s = none
  supplied : s.supplyLow = false
  job : s.job = .transfer
  op : s.record.op = .idle
  flight : s.eng.flight = none
  state : s.eng.state = .rotateWait
  place : s.eng.place = some p

section

variable {s : State} {p : Placement} (h : s.Waits p)
include h

theorem State.Waits.tracking : s.trackingOn p.cylinder p.head = true :=
  trackingOn_of_settled (by simp [State.settled, h.quiet]) h.supplied h.place h.job (.inl h.state)

theorem State.Waits.noEnd : s.endWith = none := by
  cases he : s.endWith with
  | none => rfl
  | some st =>
    rcases react_eq_none.mp h.quiet with hl | hr
    · rw [h.supplied] at hl
      cases hl
    · have hr := hr reactEnd (by simp [rules])
      simp [reactEnd, he, State.endWaits, State.waitsEngine, State.ownFlight, h.job, h.flight, guarded] at hr

/-- The waiting transfer stays quiet when its engine moves on, and while it waits or a sector passes. -/
theorem State.Waits.stays {t : State} (ht : t.heeds = s.heeds) (hte : t.endWith = s.endWith)
    (hej : t.ccu.eject = s.ccu.eject) (hst : t.eng.state ≠ .idle ∧ t.eng.state ≠ .seekWait)
    (hp : t.eng.place = s.eng.place)
    (hf : ∀ f, t.eng.flight = some f → (f.kind = .write ∨ f.kind = .recordWrite) → s.spc.state = .atSpeed) :
    react t = none := by
  have hc := (heeds_conditions ht).1
  simp only [State.heeds, Prod.mk.injEq] at ht
  have htrack := h.tracking
  have hpos : s.pos.state = .tracking := by
    simp only [State.trackingOn, Bool.and_eq_true, beq_iff_eq] at htrack
    exact htrack.1.1
  refine quiet_of_heeds (s := s) (by simpa [State.heeds] using ht) (by simp [h.job]) (.inl hej) ?_ ?_ ?_ (fun w hw => by rw [h.op] at hw; cases hw)
    (fun st _ hd => by rw [h.job] at hd; cases hd) h.quiet
  · simp [reactEnd, hte, h.noEnd]
  · cases hfl : t.eng.flight with
    | none => exact reactFlight_of_none hfl
    | some f => exact reactFlight_tracking hfl (by simp [ht, hpos]) (by simpa [ht] using hf f hfl)
  · simp [reactEngine, hp, h.place, ht, h.job, hst, hc, htrack, guarded]

end

theorem exec_sectorArrival (n : Nat) (s : State) : exec (.sectorArrival n) s = .next (s.sectorArrives n).event := rfl

theorem sectorArrives_transfer {s : State} {p : Placement} (h : s.Waits p) {n : Nat} (hn : p.sector = n) {e : Entry}
    (hx : s.executing = some e) : (∀ go l, e.cmd = .xfer .read go l → s.sectorArrives n = s.readArrives e.tag) ∧
      (∀ go l, e.cmd = .xfer .write go l → s.sectorArrives n = s.writeArrives e.tag) ∧
      (∀ go l, e.cmd = .xfer .verify go l →
        s.sectorArrives n = (s.onEng fun g => { g with state := .transferring }).fly .verify none) := by
  obtain ⟨tag, c, x⟩ := e
  have harr : s.sectorArrives n = s.transferArrives n := by
    simp [State.sectorArrives, h.supplied, h.flight, h.op]
  rw [harr]
  refine ⟨fun go l hc => ?_, fun go l hc => ?_, fun go l hc => ?_⟩ <;>
  · dsimp only at hc
    subst hc
    simp [State.transferArrives, h.job, h.state, h.place, hn, hx]

theorem engineFree_of_busy {s : State} (h : s.eng.state ≠ .idle) : s.engineFree = false := by
  simp [State.engineFree, h]

theorem extents_of_executing {s : State} {tag : Byte} {k : XferKind} {go x : Bool} {l : List Extent}
    (h : s.executing = some ⟨tag, .xfer k go l, x⟩) : s.extents = l := by
  simp only [State.extents, h]

/-! ## The awaited sector arrives -/

section

variable {s : State} {p : Placement} (h : s.Waits p) (hh : s.Hosted) {n : Nat} (hn : p.sector = n) {tag : Byte}
  {go : Bool} {l : List Extent}
include h hh hn

theorem readArrives_slot {i : Nat} (hx : s.executing = some ⟨tag, .xfer .read go l, true⟩) (hi : s.emptySlot = some i) :
    exec (.sectorArrival n) s = .next { s with
      slots := s.slots.modify i fun _ => ⟨.filling, some tag, s.eng.seq, (lbaAt l s.eng.seq).getD 0, s.eng.retry, []⟩,
      eng := { s.eng with state := .transferring, flight := some ⟨.read, some i, false, false⟩ } } := by
  have harr : s.readArrives tag = { s with
      slots := s.slots.modify i fun _ => ⟨.filling, some tag, s.eng.seq, (lbaAt l s.eng.seq).getD 0, s.eng.retry, []⟩,
      eng := { s.eng with state := .transferring, flight := some ⟨.read, some i, false, false⟩ } } := by
    simp only [State.readArrives, hi, extents_of_executing hx]
    rfl
  rw [exec_sectorArrival, (sectorArrives_transfer h hn hx).1 go l rfl, harr]
  refine congrArg _ (event_of_quiet (h.stays ?_ rfl rfl (by simp) rfl (by simp)) ⟨hh.turn, hh.inb⟩)
  simp [State.heeds, engineFree_of_busy, h.state]

/-- A pass without a slot, or without its data, is one revolution slip (R106, R110). -/
theorem arrives_slips (hx : s.executing = some ⟨tag, .xfer .read go l, true⟩ ∧ s.emptySlot = none ∨
      s.executing = some ⟨tag, .xfer .write go l, true⟩ ∧ s.slotOf tag s.eng.seq .full = none) :
    exec (.sectorArrival n) s = .next { s with
      eng := { s.eng with state := .retryWait, slips := min 65535 (s.eng.slips + 1) },
      counters := { s.counters with revolutionSlips := min 65535 (s.counters.revolutionSlips + 1) } } := by
  have harr : s.sectorArrives n = s.slips := by
    rcases hx with ⟨hx, hi⟩ | ⟨hx, hi⟩
    · rw [(sectorArrives_transfer h hn hx).1 go l rfl]
      simp only [State.readArrives, hi]
    · rw [(sectorArrives_transfer h hn hx).2.1 go l rfl]
      simp only [State.writeArrives, hi]
  have hslips : s.slips = { s with
      eng := { s.eng with state := .retryWait, slips := min 65535 (s.eng.slips + 1) },
      counters := { s.counters with revolutionSlips := min 65535 (s.counters.revolutionSlips + 1) } } := by
    simp [State.slips, State.awaitPass, State.countSlip, State.onCounters, State.onEng, h.state, bump, satAdd,
      Config.counterTop]
  rw [exec_sectorArrival, harr, hslips]
  refine congrArg _ (event_of_quiet (h.stays ?_ rfl rfl (by simp) rfl (by simp [h.flight])) ⟨hh.turn, hh.inb⟩)
  simp [State.heeds, engineFree_of_busy, h.state]

theorem verifyArrives_passes (hx : s.executing = some ⟨tag, .xfer .verify go l, true⟩) :
    exec (.sectorArrival n) s = .next { s with eng := { s.eng with
      state := .transferring, flight := some ⟨.verify, none, false, false⟩ } } := by
  rw [exec_sectorArrival, (sectorArrives_transfer h hn hx).2.2 go l rfl]
  refine congrArg _ (event_of_quiet (h.stays ?_ rfl rfl (by simp [State.fly]) rfl (by simp [State.fly])) ⟨hh.turn, hh.inb⟩)
  simp [State.heeds, engineFree_of_busy, State.fly, State.onEng, h.state]

section

variable {i : Nat} (hx : s.executing = some ⟨tag, .xfer .write go l, true⟩) (hi : s.slotOf tag s.eng.seq .full = some i)
include hx hi

theorem writeArrives_gated (hg : s.writeGate = true) :
    exec (.sectorArrival n) s = .next { s with
      slots := s.slots.modify i fun y => { y with state := .draining },
      eng := { s.eng with state := .transferring, flight := some ⟨.write, some i, false, false⟩ } } := by
  have harr : s.writeArrives tag = { s with
      slots := s.slots.modify i fun y => { y with state := .draining },
      eng := { s.eng with state := .transferring, flight := some ⟨.write, some i, false, false⟩ } } := by
    simp only [State.writeArrives, hi, hg]
    rfl
  have hspeed : s.spc.state = .atSpeed := by
    simp only [State.writeGate, Bool.and_eq_true, beq_iff_eq] at hg
    exact hg.1.1.2
  rw [exec_sectorArrival, (sectorArrives_transfer h hn hx).2.1 go l rfl, harr]
  refine congrArg _ (event_of_quiet (h.stays ?_ rfl rfl (by simp) rfl (fun _ _ _ => hspeed)) ⟨hh.turn, hh.inb⟩)
  simp [State.heeds, engineFree_of_busy, h.state]

theorem writeArrives_deferred {x : Slot} (hg : s.writeGate = false) (hs : s.slots[i]? = some x)
    (hr : x.retry < s.tbs.params.writeRetries) :
    exec (.sectorArrival n) s = .next { s with
      slots := s.slots.modify i fun y => { y with retry := y.retry + 1 },
      eng := { s.eng with state := .retryWait },
      counters := { s.counters with writeDeferrals := min 65535 (s.counters.writeDeferrals + 1) } } := by
  have harr : s.writeArrives tag = { s with
      slots := s.slots.modify i fun y => { y with retry := y.retry + 1 },
      eng := { s.eng with state := .retryWait },
      counters := { s.counters with writeDeferrals := min 65535 (s.counters.writeDeferrals + 1) } } := by
    simp [State.writeArrives, hi, hg, State.deferWrite, hs, hr, State.awaitPass, State.countDeferral, State.onCounters,
      State.onEng, State.onSlot, State.setSlots, h.state, bump, satAdd, Config.counterTop]
  rw [exec_sectorArrival, (sectorArrives_transfer h hn hx).2.1 go l rfl, harr]
  refine congrArg _ (event_of_quiet (h.stays ?_ rfl rfl (by simp) rfl (by simp [h.flight])) ⟨hh.turn, hh.inb⟩)
  simp [State.heeds, engineFree_of_busy, h.state]

end

end

/-- Settles O39: a sector that nobody waits for leaves the state as it was, the awaited one fills the lowest EMPTY slot or
is one revolution slip. -/
theorem sectorArrives_spec : Obligations.SectorArrives := by
  unfold Obligations.SectorArrives
  intro s n i tag go l hset ht hin hl hf hop hj
  have hq := quiet_of_settled hset
  have hh : s.Hosted := ⟨ht, hin⟩
  refine ⟨fun hne => ?_, fun hn hst hx hi => ?_, fun hn hst hx => ?_⟩
  · have harr : s.sectorArrives n = s := by
      have hno : (s.eng.place.map Placement.sector == some n) = false := by simpa using hne
      simp [State.sectorArrives, hl, hf, hop, State.transferArrives, hno]
    rw [exec_sectorArrival, harr, event_of_quiet hq hh]
  · obtain ⟨p, hp, hsec⟩ := Option.map_eq_some_iff.mp hn
    exact readArrives_slot ⟨hq, hl, hj, hop, hf, hst, hp⟩ hh hsec hx hi
  · obtain ⟨p, hp, hsec⟩ := Option.map_eq_some_iff.mp hn
    exact arrives_slips ⟨hq, hl, hj, hop, hf, hst, hp⟩ hh hsec hx

end Sys2Proof.Machine
end

section
/-! The end of a sector in flight: of a transfer (R107, R111 to R113), and of a record read or a write-back (R5 to R7, R10,
R11). -/

namespace Sys2Proof.Machine

theorem exec_sectorEnd (good : Bool) (data : List Byte) (s : State) :
    exec (.sectorEnd good data) s = .next (s.sectorEnds good data).event := rfl

/-! ## The sector of a transfer -/

/-- A quiet host transfer with its sector in flight, and nothing else under way. -/
structure State.Transfers (s : State) (e : Entry) (f : Flight) : Prop where
  quiet : react s = none
  supplied : s.supplyLow = false
  job : s.job = .transfer
  endWith : s.endWith = none
  executing : s.executing = some e
  op : s.record.op = .idle
  readWanted : s.record.readWanted = false
  state : s.eng.state = .transferring
  flight : s.eng.flight = some f

section

variable {s : State} {e : Entry} {f : Flight} (h : s.Transfers e f)
include h

theorem State.Transfers.extents {k : XferKind} {go : Bool} {l : List Extent} (hc : e.cmd = .xfer k go l) :
    s.extents = l := by
  obtain ⟨tag, c, x⟩ := e
  dsimp only at hc
  subst hc
  exact extents_of_executing h.executing

theorem State.Transfers.tracking {p : Placement} (hp : s.eng.place = some p) : s.trackingOn p.cylinder p.head = true := by
  rcases react_eq_none.mp h.quiet with hl | hr
  · rw [h.supplied] at hl
    cases hl
  · have hr := hr reactEngine (by simp [rules])
    cases ht : s.trackingOn p.cylinder p.head with
    | true => rfl
    | false => simp [reactEngine, hp, h.job, h.state, ht, guarded] at hr

/-- The transfer stays quiet while its next pass is awaited. -/
theorem State.Transfers.waits {t : State} (ht : t.heeds = s.heeds) (hte : t.endWith = s.endWith)
    (hej : t.ccu.eject = s.ccu.eject) (hst : t.eng.state = .retryWait)
    (hp : t.eng.place = s.eng.place) (hf : t.eng.flight = none) : react t = none := by
  have hc := (heeds_conditions ht).1
  refine quiet_of_heeds (s := s) ht (by simp [h.job]) (.inl hej) ?_ (reactFlight_of_none hf) ?_ (fun w hw => by rw [h.op] at hw; cases hw)
    (fun st _ hd => by rw [h.job] at hd; cases hd) h.quiet
  · simp [reactEnd, hte, h.endWith]
  · simp only [State.heeds, Prod.mk.injEq] at ht
    cases hpl : s.eng.place with
    | none => simp only [reactEngine, hp, hpl]
    | some p => simp [reactEngine, hp, hpl, ht, h.job, hst, hc, h.tracking hpl, guarded]

end

/-- A CHECK_ERROR below the limit: the slot is empty again and the sector is tried at its next pass (R107). -/
theorem readEnds_retry {s : State} {e : Entry} {i : Nat} (h : s.Transfers e ⟨.read, some i, false, false⟩) (hh : s.Hosted)
    (hr : s.eng.retry < s.tbs.params.readRetries) (data : List Byte) :
    exec (.sectorEnd false data) s = .next { s with
      slots := s.slots.modify i fun _ => Slot.none,
      eng := { s.eng with flight := none, retry := s.eng.retry + 1, state := .retryWait },
      counters := { s.counters with readRetries := min 65535 (s.counters.readRetries + 1) } } := by
  have hends : s.sectorEnds false data = { s with
      slots := s.slots.modify i fun _ => Slot.none,
      eng := { s.eng with flight := none, retry := s.eng.retry + 1, state := .retryWait },
      counters := { s.counters with readRetries := min 65535 (s.counters.readRetries + 1) } } := by
    simp [State.sectorEnds, h.flight, State.flightEnds, State.readEnds, State.readFails, State.land, State.emptySlotAt,
      State.onSlot, State.setSlots, State.countReadRetry, State.onCounters, State.awaitPass, State.onEng, hr, h.state,
      h.endWith, bump, satAdd, Config.counterTop]
  rw [exec_sectorEnd, hends]
  refine congrArg _ (event_of_quiet (h.waits ?_ rfl rfl rfl rfl rfl) ⟨hh.turn, hh.inb⟩)
  simp [State.heeds, engineFree_of_busy, h.state]

/-- The last block of a transfer that is finished ends it OK (R103). -/
theorem finishBlock_last {s : State} {e : Entry} {k : XferKind} {go : Bool} {l : List Extent} (hend : s.endWith = none)
    (hx : s.executing = some e) (hc : e.cmd = .xfer k go l) (hlast : s.eng.seq + 1 = blocksOf l) (herr : s.eng.errors = 0) :
    s.finishBlock = (s.onEng (Engine.advance l)).endTransfer .ok := by
  obtain ⟨tag, c, x⟩ := e
  dsimp only at hc
  subst hc
  have hl := extents_of_executing hx
  have hseq : (s.onEng (Engine.advance l)).eng.seq = blocksOf l := hlast
  have herr' : (s.onEng (Engine.advance l)).eng.errors = 0 := herr
  simp only [State.finishBlock, hend, hl, hseq, herr', Nat.lt_irrefl, if_false]
  rfl

theorem endTransfer_read {s : State} {e : Entry} {go : Bool} {l : List Extent} (hx : s.executing = some e)
    (hc : e.cmd = .xfer .read go l) (st : Status) :
    s.endTransfer st = ((s.setJob (.drain st)).setEnd none).onEng fun g =>
      { g with state := .idle, place := none,
               flight := g.flight.map fun f => { f with orphan := f.orphan || f.isHost } } := by
  obtain ⟨tag, c, x⟩ := e
  dsimp only at hc
  subst hc
  simp only [State.endTransfer, hx]

theorem endTransfer_complete {s : State} {e : Entry} {k : XferKind} {go : Bool} {l : List Extent}
    (hx : s.executing = some e) (hc : e.cmd = .xfer k go l) (hk : k ≠ .read) (st : Status) :
    s.endTransfer st = s.completeHead st := by
  obtain ⟨tag, c, x⟩ := e
  dsimp only at hc
  subst hc
  cases k with
  | read => exact absurd rfl hk
  | _ => simp only [State.endTransfer, hx]

/-- The last block of a WRITE or VERIFY ends well: the command completes with one more block (R111, R112). -/
theorem sectorEnds_last {s : State} {e : Entry} {k : XferKind} {go : Bool} {l : List Extent} {i : Nat} {f : Flight}
    (h : s.Transfers e f) (hh : s.Hosted) (hq : s.queue = [e]) (hlast : s.eng.seq + 1 = blocksOf l)
    (herr : s.eng.errors = 0) (hw : s.work = none) (hd : s.downs = ⟨none, none, none, false⟩) (hx : s.ccu.eject = none)
    (hc : e.cmd = .xfer k go l)
    (hf : k = .verify ∧ f = ⟨.verify, none, false, false⟩ ∨ k = .write ∧ f = ⟨.write, some i, false, false⟩)
    (data : List Byte) :
    s.completes (.sectorEnd true data) fun t =>
      t.dbi.replies = s.dbi.replies ++
        [.done e.tag .ok (s.eng.completed + 1) 0 s.eng.slips s.eng.firstError s.eng.damaged] ∧
      t.queue = [] ∧ t.eng = Engine.none ∧ t.requested .commandDone = true ∧
      t.spc.standbyElapsed = 0 ∧ t.counters = s.counters ∧ t.record = s.record ∧ t.tbs = s.tbs := by
  obtain ⟨u, hu, hends⟩ : ∃ u : State, (∃ g sl, u = { s with eng := g, slots := sl } ∧ g.flight = none ∧
      g.completed = s.eng.completed + 1 ∧ g.errors = 0 ∧ g.slips = s.eng.slips ∧ g.firstError = s.eng.firstError ∧
      g.damaged = s.eng.damaged) ∧ s.sectorEnds true data = u.completeHead .ok := by
    rcases hf with ⟨hk, hf⟩ | ⟨hk, hf⟩ <;> subst hk hf
    · refine ⟨(s.land.onEng fun g => { g with completed := g.completed + 1 }).onEng (Engine.advance l),
        ⟨_, _, rfl, rfl, rfl, herr, rfl, rfl, rfl⟩, ?_⟩
      simp only [State.sectorEnds, h.flight, State.flightEnds, State.verifyEnds]
      exact (finishBlock_last (s := s.land.onEng fun g => { g with completed := g.completed + 1 }) h.endWith h.executing
        hc hlast herr).trans (endTransfer_complete (s := (s.land.onEng fun g => { g with completed := g.completed + 1 }).onEng
          (Engine.advance l)) h.executing hc nofun _)
    · refine ⟨((s.land.emptySlotAt i).onEng fun g => { g with completed := g.completed + 1 }).onEng (Engine.advance l),
        ⟨_, _, rfl, rfl, rfl, herr, rfl, rfl, rfl⟩, ?_⟩
      simp only [State.sectorEnds, h.flight, State.flightEnds, State.writeEnds]
      exact (finishBlock_last (s := (s.land.emptySlotAt i).onEng fun g => { g with completed := g.completed + 1 }) h.endWith h.executing
        hc hlast herr).trans (endTransfer_complete (s := ((s.land.emptySlotAt i).onEng fun g => { g with completed := g.completed + 1 }).onEng
          (Engine.advance l)) h.executing hc nofun _)
  obtain ⟨g, sl, hu, hgf, hgc, hge, hgs, hg1, hgd⟩ := hu
  have hbare : u.Bare := by
    rw [hu]
    exact ⟨h.endWith, hw, hd, hx, h.op, h.readWanted, hgf, h.supplied⟩
  have hmech := mechanical_quiet (s := s) (t := u) (by rw [hu]; rfl) (mechanical_of_quiet h.quiet h.supplied)
  have huq : u.queue = [e] := by rw [hu]; exact hq
  have hevent : (u.finished e.tag .ok).event = u.finished e.tag .ok := by
    refine event_of_quiet (hbare.finished_quiet hmech _ _) ?_
    rw [hu]
    exact ⟨hh.turn, hh.inb⟩
  refine ⟨_, exec_sectorEnd .., ?_⟩
  rw [hends, completeHead_last huq hbare.work, hevent]
  refine ⟨?_, rfl, (hbare.finished e.tag .ok).eng, finished_commandDone .., rfl, by rw [hu]; rfl, by rw [hu]; rfl,
    by rw [hu]; rfl⟩
  rw [hu]
  simp [State.finished, hgc, hge, hgs, hg1, hgd]

/-- The last block of a READ fills its slot, and the READ drains (R107, R108). -/
theorem readEnds_last {s : State} {e : Entry} {go : Bool} {l : List Extent} {i : Nat}
    (h : s.Transfers e ⟨.read, some i, false, false⟩) (hh : s.Hosted) (hlast : s.eng.seq + 1 = blocksOf l)
    (herr : s.eng.errors = 0) (hw : s.work = none) (hd : s.downs = ⟨none, none, none, false⟩) (hx : s.ccu.eject = none)
    (hc : e.cmd = .xfer .read go l) (htag : (s.slots[i]?).map Slot.tag = some (some e.tag)) (data : List Byte) :
    s.completes (.sectorEnd true data) fun t =>
      (∃ x, t.slots[i]? = some x ∧ x.state = .full ∧ x.data = data ∧ x.tag = some e.tag) ∧
      t.job = .drain .ok ∧ t.eng.state = .idle ∧ t.eng.completed = s.eng.completed ∧
      t.dbi = s.dbi ∧ t.queue = s.queue := by
  obtain ⟨x, hsx, hxt⟩ := Option.map_eq_some_iff.mp htag
  obtain ⟨u, hu⟩ : ∃ u : State, u = { s with
      job := .drain .ok, endWith := none
      slots := s.slots.modify i fun y => { y with state := .full, data := data }
      eng := { Engine.advance l { s.eng with flight := none } with state := .idle, place := none, flight := none } } :=
    ⟨_, rfl⟩
  have hends : s.sectorEnds true data = u := by
    rw [hu]
    simp only [State.sectorEnds, h.flight, State.flightEnds, State.readEnds]
    exact (finishBlock_last (s := s.land.onSlot i fun y => { y with state := .full, data := data }) h.endWith h.executing
      hc hlast herr).trans (endTransfer_read (s := (s.land.onSlot i fun y => { y with state := .full, data := data }).onEng
        (Engine.advance l)) h.executing hc _)
  have hslot : u.slots[i]? = some { x with state := .full, data := data } := by
    rw [hu]
    simp [hsx]
  have hmech := mechanical_quiet (s := s) (t := u) (by rw [hu]; rfl) (mechanical_of_quiet h.quiet h.supplied)
  have hbare : u.Bare := by
    rw [hu]
    exact ⟨rfl, hw, hd, hx, h.op, h.readWanted, rfl, h.supplied⟩
  have hsent : (u.slots.any fun y => y.tag == some e.tag && (y.state == .full || y.state == .draining)) = true :=
    List.any_eq_true.mpr ⟨_, List.mem_of_getElem? hslot, by simp [hxt]⟩
  have hux : u.executing = some e := by
    rw [hu]
    exact h.executing
  have huj : u.job = .drain .ok := by rw [hu]
  have hup : u.eng.place = none := by rw [hu]
  have hquiet : react u = none := by
    rw [react_of_head hbare hmech]
    have hbegin : reactBegin u = none := by
      simp only [State.executing] at hux
      cases hq : u.queue with
      | nil => simp only [reactBegin, hq]
      | cons a r =>
        have ha : a.executing = true := by
          simp only [hq, List.head?_cons] at hux
          split at hux
          · next hg => exact hg
          · cases hux
        simp [reactBegin, hq, ha, guarded]
    simp [headRules, reactEngine, hup, reactDrain, huj, hux, hsent, hbegin, reactReady, reactTransfer, guarded]
  refine ⟨_, exec_sectorEnd .., ?_⟩
  rw [hends, event_of_quiet hquiet (by rw [hu]; exact ⟨hh.turn, hh.inb⟩)]
  exact ⟨⟨_, hslot, rfl, rfl, hxt⟩, huj, by rw [hu], by rw [hu]; rfl, by rw [hu], by rw [hu]⟩

end Sys2Proof.Machine
end

section
/-! The sectors of the record (R5 to R7, R10, R11): one that is read, and one of a write-back that a FLUSH RECORD has
started, or its deferral. -/

namespace Sys2Proof.Machine

/-! ## A record read -/

/-- A record read goes on beside an idle drive, with its heads in flight over a disk at speed. -/
structure State.Reads (s : State) (r : RecordRead) (n i : Nat) : Prop extends State.Hosted s where
  queue : s.queue = []
  job : s.job = .idle
  endWith : s.endWith = none
  work : s.work = none
  downs : s.downs = ⟨none, none, none, false⟩
  eject : s.ccu.eject = none
  supplied : s.supplyLow = false
  readWanted : s.record.readWanted = false
  quiet : react s = none
  op : s.record.op = .reading r
  speed : s.spc.state = .atSpeed
  tracking : s.pos.state = .tracking
  eng : s.eng = { Engine.none with flight := some ⟨.recordRead n, some i, false, false⟩ }

theorem State.Reads.of_calm {s : State} {r : RecordRead} {n i : Nat}
    (hc : { s with record := { s.record with op := .idle }, eng := Engine.none }.calm = true) (hset : s.settled = true)
    (hs : s.spc.state = .atSpeed) (ht : s.pos.state = .tracking) (hop : s.record.op = .reading r)
    (he : s.eng = { Engine.none with flight := some ⟨.recordRead n, some i, false, false⟩ }) : s.Reads r n i := by
  have hc := calm_iff.mp hc
  exact ⟨⟨hc.turn, hc.inb⟩, hc.queue, hc.job, hc.endWith, hc.work, hc.downs, hc.eject, hc.supplied, hc.readWanted,
    quiet_of_settled hset, hop, hs, ht, he⟩

section

variable {s : State} {r : RecordRead} {n i : Nat} (h : s.Reads r n i)
include h

theorem State.Reads.lands (good : Bool) (data : List Byte) :
    s.sectorEnds good data = (s.land.emptySlotAt i).recordSectorRead r n good data := by
  simp [State.sectorEnds, h.eng, State.flightEnds, State.land, h.op]

/-- The seek of a record read stands, or the hold flag prevents another. -/
theorem State.Reads.placed : s.pos.hold = true ∨ s.inPlace 0 0 = true := by
  rcases react_eq_none.mp h.quiet with hl | hr
  · rw [h.supplied] at hl
    cases hl
  · have hr := hr reactRecordSeek (by simp [rules])
    cases hh : s.pos.hold with
    | true => exact .inl rfl
    | false =>
      refine .inr ?_
      cases hp : s.inPlace 0 0 with
      | true => rfl
      | false => simp [reactRecordSeek, h.op, h.tracking, PosState.flying, hh, hp, guarded] at hr

/-- The read goes on, or is over: no reaction follows the end of its sector. -/
theorem State.Reads.stays {t : State} {sl : List Slot} {rec : RecordUnit} {c : Counters} {req : Requester}
    (ht : t = { s with
      slots := sl, eng := Engine.none, record := rec, counters := c, pos := { s.pos with requester := req } })
    (hw : rec.readWanted = false) (hop : rec.op = .idle ∨ ∃ r', rec.op = .reading r') : t.event = t := by
  have hb : t.BesidesRecord := by
    rw [ht]
    exact ⟨h.queue, h.job, h.endWith, h.work, h.downs, h.eject, rfl, h.supplied⟩
  have hspeed : t.spc.state = .atSpeed := by rw [ht]; exact h.speed
  have hfly : t.pos.state.flying = true := by
    rw [ht]
    dsimp only
    rw [h.tracking]
    rfl
  have hrec : t.record = rec := by rw [ht]
  refine event_of_quiet ?_ (by rw [ht]; exact ⟨h.turn, h.inb⟩)
  rcases hop with hop | ⟨r', hop⟩
  · exact react_of_flying { hb with op := hrec ▸ hop, readWanted := hrec ▸ hw } hspeed hfly
  · refine (react_of_record hb hspeed hfly).2 (hrec ▸ hop) (hrec ▸ hw) ?_
    rw [ht]
    exact h.placed

omit h in
theorem dropRecordOp_reading (t : State) (hop : ∃ r', t.record.op = .reading r') (he : t.eng = Engine.none) :
    t.dropRecordOp = { t with
      record := { t.record with op := .idle },
      pos := { t.pos with requester := if t.pos.requester == .engine then .none else t.pos.requester } } := by
  obtain ⟨r', hop⟩ := hop
  simp [State.dropRecordOp, hop, RecordOp.slot, State.emptySlotOpt, he, Engine.none, State.onRec, State.onPos]

/-- A good sector of the record: the read goes on, or ends with its image, or UNREADABLE (R5 to R7). -/
theorem recordSector_good (data : List Byte) :
    s.completes (.sectorEnd true data) fun t =>
      t.slots = s.slots.modify i (fun _ => Slot.none) ∧ t.eng = Engine.none ∧ t.dbi = s.dbi ∧
      t.counters = s.counters ∧
      ((∃ x ∈ r.got.set n (some data), x = none) →
        t.record = { s.record with op := .reading { r with got := r.got.set n (some data) } }) ∧
      ((∀ x ∈ r.got.set n (some data), x ≠ none) → t.record.op = .idle ∧
        match checkRecord ((r.got.set n (some data)).flatMap fun x => x.getD []) with
        | .good img => t.record.state = .valid ∧ t.record.image = some img
        | .bad why => t.record.state = .unreadable ∧ t.record.reason = some why ∧ t.record.image = none) := by
  have hexec := exec_sectorEnd true data s
  rw [h.lands] at hexec
  obtain ⟨u, hu⟩ : ∃ u : State, u = { s with
      slots := s.slots.modify i fun _ => Slot.none, eng := Engine.none,
      record := { s.record with op := .reading { r with got := r.got.set n (some data) } } } := ⟨_, rfl⟩
  have hread : (s.land.emptySlotAt i).recordSectorRead r n true data =
      if (r.got.set n (some data)).all Option.isSome then
        u.finishRecordRead { r with got := r.got.set n (some data) } else u := by
    have hland : (s.land.emptySlotAt i).onRec (fun v => { v with
        op := .reading { r with got := r.got.set n (some data) } }) = u := by
      rw [hu]
      simp [State.land, State.onEng, State.emptySlotAt, State.onSlot, State.setSlots, State.onRec, h.eng, Engine.none]
    simp only [State.recordSectorRead, hland, if_true]
  rw [hread] at hexec
  cases hall : (r.got.set n (some data)).all Option.isSome with
  | false =>
    have hev : u.event = u := h.stays hu h.readWanted (.inr ⟨_, rfl⟩)
    rw [hall, if_neg Bool.false_ne_true, hev] at hexec
    refine ⟨u, hexec, by rw [hu], by rw [hu], by rw [hu], by rw [hu], fun _ => by rw [hu], fun hno => ?_⟩
    obtain ⟨x, hx, hxn⟩ := List.all_eq_false.mp hall
    exact absurd (by simpa using hxn) (hno x hx)
  | true =>
    rw [hall, if_pos rfl] at hexec
    have hno : ∀ {Q : Prop}, (∃ x ∈ r.got.set n (some data), x = none) → Q := by
      rintro Q ⟨x, hx, rfl⟩
      have := List.all_eq_true.mp hall none hx
      cases this
    have hdrop := dropRecordOp_reading u ⟨_, by rw [hu]⟩ (by rw [hu])
    cases hcheck : checkRecord ((r.got.set n (some data)).flatMap fun x => x.getD []) with
    | good img =>
      obtain ⟨v, hv⟩ : ∃ v : State, v = u.finishRecordRead { r with got := r.got.set n (some data) } := ⟨_, rfl⟩
      rw [← hv] at hexec
      simp only [State.finishRecordRead, hdrop, hcheck] at hv
      rw [hu] at hv
      have hev : v.event = v := h.stays hv h.readWanted (.inl rfl)
      rw [hev] at hexec
      refine ⟨v, hexec, by rw [hv]; rfl, by rw [hv]; rfl, by rw [hv]; rfl, by rw [hv]; rfl, hno, fun _ => ?_⟩
      rw [hv]
      exact ⟨rfl, rfl, rfl⟩
    | bad why =>
      obtain ⟨v, hv⟩ : ∃ v : State, v = u.finishRecordRead { r with got := r.got.set n (some data) } := ⟨_, rfl⟩
      rw [← hv] at hexec
      simp only [State.finishRecordRead, hdrop, hcheck] at hv
      rw [hu] at hv
      have hev : v.event = v := h.stays hv h.readWanted (.inl rfl)
      rw [hev] at hexec
      refine ⟨v, hexec, by rw [hv]; rfl, by rw [hv]; rfl, by rw [hv]; rfl, by rw [hv]; rfl, hno, fun _ => ?_⟩
      rw [hv]
      exact ⟨rfl, rfl, rfl, rfl⟩

/-- A CHECK_ERROR of a record sector: it is retried, or the record is UNREADABLE (R5, R6). -/
theorem recordSector_bad (data : List Byte) :
    s.completes (.sectorEnd false data) fun t =>
      t.slots = s.slots.modify i (fun _ => Slot.none) ∧ t.eng = Engine.none ∧
      (r.retries.getD n 0 < s.tbs.params.readRetries →
        t.record.op = .reading { r with retries := r.retries.modify n (· + 1) } ∧
        t.counters.readRetries = min 65535 (s.counters.readRetries + 1)) ∧
      (s.tbs.params.readRetries ≤ r.retries.getD n 0 →
        t.record.state = .unreadable ∧ t.record.reason = some .check ∧ t.record.image = none ∧
        t.record.op = .idle) := by
  have hexec := exec_sectorEnd false data s
  rw [h.lands] at hexec
  obtain ⟨u, hu⟩ : ∃ u : State, u = { s with
      slots := s.slots.modify i fun _ => Slot.none, eng := Engine.none } := ⟨_, rfl⟩
  have hland : s.land.emptySlotAt i = u := by
    rw [hu]
    simp [State.land, State.onEng, State.emptySlotAt, State.onSlot, State.setSlots, h.eng, Engine.none]
  rw [hland] at hexec
  have htbs : u.tbs = s.tbs := by rw [hu]
  by_cases hr : r.retries.getD n 0 < s.tbs.params.readRetries
  · obtain ⟨v, hv⟩ : ∃ v : State, v = u.recordSectorRead r n false data := ⟨_, rfl⟩
    rw [← hv] at hexec
    rw [State.recordSectorRead, if_neg Bool.false_ne_true, htbs, if_pos hr, hu] at hv
    have hev : v.event = v := h.stays hv h.readWanted (.inr ⟨_, rfl⟩)
    rw [hev] at hexec
    refine ⟨v, hexec, by rw [hv]; rfl, by rw [hv]; rfl, fun _ => ?_, fun hle => absurd hle (Nat.not_le_of_lt hr)⟩
    rw [hv]
    exact ⟨rfl, rfl⟩
  · obtain ⟨v, hv⟩ : ∃ v : State, v = u.recordSectorRead r n false data := ⟨_, rfl⟩
    rw [← hv] at hexec
    rw [State.recordSectorRead, if_neg Bool.false_ne_true, htbs, if_neg hr,
      dropRecordOp_reading u ⟨r, by rw [hu]; exact h.op⟩ (by rw [hu]), hu] at hv
    have hev : v.event = v := h.stays hv h.readWanted (.inl rfl)
    rw [hev] at hexec
    refine ⟨v, hexec, by rw [hv]; rfl, by rw [hv]; rfl, fun hlt => absurd hlt hr, fun _ => ?_⟩
    rw [hv]
    exact ⟨rfl, rfl, rfl, rfl⟩

end

/-! ## The write-back of a FLUSH RECORD -/

/-- A FLUSH RECORD at the head of the queue has its write-back in flight, and nothing else is under way. -/
structure State.Writes (s : State) (e : Entry) (w : WriteBack) (i : Nat) : Prop extends State.Hosted s where
  queue : s.queue = [e]
  cmd : e.cmd = .flush
  executing : e.executing = true
  job : s.job = .flush
  endWith : s.endWith = none
  work : s.work = none
  downs : s.downs = ⟨none, none, none, false⟩
  eject : s.ccu.eject = none
  supplied : s.supplyLow = false
  readWanted : s.record.readWanted = false
  quiet : react s = none
  op : s.record.op = .writing w
  slot : w.slot = some i
  speed : s.spc.state = .atSpeed
  tracking : s.trackingOn 0 0 = true
  untagged : ∀ x ∈ s.slots, x.tag = none

section

variable {s : State} {e : Entry} {w : WriteBack} {i : Nat} (h : s.Writes e w i)
include h

theorem State.Writes.heads : s.pos.state = .tracking ∧ s.pos.target = some 0 ∧ s.pos.head = 0 := by
  have := h.tracking
  simp only [State.trackingOn, Bool.and_eq_true, beq_iff_eq] at this
  exact ⟨this.1.1, this.1.2, this.2⟩

theorem State.Writes.reached : w.reached = true := by
  rcases react_eq_none.mp h.quiet with hl | hr
  · rw [h.supplied] at hl
    cases hl
  · have hr := hr reactReached (by simp [rules])
    simp only [reactReached, h.op, h.tracking] at hr
    cases hw : w.reached with
    | true => rfl
    | false => simp [hw, guarded] at hr

/-- The write-back stays quiet at its next sector, and while its own sector passes. -/
theorem State.Writes.stays {t : State} {sl : List Slot} {g : Engine} {w' : WriteBack} {c : Counters}
    (ht : t = { s with slots := sl, eng := g, record := { s.record with op := .writing w' }, counters := c })
    (hslot : w'.slot = some i) (hreach : w'.reached = true) (hplace : g.place = none) :
    t.event = t := by
  obtain ⟨hst, htarget, hhead⟩ := h.heads
  have hmech := mechanical_quiet (s := s) (t := t) (by rw [ht]; rfl) (mechanical_of_quiet h.quiet h.supplied)
  have hmech : ∀ r ∈ mechanical, r t = none := List.findSome?_eq_none_iff.mp hmech
  simp only [mechanical, List.forall_mem_cons] at hmech
  obtain ⟨m1, m2, m3, m4, m5, m6, -⟩ := hmech
  have hflight : reactFlight t = none := by
    cases hg : g.flight with
    | none => exact reactFlight_of_none (by rw [ht]; exact hg)
    | some f =>
      exact reactFlight_tracking (s := t) (f := f) (by rw [ht]; exact hg) (by rw [ht]; exact hst)
        (fun _ => by rw [ht]; exact h.speed)
  have hex : t.executing = some e := by simp [State.executing, ht, h.queue, h.executing]
  have hready : t.spindleReady = true := by simp [State.spindleReady, ht, h.speed, hst, PosState.flying]
  have hplaced : t.inPlace 0 0 = true := by simp [State.inPlace, ht, hst, PosState.flying, htarget, hhead]
  have hrecslot : reactRecordSlot t = none := by
    have hop : t.record.op = .writing w' := by rw [ht]
    simp only [reactRecordSlot, hop]
    cases t.emptySlot with
    | none => rfl
    | some j => simp [hslot, guarded]
  have hjob : t.job = .flush := by rw [ht]; exact h.job
  refine event_of_quiet ?_ (by rw [ht]; exact ⟨h.turn, h.inb⟩)
  rw [react_eq_none]
  refine .inr ?_
  simp only [rules, List.forall_mem_cons]
  refine ⟨m1, hflight, ?_, m2, m3, ?_, ?_, ?_, ?_, m4, m5, m6, ?_, ?_, ?_, ?_, ?_, ?_, hrecslot, ?_, ?_, ?_, ?_, ?_, ?_, ?_,
    ?_, ?_, ?_, nofun⟩
  · simp [reactRecordLost, State.recordOpLost, hready, guarded]
  · simp [reactEjecting, ht, h.eject, guarded]
  · simp [reactStopped, ht, h.downs]
  · simp [reactParked, ht, h.downs]
  · simp [reactEjectParked, ht, h.eject, guarded]
  · simp [reactWorkCut, ht, h.work]
  · simp [reactEnd, ht, h.endWith]
  · simp [reactWork, ht, h.work]
  · simp [reactReadDue, ht, h.readWanted, guarded]
  · simp [reactReached, ht, hreach, guarded]
  · simp [reactRecordSeek, hplaced, guarded]
  · simp [reactEngine, ht, hplace]
  · simp [reactDrain, ht, h.job]
  · simp [reactDown, Downs.stepOf, ht, h.downs]
  · simp [reactDown, Downs.stepOf, ht, h.downs]
  · simp [reactDown, Downs.stepOf, ht, h.downs]
  · simp [reactEject, ht, h.eject]
  · simp [reactBegin, ht, h.queue, h.executing, guarded]
  · simp [reactStranded, hex, hjob, guarded]
  · simp [reactReady, hex, hjob, guarded]
  · simp [reactTransfer, ht, h.job, guarded]

/-- The end of the write-back completes the FLUSH RECORD, and nothing follows. -/
theorem State.Writes.ends {t : State} {rec : RecordUnit} {req : Requester} {sl : List Slot}
    (ht : t = { s with slots := sl, eng := Engine.none, record := rec, pos := { s.pos with requester := req } })
    (hsl : ∀ x ∈ sl, x.tag = none) (hop : rec.op = .idle) (hw : rec.readWanted = false) (st : Status) :
    let u := t.completeHead st
    u.event = u ∧ u.dbi.replies = s.dbi.replies ++ [.done e.tag st 0 0 0 none none] ∧ u.queue = [] ∧
      u.record = rec ∧ u.eng = Engine.none ∧ u.requested .commandDone = true ∧ u.slots = sl := by
  have hbare : t.Bare := by
    rw [ht]
    exact ⟨h.endWith, h.work, h.downs, h.eject, hop, hw, rfl, h.supplied⟩
  have hmech := mechanical_quiet (s := s) (t := t) (by rw [ht]; rfl) (mechanical_of_quiet h.quiet h.supplied)
  have hfin : t.completeHead st = t.finished e.tag st := completeHead_last (by rw [ht]; exact h.queue) hbare.work st
  dsimp only
  rw [hfin]
  refine ⟨event_of_quiet (hbare.finished_quiet hmech _ _) (by rw [ht]; exact ⟨h.turn, h.inb⟩), by rw [ht]; rfl, rfl,
    by rw [ht]; rfl, (hbare.finished e.tag st).eng, finished_commandDone .., ?_⟩
  rw [ht]
  refine (List.map_congr_left fun x hx => ?_).trans (List.map_id _)
  simp [Slot.release, hsl x hx]

theorem State.Writes.emptied : ∀ x ∈ s.slots.modify i (fun _ => Slot.none), x.tag = none := by
  intro x hx
  obtain ⟨j, hj⟩ := List.mem_iff_getElem?.mp hx
  rw [List.getElem?_modify] at hj
  cases hs : s.slots[j]? with
  | none => simp [hs] at hj
  | some y =>
    by_cases hij : i = j
    · simp [hs, hij] at hj
      rw [← hj]
      rfl
    · simp [hs, hij] at hj
      exact hj ▸ h.untagged y (List.mem_of_getElem? hs)

omit h in
theorem modify_modify_const {l : List Slot} (x : Slot) :
    (l.modify i fun _ => x).modify i (fun _ => x) = l.modify i fun _ => x := by
  refine List.ext_getElem? fun j => ?_
  simp only [List.getElem?_modify]
  cases l[j]? with
  | none => rfl
  | some y => by_cases hij : i = j <;> simp [hij]

omit h in
theorem dropRecordOp_writing {t : State} (hop : t.record.op = .writing w) (hs : w.slot = some i)
    (he : t.eng = Engine.none) : t.dropRecordOp = { t with
      slots := t.slots.modify i fun _ => Slot.none, record := { t.record with op := .idle },
      pos := { t.pos with requester := if t.pos.requester == .engine then .none else t.pos.requester } } := by
  simp [State.dropRecordOp, hop, RecordOp.slot, State.emptySlotOpt, hs, State.emptySlotAt, State.onSlot, State.setSlots, he,
    Engine.none, State.onRec, State.onPos]

/-- The command's write-back is over: the FLUSH RECORD completes (R11, R12). -/
theorem State.Writes.flushEnds {t : State} (hend : t.endWith = none) (hq : t.queue = [e]) :
    t.writeBackEnds .cmd true = t.completeHead .ok ∧ t.writeBackEnds .cmd false = t.completeHead .recordWriteFailed := by
  have hx : t.executing.map Entry.cmd = some .flush := by simp [State.executing, hq, h.executing, h.cmd]
  constructor
  · simp only [State.writeBackEnds, hend, hx]
    rfl
  · simp only [State.writeBackEnds, hend]
    rfl

/-- The last sector of the record is written (R10). -/
theorem recordWritten_last {img : Image} (himg : s.record.image = some img) (howner : w.owner = .cmd) (hn : w.next = 21)
    (he : s.eng = { Engine.none with flight := some ⟨.recordWrite, some i, false, false⟩ }) (data : List Byte)
    (good : Bool) : s.completes (.sectorEnd good data) fun t =>
      (t.dbi.replies = s.dbi.replies ++ [.done e.tag .ok 0 0 0 none none] ∧ t.queue = [] ∧
        t.record.op = .idle ∧ t.eng = Engine.none ∧ t.requested .commandDone = true ∧
        t.slots = s.slots.modify i (fun _ => Slot.none)) ∧
      t.record.state = .valid ∧ t.record.image = some { img with generation := w.generation } := by
  have hexec := exec_sectorEnd good data s
  obtain ⟨u, hu⟩ : ∃ u : State, u = { s with slots := s.slots.modify i fun _ => Slot.none, eng := Engine.none } :=
    ⟨_, rfl⟩
  have hends : s.sectorEnds good data =
      u.finishWriteBack { w with next := w.next + 1, deferrals := 0, slot := none } := by
    have hland : s.land.emptySlotAt i = u := by
      rw [hu]
      simp [State.land, State.onEng, State.emptySlotAt, State.onSlot, State.setSlots, he, Engine.none]
    have hlast : ¬ w.next + 1 < Config.recordSectors := by simp [hn, Config.recordSectors]
    have hop : s.land.record.op = .writing w := h.op
    simp [State.sectorEnds, he, State.flightEnds, hop, hland, State.recordSectorWritten, hlast]
  rw [hends] at hexec
  obtain ⟨v, hv⟩ : ∃ v : State, v = u.dropRecordOp.onRec fun r => { r with
      state := .valid, image := r.image.map fun x => { x with generation := w.generation },
      check := r.image.map fun _ => storedCheck w.sectors.flatten } := ⟨_, rfl⟩
  have hfin : u.finishWriteBack { w with next := w.next + 1, deferrals := 0, slot := none } = v.writeBackEnds .cmd true := by
    rw [hv, ← howner]
    rfl
  rw [dropRecordOp_writing (w := w) (by rw [hu]; exact h.op) h.slot (by rw [hu]), hu] at hv
  rw [hfin, (h.flushEnds (by rw [hv]; exact h.endWith) (by rw [hv]; exact h.queue)).1] at hexec
  obtain ⟨hev, hrep, hq, hrec, heng, hreq, hsl⟩ := h.ends hv (fun x hx => h.emptied x (modify_modify_const _ ▸ hx)) rfl
    h.readWanted .ok
  rw [hev] at hexec
  refine ⟨_, hexec, ⟨hrep, hq, by rw [hrec], heng, hreq, hsl.trans (modify_modify_const _)⟩, by rw [hrec], ?_⟩
  rw [hrec]
  simp [himg]

section

variable (he : s.eng = Engine.none)
include he

theorem recordArrives : s.sectorArrives w.next = s.recordWriteArrives w w.next := by
  simp [State.sectorArrives, h.supplied, he, Engine.none, h.op]

theorem recordArrives_gated (hg : s.writeGate = true) :
    exec (.sectorArrival w.next) s = .next { s with
      slots := s.slots.modify i fun y => { y with state := .draining },
      eng := { Engine.none with flight := some ⟨.recordWrite, some i, false, false⟩ } } := by
  obtain ⟨u, hu⟩ : ∃ u : State, u = { s with
      slots := s.slots.modify i fun y => { y with state := .draining },
      eng := { Engine.none with flight := some ⟨.recordWrite, some i, false, false⟩ },
      record := { s.record with op := .writing w }, counters := s.counters } := ⟨_, rfl⟩
  have harr : s.sectorArrives w.next = u := by
    rw [recordArrives h he, hu, ← h.op, ← he]
    simp [State.recordWriteArrives, h.tracking, h.slot, hg, State.fly, State.onEng, State.onSlot, State.setSlots]
  rw [exec_sectorArrival, harr, h.stays hu h.slot h.reached rfl, hu, ← h.op]

theorem recordArrives_deferred (hg : s.writeGate = false) (hd : w.deferrals < s.tbs.params.writeRetries) :
    exec (.sectorArrival w.next) s = .next { s with
      record := { s.record with op := .writing { w with deferrals := w.deferrals + 1 } },
      counters := { s.counters with writeDeferrals := min 65535 (s.counters.writeDeferrals + 1) } } := by
  obtain ⟨u, hu⟩ : ∃ u : State, u = { s with
      slots := s.slots, eng := s.eng,
      record := { s.record with op := .writing { w with deferrals := w.deferrals + 1 } },
      counters := { s.counters with writeDeferrals := min 65535 (s.counters.writeDeferrals + 1) } } := ⟨_, rfl⟩
  have harr : s.sectorArrives w.next = u := by
    rw [recordArrives h he, hu]
    simp [State.recordWriteArrives, h.tracking, h.slot, hg, State.recordSectorDeferred, hd, State.onRec,
      State.countDeferral, State.onCounters, bump, satAdd, Config.counterTop]
  rw [exec_sectorArrival, harr, h.stays hu h.slot h.reached (by rw [he]; rfl), hu]

theorem recordArrives_fails (howner : w.owner = .cmd) (hg : s.writeGate = false)
    (hd : s.tbs.params.writeRetries ≤ w.deferrals) : s.completes (.sectorArrival w.next) fun t =>
      (t.dbi.replies = s.dbi.replies ++ [.done e.tag .recordWriteFailed 0 0 0 none none] ∧ t.queue = [] ∧
        t.record.op = .idle ∧ t.eng = Engine.none ∧ t.requested .commandDone = true ∧
        t.slots = s.slots.modify i (fun _ => Slot.none)) ∧
      t.record.state = s.record.state ∧ t.record.image = s.record.image := by
  have hexec := exec_sectorArrival w.next s
  obtain ⟨v, hv⟩ : ∃ v : State, v = s.dropRecordOp := ⟨_, rfl⟩
  have harr : s.sectorArrives w.next = v.writeBackEnds .cmd false := by
    rw [recordArrives h he, hv, ← howner]
    simp [State.recordWriteArrives, h.tracking, h.slot, hg, State.recordSectorDeferred, Nat.not_lt_of_le hd,
      State.failWriteBack, h.op]
  rw [dropRecordOp_writing h.op h.slot he, he] at hv
  rw [harr, (h.flushEnds (by rw [hv]; exact h.endWith) (by rw [hv]; exact h.queue)).2] at hexec
  obtain ⟨hev, hrep, hq, hrec, heng, hreq, hsl⟩ := h.ends hv h.emptied rfl h.readWanted .recordWriteFailed
  rw [hev] at hexec
  exact ⟨_, hexec, ⟨hrep, hq, by rw [hrec], heng, hreq, hsl⟩, by rw [hrec], by rw [hrec]⟩

end

end

/-- Settles O40: the last sectors of transfers, sectors that are retried, gated or deferred, and the sectors of record
reads and write-backs. -/
theorem sectorEnds_spec : Obligations.SectorEnds := by
  unfold Obligations.SectorEnds
  refine ⟨fun s e go l data i hset ht hin hl hj hend hx hop hr hst => ?_,
    fun s tag go l n i x hset ht hin hl hj hop hf hst hp => ?_,
    fun s r n i data hc hset hs ht hop hn hg he => ?_,
    fun s w e img i data good hc hset hq hcmd hx hj hcc hop howner hslot himg htr hs hun => ?_⟩
  · have hquiet := quiet_of_settled hset
    have hh : s.Hosted := ⟨ht, hin⟩
    have hT {f : Flight} (hf : s.eng.flight = some f) : s.Transfers e f := ⟨hquiet, hl, hj, hend, hx, hop, hr, hst, hf⟩
    refine ⟨fun _ hf hlt => readEnds_retry (hT hf) hh hlt data, fun hq hlast herr hw hd hej hk => ?_,
      fun hc hf hlast herr _ htag hw hd hej => readEnds_last (hT hf) hh hlast herr hw hd hej hc htag data⟩
    rcases hk with ⟨hc, hf⟩ | ⟨hc, hf⟩
    · exact sectorEnds_last (i := i) (hT hf) hh hq hlast herr hw hd hej hc (.inl ⟨rfl, rfl⟩) data
    · exact sectorEnds_last (i := i) (hT hf) hh hq hlast herr hw hd hej hc (.inr ⟨rfl, rfl⟩) data
  · obtain ⟨p, hp, hsec⟩ := Option.map_eq_some_iff.mp hp
    have hW : s.Waits p := ⟨quiet_of_settled hset, hl, hj, hop, hf, hst, hp⟩
    have hh : s.Hosted := ⟨ht, hin⟩
    exact ⟨verifyArrives_passes hW hh hsec, fun hx hi => ⟨writeArrives_gated hW hh hsec hx hi,
      fun hg hs hr => writeArrives_deferred hW hh hsec hx hi hg hs hr⟩⟩
  · have hR := State.Reads.of_calm hc hset hs ht hop he
    exact ⟨recordSector_good hR data, recordSector_bad hR data⟩
  · have hc := calm_iff.mp hc
    have hW : s.Writes e w i := ⟨⟨hc.turn, hc.inb⟩, hq, hcmd, hx, hj, hc.endWith, hc.work, hc.downs, hc.eject,
      hc.supplied, hc.readWanted, quiet_of_settled hset, hop, hslot, hs, htr, hun⟩
    exact ⟨fun hn he => recordWritten_last hW himg howner hn he data good, fun he => recordArrives_gated hW he,
      fun he => recordArrives_deferred hW he, fun he => recordArrives_fails hW he howner⟩

end Sys2Proof.Machine
end

section
/-! The admission of the medium commands (R96): the acceptance checks in their order, and an entry that waits behind
another. -/

namespace Sys2Proof.Machine

theorem exec_medium {i : Instr} {tag : Byte} {c : MediumCmd} (h : mediumOf i = some (tag, c)) (s : State) :
    exec i s = .next (s.command i fun u => u.enqueue tag c) := by
  cases i <;> simp only [mediumOf, Option.some.injEq, Prod.mk.injEq, reduceCtorEq] at h <;>
    (obtain ⟨rfl, rfl⟩ := h; rfl)

theorem exec_medium_listens {s : State} {i : Instr} {tag : Byte} {c : MediumCmd} (h : mediumOf i = some (tag, c))
    (hf : packetFramed i = true) (hl : s.listens = true) : exec i s = .next (s.enqueue tag c) := by
  rw [exec_medium h, command_of_framed _ hl hf]

theorem enqueue_refused {s : State} {tag : Byte} {c : MediumCmd} {st : Status} (h : s.admissionRefused tag c = some st) :
    s.enqueue tag c = s.withReply tag st .empty := by
  simp only [State.enqueue, h]
  rfl

/-! ## The checks in their order -/

section

variable {s : State} {tag : Byte} {c : MediumCmd}

theorem refused_closed (h : s.ccu.state = .ejectPending ∨ s.ccu.state = .ejecting) :
    s.admissionRefused tag c = some .ejectPending := by
  have hg : (s.ccu.state == .ejectPending || s.ccu.state == .ejecting) = true := by simpa using h
  rw [State.admissionRefused, hg, if_pos rfl]

variable (hopen : ¬(s.ccu.state = .ejectPending ∨ s.ccu.state = .ejecting))
include hopen

/-- With the cartridge not being ejected, the check of the queue's length is the first. -/
theorem refused_open : s.admissionRefused tag c =
    if 4 ≤ s.queue.length then some .queueFull
    else if s.queue.any fun e => e.tag == tag then some .tagInUse
    else if c.needsCartridge && s.ccu.state == .absent then some .noCartridge
    else if c.writes && s.ccu.protect then some .writeProtected
    else if c.malformed then some .badExtents
    else if s.outOfRange c then some .badAddress
    else none := by
  have hg : (s.ccu.state == .ejectPending || s.ccu.state == .ejecting) = false := by
    simpa using hopen
  rw [State.admissionRefused, hg, if_neg Bool.false_ne_true]
  rfl

theorem refused_full (h : 4 ≤ s.queue.length) : s.admissionRefused tag c = some .queueFull := by
  rw [refused_open hopen, if_pos h]

variable (hroom : s.queue.length < 4)
include hroom

theorem refused_inUse (h : ∃ e ∈ s.queue, e.tag = tag) : s.admissionRefused tag c = some .tagInUse := by
  have hg : (s.queue.any fun e => e.tag == tag) = true := by simpa using h
  rw [refused_open hopen, if_neg (Nat.not_le_of_lt hroom), hg, if_pos rfl]

variable (hfresh : ¬∃ e ∈ s.queue, e.tag = tag)
include hfresh

/-- An entry with a place in the queue and a tag of its own meets the checks of the cartridge and the operands. -/
theorem refused_fresh : s.admissionRefused tag c =
    if c.needsCartridge && s.ccu.state == .absent then some .noCartridge
    else if c.writes && s.ccu.protect then some .writeProtected
    else if c.malformed then some .badExtents
    else if s.outOfRange c then some .badAddress
    else none := by
  have hg : (s.queue.any fun e => e.tag == tag) = false := by simpa using hfresh
  rw [refused_open hopen, if_neg (Nat.not_le_of_lt hroom), hg, if_neg Bool.false_ne_true]

theorem refused_noCartridge (hn : c.needsCartridge = true) (ha : s.ccu.state = .absent) :
    s.admissionRefused tag c = some .noCartridge := by
  simp [refused_fresh hopen hroom hfresh, hn, ha]

theorem refused_protected (hw : c.writes = true) (ha : s.ccu.state ≠ .absent) (hp : s.ccu.protect = true) :
    s.admissionRefused tag c = some .writeProtected := by
  simp [refused_fresh hopen hroom hfresh, hw, ha, hp]

theorem refused_malformed (ha : s.ccu.state ≠ .absent) (hp : c.writes = true → s.ccu.protect = false)
    (hm : c.malformed = true) : s.admissionRefused tag c = some .badExtents := by
  have hg : (c.writes && s.ccu.protect) = false := by simpa using hp
  simp [refused_fresh hopen hroom hfresh, ha, hg, hm]

theorem refused_outOfRange (ha : s.ccu.state ≠ .absent) (hp : c.writes = true → s.ccu.protect = false)
    (hm : c.malformed = false) (ho : s.outOfRange c = true) : s.admissionRefused tag c = some .badAddress := by
  have hg : (c.writes && s.ccu.protect) = false := by simpa using hp
  simp [refused_fresh hopen hroom hfresh, ha, hg, hm, ho]

theorem refused_none (ha : s.ccu.state ≠ .absent) (hp : s.ccu.protect = false) (hm : c.malformed = false)
    (ho : s.outOfRange c = false) : s.admissionRefused tag c = none := by
  simp [refused_fresh hopen hroom hfresh, ha, hp, hm, ho]

end

theorem extentsBad_iff {l : List Extent} : extentsBad l = true ↔
    l = [] ∨ 8 < l.length ∨ (∃ x ∈ l, x.count = 0 ∨ 256 < x.count) ∨ 2048 < blocksOf l := by
  simp [extentsBad, or_assoc]

/-! ## An entry that waits behind another -/

theorem enqueue_admitted {s : State} {tag : Byte} {c : MediumCmd} (h : s.admissionRefused tag c = none) :
    s.enqueue tag c = State.settle { s.withReply tag .queued .empty with queue := s.queue ++ [⟨tag, c, false⟩] } := by
  simp only [State.enqueue, h]
  rfl

theorem enqueue_behind {s : State} {tag : Byte} {c : MediumCmd} (h : s.admissionRefused tag c = none)
    (hq : react s = none) (hne : s.queue ≠ []) :
    s.enqueue tag c = { s.withReply tag .queued .empty with queue := s.queue ++ [⟨tag, c, false⟩] } := by
  rw [enqueue_admitted h]
  refine settle_of_quiet (quiet_of_watches (s := s) ?_ (fun _ _ h => h) (fun _ _ _ _ h => h) hq)
  have hhead : (s.queue ++ [(⟨tag, c, false⟩ : Entry)]).head? = s.queue.head? := by
    cases hs : s.queue with
    | nil => exact absurd hs hne
    | cons e rest => rfl
  simp only [State.watches, hhead]
  rfl

/-- Settles O44: each acceptance check refuses when the ones before it pass, and a command that passes them all behind
another entry waits at the tail. -/
theorem mediumAdmission : Obligations.MediumAdmission := by
  unfold Obligations.MediumAdmission
  refine ⟨fun s i tag c hm hf hl => ?_, fun s i tag c hm hf hl hset hst hp hne hlen hfresh hmal hout => ?_⟩
  · have refuse {st : Status} (h : s.admissionRefused tag c = some st) :
        exec i s = .next (s.withReply tag st .empty) := by
      rw [exec_medium_listens hm hf hl, enqueue_refused h]
    refine ⟨fun hc => refuse (refused_closed hc), fun ho h4 => refuse (refused_full ho h4),
      fun ho h4 hu => refuse (refused_inUse ho h4 hu), fun ho h4 hu => ⟨fun hn ha => refuse
        (refused_noCartridge ho h4 hu hn ha), fun hw ha hp => refuse (refused_protected ho h4 hu hw ha hp), ?_, ?_, ?_⟩⟩
    · rintro n rfl ha hn
      exact refuse (refused_outOfRange ho h4 hu ha nofun rfl (decide_eq_true hn))
    · rintro l rfl ha hp img himg hcap
      exact refuse (refused_outOfRange ho h4 hu ha (fun _ => hp) rfl
        (by simpa [State.outOfRange, State.capacity, himg] using hcap))
    · rintro k g l rfl ha hp
      have hp : (MediumCmd.xfer k g l).writes = true → s.ccu.protect = false := by
        intro hw
        cases k with
        | write => exact hp rfl
        | _ => cases hw
      refine ⟨fun hbad => refuse (refused_malformed ho h4 hu ha hp (extentsBad_iff.mpr hbad)),
        fun hgood img himg hcap => refuse (refused_outOfRange ho h4 hu ha hp ?_ ?_)⟩
      · simpa only [MediumCmd.malformed, Bool.eq_false_iff, ne_eq, extentsBad_iff] using hgood
      · simpa [State.outOfRange, State.capacity, himg, pastCapacity] using hcap
  · rw [exec_medium_listens hm hf hl, enqueue_behind (refused_none (by simp [hst]) hlen (by simpa using hfresh)
      (by simp [hst]) hp hmal hout) (quiet_of_settled hset) hne]

end Sys2Proof.Machine
end

section
/-! The head entry alone at work: its reactions with a work of SPIN UP or SPIN DOWN, from its admission on, and the
commands that complete in that event (R50, R51, R12, R92, R100). -/

namespace Sys2Proof.Machine

/-! ## The head entry and its works -/

/-- The head entry and its own works alone are in progress. -/
structure State.Solo (s : State) : Prop where
  endWith : s.endWith = none
  cut : s.work.bind SpinUpWork.cut = none
  standby : s.downs.standby = none
  orphan : s.downs.orphan = none
  notLeft : s.downs.standbyLeft = false
  eject : s.ccu.eject = none
  op : s.record.op = .idle
  readWanted : s.record.readWanted = false
  flight : s.eng.flight = none
  supplied : s.supplyLow = false

/-- The reactions of the head entry and of its works. -/
def soloRules : List (State → Option State) :=
  [reactStopped, reactParked, reactWork, reactEngine, reactDrain, reactDown .cmd, reactBegin, reactReady, reactTransfer]

/-- With the disk, the heads and the latch at rest the head entry and its works alone react. -/
theorem react_of_solo {s : State} (h : s.Solo) (hm : mechanical.findSome? (fun r => r s) = none) :
    react s = soloRules.findSome? fun r => r s := by
  obtain ⟨he, hc, hd, ho, hl, hx, hop, hr, hf, hs⟩ := h
  rw [List.findSome?_eq_none_iff] at hm
  simp only [mechanical, List.forall_mem_cons] at hm
  obtain ⟨m1, m2, m3, m4, m5, m6, -⟩ := hm
  have hfree : (reactDown .standby s = none ∧ reactDown .orphan s = none) := by
    simp [reactDown, Downs.stepOf, hd, ho]
  cases hex : s.executing <;>
  simp [react, rules, soloRules, List.findSome?_cons, hs, m1, m2, m3, m4, m5, m6, hfree, reactFlight, reactRecordLost,
    State.recordOpLost, reactEjecting, reactEjectParked, reactWorkCut, reactEnd, reactReadDue, reactReached,
    reactRecordSeek, reactRecordSlot, reactEject, reactStranded, guarded, he, hc, hl, hx, hop, hr, hf, hex]

theorem State.Bare.solo {s : State} (h : s.Bare) : s.Solo :=
  ⟨h.endWith, by rw [h.work]; rfl, by rw [h.downs], by rw [h.downs], by rw [h.downs], h.eject, h.op, h.readWanted, h.flight,
    h.supplied⟩

/-! ## An admitted command -/

/-- The command stands alone in the queue, WAITING, and QUEUED is placed. -/
def State.admitted (tag : Byte) (c : MediumCmd) (s : State) : State :=
  { s.withReply tag .queued .empty with queue := [⟨tag, c, false⟩] }

/-- The command has begun. -/
def State.begun (tag : Byte) (c : MediumCmd) (s : State) : State :=
  { s.withReply tag .queued .empty with queue := [⟨tag, c, true⟩] }

theorem enqueue_of_calm {s : State} (h : s.Calm) {tag : Byte} {c : MediumCmd} (hr : s.admissionRefused tag c = none) :
    s.enqueue tag c = (s.admitted tag c).settle := by
  rw [enqueue_admitted hr, h.queue]
  rfl

section

variable {s : State} (h : s.Calm) (tag : Byte) (c : MediumCmd)
include h

theorem begun_bare : (s.begun tag c).Bare :=
  ⟨h.endWith, h.work, h.downs, h.eject, h.op, h.readWanted, by
    change s.eng.flight = none
    rw [h.eng]
    rfl, h.supplied⟩

theorem begun_mechanical : mechanical.findSome? (fun r => r (s.begun tag c)) = none :=
  mechanical_quiet (s := s) rfl h.mechanical

/-- The entry begins (R98): with a LATCHED record it completes FAULTED at once. -/
theorem react_admitted (hw : s.retryWait = false) : react (s.admitted tag c) =
    some (if s.anyLatched then (s.begun tag c).completeHead .faulted else (s.begun tag c).beginEntry c) := by
  have hbare : (s.admitted tag c).Bare := ⟨h.endWith, h.work, h.downs, h.eject, h.op, h.readWanted, by
    change s.eng.flight = none
    rw [h.eng]
    rfl, h.supplied⟩
  have hm : mechanical.findSome? (fun r => r (s.admitted tag c)) = none := mechanical_quiet (s := s) rfl h.mechanical
  have heng : reactEngine (s.admitted tag c) = none := by
    have hp : (s.admitted tag c).eng.place = none := by
      change s.eng.place = none
      rw [h.eng]
      rfl
    simp only [reactEngine, hp]
  have hjob : (s.admitted tag c).job = .idle := h.job
  have hhold : (s.admitted tag c).standbyHolds = false := by
    change (s.downs.standby.isSome && !s.downs.standbyLeft) = false
    rw [h.downs]
    rfl
  have hwait : (s.admitted tag c).retryWait = false := hw
  have hq : (s.admitted tag c).queue = [⟨tag, c, false⟩] := rfl
  rw [react_of_head hbare hm]
  simp only [headRules, List.findSome?_cons, heng, reactDrain, hjob, reactBegin, hq, hhold, hwait, Bool.not_false,
    Bool.and_self, guarded, if_true]
  rfl

end

theorem begun_completeHead {s : State} (h : s.Calm) (tag : Byte) (c : MediumCmd) (st : Status) :
    (s.begun tag c).completeHead st = (s.begun tag c).finished tag st :=
  completeHead_last (s := s.begun tag c) (e := ⟨tag, c, true⟩) rfl h.work st

/-- The entry has completed in the event of its admission. -/
theorem finished_begun {s : State} (h : s.Calm) {tag : Byte} (c : MediumCmd) (st : Status)
    (htag : ∀ x ∈ s.slots, x.tag ≠ some tag) : let t := (s.begun tag c).finished tag st
    t.dbi.replies = s.dbi.replies ++ [.reply tag .queued .empty, .done tag st 0 0 0 none none] ∧
      t.queue = [] ∧ t.requested .commandDone = true ∧ t.spc = { s.spc with standbyElapsed := 0 } ∧
      t.pos = { s.pos with requester := .none } ∧ t.slots = s.slots ∧ t.tbs = s.tbs ∧
      t.record = s.record ∧ t.fsv = s.fsv ∧ t.counters = s.counters := by
  have hpos : ((s.begun tag c).finished tag st).pos = { s.pos with requester := .none } := by
    simp [State.finished, State.begun, State.withReply, h.op]
  have hslots : ((s.begun tag c).finished tag st).slots = s.slots := by
    refine (List.map_congr_left fun x hx => ?_).trans (List.map_id _)
    simp [Slot.release, htag x hx]
  refine ⟨?_, rfl, finished_commandDone .., rfl, hpos, hslots, rfl, rfl, rfl, rfl⟩
  change s.dbi.replies ++ [.reply tag .queued .empty] ++ [.done tag st s.eng.completed s.eng.errors s.eng.slips
    s.eng.firstError s.eng.damaged] = _
  rw [h.eng, List.append_assoc]
  rfl

/-- The reactions to an admission end with the completion of the entry. -/
theorem completesAtOnce_of {s : State} (h : s.Calm) {i : Instr} {tag : Byte} {c : MediumCmd} {st : Status} {k : Nat}
    (hi : exec i s = .next (s.enqueue tag c)) (hr : s.admissionRefused tag c = none)
    (hk : ReactsIn k (s.admitted tag c) ((s.begun tag c).finished tag st)) (hle : k ≤ 200) {Q : State → Prop}
    (hQ : Q ((s.begun tag c).finished tag st)) : s.completes i Q := by
  refine ⟨_, hi, ?_⟩
  rw [enqueue_of_calm h hr, settle_of_reactsIn hk hle ((begun_bare h tag c).finished_quiet (begun_mechanical h tag c) _ _)]
  exact hQ

/-! ## A work of SPIN UP on a drive that is ready -/

/-- The step of a work of SPIN UP. -/
def stepWork (w : SpinUpWork) (s : State) : Option State :=
  match w.step with
  | .cartridge => workCartridge w s
  | .spindle => workSpindle w s
  | .heads => workHeads w s
  | .record => workRecord w s

theorem reactWork_of {s : State} {w : SpinUpWork} (hw : s.work = some w) (hc : s.ccu.state = .latched) :
    reactWork s = stepWork w s := by
  simp only [reactWork, hw, hc]
  rfl

/-- The work of SPIN UP stands at a step, for the head entry alone. -/
def State.working (tag : Byte) (x : WorkStep) (s : State) : State :=
  { s.begun tag .spinUp with job := .work, work := some ⟨x, true, false, false, false, false, none⟩ }

section

variable {s : State} (h : s.Calm) (tag : Byte)
include h

theorem react_working {x : WorkStep} {t : State} (ht : reactWork (s.working tag x) = some t) :
    react (s.working tag x) = some t := by
  have hsolo : (s.working tag x).Solo := { (begun_bare h tag .spinUp).solo with cut := rfl }
  have hdowns : (s.working tag x).downs = ⟨none, none, none, false⟩ := h.downs
  have hm : mechanical.findSome? (fun r => r (s.working tag x)) = none := mechanical_quiet (s := s) rfl h.mechanical
  have hstop : reactStopped (s.working tag x) = none ∧ reactParked (s.working tag x) = none := by
    simp [reactStopped, reactParked, hdowns]
  rw [react_of_solo hsolo hm]
  simp [soloRules, hstop, ht]

theorem endWork_working (x : WorkStep) (st : Status) :
    (s.working tag x).endWork st = (s.begun tag .spinUp).finished tag st := by
  have hstart : s.spc.startByWork = false := by
    have := h.noStart
    simp only [State.pendingStart, Bool.or_eq_false_iff] at this
    exact this.1
  have hload : s.pos.loadByWork = false := by
    have := h.noLoad
    simp only [State.pendingLoad, Bool.or_eq_false_iff] at this
    exact this.1
  obtain ⟨u, hu⟩ : ∃ u, u = ((s.working tag x).setWork none).withdrawWork := ⟨_, rfl⟩
  have hu' : u = { s.begun tag .spinUp with job := .work } := by
    have hspc : { s.spc with startByWork := false } = s.spc := by rw [← hstart]
    have hpos : { s.pos with loadByWork := false } = s.pos := by rw [← hload]
    rw [hu]
    simp only [State.withdrawWork, State.setWork, State.onSpc, State.onPos, State.working, State.begun, State.withReply,
      hspc, hpos]
    simp [h.work]
  have hend : u.endWith = none := by rw [hu']; exact h.endWith
  have hx : u.executing.map Entry.cmd = some .spinUp := by rw [hu']; rfl
  have hhead : (s.working tag x).endWork st = u.workEndsHead st := by
    rw [hu]
    rfl
  rw [hhead]
  simp only [State.workEndsHead, hend, hx]
  rw [completeHead_last (e := ⟨tag, .spinUp, true⟩) (by rw [hu']; rfl) (by rw [hu']; exact h.work), hu']
  rfl

/-- On a ready drive the work of SPIN UP goes through its steps at once (R49). -/
theorem spinUp_ready (hready : s.readyDrive = true) {st : Status} (hst : s.record.state = .valid ∧ st = .ok ∨
      s.record.state = .dirty ∧ st = .ok ∨ s.record.state = .unreadable ∧ st = .recordUnreadable) :
    ReactsIn 5 (s.admitted tag .spinUp) ((s.begun tag .spinUp).finished tag st) := by
  simp only [State.readyDrive, Bool.and_eq_true, beq_iff_eq, Bool.not_eq_true'] at hready
  obtain ⟨⟨⟨⟨⟨-, hspeed⟩, htrack⟩, hcart⟩, hlatched⟩, hwait⟩ := hready
  have hstate (x : WorkStep) : (s.working tag x).ccu.state = .latched ∧ (s.working tag x).spc.state = .atSpeed ∧
      (s.working tag x).pos.state = .tracking ∧ (s.working tag x).record.state = s.record.state :=
    ⟨hcart, hspeed, htrack, rfl⟩
  have hbegin : react (s.admitted tag .spinUp) = some (s.working tag .cartridge) := by
    have hw : (s.begun tag .spinUp).work = none := h.work
    rw [react_admitted h tag .spinUp hwait, hlatched, if_neg Bool.false_ne_true]
    have hjoin : (s.begun tag .spinUp).beginEntry .spinUp = s.working tag .cartridge := by
      simp only [State.beginEntry, State.joinWork, State.setJob, hw]
      rfl
    rw [hjoin]
  refine ⟨_, hbegin, _, react_working h tag (t := s.working tag .spindle) ?_, _,
    react_working h tag (t := s.working tag .heads) ?_, _, react_working h tag (t := s.working tag .record) ?_, _,
    react_working h tag (t := (s.begun tag .spinUp).finished tag st) ?_, rfl⟩
  · exact (reactWork_of (s := s.working tag .cartridge) rfl hcart).trans (by simp only [stepWork, workCartridge, hstate]; rfl)
  · exact (reactWork_of (s := s.working tag .spindle) rfl hcart).trans (by simp only [stepWork, workSpindle, hstate]; rfl)
  · exact (reactWork_of (s := s.working tag .heads) rfl hcart).trans (by simp only [stepWork, workHeads, hstate]; rfl)
  · refine (reactWork_of (s := s.working tag .record) rfl hcart).trans ?_
    rw [← endWork_working h tag .record]
    rcases hst with ⟨hst, rfl⟩ | ⟨hst, rfl⟩ | ⟨hst, rfl⟩ <;> simp only [stepWork, workRecord, hstate, hst]

end

end Sys2Proof.Machine
end

section
/-! Medium commands that complete in the event of their admission (R50, R51, R12, R92, R100). -/

namespace Sys2Proof.Machine

/-! ## A work of SPIN DOWN -/

/-- The work of SPIN DOWN stands at a step. -/
def State.descending (tag : Byte) (x : DownStep) (s : State) : State :=
  { s.begun tag .spinDown with job := .down, downs := ⟨some x, none, none, false⟩ }

section

variable {s : State} (h : s.Calm) (tag : Byte)
include h

theorem descending_solo (x : DownStep) : (s.descending tag x).Solo :=
  { (begun_bare h tag .spinDown).solo with standby := rfl, orphan := rfl, notLeft := rfl }

omit h in
theorem react_of_descent {t : State} {e : Entry} (hsolo : t.Solo) (hm : mechanical.findSome? (fun r => r t) = none)
    (hw : t.work = none) (hp : t.eng.place = none) (hj : t.job = .down) (hq : t.queue = [e]) (hx : e.executing = true) :
    react t = [reactStopped, reactParked, reactDown .cmd].findSome? fun r => r t := by
  have hex : t.executing = some e := by simp [State.executing, hq, hx]
  rw [react_of_solo hsolo hm]
  simp [soloRules, List.findSome?_cons, reactWork, hw, reactEngine, hp, reactDrain, hj, reactBegin, hq, hx,
    reactReady, hex, reactTransfer, guarded]

theorem react_descending (x : DownStep) : react (s.descending tag x) =
    [reactStopped, reactParked, reactDown .cmd].findSome? fun r => r (s.descending tag x) := by
  refine react_of_descent (e := ⟨tag, .spinDown, true⟩) (descending_solo h tag x) (mechanical_quiet (s := s) rfl h.mechanical)
    h.work ?_ rfl rfl rfl
  change s.eng.place = none
  rw [h.eng]
  rfl

/-- A clean record asks nothing of the drive before it spins down (R9). -/
theorem react_descending_point (hclean : s.needsWriteBack = false) :
    react (s.descending tag .point) = some (s.descending tag .ask) := by
  have hd : (s.descending tag .point).downs = ⟨some .point, none, none, false⟩ := rfl
  have hclean : (s.descending tag .point).needsWriteBack = false := hclean
  rw [react_descending h tag .point]
  simp only [List.findSome?_cons, reactStopped, reactParked, reactDown, hd, Downs.stepOf, hclean]
  simp
  rfl

theorem react_admitted_down (hl : s.anyLatched = false) (hw : s.retryWait = false) :
    react (s.admitted tag .spinDown) = some (s.descending tag .point) := by
  rw [react_admitted h tag .spinDown hw, hl, if_neg Bool.false_ne_true]
  have hbegin : (s.begun tag .spinDown).beginEntry .spinDown = s.descending tag .point := by
    have hd : (s.begun tag .spinDown).downs = ⟨none, none, none, false⟩ := h.downs
    simp only [State.beginEntry, State.onDowns, State.setJob, hd]
    rfl
  rw [hbegin]

/-- A disk that is STOPPED with the heads UNLOADED has nothing to spin down (R51). -/
theorem spinDown_atRest (hrest : s.atRest = true) (hd : s.spc.demand = .none) (hl : s.anyLatched = false)
    (hw : s.retryWait = false) (hclean : s.needsWriteBack = false) :
    ReactsIn 5 (s.admitted tag .spinDown) ((s.begun tag .spinDown).finished tag .ok) := by
  simp only [State.atRest, Bool.and_eq_true, beq_iff_eq] at hrest
  obtain ⟨hstop, hunl⟩ := hrest
  have hparts (x : DownStep) : (s.descending tag x).downs = ⟨some x, none, none, false⟩ ∧
      (s.descending tag x).spc.state = .stopped ∧ (s.descending tag x).pos.state = .unloaded := ⟨rfl, hstop, hunl⟩
  refine ⟨_, react_admitted_down h tag hl hw, _, react_descending_point h tag hclean,
    s.descending tag .unload, ?_, s.descending tag .stop, ?_, _, ?_, rfl⟩
  · rw [react_descending h tag .ask]
    simp [reactStopped, reactParked, reactDown, hparts, Downs.stepOf]
    rfl
  · rw [react_descending h tag .unload]
    simp [reactStopped, reactParked, hparts]
    have hspc : { s.spc with demand := StopDemand.none } = s.spc := by rw [← hd]
    have hs : ∀ d, (s.descending tag .stop).stopRequest d = s.descending tag .stop := fun d => by
      simp only [State.stopRequest, hparts]
      change { s.descending tag .stop with spc := { s.spc with demand := StopDemand.none } } = _
      rw [hspc]
      rfl
    exact hs _
  · have hfin : (s.descending tag .stop).completeHead .ok = (s.begun tag .spinDown).finished tag .ok := by
      rw [completeHead_last (s := s.descending tag .stop) (e := ⟨tag, .spinDown, true⟩) rfl h.work]
      have hdn : (s.begun tag .spinDown).downs = ⟨none, none, none, false⟩ := h.downs
      simp only [State.finished, hdn]
      rfl
    rw [react_descending h tag .stop]
    simp [reactStopped, hparts, hfin]

end

/-! ## An entry that is ready -/

/-- The head entry of a drive with nothing else in progress goes on with its own work (R99). -/
theorem react_of_ready {s t : State} {e : Entry} (hb : s.Bare) (hm : mechanical.findSome? (fun r => r s) = none)
    (hp : s.eng.place = none) (hq : s.queue = [e]) (hx : e.executing = true) (hj : s.job = .ready)
    (ht : reactReady s = some t) : react s = some t := by
  rw [react_of_head hb hm]
  simp [headRules, reactEngine, hp, reactDrain, hj, reactBegin, hq, hx, guarded, ht]

theorem reactReady_of {s : State} {e : Entry} (hb : s.Bare) (heng : s.eng = Engine.none) (hq : s.queue = [e])
    (hx : e.executing = true) (hj : s.job = .ready) :
    (∀ n, e.cmd = .seek n → reactReady s = some (s.runSeek n)) ∧
    (∀ n, e.cmd = .reassign n → reactReady s = some (s.runReassign n)) ∧
    (e.cmd = .flush → reactReady s = some s.runFlush) ∧
    (∀ k g l, e.cmd = .xfer k g l → s.transferRefused k l = none → reactReady s = some (s.setJob .waitEngine)) := by
  have hex : s.executing = some e := by simp [State.executing, hq, hx]
  have hfree : s.engineFree = true := by simp [State.engineFree, heng, Engine.none, hb.op]
  refine ⟨fun n hc => ?_, fun n hc => ?_, fun hc => ?_, fun k g l hc hr => ?_⟩ <;>
    simp only [reactReady, hex, hj, hb.op, hb.endWith, hfree, hc] <;> simp [guarded]
  simp only [hr]

section

variable {s : State} (h : s.Calm) (tag : Byte) (c : MediumCmd)
include h

theorem readied_bare : ((s.begun tag c).setJob .ready).Bare := { begun_bare h tag c with }

theorem readied_mechanical : mechanical.findSome? (fun r => r ((s.begun tag c).setJob .ready)) = none :=
  mechanical_quiet (s := s) rfl h.mechanical

/-- An entry that needs the spindle finds it ready (R99). -/
theorem react_admitted_ready (hready : s.readyDrive = true) (hc : s.needsSpindle c = true) :
    react (s.admitted tag c) = some ((s.begun tag c).setJob .ready) := by
  simp only [State.readyDrive, Bool.and_eq_true, beq_iff_eq, Bool.not_eq_true'] at hready
  obtain ⟨⟨⟨⟨⟨-, hspeed⟩, htrack⟩, -⟩, hlatched⟩, hwait⟩ := hready
  have hsr : (s.begun tag c).spindleReady = true := by
    change (s.spc.state == .atSpeed && s.pos.state.flying) = true
    rw [hspeed, htrack]
    rfl
  have hneeds : (s.begun tag c).needsSpindle c = true := hc
  rw [react_admitted h tag _ hwait, hlatched, if_neg Bool.false_ne_true]
  cases c with
  | spinUp => cases hc
  | spinDown => cases hc
  | _ => simp only [State.beginEntry, hneeds, hsr, if_true]

/-- The entry that found the spindle ready goes on with its own work. -/
theorem react_readied {t : State} (ht : reactReady ((s.begun tag c).setJob .ready) = some t) :
    react ((s.begun tag c).setJob .ready) = some t :=
  react_of_ready (e := ⟨tag, c, true⟩) (readied_bare h tag c) (readied_mechanical h tag c)
    (by change s.eng.place = none; rw [h.eng]; rfl) rfl rfl rfl ht

theorem reactReady_readied :
    (∀ n, c = .seek n → reactReady ((s.begun tag c).setJob .ready) = some (((s.begun tag c).setJob .ready).runSeek n)) ∧
    (∀ n, c = .reassign n →
      reactReady ((s.begun tag c).setJob .ready) = some (((s.begun tag c).setJob .ready).runReassign n)) ∧
    (c = .flush → reactReady ((s.begun tag c).setJob .ready) = some ((s.begun tag c).setJob .ready).runFlush) ∧
    (∀ k g l, c = .xfer k g l → ((s.begun tag c).setJob .ready).transferRefused k l = none →
      reactReady ((s.begun tag c).setJob .ready) = some (((s.begun tag c).setJob .ready).setJob .waitEngine)) :=
  reactReady_of (e := ⟨tag, c, true⟩) (readied_bare h tag c) h.eng rfl rfl rfl

end

/-! ## A SEEK -/

section

variable {s : State} (h : s.Calm) (tag : Byte) {n : Nat}
include h

/-- The SEEK that finds the spindle ready (R99). -/
theorem react_admitted_seek (hready : s.readyDrive = true) :
    react (s.admitted tag (.seek n)) = some ((s.begun tag (.seek n)).setJob .ready) ∧
    react ((s.begun tag (.seek n)).setJob .ready) = some (((s.begun tag (.seek n)).setJob .ready).runSeek n) :=
  ⟨react_admitted_ready h tag _ hready rfl, react_readied h tag _ ((reactReady_readied h tag _).1 n rfl)⟩

/-- A SEEK to the cylinder already tracked is done (R92). -/
theorem seek_here (hready : s.readyDrive = true) (hh : s.pos.hold = false) (ht : s.pos.target = some (n + 4)) :
    ReactsIn 2 (s.admitted tag (.seek n)) ((s.begun tag (.seek n)).finished tag .ok) := by
  obtain ⟨h1, h2⟩ := react_admitted_seek h tag hready (n := n)
  refine ⟨_, h1, _, h2, ?_⟩
  simp only [State.readyDrive, Bool.and_eq_true, beq_iff_eq] at hready
  obtain ⟨⟨⟨⟨-, htrack⟩, -⟩, -⟩, -⟩ := hready
  have hhere : (((s.begun tag (.seek n)).setJob .ready).pos.state == .tracking &&
      ((s.begun tag (.seek n)).setJob .ready).pos.target == some (n + 4) &&
      !((s.begun tag (.seek n)).setJob .ready).pos.hold) = true := by
    change (s.pos.state == .tracking && s.pos.target == some (n + 4) && !s.pos.hold) = true
    simp [htrack, ht, hh]
  simp only [State.runSeek, hhere, if_true]
  exact ((completeHead_last (s := ((s.begun tag (.seek n)).setJob .ready).setJob .seeking) (e := ⟨tag, .seek n, true⟩)
    rfl h.work _).trans rfl).symm

/-- A SEEK under the hold flag fails (R92; log 16). -/
theorem seek_held (hready : s.readyDrive = true) (hh : s.pos.hold = true) :
    ReactsIn 2 (s.admitted tag (.seek n)) ((s.begun tag (.seek n)).finished tag .seekFailed) := by
  obtain ⟨h1, h2⟩ := react_admitted_seek h tag hready (n := n)
  refine ⟨_, h1, _, h2, ?_⟩
  have hhold : ((s.begun tag (.seek n)).setJob .ready).pos.hold = true := hh
  have hhold' : (((s.begun tag (.seek n)).setJob .ready).setJob .seeking).pos.hold = true := hh
  simp only [State.runSeek, hhold, State.seekRequest, hhold', Bool.not_true, Bool.and_false]
  exact ((completeHead_last (s := ((s.begun tag (.seek n)).setJob .ready).setJob .seeking) (e := ⟨tag, .seek n, true⟩)
    rfl h.work _).trans rfl).symm

end

/-! ## The commands -/

section

variable {s : State} (hs : s.listens = true) {tag : Byte} (htag : tag ≠ 0)
include hs htag

theorem exec_seek (c : BitVec 16) : exec (.seek tag c) s = .next (s.enqueue tag (.seek c.toNat)) :=
  congrArg _ (command_of_listens _ hs htag rfl (by simp) (by simp [be16]) rfl)

theorem exec_spinUp : exec (.spinUp tag) s = .next (s.enqueue tag .spinUp) :=
  congrArg _ (command_of_listens _ hs htag rfl (by simp) (by simp) rfl)

theorem exec_spinDown : exec (.spinDown tag) s = .next (s.enqueue tag .spinDown) :=
  congrArg _ (command_of_listens _ hs htag rfl (by simp) (by simp) rfl)

theorem exec_flushRecord : exec (.flushRecord tag) s = .next (s.enqueue tag .flush) :=
  congrArg _ (command_of_listens _ hs htag rfl (by simp) (by simp) rfl)

theorem exec_reassignBlock (l : BitVec 32) : exec (.reassignBlock tag l) s = .next (s.enqueue tag (.reassign l.toNat)) :=
  congrArg _ (command_of_listens _ hs htag rfl (by simp) (by simp [be32]) rfl)

end

/-- An open queue with nothing in it admits a command that needs no cartridge. -/
theorem admitted_free {s : State} (h : s.Calm) {tag : Byte} {c : MediumCmd} (hc : c = .spinUp ∨ c = .spinDown ∨ c = .flush)
    (hs : s.ccu.state = .latched ∨ s.ccu.state = .seated ∨ s.ccu.state = .absent) :
    s.admissionRefused tag c = none := by
  have hopen : ¬(s.ccu.state = .ejectPending ∨ s.ccu.state = .ejecting) := by
    rcases hs with hs | hs | hs <;> simp [hs]
  rw [refused_fresh hopen (by simp [h.queue]) (by simp [h.queue])]
  rcases hc with rfl | rfl | rfl <;> rfl

theorem admitted_seek {s : State} (h : s.Calm) {tag : Byte} {n : Nat} (hs : s.ccu.state = .latched) (hn : n ≤ 1223) :
    s.admissionRefused tag (.seek n) = none := by
  have hopen : ¬(s.ccu.state = .ejectPending ∨ s.ccu.state = .ejecting) := by simp [hs]
  have hout : s.outOfRange (.seek n) = false := decide_eq_false (by simp [Config.dataCylinders]; omega)
  rw [refused_fresh hopen (by simp [h.queue]) (by simp [h.queue]), hout, hs]
  rfl

/-- Settles O45: each of these commands completes by the reactions to its admission. -/
theorem completesAtOnce : Obligations.CompletesAtOnce := by
  unfold Obligations.CompletesAtOnce
  intro s tag cylinder hs hc htag hw huntagged
  have h := calm_iff.mp hc
  have hready (hr : s.readyDrive = true) : s.ccu.state = .latched := by
    simp only [State.readyDrive, Bool.and_eq_true, beq_iff_eq] at hr
    obtain ⟨⟨⟨-, hl⟩, -⟩, -⟩ := hr
    exact hl
  have hdone (c : MediumCmd) (st : Status) := finished_begun h c st huntagged
  refine ⟨fun hr hst => ?_, fun hr hst => ?_, fun hrest hd hl hclean hcc => ?_, fun hl hclean hcc => ?_,
    fun hr hn hh ht => ?_, fun hr hn hh => ?_, fun hl hcc hn => ?_, fun hl hnr hauto hcc hn => ?_⟩
  · exact completesAtOnce_of h (exec_spinUp hs htag) (admitted_free h (.inl rfl) (.inl (hready hr)))
      (spinUp_ready h tag hr (hst.elim (fun e => .inl ⟨e, rfl⟩) fun e => .inr (.inl ⟨e, rfl⟩))) (by decide) (hdone _ _)
  · exact completesAtOnce_of h (exec_spinUp hs htag) (admitted_free h (.inl rfl) (.inl (hready hr)))
      (spinUp_ready h tag hr (.inr (.inr ⟨hst, rfl⟩))) (by decide) (hdone _ _)
  · exact completesAtOnce_of h (exec_spinDown hs htag) (admitted_free h (.inr (.inl rfl)) hcc)
      (spinDown_atRest h tag hrest hd hl hw hclean) (by decide) (hdone _ _)
  · have hstep : react (s.admitted tag .flush) = some ((s.begun tag .flush).finished tag .ok) := by
      have hclean : (s.begun tag .flush).needsWriteBack = false := hclean
      rw [react_admitted h tag .flush hw, hl, if_neg Bool.false_ne_true]
      simp only [State.beginEntry, State.needsSpindle, hclean, begun_completeHead h]
      rfl
    exact completesAtOnce_of (k := 1) h (exec_flushRecord hs htag) (admitted_free h (.inr (.inr rfl)) hcc)
      ⟨_, hstep, rfl⟩ (by decide) (hdone _ _)
  · exact completesAtOnce_of h (exec_seek hs htag cylinder) (admitted_seek h (hready hr) hn)
      (seek_here h tag hr hh ht) (by decide) (hdone _ _)
  · exact completesAtOnce_of h (exec_seek hs htag cylinder) (admitted_seek h (hready hr) hn)
      (seek_held h tag hr hh) (by decide) (hdone _ _)
  · have hstep : react (s.admitted tag (.seek cylinder.toNat)) =
        some ((s.begun tag (.seek cylinder.toNat)).finished tag .faulted) := by
      rw [react_admitted h tag _ hw, hl, if_pos rfl, begun_completeHead h]
    exact completesAtOnce_of (k := 1) h (exec_seek hs htag cylinder) (admitted_seek h hcc hn) ⟨_, hstep, rfl⟩ (by decide)
      (hdone _ _)
  · have hstep : react (s.admitted tag (.seek cylinder.toNat)) =
        some ((s.begun tag (.seek cylinder.toNat)).finished tag .notReady) := by
      have hnr : (s.begun tag (.seek cylinder.toNat)).spindleReady = false := hnr
      have hauto : (s.begun tag (.seek cylinder.toNat)).tbs.params.autoSpin = false := hauto
      rw [react_admitted h tag _ hw, hl, if_neg Bool.false_ne_true]
      simp only [State.beginEntry, State.needsSpindle, hnr, hauto, begun_completeHead h]
      rfl
    exact completesAtOnce_of (k := 1) h (exec_seek hs htag cylinder) (admitted_seek h hcc hn) ⟨_, hstep, rfl⟩ (by decide)
      (hdone _ _)

end Sys2Proof.Machine
end

section
/-! A SEEK and a SPIN DOWN that begin their own work at once (R51, R79, R92). -/

namespace Sys2Proof.Machine

/-- Over a disk at speed, heads off the ramp leave the disk, the heads and the latch without a reaction. -/
theorem mechanical_moving {s : State} (hs : s.spc.state = .atSpeed) (hu : s.pos.state ≠ .unloaded) :
    mechanical.findSome? (fun r => r s) = none := by
  simp [mechanical, reactOwnUnload, reactStopCheck, reactRelease, reactBrake, reactStart, reactLoad,
    State.atRest, State.loadAllowed, guarded, hs, hu]

theorem State.Bare.of_affairs {s t : State} (h : s.Bare) (e : t.affairs = s.affairs) : t.Bare := by
  simp only [State.affairs, Prod.mk.injEq] at e
  obtain ⟨⟨-, -, he, hw, hd⟩, ⟨hx, -⟩, ⟨ho, hr, hg, hl⟩, -⟩ := e
  exact ⟨he.trans h.endWith, hw.trans h.work, hd.trans h.downs, hx.trans h.eject, ho.trans h.op, hr.trans h.readWanted,
    by rw [hg]; exact h.flight, hl.trans h.supplied⟩

/-! ## The seek of a SEEK -/

/-- A seek away from the tracked cylinder begins with the computation at once (R79). -/
theorem seekRequest_away {s : State} {f : Fix} {c cylinder : Nat} (ht : s.pos.state = .tracking)
    (hh : s.pos.hold = false) (hf : s.pos.fix = some f) (htarget : s.pos.target = some c) (hne : c ≠ cylinder)
    (hw : withinHalfTrack cylinder f.position = false) (req : Requester) (head : Nat) :
    s.seekRequest req cylinder head = some ((s.onPos fun p => { p with
      state := .seeking, target := some cylinder, head := head, requester := req,
      settleCount := 0 }).startSeekTimer).seekCompute := by
  have hne : (s.pos.target == some cylinder) = false := by simp [htarget, hne]
  have hwindow : ((s.onPos fun p => { p with
      state := .seeking, target := some cylinder, head := head, requester := req,
      settleCount := 0 }).startSeekTimer).withinWindow = false := by
    have hf' : ((s.onPos fun p => { p with
      state := .seeking, target := some cylinder, head := head, requester := req,
      settleCount := 0 }).startSeekTimer).pos.fix = some f := hf
    simp only [State.withinWindow, hf']
    exact hw
  simp only [State.seekRequest, hh, ht, hne, State.startSeek, hwindow, Bool.false_eq_true, if_false]

/-- The heads move by the velocity error alone, while the current keeps inside its limit (R83). -/
theorem seekRequest_free {s : State} {f : Fix} {c cylinder : Nat} (ht : s.pos.state = .tracking)
    (hh : s.pos.hold = false) (hf : s.pos.fix = some f) (htarget : s.pos.target = some c) (hne : c ≠ cylinder)
    (hw : withinHalfTrack cylinder f.position = false)
    (hc : isClamped s.tbs.profile (seekRaw s.tbs.profile cylinder f.position f.velocity) = false) (req : Requester)
    (head : Nat) : ∃ x, s.seekRequest req cylinder head = some x ∧ s.Steers x ∧ x.pos = { s.pos with
      state := .seeking, target := some cylinder, head := head, requester := req, settleCount := 0,
      timerOn := true, timerCount := 0, timerLength := s.tbs.params.seekTimeout,
      current := seekRaw s.tbs.profile cylinder f.position f.velocity, clampCount := 0 } := by
  refine ⟨_, seekRequest_away ht hh hf htarget hne hw req head, ?_⟩
  have hbound : (seekRaw s.tbs.profile cylinder f.position f.velocity).natAbs ≤ s.tbs.profile.ilim := by
    simpa [isClamped] using hc
  obtain ⟨u, hu⟩ : ∃ u, u = (s.onPos fun p => { p with
      state := .seeking, target := some cylinder, head := head, requester := req,
      settleCount := 0 }).startSeekTimer := ⟨_, rfl⟩
  have hsu : s.Steers u := hu ▸ ((State.Steers.refl s).onPos rfl).trans (startSeekTimer_steers _)
  have hcompute := seekCompute_free (s := u) (f := f) (target := cylinder) (by rw [hu]; exact hf) (by rw [hu]; rfl)
    (by rw [hu]; exact hbound)
  rw [← hu, hcompute]
  refine ⟨(hsu.onPos rfl).absent _, ?_⟩
  rw [hu]
  rfl

section

variable {s : State} (h : s.Calm) (tag : Byte)
include h

/-- The SEEK moves the heads (R92). -/
theorem seek_moves {n target : Nat} {f : Fix} (hready : s.readyDrive = true) (hh : s.pos.hold = false)
    (hf : s.pos.fix = some f) (ht : s.pos.target = some target) (hne : target ≠ n + 4)
    (hw : withinHalfTrack (n + 4) f.position = false)
    (hc : isClamped s.tbs.profile (seekRaw s.tbs.profile (n + 4) f.position f.velocity) = false) :
    ∃ x, ((s.begun tag (.seek n)).setJob .seeking).Steers x ∧ (s.admitted tag (.seek n)).settle = x ∧
      x.pos = { s.pos with
        state := .seeking, target := some (n + 4), head := s.pos.head, requester := .seekCommand, settleCount := 0,
        timerOn := true, timerCount := 0, timerLength := s.tbs.params.seekTimeout,
        current := seekRaw s.tbs.profile (n + 4) f.position f.velocity, clampCount := 0 } := by
  obtain ⟨h1, h2⟩ := react_admitted_seek h tag hready (n := n)
  simp only [State.readyDrive, Bool.and_eq_true, beq_iff_eq] at hready
  obtain ⟨⟨⟨⟨⟨-, hspeed⟩, htrack⟩, -⟩, -⟩, -⟩ := hready
  obtain ⟨x, hx, hsteers, hpos⟩ := seekRequest_free (s := (s.begun tag (.seek n)).setJob .seeking) (f := f) (c := target)
    (cylinder := n + 4) htrack hh hf ht hne hw hc .seekCommand s.pos.head
  have hrun : ((s.begun tag (.seek n)).setJob .ready).runSeek n = x := by
    have htarget : ((s.begun tag (.seek n)).setJob .ready).pos.target = some target := ht
    have hhead : ((s.begun tag (.seek n)).setJob .ready).pos.head = s.pos.head := rfl
    have hset : ((s.begun tag (.seek n)).setJob .ready).setJob .seeking = (s.begun tag (.seek n)).setJob .seeking := rfl
    have hne' : (some target == some (n + 4)) = false := by simp [hne]
    simp only [State.runSeek, htarget, hne', hset, hhead, hx, Bool.and_false, Bool.false_and, Bool.false_eq_true, if_false]
  rw [hrun] at h2
  have hbare : x.Bare := ({ begun_bare h tag (.seek n) with } : ((s.begun tag (.seek n)).setJob .seeking).Bare).of_affairs
    hsteers.affairs
  have hm := mechanical_moving (s := x) (by rw [hsteers.heads.spc]; exact hspeed) (by rw [hpos]; nofun)
  obtain ⟨hqueue, hjob, hplace⟩ : x.queue = [⟨tag, .seek n, true⟩] ∧ x.job = .seeking ∧ x.eng.place = none := by
    have ha := hsteers.affairs
    simp only [State.affairs, Prod.mk.injEq] at ha
    obtain ⟨⟨hq, hj, -⟩, -, ⟨-, -, hg, -⟩, -⟩ := ha
    refine ⟨hq, hj, ?_⟩
    rw [hg]
    change s.eng.place = none
    rw [h.eng]
    rfl
  have hlast : react x = none := by
    rw [react_of_head hbare hm]
    simp [headRules, reactEngine, hplace, reactDrain, hjob, reactBegin, hqueue, reactReady, State.executing,
      reactTransfer, guarded]
  exact ⟨x, hsteers, settle_of_reactsIn (k := 2) ⟨_, h1, _, h2, rfl⟩ (by decide) hlast, hpos⟩

/-- The SPIN DOWN of a clean record unloads the heads (R51). -/
theorem spinDown_unloads (hready : s.readyDrive = true) (hclean : s.needsWriteBack = false) (hp : s.pos.parkSensor = false) :
    ∃ t, (s.descending tag .unload).OnlyHeads t ∧ (s.admitted tag .spinDown).settle = t ∧ t.pos.state = .unloading := by
  simp only [State.readyDrive, Bool.and_eq_true, beq_iff_eq, Bool.not_eq_true'] at hready
  obtain ⟨⟨⟨⟨⟨-, hspeed⟩, htrack⟩, -⟩, hlatched⟩, hwait⟩ := hready
  have hunload := unloadRequest_of_tracking (s := s.descending tag .unload) (by simp [State.descending]) h.op htrack hp
  obtain ⟨t, ht⟩ : ∃ t, t = (s.descending tag .unload).unloadRequest := ⟨_, rfl⟩
  rw [← ht] at hunload
  obtain ⟨hheads, hland⟩ := hunload
  have hask : react (s.descending tag .ask) = some t := by
    have hparts : (s.descending tag .ask).downs = ⟨some .ask, none, none, false⟩ ∧
        (s.descending tag .ask).spc.state = .atSpeed ∧ (s.descending tag .ask).pos.state = .tracking :=
      ⟨rfl, hspeed, htrack⟩
    rw [react_descending h tag .ask, ht]
    simp [reactStopped, reactParked, reactDown, hparts, Downs.stepOf]
    rfl
  have hlast : react t = none := by
    have hdowns : t.downs = ⟨some .unload, none, none, false⟩ := hheads.downs
    have hspc : t.spc.state = .atSpeed := by rw [hheads.spc]; exact hspeed
    have hsolo : t.Solo := by
      rw [hheads]
      exact { descending_solo h tag .unload with }
    rw [react_of_descent (e := ⟨tag, .spinDown, true⟩) hsolo (mechanical_moving hspc (by simp [hland]))
      (by rw [hheads]; exact h.work) (by rw [hheads]; change s.eng.place = none; rw [h.eng]; rfl) (by rw [hheads]; rfl)
      (by rw [hheads]; rfl) rfl]
    simp [reactStopped, hspc, reactParked, hland, reactDown, hdowns, Downs.stepOf]
  exact ⟨t, hheads, settle_of_reactsIn (k := 3) ⟨_, react_admitted_down h tag hlatched hwait, _,
    react_descending_point h tag hclean, _, hask, rfl⟩ (by decide) hlast, hland⟩

end

/-- Settles O46: the SEEK and the SPIN DOWN move the heads by the reactions to their admission. -/
theorem headsAndDiskMove : Obligations.HeadsAndDiskMove := by
  unfold Obligations.HeadsAndDiskMove
  intro s tag cylinder target f hs hc hready htag hf ht
  have h := calm_iff.mp hc
  have hcart : s.ccu.state = .latched := by
    simp only [State.readyDrive, Bool.and_eq_true, beq_iff_eq] at hready
    obtain ⟨⟨⟨-, hl⟩, -⟩, -⟩ := hready
    exact hl
  refine ⟨fun hn hne hh hw hfree => ?_, fun hclean hp => ?_⟩
  · obtain ⟨x, hsteers, hsettle, hpos⟩ := seek_moves h tag hready hh hf ht hne hw hfree
    have hexec := exec_seek hs htag cylinder
    rw [enqueue_of_calm h (admitted_seek h hcart hn), hsettle] at hexec
    refine ⟨x, hexec, ?_⟩
    dsimp only
    rw [hpos, hsteers.heads]
    exact ⟨rfl, rfl, rfl, rfl, rfl, rfl, rfl, rfl, rfl, rfl, rfl, rfl, rfl, rfl, rfl⟩
  · obtain ⟨t, hheads, hsettle, hland⟩ := spinDown_unloads h tag hready hclean hp
    have hexec := exec_spinDown hs htag
    rw [enqueue_of_calm h (admitted_free h (.inr (.inl rfl)) (.inl hcart)), hsettle] at hexec
    refine ⟨t, hexec, ?_⟩
    have hst := hland
    rw [hheads] at hst ⊢
    exact ⟨rfl, hst, rfl, rfl, rfl, rfl, rfl, rfl, rfl, rfl, rfl⟩

end Sys2Proof.Machine
end

section
/-! A REASSIGN BLOCK completes with its change of the record (R28, R29). -/

namespace Sys2Proof.Machine

theorem translation_reassign_self (l : Nat) (img : Image) :
    translation (img.reassign l) l = some (alternatePlace img img.nextAlternate) := by
  have hfind : (img.reassign l).reassigns.find? (fun e => e.lba == l) = some ⟨l, img.nextAlternate⟩ :=
    find?_insertReassign_self ..
  rw [translation, hfind]
  rfl

theorem translation_reassign_ne {l m : Nat} (hm : m ≠ l) (img : Image) :
    translation (img.reassign l) m = translation img m := by
  have hfind : (img.reassign l).reassigns.find? (fun e => e.lba == m) = img.reassigns.find? fun e => e.lba == m :=
    find?_insertReassign_ne _ hm _
  rw [translation, hfind]
  rfl

/-- The checks of R28 pass: the address is within the capacity, and the counter and the table have room. -/
theorem reassignRefused_none {s : State} {l : Nat} {img : Image} (hc : s.ccu.state ≠ .absent)
    (hp : s.ccu.protect = false) (himg : s.record.image = some img) (hl : l < capacityOf img.zones)
    (hslot : img.nextAlternate < alternateCount img.zones)
    (hroom : img.reassigns.length < 64 ∨ ∃ e ∈ img.reassigns, e.lba = l) : s.reassignRefused l = none := by
  have hfull : (decide (64 ≤ img.reassigns.length) && !img.reassigns.any fun e => e.lba == l) = false := by
    rcases hroom with h | h
    · simp [Nat.not_le_of_lt h]
    · have : (img.reassigns.any fun e => e.lba == l) = true := by simpa using h
      simp [this]
  simp [State.reassignRefused, hc, hp, himg, Nat.not_le_of_lt hl, Nat.ne_of_lt hslot, hfull]

/-- The state in which the record has its change. -/
def State.reassigned (l : Nat) (s : State) : State :=
  s.onRec fun r => { r with state := .dirty, image := r.image.map (Image.reassign l) }

/-- The REASSIGN BLOCK completes OK in the event of its admission (R29). -/
theorem reassign_completes {s : State} (h : s.Calm) (tag : Byte) {l : Nat} {img : Image} (hready : s.readyDrive = true)
    (hp : s.ccu.protect = false) (himg : s.record.image = some img) (hl : l < capacityOf img.zones)
    (hslot : img.nextAlternate < alternateCount img.zones)
    (hroom : img.reassigns.length < 64 ∨ ∃ e ∈ img.reassigns, e.lba = l) :
    (s.admitted tag (.reassign l)).settle = ((s.reassigned l).begun tag (.reassign l)).finished tag .ok := by
  have hfirst := react_admitted_ready h tag (.reassign l) hready rfl
  have hsecond := react_readied h tag _ ((reactReady_readied h tag (.reassign l)).2.1 l rfl)
  have hcart : s.ccu.state ≠ .absent := by
    simp only [State.readyDrive, Bool.and_eq_true, beq_iff_eq] at hready
    obtain ⟨⟨⟨-, hcc⟩, -⟩, -⟩ := hready
    simp [hcc]
  have hnone : ((s.begun tag (.reassign l)).setJob .ready).reassignRefused l = none :=
    reassignRefused_none hcart hp himg hl hslot hroom
  have hrun : ((s.begun tag (.reassign l)).setJob .ready).runReassign l =
      ((s.reassigned l).begun tag (.reassign l)).finished tag .ok := by
    simp only [State.runReassign, hnone]
    exact (completeHead_last (s := ((s.begun tag (.reassign l)).setJob .ready).reassigned l)
      (e := ⟨tag, .reassign l, true⟩) rfl h.work .ok).trans rfl
  rw [hrun] at hsecond
  have hcalm : (s.reassigned l).Calm := { h with op := h.op, readWanted := h.readWanted }
  refine settle_of_reactsIn (k := 2) ⟨_, hfirst, _, hsecond, rfl⟩ (by decide) ?_
  exact (begun_bare hcalm tag _).finished_quiet (begun_mechanical hcalm tag _) _ _

/-- Settles O23. -/
theorem reassignChanges : Obligations.ReassignChanges := by
  unfold Obligations.ReassignChanges
  intro s img tag lba hs hc hready htag himg hsound hp hl hslot hroom huntagged
  have h := calm_iff.mp hc
  have hcart : s.ccu.state = .latched := by
    simp only [State.readyDrive, Bool.and_eq_true, beq_iff_eq] at hready
    obtain ⟨⟨⟨-, hcc⟩, -⟩, -⟩ := hready
    exact hcc
  have hopen : ¬(s.ccu.state = .ejectPending ∨ s.ccu.state = .ejecting) := by simp [hcart]
  have hadm : s.admissionRefused tag (.reassign lba.toNat) = none :=
    refused_none hopen (by simp [h.queue]) (by simp [h.queue]) (by simp [hcart]) hp rfl
      (by simp [State.outOfRange, State.capacity, himg, hl])
  have hexec := exec_reassignBlock hs htag lba
  rw [enqueue_of_calm h hadm, reassign_completes h tag hready hp himg hl hslot hroom] at hexec
  have hcalm : (s.reassigned lba.toNat).Calm := { h with op := h.op, readWanted := h.readWanted }
  obtain ⟨hrep, hq, -, hspc, hpos, hslots, htbs, hrec, hfsv, hcount⟩ :=
    finished_begun hcalm (.reassign lba.toNat) .ok huntagged
  refine ⟨_, hexec, img.reassign lba.toNat, ?_, ?_, rfl, rfl, rfl, rfl, rfl, translation_reassign_self .., fun m hm =>
    translation_reassign_ne hm img, hsound.reassign hl hslot hroom, insertReassign_length_le .., hrep, hq, hslots, htbs,
    hfsv, hpos, rfl, hcount⟩
  · rw [hrec]
    simp [State.reassigned, himg]
  · rw [hrec]
    rfl

end Sys2Proof.Machine
end

section
/-! ABORT (R93, R114 to R116): of no entry, of a WAITING entry, and of the EXECUTING entry, at once, at the sector's end,
or with its sector abandoned or cut. -/

namespace Sys2Proof.Machine

theorem exec_abort {s : State} (hs : s.listens = true) {tag : Byte} (htag : tag ≠ 0) (target mode : Byte) :
    (1 < mode.toNat → exec (.abort tag target mode) s = .next (s.withReply tag .badPacket .empty)) ∧
    (∀ b, twoWay mode = some b → exec (.abort tag target mode) s = .next (s.abort tag target b)) := by
  have hexec : exec (.abort tag target mode) s = .next (match twoWay mode with
      | some m => s.abort tag target m
      | none => s.badOperand tag) :=
    congrArg _ (command_of_listens _ hs htag rfl (by simp) (by simp) rfl)
  refine ⟨fun hm => ?_, fun b hb => ?_⟩
  · rw [hexec, twoWay_eq_none hm]
    rfl
  · rw [hexec, hb]

/-- An operand of two values that is one of them. -/
theorem twoWay_of_le {b : Byte} (h : b.toNat ≤ 1) : ∃ v, twoWay b = some v := by
  rcases Nat.le_one_iff_eq_zero_or_eq_one.mp h with h | h
  · exact ⟨false, by simp [twoWay, BitVec.eq_of_toNat_eq (y := (0 : Byte)) (by simpa using h)]⟩
  · exact ⟨true, by simp [twoWay, BitVec.eq_of_toNat_eq (y := (1 : Byte)) (by simpa using h)]⟩

theorem abort_noEntry {s : State} {target : Byte} (h : ∀ y ∈ s.queue, y.tag ≠ target) (tag : Byte) (b : Bool) :
    s.abort tag target b = s.withReply tag .noSuchTag .empty := by
  have hnone : s.queue.find? (fun e => e.tag == target) = none := by simpa using h
  simp only [State.abort, hnone]
  rfl

/-- A WAITING entry completes ABORTED and nothing follows (R114). -/
theorem abort_waiting {s : State} {e x : Entry} {rest : List Entry} {target : Byte} (hquiet : react s = none)
    (hq : s.queue = e :: rest) (hx : e.executing = true) (hne : e.tag ≠ target) (hmem : x ∈ rest)
    (htag : x.tag = target) (hwait : ∀ y ∈ rest, y.executing = false) (hone : ∀ y ∈ rest, y.tag = target → y = x)
    (tag : Byte) (b : Bool) :
    s.abort tag target b = ((s.withReply tag .ok .empty).completeWaiting target .aborted) ∧
      ((s.withReply tag .ok .empty).completeWaiting target .aborted).queue =
        s.queue.filter (fun y => y.tag != target) := by
  have hfind : s.queue.find? (fun e => e.tag == target) = some x := by
    have hsome : (rest.find? fun e => e.tag == target).isSome = true := by
      simpa using ⟨x, hmem, htag⟩
    obtain ⟨y, hy⟩ := Option.isSome_iff_exists.mp hsome
    have hyx : y = x := hone y (List.mem_of_find?_eq_some hy) (by simpa using List.find?_some hy)
    rw [hq, List.find?_cons_of_neg (by simpa using hne), hy, hyx]
  have hqueue : ((s.withReply tag .ok .empty).completeWaiting target .aborted).queue =
      s.queue.filter (fun y => y.tag != target) := by
    change s.queue.filter (fun y => y.executing || y.tag != target) = _
    refine List.filter_congr fun y hy => ?_
    rw [hq] at hy
    rcases List.mem_cons.mp hy with rfl | hy
    · simp [hx, hne]
    · simp [hwait y hy]
  refine ⟨?_, hqueue⟩
  have hhead : ((s.withReply tag .ok .empty).completeWaiting target .aborted).queue.head? = s.queue.head? := by
    rw [hqueue, hq, List.filter_cons_of_pos (by simpa using hne)]
    rfl
  simp only [State.abort, hfind, hwait x hmem, Bool.false_eq_true, if_false]
  refine settle_of_quiet (quiet_of_watches (s := s) ?_ (fun _ _ h => h) (fun _ _ _ _ h => h) hquiet)
  simp only [State.watches]
  exact Prod.ext (Prod.ext hhead rfl) rfl

/-! ## The EXECUTING entry alone in the queue -/

/-- An entry EXECUTING alone, with no work, spin-down, eject or record operation beside it. -/
structure State.Executes (s : State) (e : Entry) : Prop where
  quiet : react s = none
  supplied : s.supplyLow = false
  queue : s.queue = [e]
  executing : e.executing = true
  work : s.work = none
  downs : s.downs = ⟨none, none, none, false⟩
  eject : s.ccu.eject = none
  op : s.record.op = .idle
  readWanted : s.record.readWanted = false

section

variable {s : State} {e : Entry} (h : s.Executes e)
include h

theorem State.Executes.head : s.executing = some e := by
  simp [State.executing, h.queue, h.executing]

/-- Nothing follows the completion of the entry, once no sector is in flight. -/
theorem State.Executes.completes {t : State} {d : Bus} {g : Engine} {sl : List Slot}
    (ht : t = { s with dbi := d, eng := g, slots := sl }) (hg : g.flight = none) (st : Status) :
    t.completeHead st = t.finished e.tag st ∧ react (t.finished e.tag st) = none := by
  have hbare : (t.setEnd none).Bare := by
    rw [ht]
    exact ⟨rfl, h.work, h.downs, h.eject, h.op, h.readWanted, hg, h.supplied⟩
  have hm := mechanical_quiet (s := s) (t := t.setEnd none) (by rw [ht]; rfl) (mechanical_of_quiet h.quiet h.supplied)
  refine ⟨completeHead_last (by rw [ht]; exact h.queue) (by rw [ht]; exact h.work) st, ?_⟩
  have := hbare.finished_quiet hm e.tag st
  exact this

/-- ABORT finds the EXECUTING entry. -/
theorem State.Executes.abort (tag : Byte) (b : Bool) :
    s.abort tag e.tag b = ((s.withReply tag .ok .empty).abortExecuting b).settle := by
  have hfind : s.queue.find? (fun y => y.tag == e.tag) = some e := by simp [h.queue]
  simp only [State.abort, hfind, h.executing, if_true]
  rfl

end

/-- What an entry leaves that was ended with no sector in flight. -/
theorem finished_ended {s t : State} {d : Bus} {g : Engine} {sl : List Slot} (ht : t = { s with dbi := d, eng := g, slots := sl })
    (hg : g.flight = none) (hop : s.record.op = .idle) (tag : Byte) (st : Status) : let u := t.finished tag st
    u.dbi.replies = d.replies ++ [.done tag st g.completed g.errors g.slips g.firstError g.damaged] ∧
      u.queue = [] ∧ u.eng = Engine.none ∧ u.slots = sl.map (Slot.release tag) ∧ u.endWith = none ∧
      u.pos = { s.pos with requester := .none } ∧ u.requested .commandDone = true ∧ u.tbs = s.tbs ∧
      u.record = s.record ∧ u.counters = s.counters ∧ u.ccu = s.ccu := by
  subst ht
  refine ⟨rfl, rfl, ?_, rfl, rfl, ?_, finished_commandDone .., rfl, rfl, rfl, rfl⟩
  · change g.afterCommand = _
    rw [Engine.afterCommand, hg]
    rfl
  · simp [State.finished, hop]

/-- The slots with the one of a sector in flight, if it has one, EMPTY again. -/
def slotsWithout (l : List Slot) (o : Option Nat) : List Slot := o.elim l fun i => l.modify i fun _ => Slot.none

/-- With the slot of the sector in flight EMPTY, the completion leaves every slot of the command EMPTY. -/
theorem slotsWithout_release {l : List Slot} {o : Option Nat} {tag : Byte}
    (hfull : ∀ j y, l[j]? = some y → y.tag = some tag → o ≠ some j → y.state = .full)
    (ho : ∀ i, o = some i → ∃ x, l[i]? = some x ∧ x.tag = some tag) :
    (slotsWithout l o).map (Slot.release tag) = l.map fun y => if y.tag = some tag then Slot.none else y := by
  have hrelease : ∀ j y, l[j]? = some y → o ≠ some j → y.release tag = if y.tag = some tag then Slot.none else y := by
    intro j y hy hj
    by_cases ht : y.tag = some tag
    · simp [Slot.release, ht, hfull j y hy ht hj]
    · simp [Slot.release, ht]
  refine List.ext_getElem? fun j => ?_
  simp only [List.getElem?_map]
  cases hy : l[j]? with
  | none =>
    cases o with
    | none => simp [slotsWithout, hy]
    | some i => simp [slotsWithout, List.getElem?_modify, hy]
  | some y =>
    by_cases hj : o = some j
    · obtain ⟨x, hx, hxt⟩ := ho j hj
      rw [hy, Option.some.injEq] at hx
      subst hx hj
      simp [slotsWithout, hy, hxt, Slot.release, Slot.none]
    · have hsame : (slotsWithout l o)[j]? = some y := by
        cases o with
        | none => exact hy
        | some i =>
          have hij : i ≠ j := fun e => hj (by rw [e])
          simp [slotsWithout, hy, hij]
      simp [hsame, hrelease j y hy hj]

/-! ## The EXECUTING transfer -/

/-- What is said of a transfer that ABORT has ended, after the packets `before`. -/
def abortEnded (s : State) (target : Byte) (before : List Packet) (n : Nat) (damaged : Option Nat) (t : State) : Prop :=
  t.dbi.replies = s.dbi.replies ++ before ++
    [.done target .aborted n s.eng.errors s.eng.slips s.eng.firstError damaged] ∧
  t.queue = [] ∧ t.eng = Engine.none ∧
  t.slots = s.slots.map (fun y => if y.tag = some target then Slot.none else y) ∧ t.endWith = none ∧
  t.pos = { s.pos with requester := .none } ∧ t.requested .commandDone = true ∧
  t.tbs = s.tbs ∧ t.record = s.record ∧ t.counters = s.counters ∧ t.ccu = s.ccu

section

variable {s : State} {target : Byte} {k : XferKind} {go : Bool} {l : List Extent}
  (h : s.Executes ⟨target, .xfer k go l, true⟩)
  (hfull : ∀ j y, s.slots[j]? = some y → y.tag = some target → s.eng.flight.bind Flight.slot ≠ some j → y.state = .full)
include h hfull

/-- The transfer has ended: its sector in flight is gone, and its slot EMPTY. -/
theorem abort_ended {t : State} {d : Bus} {g : Engine} {before : List Packet} {n : Nat} {damaged : Option Nat}
    (ht : t = { s with dbi := d, eng := g, slots := slotsWithout s.slots (s.eng.flight.bind Flight.slot) })
    (hg : g.flight = none) (hd : d.replies = s.dbi.replies ++ before)
    (ho : ∀ i, s.eng.flight.bind Flight.slot = some i → ∃ x, s.slots[i]? = some x ∧ x.tag = some target)
    (htally : (g.completed, g.errors, g.slips, g.firstError, g.damaged) =
      (n, s.eng.errors, s.eng.slips, s.eng.firstError, damaged)) :
    react (t.completeHead .aborted) = none ∧ abortEnded s target before n damaged (t.completeHead .aborted) := by
  obtain ⟨hc, hquiet⟩ := h.completes ht hg .aborted
  simp only [Prod.mk.injEq] at htally
  obtain ⟨h1, h2, h3, h4, h5⟩ := htally
  obtain ⟨hrep, hq, heng, hsl, hrest⟩ := finished_ended ht hg h.op target .aborted
  rw [hc]
  refine ⟨hquiet, ?_, hq, heng, hsl.trans (slotsWithout_release hfull ho), hrest⟩
  rw [hrep, hd, h1, h2, h3, h4, h5]

/-- With no sector in flight the ABORT ends the transfer at once, in either mode (R115). -/
theorem abort_idleFlight (hj : s.job = .transfer) (hf : s.eng.flight = none) (tag : Byte) (b : Bool) :
    abortEnded s target [.reply tag .ok .empty] s.eng.completed s.eng.damaged (s.abort tag target b) := by
  have hown : s.ownFlight = false := by simp [State.ownFlight, hf]
  obtain ⟨u, hu⟩ : ∃ u, u = s.withReply tag .ok .empty := ⟨_, rfl⟩
  have huown : u.ownFlight = false := by rw [hu]; exact hown
  have huf : u.eng.flight = none := by rw [hu]; exact hf
  have huj : u.job = .transfer := by rw [hu]; exact hj
  have hux : u.executing.isNone = false := by
    have : u.executing = some ⟨target, .xfer k go l, true⟩ := by rw [hu]; exact h.head
    rw [this]
    rfl
  have hcut : u.cutWrite = u := by simp only [State.cutWrite, huf]
  have hact : u.abortExecuting b = u.completeHead .aborted := by
    cases b with
    | true => simp [State.abortExecuting, huj, State.abortNow, hcut, huown]
    | false => simp [State.abortExecuting, State.stopExecuting, hux, State.endWaits, huj, huown]
  obtain ⟨hquiet, hended⟩ := abort_ended h hfull (t := u) (d := u.dbi) (g := s.eng) (n := s.eng.completed)
    (damaged := s.eng.damaged) (before := [.reply tag .ok .empty]) (by rw [hu, hf]; rfl) hf (by rw [hu]; rfl)
    (fun i hi => by rw [hf] at hi; cases hi) rfl
  rw [h.abort, ← hu, hact, settle_of_quiet hquiet]
  exact hended

omit hfull in
/-- In mode SECTOR_END the sector in flight runs to its end first (R115). -/
theorem abort_waits (hj : s.job = .transfer) (hown : s.ownFlight = true) (tag : Byte) :
    s.abort tag target false = { s.withReply tag .ok .empty with endWith := some .aborted } := by
  obtain ⟨u, hu⟩ : ∃ u, u = s.withReply tag .ok .empty := ⟨_, rfl⟩
  have huown : u.ownFlight = true := by rw [hu]; exact hown
  have huj : u.job = .transfer := by rw [hu]; exact hj
  have hux : u.executing.isNone = false := by
    have : u.executing = some ⟨target, .xfer k go l, true⟩ := by rw [hu]; exact h.head
    rw [this]
    rfl
  have hact : u.abortExecuting false = u.setEnd (some .aborted) := by
    simp [State.abortExecuting, State.stopExecuting, hux, State.endWaits, huj, huown]
  have hquiet : react (u.setEnd (some .aborted)) = none := by
    have hr : ∀ r ∈ rules, r s = none := by
      rcases react_eq_none.mp h.quiet with hl | hr
      · rw [h.supplied] at hl
        cases hl
      · exact hr
    have hw : (u.setEnd (some .aborted)).endWaits = true := by
      simp only [State.endWaits]
      have : (u.setEnd (some .aborted)).job = .transfer := huj
      rw [this]
      exact huown
    have hheeds : (u.setEnd (some .aborted)).heeds = s.heeds := by
      rw [hu]
      rfl
    obtain ⟨hflight, heng⟩ := engine_heeds hheeds (by rw [hu]; rfl)
    refine quiet_of_heeds (s := s) hheeds (by simp [hj]) (.inl (by rw [hu]; rfl)) ?_ ?_ ?_ (by rw [hu]; exact fun _ _ h => h)
      (by rw [hu]; exact fun _ _ _ _ h => h) h.quiet
    · simp only [reactEnd, hw]
      rfl
    · exact none_of_isSome hflight (hr _ (by simp [rules]))
    · exact none_of_isSome heng (hr _ (by simp [rules]))
  rw [h.abort, ← hu, hact, settle_of_quiet hquiet, hu]
  rfl

/-- In mode IMMEDIATE the sector in flight is abandoned, or cut (R116). -/
theorem abort_immediate {f : Flight} {damaged : Option Nat} (hj : s.job = .transfer) (hf : s.eng.flight = some f)
    (hk : f.orphan = false ∧ (f.kind = .verify ∧ f.slot = none ∧ damaged = s.eng.damaged ∨
      ∃ i x, f.slot = some i ∧ s.slots[i]? = some x ∧ x.tag = some target ∧
        (f.kind = .read ∧ damaged = s.eng.damaged ∨ f.kind = .write ∧ damaged = some x.lba))) (tag : Byte) :
    abortEnded s target [.reply tag .ok .empty] s.eng.completed damaged (s.abort tag target true) := by
  obtain ⟨u, hu⟩ : ∃ u, u = s.withReply tag .ok .empty := ⟨_, rfl⟩
  have huf : u.eng.flight = some f := by rw [hu]; exact hf
  have huj : u.job = .transfer := by rw [hu]; exact hj
  have hush : u.slots = s.slots := by rw [hu]; rfl
  have ho : ∀ i, s.eng.flight.bind Flight.slot = some i → ∃ x, s.slots[i]? = some x ∧ x.tag = some target := by
    rw [hf]
    rcases hk with ⟨-, ⟨-, hs, -⟩ | ⟨i, x, hs, hx, ht, -⟩⟩
    · intro j hj
      rw [Option.bind_some, hs] at hj
      cases hj
    · intro j hj
      rw [Option.bind_some, hs] at hj
      cases hj
      exact ⟨x, hx, ht⟩
  have hact : u.abortExecuting true = State.completeHead .aborted { u with
      eng := { u.eng with flight := none, damaged := damaged }
      slots := slotsWithout s.slots (s.eng.flight.bind Flight.slot) } := by
    obtain ⟨kind, slot, sp, orphan⟩ := f
    obtain ⟨ho, hk⟩ := hk
    dsimp only at ho hk
    subst ho
    have hdam : damaged = s.eng.damaged → u.eng.damaged = damaged := fun e => by rw [hu, e]; rfl
    rcases hk with ⟨rfl, rfl, hd⟩ | ⟨i, x, rfl, hx, ht, ⟨rfl, hd⟩ | ⟨rfl, hd⟩⟩
    · simp [State.abortExecuting, huj, State.abortNow, State.ownFlight, huf, State.cutWrite, Flight.isHost,
        State.emptySlotOpt, State.onEng, slotsWithout, hf, ← hush, hdam hd]
    · simp [State.abortExecuting, huj, State.abortNow, State.ownFlight, huf, State.cutWrite, Flight.isHost,
        State.emptySlotOpt, State.emptySlotAt, State.onSlot, State.setSlots, State.onEng, slotsWithout, hf, ← hush,
        hdam hd]
    · have hx' : u.slots[i]? = some x := by rw [hush]; exact hx
      simp [State.abortExecuting, huj, State.abortNow, State.ownFlight, huf, State.cutWrite, Flight.isHost,
        State.emptySlotOpt, State.emptySlotAt, State.onSlot, State.setSlots, State.onEng, slotsWithout, hf, ← hush,
        hx', hd]
  obtain ⟨hquiet, hended⟩ := abort_ended h hfull (d := u.dbi) (g := { u.eng with flight := none, damaged := damaged })
    (t := { u with
      eng := { u.eng with flight := none, damaged := damaged }
      slots := slotsWithout s.slots (s.eng.flight.bind Flight.slot) })
    (before := [.reply tag .ok .empty]) (n := s.eng.completed) (damaged := damaged) (by rw [hu]; rfl) rfl (by rw [hu]; rfl)
    ho (by rw [hu]; rfl)
  rw [h.abort, ← hu, hact, settle_of_quiet hquiet]
  exact hended

/-- A sector that had to run to its end ends well: its block counts, and the command ends (R115). -/
theorem abort_sectorEnds (hh : s.Hosted) {i : Nat} {sp : Bool} {x : Slot} (hend : s.endWith = some .aborted)
    (hk : k = .write ∧ s.eng.flight = some ⟨.write, some i, sp, false⟩ ∧ s.slots[i]? = some x ∧ x.tag = some target ∨
      k = .verify ∧ s.eng.flight = some ⟨.verify, none, false, false⟩) (data : List Byte) :
    s.completes (.sectorEnd true data)
      (abortEnded s target [] (s.eng.completed + 1) s.eng.damaged) := by
  obtain ⟨u, hu⟩ : ∃ u : State, u = { s with
      eng := { s.eng with flight := none, completed := s.eng.completed + 1 }
      slots := slotsWithout s.slots (s.eng.flight.bind Flight.slot) } := ⟨_, rfl⟩
  have ho : ∀ j, s.eng.flight.bind Flight.slot = some j → ∃ x, s.slots[j]? = some x ∧ x.tag = some target := by
    rcases hk with ⟨-, hf, hx, ht⟩ | ⟨-, hf⟩ <;> rw [hf]
    · intro j hj
      cases hj
      exact ⟨x, hx, ht⟩
    · nofun
  have hends : s.sectorEnds true data = u.completeHead .aborted := by
    have hue : u.endWith = some .aborted := by rw [hu]; exact hend
    have hfin : u.finishBlock = u.completeHead .aborted := by
      simp only [State.finishBlock, hue, State.endPending]
      rfl
    rw [← hfin, hu]
    rcases hk with ⟨-, hf, -⟩ | ⟨-, hf⟩
    · simp [State.sectorEnds, hf, State.flightEnds, State.writeEnds, State.land, State.emptySlotAt, State.onSlot,
        State.setSlots, State.onEng, slotsWithout]
    · simp [State.sectorEnds, hf, State.flightEnds, State.verifyEnds, State.land, State.onEng, slotsWithout]
  obtain ⟨hquiet, hended⟩ := abort_ended h hfull (t := u) (d := s.dbi) (n := s.eng.completed + 1) (before := [])
    (damaged := s.eng.damaged) hu rfl (by simp) ho rfl
  refine ⟨_, exec_sectorEnd .., ?_⟩
  have hosted : (u.completeHead .aborted).Hosted := by
    rw [(h.completes hu rfl .aborted).1, hu]
    exact ⟨hh.turn, hh.inb⟩
  rw [hends, event_of_quiet hquiet hosted]
  exact hended

end

/-- Settles O48: the answers of ABORT by what its target does. -/
theorem abortAnswers : Obligations.AbortAnswers := by
  unfold Obligations.AbortAnswers
  refine ⟨fun s tag target mode e x rest hs htag => ⟨(exec_abort hs htag target mode).1, fun hm hno => ?_,
    fun hm hset hq hx hne hmem hxt hwait hone => ?_, fun hm hset hl hq hx htarget hj hw hd hej hop hr hreq he => ?_⟩,
    fun s tag target mode k go sp l i x data hset hl ht hin hq hj hw hd hej hop hr hfull => ?_⟩
  · obtain ⟨b, hb⟩ := twoWay_of_le hm
    rw [(exec_abort hs htag target mode).2 b hb, abort_noEntry hno]
  · obtain ⟨b, hb⟩ := twoWay_of_le hm
    obtain ⟨habort, hqueue⟩ := abort_waiting (quiet_of_settled hset) hq hx hne hmem hxt hwait hone tag b
    refine ⟨_, (exec_abort hs htag target mode).2 b hb, ?_⟩
    rw [habort]
    refine ⟨?_, hqueue, ?_, rfl, rfl, rfl, rfl, rfl, rfl, rfl, rfl⟩
    · change s.dbi.replies ++ [_] ++ [_] = _
      rw [List.append_assoc]
      rfl
    · simp [State.completeWaiting, State.placeDone, State.requested]
  · obtain ⟨b, hb⟩ := twoWay_of_le hm
    have h : s.Executes e := ⟨quiet_of_settled hset, hl, hq, hx, hw, hd, hej, hop, hr⟩
    refine ⟨_, (exec_abort hs htag target mode).2 b hb, ?_⟩
    subst htarget
    obtain ⟨u, hu⟩ : ∃ u, u = s.withReply tag .ok .empty := ⟨_, rfl⟩
    have huj : u.job = .seeking := by rw [hu]; exact hj
    have hux : u.executing.isNone = false := by
      have : u.executing = some e := by rw [hu]; exact h.head
      rw [this]
      rfl
    have hact : u.abortExecuting b = u.completeHead .aborted := by
      simp [State.abortExecuting, huj, State.stopExecuting, hux, State.endWaits]
    have hut : u = { s with dbi := u.dbi, eng := s.eng, slots := s.slots } := by rw [hu]; rfl
    obtain ⟨hc, hquiet⟩ := h.completes hut (by rw [he]; rfl) .aborted
    obtain ⟨hrep, hqueue, -, -, -, hpos, -, htbs, hrec, hcount, -⟩ := finished_ended hut (by rw [he]; rfl) hop e.tag .aborted
    rw [h.abort, ← hu, hact, hc, settle_of_quiet hquiet]
    refine ⟨?_, hqueue, hpos, htbs, hrec, hcount⟩
    rw [hrep, hu, he]
    change s.dbi.replies ++ [_] ++ [_] = _
    rw [List.append_assoc]
    rfl
  · have h : s.Executes ⟨target, .xfer k go l, true⟩ := ⟨quiet_of_settled hset, hl, hq, rfl, hw, hd, hej, hop, hr⟩
    have hexec (hs : s.listens = true) (htag : tag ≠ 0) {mode : Byte} {b : Bool} (hb : twoWay mode = some b) :=
      (exec_abort hs htag target mode).2 b hb
    refine ⟨fun hs htag hm hf => ?_, fun hs htag hown => ?_, fun hend hk =>
      abort_sectorEnds h hfull ⟨ht, hin⟩ hend hk data,
      fun hs htag _ hf => ⟨_, hexec hs htag rfl, abort_immediate h hfull hj hf ⟨rfl, .inl ⟨rfl, rfl, rfl⟩⟩ tag⟩,
      fun hs htag hx hxt => ⟨fun _ hf => ?_, fun _ hf => ?_⟩⟩
    · obtain ⟨b, hb⟩ := twoWay_of_le hm
      exact ⟨_, hexec hs htag hb, abort_idleFlight h hfull hj hf tag b⟩
    · rw [hexec hs htag rfl, abort_waits h hj hown]
    · exact ⟨_, hexec hs htag rfl, abort_immediate h hfull hj hf ⟨rfl, .inr ⟨i, x, rfl, hx, hxt, .inl ⟨rfl, rfl⟩⟩⟩ tag⟩
    · exact ⟨_, hexec hs htag rfl, abort_immediate h hfull hj hf ⟨rfl, .inr ⟨i, x, rfl, hx, hxt, .inr ⟨rfl, rfl⟩⟩⟩ tag⟩

end Sys2Proof.Machine
end

section
/-! EJECT (R131, R132, R138): its checks, the merging with an eject in progress, and its phases as far as the unload of
the heads. -/

namespace Sys2Proof.Machine

/-! ## The checks -/

theorem exec_eject {s : State} (hs : s.listens = true) {tag : Byte} (htag : tag ≠ 0) (mode force : Byte) :
    exec (.eject tag mode force) s = .next (match ejectModeOf mode, twoWay force with
      | some m, some f => s.ejectCommand tag m f
      | _, _ => s.badOperand tag) :=
  congrArg _ (command_of_listens _ hs htag rfl (by simp) (by simp) rfl)

theorem exec_eject_of {s : State} (hs : s.listens = true) {tag : Byte} (htag : tag ≠ 0) {mode force : Byte} {m f : Bool}
    (hm : twoWay mode = some m) (hf : twoWay force = some f) :
    exec (.eject tag mode force) s = .next (s.ejectCommand tag (if m then .cut else .drain) f) := by
  rw [exec_eject hs htag, ejectModeOf, hm, hf]
  rfl

theorem exec_eject_unlisted {s : State} (hs : s.listens = true) {tag : Byte} (htag : tag ≠ 0) {mode force : Byte}
    (h : 1 < mode.toNat ∨ 1 < force.toNat) : exec (.eject tag mode force) s = .next (s.withReply tag .badPacket .empty) := by
  rw [exec_eject hs htag, ejectModeOf]
  rcases h with h | h
  · rw [twoWay_eq_none h]
    rfl
  · rw [twoWay_eq_none h]
    cases twoWay mode <;> rfl

/-- FORCE, or no hold counted. -/
theorem force_or_free {s : State} {force : Byte} (h : force = 1 ∨ force = 0 ∧ s.ccu.holdCount = 0) :
    twoWay force = some (force == 1) ∧ (decide (0 < s.ccu.holdCount) && !(force == 1)) = false := by
  rcases h with rfl | ⟨rfl, hn⟩
  · exact ⟨rfl, by simp⟩
  · exact ⟨rfl, by simp [hn]⟩

/-- EJECT begins an eject (R132). -/
theorem ejectCommand_begins {s : State} {force : Bool} (he : s.ccu.eject = none) (ha : s.ccu.state ≠ .absent)
    (hf : (decide (0 < s.ccu.holdCount) && !force) = false) (tag : Byte) (mode : EjectMode) :
    s.ejectCommand tag mode force = ((s.withReply tag .queued .empty).beginEject mode force [tag]).settle := by
  have ha' : (s.ccu.state == .absent) = false := by simpa using ha
  simp only [State.ejectCommand, he, ha', hf, Bool.false_eq_true, if_false]
  rfl

/-! ## An EJECT merges -/

section

variable {s : State} {e : EjectRecord} (hquiet : react s = none) (hl : s.supplyLow = false) (he : s.ccu.eject = some e)
include hquiet hl he

/-- A change of the eject record that leaves its phase wakes nothing, while no write-back is being decided. -/
theorem quiet_of_merged {e' : EjectRecord} (hp : e'.phase = e.phase)
    (hph : e.phase = none ∨ e.phase = some .unloading ∨ e.phase = some .stopping) (tag : Byte) :
    react { s.withReply tag .queued .empty with ccu := { s.ccu with eject := some e' } } = none := by
  have hr : ∀ r ∈ rules, r s = none := by
    rcases react_eq_none.mp hquiet with h | h
    · rw [hl] at h
      cases h
    · exact h
  have hheeds : State.heeds { s.withReply tag .queued .empty with ccu := { s.ccu with eject := some e' } } =
      s.heeds := by
    simp [State.heeds, State.withReply, he, hp, State.engineFree]
  obtain ⟨hflight, heng⟩ := engine_heeds hheeds rfl
  refine quiet_of_heeds (s := s) hheeds (fun _ => rfl) (.inr ?_) (none_of_isSome (reactEnd_heeds hheeds rfl rfl)
    (hr _ (by simp [rules]))) (none_of_isSome hflight (hr _ (by simp [rules])))
    (none_of_isSome heng (hr _ (by simp [rules]))) (fun _ _ h => h) (fun _ _ _ _ h => h) hquiet
  rcases hph with hph | hph | hph
  · simp [reactEject, hp, hph]
  · have hs := hr reactEject (by simp [rules])
    simp only [reactEject, he, hph, ejectUnload] at hs
    simp only [reactEject, hp, hph, ejectUnload]
    exact none_of_isSome (by rw [isSome_guarded, isSome_guarded]; rfl) hs
  · simp [reactEject, hp, hph]

theorem merge_ejecting (hst : s.ccu.state = .ejecting) (hph : e.phase = none) (hroom : e.tags.length < 4) (tag : Byte)
    (mode : EjectMode) (force : Bool) : s.ejectCommand tag mode force = { s.withReply tag .queued .empty with
      ccu := { s.ccu with eject := some { e with tags := e.tags ++ [tag] } } } := by
  have hmerge : (s.withReply tag .queued .empty).mergeEject tag mode force = { s.withReply tag .queued .empty with
      ccu := { s.ccu with eject := some { e with tags := e.tags ++ [tag] } } } := by
    obtain ⟨ph, m, f, ts, fl⟩ := e
    dsimp only at hph
    subst hph
    simp [State.mergeEject, State.withReply, hst, he, State.onCcu, State.forceFlush]
  have hfull : ¬ Config.ejectTagMax ≤ e.tags.length := Nat.not_le_of_lt hroom
  simp only [State.ejectCommand, he, hfull, if_false]
  exact (congrArg State.settle hmerge).trans
    (settle_of_quiet (quiet_of_merged hquiet hl he (e' := { e with tags := e.tags ++ [tag] }) rfl (.inl hph) tag))

theorem merge_pending (hst : s.ccu.state = .ejectPending) (hph : e.phase = some .unloading ∨ e.phase = some .stopping)
    (hroom : e.tags.length < 4) (tag : Byte) (mode : EjectMode) (force : Bool) :
    s.ejectCommand tag mode force = { s.withReply tag .queued .empty with
      ccu := { s.ccu with eject := some { e with
        tags := e.tags ++ [tag], mode := if mode == .cut then .cut else e.mode, force := e.force || force } } } := by
  have hmerge : (s.withReply tag .queued .empty).mergeEject tag mode force = { s.withReply tag .queued .empty with
      ccu := { s.ccu with eject := some { e with
        tags := e.tags ++ [tag], mode := if mode == .cut then .cut else e.mode, force := e.force || force } } } := by
    obtain ⟨ph, m, f, ts, fl⟩ := e
    dsimp only at hph
    rcases hph with rfl | rfl <;>
      simp [State.mergeEject, State.withReply, hst, he, State.onCcu, State.forceFlush]
  have hfull : ¬ Config.ejectTagMax ≤ e.tags.length := Nat.not_le_of_lt hroom
  simp only [State.ejectCommand, he, hfull, if_false]
  exact (congrArg State.settle hmerge).trans
    (settle_of_quiet (quiet_of_merged hquiet hl he (e' := { e with
      tags := e.tags ++ [tag], mode := if mode == .cut then .cut else e.mode, force := e.force || force }) rfl (.inr hph) tag))

end

/-! ## The phases as far as the unload -/

/-- The drive is idle but for an eject in its phases, over a disk at speed. -/
structure State.Ejects (s : State) (e : EjectRecord) : Prop where
  idle : (s.onCcu fun c => { c with eject := none }).Idle
  eject : s.ccu.eject = some e
  speed : s.spc.state = .atSpeed
  loaded : s.pos.state ≠ .unloaded

theorem react_of_ejects {s : State} {e : EjectRecord} (h : s.Ejects e) (hph : e.phase ≠ some .stopping) :
    react s = reactEject s := by
  obtain ⟨⟨hq, hj, he, hw, hd, -, ho, hr, hg, hl⟩, hx, hs, hu⟩ := h
  simp only [State.onCcu_queue, State.onCcu_job, State.onCcu_endWith, State.onCcu_work, State.onCcu_downs,
    State.onCcu_record, State.onCcu_eng, State.onCcu_supplyLow] at hq hj he hw hd ho hr hg hl
  have hex : s.executing = none := by simp [State.executing, hq]
  have hm := List.findSome?_eq_none_iff.mp (mechanical_moving hs hu)
  simp only [mechanical, List.forall_mem_cons] at hm
  obtain ⟨m1, m2, m3, m4, m5, m6, -⟩ := hm
  have hhead : reactBegin s = none ∧ reactStranded s = none ∧ reactReady s = none ∧ reactTransfer s = none := by
    simp [reactBegin, reactStranded, reactReady, reactTransfer, guarded, hq, hex, hj]
  simp [react, rules, m1, m2, m3, m4, m5, m6, hl, reactFlight, reactRecordLost, State.recordOpLost, reactEjecting,
    reactStopped, reactParked, reactEjectParked, reactWorkCut, reactEnd, reactWork, reactReadDue, reactReached,
    reactRecordSeek, reactRecordSlot, reactEngine, reactDrain, reactDown, Downs.stepOf, guarded, hj, he, hw, hd, hx, ho,
    hr, hg, hs, hu, hph, Engine.none]
  cases hej : reactEject s <;> simp [hej, hhead]

theorem State.Ejects.at {s : State} {e : EjectRecord} (h : s.Ejects e) (e' : EjectRecord) :
    (s.onCcu fun c => { c with eject := some e' }).Ejects e' :=
  ⟨{ h.idle with eject := rfl }, rfl, h.speed, h.loaded⟩

/-- With an empty queue and a clean record the eject goes through its first phases to the unload (R133 to R135). -/
theorem eject_unloads {s : State} {mode : EjectMode} {force : Bool} {tags : List Byte}
    (h : s.Ejects ⟨some .draining, mode, force, tags, .undecided⟩) (ht : s.pos.state = .tracking)
    (hp : s.pos.parkSensor = false) (hclean : s.needsWriteBack = false) :
    ∃ t, s.settle = t ∧ t.pos.state = .unloading ∧
      (s.onCcu fun c => { c with eject := some ⟨some .unloading, mode, force, tags, .undecided⟩ }).OnlyHeads t := by
  have hat := h.at
  have hstep (p : EjectPhase) (e : EjectRecord) : ((s.onCcu fun c => { c with
      eject := some ⟨some p, mode, force, tags, .undecided⟩ }).onCcu fun c => { c with eject := some e }) =
      s.onCcu fun c => { c with eject := some e } := rfl
  have h1 : react s = some (s.onCcu fun c => { c with eject := some ⟨some .flushing, mode, force, tags, .undecided⟩ }) := by
    have hfree : s.engineFree = true := by
      have hg := h.idle.eng
      have ho := h.idle.op
      simp only [State.onCcu_eng, State.onCcu_record] at hg ho
      simp [State.engineFree, hg, ho, Engine.none]
    have hq : s.queue = [] := h.idle.queue
    rw [react_of_ejects h (by simp)]
    simp [reactEject, h.eject, hq, hfree, guarded]
  have h2 : react (s.onCcu fun c => { c with eject := some ⟨some .flushing, mode, force, tags, .undecided⟩ }) =
      some (s.onCcu fun c => { c with eject := some ⟨some .unloading, mode, force, tags, .undecided⟩ }) := by
    have hclean' : (s.onCcu fun c => { c with
        eject := some ⟨some .flushing, mode, force, tags, .undecided⟩ }).needsWriteBack = false := hclean
    rw [react_of_ejects (hat _) (by simp)]
    simp only [reactEject, State.onCcu_ccu, ejectFlush, hclean']
    rfl
  obtain ⟨u, hu⟩ : ∃ u, u = s.onCcu fun c => { c with eject := some ⟨some .unloading, mode, force, tags, .undecided⟩ } :=
    ⟨_, rfl⟩
  have hejects : u.Ejects ⟨some .unloading, mode, force, tags, .undecided⟩ := hu ▸ hat _
  have hjob : u.job = .idle := hejects.idle.job
  obtain ⟨hheads, hland⟩ := unloadRequest_of_tracking (s := u) (by simp [hjob]) hejects.idle.op (by rw [hu]; exact ht)
    (by rw [hu]; exact hp)
  rw [← hu] at h2
  have hut : u.pos.state = .tracking := by rw [hu]; exact ht
  have h3 : react u = some u.unloadRequest := by
    rw [react_of_ejects hejects (by simp)]
    simp [reactEject, hejects.eject, ejectUnload, hut, PosState.flying, guarded]
  generalize u.unloadRequest = t at hheads hland h3
  have hlast : react t = none := by
    have htx : t.Ejects ⟨some .unloading, mode, force, tags, .undecided⟩ := by
      refine ⟨?_, by rw [hheads.ccu]; exact hejects.eject, by rw [hheads.spc]; exact hejects.speed, by simp [hland]⟩
      rw [hheads]
      exact { hejects.idle with }
    rw [react_of_ejects htx (by simp)]
    simp [reactEject, htx.eject, ejectUnload, hland, PosState.flying, guarded]
  exact ⟨t, settle_of_reactsIn (k := 3) ⟨_, h1, _, h2, _, h3, rfl⟩ (by decide) hlast, hland, hu ▸ hheads⟩

/-! ## An eject begins -/

/-- The eject of a cartridge that is not SEATED stands in its first phase (R132, R133). -/
def State.ejectPends (mode : EjectMode) (force : Bool) (tags : List Byte) (s : State) : State :=
  (s.cancelRestarts.onDowns Downs.leaveStandby).onCcu fun c => { c with
    eject := some ⟨some .draining, mode, force, tags, .undecided⟩, buttonRefused := false, state := .ejectPending }

theorem beginEject_latched {s : State} (h : s.ccu.state = .latched) (mode : EjectMode) (force : Bool)
    (tags : List Byte) : s.beginEject mode force tags =
      if mode == .cut then (s.ejectPends mode force tags).cutQueue else s.ejectPends mode force tags := by
  have h' : (((s.cancelRestarts.onDowns Downs.leaveStandby).onCcu fun c => { c with
      eject := some ⟨some .draining, mode, force, tags, .undecided⟩, buttonRefused := false }).ccu.state ==
      .seated) = false := by
    change (s.ccu.state == .seated) = false
    rw [h]
    rfl
  unfold State.beginEject
  dsimp only
  rw [h', if_neg Bool.false_ne_true]
  rfl

/-- Nothing is left to cut in an empty queue. -/
theorem cutQueue_empty {s : State} (hq : s.queue = []) (hj : s.job = .idle) : s.cutQueue = s := by
  have hx : s.executing.isNone = true := by simp [State.executing, hq]
  have hw : s.endWaits = false := by simp [State.endWaits, hj]
  simp [State.cutQueue, hw, State.stopExecuting, hx, State.abortWaiting, hq]

/-- The WAITING entries leave the queue in their order, each with its DONE (R117). -/
theorem foldl_completeWaiting (st : Status) (tags : List Byte) (s : State) :
    ∃ t, tags.foldl (fun t g => t.completeWaiting g st) s = t ∧
      t.dbi.replies = s.dbi.replies ++ tags.map (fun g => Packet.done g st 0 0 0 none none) ∧
      t.queue = s.queue.filter (fun e => e.executing || !tags.contains e.tag) ∧
      (s.requested .commandDone = true → t.requested .commandDone = true) ∧
      t = { s with
        dbi := { s.dbi with replies := t.dbi.replies }
        queue := t.queue
        spc := { s.spc with standbyElapsed := t.spc.standbyElapsed }
        atc := t.atc } := by
  induction tags generalizing s with
  | nil => exact ⟨s, rfl, by simp, (List.filter_eq_self.mpr (by simp)).symm, id, rfl⟩
  | cons g gs ih =>
    obtain ⟨t, ht, hr, hq, hd, heq⟩ := ih (s.completeWaiting g st)
    refine ⟨t, ht, ?_, ?_, fun _ => hd (by simp [State.completeWaiting, State.placeDone, State.requested]), ?_⟩
    · rw [hr]
      simp [State.completeWaiting, State.placeDone, State.place, Engine.none]
    · rw [hq]
      simp only [State.completeWaiting, State.setQueue, State.placeDone, List.filter_filter]
      refine List.filter_congr fun e _ => ?_
      simp only [List.contains_cons, Bool.not_or]
      cases e.executing <;> simp [Bool.and_comm, bne]
    · rw [heq]
      simp [State.completeWaiting, State.placeDone, State.place, State.setQueue]

theorem abortWaiting_spec (s : State) :
    ∃ t, s.abortWaiting = t ∧
      t.dbi.replies = s.dbi.replies ++
        (s.queue.filter fun e => !e.executing).map (fun y => Packet.done y.tag .ejectAborted 0 0 0 none none) ∧
      t.queue = s.queue.filter (fun e => e.executing) ∧
      (s.requested .commandDone = true → t.requested .commandDone = true) ∧
      t = { s with
        dbi := { s.dbi with replies := t.dbi.replies }
        queue := t.queue
        spc := { s.spc with standbyElapsed := t.spc.standbyElapsed }
        atc := t.atc } := by
  obtain ⟨t, ht, hr, hq, hd, heq⟩ := foldl_completeWaiting .ejectAborted
    ((s.queue.filter fun e => !e.executing).map Entry.tag) s
  refine ⟨t, ht, by rw [hr, List.map_map]; rfl, ?_, hd, heq⟩
  rw [hq]
  refine List.filter_congr fun e he => ?_
  cases hx : e.executing with
  | true => rfl
  | false =>
    have : e.tag ∈ (s.queue.filter fun e => !e.executing).map Entry.tag :=
      List.mem_map_of_mem (List.mem_filter.mpr ⟨he, by simp [hx]⟩)
    rw [List.contains_iff_mem.mpr this]
    rfl

/-! ## An eject waits for the queue -/

theorem reactFlight_congr {s t : State} (hp : t.pos.state = s.pos.state) (hs : t.spc.state = s.spc.state)
    (hf : t.eng.flight = s.eng.flight) : (reactFlight t).isSome = (reactFlight s).isSome := by
  simp only [reactFlight, hp, hs, hf]
  cases s.eng.flight with
  | none => rfl
  | some f => dsimp only; split <;> simp

theorem reactEngine_congr {s t : State} (hp : t.pos = s.pos) (hg : t.eng = s.eng) (hj : t.job = s.job) :
    (reactEngine t).isSome = (reactEngine s).isSome := by
  have htrack (c k) : t.trackingOn c k = s.trackingOn c k := by simp only [State.trackingOn, hp]
  have hplace (c k) : t.inPlace c k = s.inPlace c k := by simp only [State.inPlace, hp]
  simp only [reactEngine, htrack, hplace, State.ownFlight, hp, hg, hj]
  cases s.eng.place with
  | none => rfl
  | some pl => simp only [isSome_ite, isSome_guarded, Option.isSome_some]

/-- The eject stands in its first phase behind a queue that is not empty, with no record operation. -/
structure State.Draining (s : State) (e : Entry) : Prop where
  supplied : s.supplyLow = false
  flight : reactFlight s = none
  op : s.record.op = .idle
  due : s.record.readWanted = false ∨ s.pos.state ≠ .tracking
  pending : s.ccu.state = .ejectPending
  phase : s.ccu.eject.bind EjectRecord.phase = some .draining
  queue : s.queue.head? = some e
  downs : s.downs.cmd = none ∧ s.downs.orphan = none ∧ (s.downs.standby = none ∨ s.downs.standby = some .unload)
  parked : s.downs.standby = some .unload → s.pos.state ≠ .unloaded
  cut : s.work.bind SpinUpWork.cut = none
  ends : s.endWith = none ∨ s.endWaits = true
  job : s.job = .idle ∨ s.job = .work ∨ s.job = .transfer

/-- Then the work of SPIN UP, the engine and the head entry alone go on. -/
theorem react_of_draining {s : State} {e : Entry} (h : s.Draining e)
    (hm : mechanical.findSome? (fun r => r s) = none) :
    react s = [reactWork, reactEngine, reactBegin].findSome? fun r => r s := by
  obtain ⟨hl, hf, ho, hdue, hc, hp, hq, ⟨hd, hdo, hds⟩, hpark, hcut, hend, hj⟩ := h
  have hm := List.findSome?_eq_none_iff.mp hm
  simp only [mechanical, List.forall_mem_cons] at hm
  obtain ⟨m1, m2, m3, m4, m5, m6, -⟩ := hm
  have hqe : s.queue.isEmpty = false := by
    cases hs : s.queue with
    | nil => rw [hs] at hq; cases hq
    | cons x l => rfl
  have hrec : reactRecordLost s = none ∧ reactReadDue s = none ∧ reactReached s = none ∧ reactRecordSeek s = none ∧
      reactRecordSlot s = none := by
    rcases hdue with h | h <;>
      simp [reactRecordLost, State.recordOpLost, reactReadDue, reactReached, reactRecordSeek, reactRecordSlot, guarded, ho, h]
  have hcart : reactEjecting s = none ∧ reactEjectParked s = none ∧ reactEject s = none := by
    refine ⟨by simp [reactEjecting, hp, guarded], by simp [reactEjectParked, hp, guarded], ?_⟩
    obtain ⟨x, hx, hph⟩ := Option.bind_eq_some_iff.mp hp
    simp [reactEject, hx, hph, hqe, guarded]
  have hdown : reactStopped s = none ∧ reactParked s = none ∧ reactDown .cmd s = none ∧ reactDown .standby s = none ∧
      reactDown .orphan s = none := by
    rcases hds with h | h
    · simp [reactStopped, reactParked, reactDown, Downs.stepOf, hd, hdo, h]
    · simp [reactStopped, reactParked, reactDown, Downs.stepOf, hd, hdo, h, hpark h]
  have hends : reactWorkCut s = none ∧ reactEnd s = none := by
    rcases hend with h | h
    · simp [reactWorkCut, reactEnd, hcut, h]
    · simp only [reactWorkCut, reactEnd, hcut, h]
      cases s.endWith <;> simp [guarded]
  have hhead : reactDrain s = none ∧ reactStranded s = none ∧ reactReady s = none ∧ reactTransfer s = none := by
    rcases hj with h | h | h <;>
    · simp only [reactDrain, reactStranded, reactReady, reactTransfer, h]
      cases s.executing <;> simp [guarded]
  simp [react, rules, List.findSome?_cons, hl, hf, m1, m2, m3, m4, m5, m6, hrec, hcart, hdown, hends, hhead]

/-- What an eject of a LATCHED cartridge does to the mechanism wakes nothing there. -/
theorem mechanical_pends {s t : State} (hs : mechanical.findSome? (fun r => r s) = none) (hc : s.ccu.state = .latched)
    (ht : t.ccu.state = .ejectPending) (hstart : t.pendingStart = true → s.pendingStart = true)
    (hload : t.pendingLoad = true → s.pendingLoad = true) (hpos : t.pos.state = s.pos.state)
    (hspc : (t.spc.state, t.spc.brakePending) = (s.spc.state, s.spc.brakePending)) :
    mechanical.findSome? (fun r => r t) = none := by
  simp only [Prod.mk.injEq] at hspc
  rw [List.findSome?_eq_none_iff] at hs ⊢
  simp only [mechanical, List.forall_mem_cons, reactOwnUnload, reactStopCheck, reactRelease, reactBrake, reactStart,
    reactLoad, State.atRest, State.loadAllowed, ← Option.not_isSome_iff_eq_none, isSome_guarded, hc] at hs ⊢
  simp only [hpos, hspc, ht]
  cases hts : t.pendingStart <;> cases htl : t.pendingLoad <;> simp_all

/-- An eject withdraws the restarts, and leaves the starts and loads of a work of SPIN UP (R132). -/
theorem ejectPends_pending (mode : EjectMode) (force : Bool) (tags : List Byte) (s : State) :
    (s.ejectPends mode force tags).pendingStart = s.spc.startByWork ∧
    (s.ejectPends mode force tags).pendingLoad = s.pos.loadByWork := by
  have hkinds (p : KindStatus → Bool)
      (hp : ∀ x : KindStatus, p { x with
        restarting := false
        wantsStart := false
        wantsLoad := false } = false) :
      (s.ejectPends mode force tags).fsv.kinds.any p = false :=
    PerKind.any_eq_false.mpr fun k => by simpa [State.ejectPends, State.cancelRestarts] using hp _
  refine ⟨?_, ?_⟩
  · rw [State.pendingStart, hkinds _ fun _ => rfl, Bool.or_false]
    rfl
  · rw [State.pendingLoad, hkinds _ fun _ => rfl, Bool.or_false]
    rfl

/-- What the completion of the head entry changes, with no work of SPIN UP (R100). -/
theorem completeHead_frame {u : State} {x : Entry} {rest : List Entry} (hq : u.queue = x :: rest) (hw : u.work = none)
    (st : Status) : let w := u.completeHead st
    w.queue = rest ∧ w.dbi.replies = u.dbi.replies ++
        [.done x.tag st u.eng.completed u.eng.errors u.eng.slips u.eng.firstError u.eng.damaged] ∧
      w.job = .idle ∧ w.endWith = none ∧ w.work = none ∧ w.downs = { u.downs with cmd := none } ∧
      w.ccu = u.ccu ∧ w.record = u.record ∧ w.eng = u.eng.afterCommand ∧ w.supplyLow = u.supplyLow ∧
      w.spc.state = u.spc.state ∧ w.pos.state = u.pos.state ∧ w.pos.parkSensor = u.pos.parkSensor ∧
      w.requested .commandDone = true ∧ w.tbs = u.tbs := by
  have hleave : ∀ y : State, y.work = none → y.leaveWork .cmd = y := fun y hy => by simp only [State.leaveWork, hy]
  simp only [State.completeHead, hq]
  rw [hleave _ (by simpa [State.placeDone, State.releaseCommand, State.orphanSeek, State.place] using hw)]
  simp [State.placeDone, State.releaseCommand, State.orphanSeek, State.place, State.setQueue, State.setJob, State.setEnd,
    State.setSlots, State.requested, hw]

/-! ## CUT -/

section

variable {s : State} (hs : s.listens = true) (hquiet : react s = none) (hlatch : s.ccu.state = .latched)
  {x : Entry} {rest : List Entry} (hq : s.queue = x :: rest) (hx : x.executing = true)
  (hrest : ∀ y ∈ rest, y.executing = false) (hj : s.job = .transfer) (hw : s.work = none)
  (hd : s.downs = ⟨none, none, none, false⟩) (ho : s.record.op = .idle) (hr : s.record.readWanted = false)
include hs hquiet hlatch hq hx hrest hj hw hd ho hr

/-- A sector in flight runs to its end first; the WAITING entries leave at once (R117). -/
theorem cut_waits (hown : s.ownFlight = true) (tag : Byte) (force : Bool) :
    ∃ t, ((s.withReply tag .queued .empty).beginEject .cut force [tag]).settle = t ∧
      t.dbi.replies = s.dbi.replies ++ [.reply tag .queued .empty] ++
        rest.map (fun y => Packet.done y.tag .ejectAborted 0 0 0 none none) ∧ t.queue = [x] ∧
      t.endWith = some .ejectAborted ∧ t.ccu.state = .ejectPending ∧
      t.ccu.eject = some ⟨some .draining, .cut, force, [tag], .undecided⟩ ∧
      t.eng = s.eng ∧ t.slots = s.slots ∧ t.pos = s.pos ∧ t.record = s.record ∧ t.tbs = s.tbs := by
  have hl := supplyLow_of_listens hs
  obtain ⟨u, hu⟩ : ∃ u, u = (s.withReply tag .queued .empty).ejectPends .cut force [tag] := ⟨_, rfl⟩
  have huq : u.queue = x :: rest := by rw [hu]; exact hq
  have hwaits : u.endWaits = true := by
    have huj : u.job = .transfer := by rw [hu]; exact hj
    simp only [State.endWaits, huj]
    rw [hu]
    exact hown
  obtain ⟨v, hv, hvr, hvq, -, hveq⟩ := abortWaiting_spec u
  have hfilter : rest.filter (fun e => e.executing) = [] := List.filter_eq_nil_iff.mpr fun y hy => by simp [hrest y hy]
  have hwaiting : rest.filter (fun e => !e.executing) = rest := List.filter_eq_self.mpr fun y hy => by simp [hrest y hy]
  rw [huq, List.filter_cons_of_pos hx, hfilter] at hvq
  rw [huq, List.filter_cons_of_neg (by simp [hx]), hwaiting] at hvr
  have hbegin : (s.withReply tag .queued .empty).beginEject .cut force [tag] = v.setEnd (some .ejectAborted) := by
    have hvx : v.executing.isNone = false := by simp [State.executing, hvq, hx]
    have hvw : v.endWaits = true := by rw [hveq]; exact hwaits
    rw [beginEject_latched (s := s.withReply tag .queued .empty) hlatch, ← hu]
    simp [State.cutQueue, hwaits, hv, State.stopExecuting, hvx, hvw]
  obtain ⟨t, ht⟩ : ∃ t, t = v.setEnd (some .ejectAborted) := ⟨_, rfl⟩
  have hframe : t.eng = s.eng ∧ t.slots = s.slots ∧ t.pos = s.pos ∧ t.record = s.record ∧ t.tbs = s.tbs ∧ t.job = s.job ∧
      t.ccu = u.ccu ∧ t.queue = v.queue ∧ t.dbi.replies = v.dbi.replies ∧ t.endWith = some .ejectAborted ∧
      t.spc = { s.spc with standbyElapsed := t.spc.standbyElapsed } ∧ t.fsv = u.fsv ∧ t.downs = u.downs ∧
      t.work = s.work ∧ t.supplyLow = s.supplyLow := by
    rw [ht, hveq, hu]
    exact ⟨rfl, rfl, rfl, rfl, rfl, rfl, rfl, rfl, rfl, rfl, rfl, rfl, rfl, rfl, rfl⟩
  obtain ⟨hteng, htslots, htpos, htrec, httbs, htj, htccu, htq, htr, hte, htspc, htfsv, htdowns, htw, htl⟩ := hframe
  have hrules : ∀ r ∈ rules, r s = none := by
    rcases react_eq_none.mp hquiet with h | h
    · rw [hl] at h
      cases h
    · exact h
  have hm : mechanical.findSome? (fun r => r t) = none := by
    obtain ⟨hpend, hload⟩ := ejectPends_pending .cut force [tag] (s.withReply tag .queued .empty)
    rw [← hu] at hpend hload
    refine mechanical_pends (mechanical_of_quiet hquiet hl) hlatch (by rw [htccu, hu]; rfl) (fun h => ?_) (fun h => ?_)
      (by rw [htpos]) (by rw [htspc])
    · have hts : t.pendingStart = u.pendingStart := by
        rw [State.pendingStart, State.pendingStart, htfsv, htspc, hu]
        rfl
      rw [hts, hpend] at h
      exact (Bool.or_eq_true ..).mpr (.inl h)
    · have hts : t.pendingLoad = u.pendingLoad := by
        rw [State.pendingLoad, State.pendingLoad, htfsv, htpos, hu]
        rfl
      rw [hts, hload] at h
      exact (Bool.or_eq_true ..).mpr (.inl h)
  have htdrain : t.Draining x := by
    have hud : u.downs = ⟨none, none, none, false⟩ := by
      rw [hu]
      change s.downs.leaveStandby = _
      rw [hd]
      rfl
    refine ⟨by rw [htl, hl], none_of_isSome (reactFlight_congr (by rw [htpos]) (by rw [htspc]) (by rw [hteng]))
      (hrules _ (by simp [rules])), by rw [htrec, ho], .inl (by rw [htrec, hr]), by rw [htccu, hu]; rfl,
      by rw [htccu, hu]; rfl, by rw [htq, hvq]; rfl, ?_, ?_, by rw [htw, hw]; rfl, .inr ?_, .inr (.inr (by rw [htj, hj]))⟩
    · rw [htdowns, hud]
      exact ⟨rfl, rfl, .inl rfl⟩
    · rw [htdowns, hud]
      nofun
    · simp only [State.endWaits, htj, hj, State.ownFlight, hteng]
      exact hown
  have hlast : react t = none := by
    have heng : reactEngine t = none := none_of_isSome (reactEngine_congr htpos hteng htj) (hrules _ (by simp [rules]))
    rw [react_of_draining htdrain hm]
    simp [heng, reactWork, htw, hw, reactBegin, htq, hvq, hx, guarded]
  refine ⟨t, by rw [hbegin, ← ht, settle_of_quiet hlast], ?_, by rw [htq, hvq], hte, by rw [htccu, hu]; rfl,
    by rw [htccu, hu]; rfl, hteng, htslots, htpos, htrec, httbs⟩
  rw [htr, hvr, hu]
  rfl

omit hquiet hr in
/-- Without a sector in flight the EXECUTING transfer leaves first, and the heads unload (R117, R135). -/
theorem cut_unloads (hr : s.record.readWanted = false) (hf : s.eng.flight = none) (hspeed : s.spc.state = .atSpeed)
    (htrack : s.pos.state = .tracking) (hp : s.pos.parkSensor = false) (hclean : s.needsWriteBack = false) (tag : Byte)
    (force : Bool) :
    ∃ t, ((s.withReply tag .queued .empty).beginEject .cut force [tag]).settle = t ∧
      t.dbi.replies = s.dbi.replies ++ [.reply tag .queued .empty,
        .done x.tag .ejectAborted s.eng.completed s.eng.errors s.eng.slips s.eng.firstError s.eng.damaged] ++
        rest.map (fun y => Packet.done y.tag .ejectAborted 0 0 0 none none) ∧ t.queue = [] ∧ t.eng = Engine.none ∧
      t.ccu.state = .ejectPending ∧ t.ccu.eject.bind EjectRecord.phase = some .unloading ∧ t.pos.state = .unloading ∧
      t.requested .commandDone = true ∧ t.record.state = s.record.state ∧ t.record.image = s.record.image ∧
      t.tbs = s.tbs := by
  have hl := supplyLow_of_listens hs
  obtain ⟨u, hu⟩ : ∃ u, u = (s.withReply tag .queued .empty).ejectPends .cut force [tag] := ⟨_, rfl⟩
  have huq : u.queue = x :: rest := by rw [hu]; exact hq
  have hwaits : u.endWaits = false := by
    have huj : u.job = .transfer := by rw [hu]; exact hj
    simp only [State.endWaits, huj, State.ownFlight]
    rw [hu]
    change s.eng.flight.any _ = false
    rw [hf]
    rfl
  have hux : u.executing.isNone = false := by simp [State.executing, huq, hx]
  obtain ⟨w, hwc⟩ : ∃ w, w = u.completeHead .ejectAborted := ⟨_, rfl⟩
  obtain ⟨v, hv, hvr, hvq, hvd, hveq⟩ := abortWaiting_spec w
  have hbegin : (s.withReply tag .queued .empty).beginEject .cut force [tag] = v := by
    rw [beginEject_latched (s := s.withReply tag .queued .empty) hlatch, ← hu]
    simp [State.cutQueue, hwaits, State.stopExecuting, hux, ← hwc, hv]
  have huframe : u.work = none ∧ u.eng = s.eng ∧ u.record = s.record ∧ u.supplyLow = false ∧ u.spc = s.spc ∧
      u.pos = s.pos ∧ u.tbs = s.tbs ∧ u.downs = ⟨none, none, none, false⟩ ∧
      u.dbi.replies = s.dbi.replies ++ [.reply tag .queued .empty] := by
    rw [hu]
    refine ⟨hw, rfl, rfl, hl, rfl, rfl, rfl, ?_, rfl⟩
    change s.downs.leaveStandby = _
    rw [hd]
    rfl
  obtain ⟨huw, hueng, hurec, hul, huspc, hupos, hutbs, hudn, hur⟩ := huframe
  obtain ⟨hwq, hwr, hwj, hwe, hww, hwd, hwccu, hwrec, hweng, hwl, hws, hwp, hwpark, hwdone, hwtbs⟩ :=
    completeHead_frame huq huw .ejectAborted
  rw [← hwc] at hwq hwr hwj hwe hww hwd hwccu hwrec hweng hwl hws hwp hwpark hwdone hwtbs
  rw [hur, hueng, List.append_assoc, List.singleton_append] at hwr
  rw [hudn] at hwd
  rw [hurec] at hwrec
  rw [hueng, Engine.afterCommand, hf] at hweng
  rw [hul] at hwl
  rw [huspc, hspeed] at hws
  rw [hupos] at hwp hwpark
  rw [htrack] at hwp
  rw [hp] at hwpark
  rw [hutbs] at hwtbs
  have hfilter : rest.filter (fun e => e.executing) = [] := List.filter_eq_nil_iff.mpr fun y hy => by simp [hrest y hy]
  have hwaiting : rest.filter (fun e => !e.executing) = rest := List.filter_eq_self.mpr fun y hy => by simp [hrest y hy]
  rw [hwq, hfilter] at hvq
  rw [hwq, hwaiting, hwr] at hvr
  have hvframe : v.job = w.job ∧ v.endWith = w.endWith ∧ v.work = w.work ∧ v.downs = w.downs ∧ v.record = w.record ∧
      v.eng = w.eng ∧ v.supplyLow = w.supplyLow ∧ v.spc.state = w.spc.state ∧ v.pos = w.pos ∧ v.ccu = w.ccu ∧
      v.tbs = w.tbs := by
    rw [hveq]
    exact ⟨rfl, rfl, rfl, rfl, rfl, rfl, rfl, rfl, rfl, rfl, rfl⟩
  obtain ⟨hvj, hve, hvw, hvdn, hvrec, hveng, hvl, hvs, hvp, hvccu, hvtbs⟩ := hvframe
  have heject : v.ccu.state = .ejectPending ∧ v.ccu.protect = s.ccu.protect ∧
      v.ccu.eject = some ⟨some .draining, .cut, force, [tag], .undecided⟩ := by
    rw [hvccu, hwccu, hu]
    exact ⟨rfl, rfl, rfl⟩
  have hejects : v.Ejects ⟨some .draining, .cut, force, [tag], .undecided⟩ := by
    refine ⟨⟨hvq, hvj.trans hwj, hve.trans hwe, hvw.trans hww, hvdn.trans hwd, rfl, ?_, ?_, hveng.trans hweng,
      hvl.trans hwl⟩, heject.2.2, hvs.trans hws, ?_⟩
    · rw [State.onCcu_record, hvrec, hwrec, ho]
    · rw [State.onCcu_record, hvrec, hwrec, hr]
    · rw [hvp, hwp]
      nofun
  obtain ⟨t, hsettle, hland, hheads⟩ := eject_unloads hejects (by rw [hvp, hwp]) (by rw [hvp, hwpark])
    (by simp only [State.needsWriteBack, hvrec, hwrec, heject] at hclean ⊢; exact hclean)
  have hrec : t.record = s.record := by
    rw [hheads]
    exact hvrec.trans hwrec
  refine ⟨t, by rw [hbegin, hsettle], ?_, ?_, ?_, ?_, ?_, hland, ?_, by rw [hrec], by rw [hrec], ?_⟩
  · rw [hheads]
    exact hvr
  · rw [hheads]
    exact hvq
  · rw [hheads]
    exact hveng.trans hweng
  · rw [hheads]
    exact heject.1
  · rw [hheads]
    rfl
  · rw [hheads]
    exact hvd hwdone
  · rw [hheads]
    exact hvtbs.trans hwtbs

end

/-! ## The internal spin-down of standby ends at an eject -/

/-- The head entry stands at a step of a work of SPIN UP while an eject waits for the queue. -/
def State.leaving (x : Entry) (rest : List Entry) (step : WorkStep) (s : State) : State := { s with
  queue := { x with executing := true } :: rest
  job := .work
  work := some ⟨step, true, false, false, false, false, none⟩ }

section

variable {s : State} (hs : s.listens = true) (hquiet : react s = none) (hlatch : s.ccu.state = .latched)
  (hd : s.downs = ⟨none, some .unload, none, false⟩) (hspeed : s.spc.state = .atSpeed)
  (hpos : s.pos.state = .unloading) {x : Entry} {rest : List Entry} (hq : s.queue = x :: rest)
  (hj : s.job = .idle) (he : s.endWith = none)
include hs hquiet hspeed hpos

/-- What the eject leaves of the drive, as far as the reactions look at it. -/
theorem draining_of {t : State} {e : Entry} (ht : t.supplyLow = s.supplyLow ∧ t.eng = s.eng ∧ t.record = s.record ∧
      t.endWith = none ∧ t.spc = s.spc ∧ t.pos.state = s.pos.state)
    (hc : t.ccu.state = .ejectPending ∧ t.ccu.eject.bind EjectRecord.phase = some .draining)
    (hd' : t.downs = ⟨none, some .unload, none, true⟩) (hq : t.queue.head? = some e)
    (hcut : t.work.bind SpinUpWork.cut = none) (hjob : t.job = .idle ∨ t.job = .work) :
    react t = [reactWork, reactBegin].findSome? fun r => r t := by
  obtain ⟨htl, hteng, htrec, hte, htspc, htpos⟩ := ht
  have hl := supplyLow_of_listens hs
  have hrules : ∀ r ∈ rules, r s = none := by
    rcases react_eq_none.mp hquiet with h | h
    · rw [hl] at h
      cases h
    · exact h
  have hop : s.record.op = .idle := by
    have := hrules reactRecordLost (by simp [rules])
    simpa [reactRecordLost, State.recordOpLost, State.spindleReady, PosState.flying, hpos, guarded] using this
  have heng : reactEngine t = none := by
    simp only [reactEngine]
    cases t.eng.place with
    | none => rfl
    | some pl =>
      rcases hjob with h | h <;> simp [h]
  have hdrain : t.Draining e := by
    refine ⟨htl.trans hl, none_of_isSome (reactFlight_congr htpos (by rw [htspc]) (by rw [hteng])) (hrules _ (by simp [rules])),
      by rw [htrec, hop], .inr ?_, hc.1, hc.2, hq, ?_, ?_, hcut, .inl hte, hjob.imp_right .inl⟩
    · rw [htpos, hpos]
      nofun
    · rw [hd']
      exact ⟨rfl, rfl, .inr rfl⟩
    · rw [htpos, hpos]
      nofun
  rw [react_of_draining hdrain (mechanical_moving (by rw [htspc, hspeed]) (by rw [htpos, hpos]; nofun))]
  simp only [List.findSome?_cons, heng]

include hlatch hd hj he hq

/-- The eject ends the internal spin-down, and the head entry begins with the work of SPIN UP that it needs (R54, R132). -/
theorem eject_ends_standby (hx : x.executing = false) (hw : s.work = none) (hwait : s.retryWait = false)
    (hlatched : s.anyLatched = false)
    (hcmd : x.cmd = .spinUp ∨ s.needsSpindle x.cmd = true ∧ s.tbs.params.autoSpin = true) (tag : Byte) (force : Bool) :
    ((s.withReply tag .queued .empty).beginEject .drain force [tag]).settle =
      (((s.withReply tag .queued .empty).ejectPends .drain force [tag]).leaving x rest .heads).loadByWork := by
  have hl := supplyLow_of_listens hs
  obtain ⟨u, hu⟩ : ∃ u, u = (s.withReply tag .queued .empty).ejectPends .drain force [tag] := ⟨_, rfl⟩
  have hbegin : (s.withReply tag .queued .empty).beginEject .drain force [tag] = u := by
    rw [beginEject_latched (s := s.withReply tag .queued .empty) hlatch, ← hu]
    rfl
  have hudn : u.downs = ⟨none, some .unload, none, true⟩ := by
    rw [hu]
    change s.downs.leaveStandby = _
    rw [hd]
    rfl
  have huq : u.queue = x :: rest := by rw [hu]; exact hq
  have huw : u.work = none := by rw [hu]; exact hw
  have hframe : u.supplyLow = s.supplyLow ∧ u.eng = s.eng ∧ u.record = s.record ∧ u.endWith = none ∧ u.spc = s.spc ∧
      u.pos.state = s.pos.state := by
    rw [hu]
    exact ⟨rfl, rfl, rfl, he, rfl, rfl⟩
  have hcart : u.ccu.state = .ejectPending ∧ u.ccu.eject.bind EjectRecord.phase = some .draining := by
    rw [hu]
    exact ⟨rfl, rfl⟩
  have hstart : react u = some (u.leaving x rest .cartridge) := by
    rw [draining_of hs hquiet hspeed hpos hframe hcart hudn (e := x) (by rw [huq]; rfl) (by rw [huw]; rfl)
      (.inl (by rw [hu]; exact hj))]
    have hretry : u.retryWait = false := by
      rw [hu]
      simpa [State.ejectPends, State.withReply, State.retryWait, State.cancelRestarts, PerKind.any_eq_false] using hwait
    have hnone : u.anyLatched = false := by rw [hu]; exact hlatched
    have hentry : (u.setQueue ({ x with executing := true } :: rest)).beginEntry x.cmd = u.leaving x rest .cartridge := by
      have hjoin : ((u.setQueue ({ x with executing := true } :: rest)).setJob .work).joinWork .cmd =
          u.leaving x rest .cartridge := by
        simp only [State.joinWork, State.setJob, State.setQueue, huw]
        rfl
      have hready : (u.setQueue ({ x with executing := true } :: rest)).spindleReady = false := by
        have : u.pos.state = .unloading := hframe.2.2.2.2.2.trans hpos
        simp [State.spindleReady, State.setQueue, this, PosState.flying]
      have hneeds : (u.setQueue ({ x with executing := true } :: rest)).needsSpindle x.cmd = s.needsSpindle x.cmd := by
        rw [hu]
        rfl
      have hauto : (u.setQueue ({ x with executing := true } :: rest)).tbs = s.tbs := by
        rw [hu]
        rfl
      obtain ⟨tx, cmd, ex⟩ := x
      dsimp only at hcmd hneeds hjoin
      rcases hcmd with rfl | ⟨hn, ha⟩
      · exact hjoin
      · cases cmd with
        | spinUp => exact hjoin
        | spinDown => cases hn
        | _ =>
          simp only [State.beginEntry, hneeds, hn, hready, hauto, ha, if_true, Bool.false_eq_true, if_false]
          exact hjoin
    simp [reactWork, huw, reactBegin, huq, hx, State.standbyHolds, hudn, hretry, hnone, hentry, guarded]
  have hstep (w : WorkStep) : react (u.leaving x rest w) = reactWork (u.leaving x rest w) := by
    rw [draining_of hs hquiet hspeed hpos (t := u.leaving x rest w) hframe hcart hudn rfl rfl (.inr rfl)]
    have hb : reactBegin (u.leaving x rest w) = none := by simp [reactBegin, State.leaving, guarded]
    cases hr : reactWork (u.leaving x rest w) <;> simp [hr, hb]
  have hc1 : (u.leaving x rest .cartridge).ccu.state = .ejectPending := hcart.1
  have h1 : react (u.leaving x rest .cartridge) = some (u.leaving x rest .spindle) := by
    rw [hstep]
    simp [reactWork, State.leaving, workCartridge, State.workAt, State.setWork, hcart]
  have h2 : react (u.leaving x rest .spindle) = some (u.leaving x rest .heads) := by
    rw [hstep]
    simp [reactWork, State.leaving, workSpindle, State.workAt, State.setWork, hcart, hframe, hspeed]
  have hload : (u.leaving x rest .heads).loadByWork = (u.leaving x rest .heads).onPos fun p => { p with loadByWork := true } := by
    have hup : (u.leaving x rest .heads).pos.state = .unloading := hframe.2.2.2.2.2.trans hpos
    simp only [State.loadByWork, hup]
  have hlast : react ((u.leaving x rest .heads).loadByWork) = none := by
    rw [hload]
    rw [draining_of hs hquiet hspeed hpos (t := (u.leaving x rest .heads).onPos fun p =>
      { p with loadByWork := true }) hframe hcart hudn rfl rfl (.inr rfl)]
    simp [reactWork, State.leaving, workHeads, hcart, hframe, hspeed, hpos, guarded, PosState.flying,
      reactBegin]
  rw [hbegin, ← hu]
  cases hby : s.pos.loadByWork with
  | true =>
    have hsame : (u.leaving x rest .heads).loadByWork = u.leaving x rest .heads := by
      have hup : u.pos.loadByWork = true := by rw [hu]; exact hby
      have : { u.pos with loadByWork := true } = u.pos := by rw [← hup]
      rw [hload]
      simp [State.leaving, State.onPos, this]
    rw [hsame] at hlast ⊢
    exact settle_of_reactsIn (k := 3) ⟨_, hstart, _, h1, _, h2, rfl⟩ (by decide) hlast
  | false =>
    have h3 : react (u.leaving x rest .heads) = some (u.leaving x rest .heads).loadByWork := by
      have hup : u.pos.loadByWork = false := by rw [hu]; exact hby
      rw [hstep]
      simp [reactWork, State.leaving, workHeads, hcart, hframe, hspeed, hpos, guarded, PosState.flying, hup]
    exact settle_of_reactsIn (k := 4) ⟨_, hstart, _, h1, _, h2, _, h3, rfl⟩ (by decide) hlast

end

/-! ## The obligation -/

theorem eject_seated {s : State} (hc : s.Calm) (hst : s.ccu.state = .seated) {i : Instr}
    {tag : Byte} {mode : EjectMode} {force : Bool} (hf : (decide (0 < s.ccu.holdCount) && !force) = false)
    (hexec : exec i s = .next (s.ejectCommand tag mode force)) :
    s.completes i fun t =>
      t.ccu.state = .ejecting ∧ t.ccu.latch = false ∧ t.ccu.ejector = true ∧ t.ccu.ejectWindow = some ⟨0, 2000000⟩ ∧
      t.ccu.holdCount = s.ccu.holdCount ∧ t.ccu.eject.map EjectRecord.tags = some [tag] ∧
      t.dbi.replies = s.dbi.replies ++ [.reply tag .queued .empty] ∧ t.queue = s.queue ∧
      t.spc = s.spc ∧ t.pos = s.pos ∧ t.record = s.record ∧ t.tbs = s.tbs := by
  have hu : (s.withReply tag .queued .empty).Calm := { hc with }
  rw [ejectCommand_begins hc.eject (by rw [hst]; nofun) hf, beginEject_seated hu.work hu.downs hst,
    settle_of_quiet (hu.pushed mode force [tag]).react] at hexec
  exact ⟨_, hexec, rfl, rfl, rfl, rfl, rfl, rfl, by simp [State.pushed, State.withReply, State.cancelRestarts], rfl, rfl, rfl,
    rfl, rfl⟩

theorem eject_ready {s : State} (hc : s.Calm) (hready : s.readyDrive = true) (hclean : s.needsWriteBack = false)
    (hp : s.pos.parkSensor = false) {i : Instr} {tag : Byte} {mode : EjectMode} {force : Bool}
    (hf : (decide (0 < s.ccu.holdCount) && !force) = false)
    (hexec : exec i s = .next (s.ejectCommand tag mode force)) :
    s.completes i fun t =>
      t.ccu.state = .ejectPending ∧ t.ccu.latch = s.ccu.latch ∧
      t.ccu.eject.bind EjectRecord.phase = some .unloading ∧ t.ccu.eject.map EjectRecord.tags = some [tag] ∧
      t.pos.state = .unloading ∧ t.spc.state = .atSpeed ∧
      t.dbi.replies = s.dbi.replies ++ [.reply tag .queued .empty] ∧ t.queue = s.queue ∧
      t.record.state = s.record.state ∧ t.record.image = s.record.image ∧ t.tbs = s.tbs := by
  simp only [State.readyDrive, Bool.and_eq_true, beq_iff_eq] at hready
  obtain ⟨⟨⟨⟨⟨-, hspeed⟩, htrack⟩, hcart⟩, -⟩, -⟩ := hready
  obtain ⟨u, hu⟩ : ∃ u, u = (s.withReply tag .queued .empty).ejectPends mode force [tag] := ⟨_, rfl⟩
  have hdowns : s.downs.leaveStandby = ⟨none, none, none, false⟩ := by rw [hc.downs]; rfl
  have hframe : u.spc = s.spc ∧ u.pos = s.pos ∧ u.record = s.record ∧ u.tbs = s.tbs ∧ u.queue = s.queue ∧ u.job = s.job ∧
      u.ccu = { s.ccu with
        eject := some ⟨some .draining, mode, force, [tag], .undecided⟩
        buttonRefused := false
        state := .ejectPending } ∧ u.dbi.replies = s.dbi.replies ++ [.reply tag .queued .empty] := by
    rw [hu]
    exact ⟨rfl, rfl, rfl, rfl, rfl, rfl, rfl, rfl⟩
  have hejects : u.Ejects ⟨some .draining, mode, force, [tag], .undecided⟩ := by
    rw [hu]
    exact ⟨{ hc.toIdle with
      downs := hdowns
      eject := rfl }, rfl, hspeed, by change s.pos.state ≠ _; rw [htrack]; nofun⟩
  obtain ⟨huspc, hupos, hurec, hutbs, huq, huj, huccu, hur⟩ := hframe
  have hbegin : (s.withReply tag .queued .empty).beginEject mode force [tag] = u := by
    rw [beginEject_latched (s := s.withReply tag .queued .empty) hcart, ← hu, cutQueue_empty (huq.trans hc.queue)
      (huj.trans hc.job), ite_self]
  obtain ⟨t, hsettle, hland, hheads⟩ := eject_unloads hejects (by rw [hupos, htrack]) (by rw [hupos, hp])
    (by simpa [State.needsWriteBack, hurec, huccu] using hclean)
  rw [ejectCommand_begins hc.eject (by rw [hcart]; nofun) hf, hbegin, hsettle] at hexec
  refine ⟨t, hexec, ?_⟩
  dsimp only
  rw [hland, hheads]
  refine ⟨?_, ?_, rfl, rfl, rfl, ?_, hur, huq, congrArg RecordUnit.state hurec, congrArg RecordUnit.image hurec, hutbs⟩
  · change u.ccu.state = _
    rw [huccu]
  · change u.ccu.latch = _
    rw [huccu]
  · change u.spc.state = _
    rw [huspc, hspeed]

theorem bit_of_le {b : Byte} (h : b.toNat ≤ 1) : b = 0 ∨ b = 1 := by
  obtain h | h : b.toNat = 0 ∨ b.toNat = 1 := by omega
  · exact .inl (BitVec.eq_of_toNat_eq h)
  · exact .inr (BitVec.eq_of_toNat_eq h)

/-- Settles O49: the checks of EJECT, its merging, and its phases as far as the unload. -/
theorem ejectAnswers : Obligations.EjectAnswers := by
  have hone : twoWay (1 : Byte) = some true := rfl
  refine ⟨fun s tag mode force e hs htag => ⟨exec_eject_unlisted hs htag, fun hm hf he hst => ?_, fun hm hf he hn => ?_,
    fun hm hf he hst hn => ?_, fun hm hf hcalm hst => ?_, fun hm hf hcalm hready hn hclean hp => ?_,
    fun hm hf hset he hroom => ?_⟩, fun s tag force x k go l rest hs htag hf hset hst he hq hc hx hrest hnd hj hw hd ho hr =>
      ⟨fun hown => ?_, fun hfl hspeed htrack hp hclean => ?_⟩,
    fun s tag force x rest hs htag hf hset hl hst he hd hspeed hpos hq hx hj hend hw hwait hlatched hcmd => ?_⟩
  · obtain ⟨m, hm⟩ := twoWay_of_le hm
    obtain ⟨f, hf⟩ := twoWay_of_le hf
    rw [exec_eject_of hs htag hm hf]
    simp [State.ejectCommand, he, hst]
    rfl
  · obtain ⟨m, hm⟩ := twoWay_of_le hm
    obtain ⟨f, hf⟩ := twoWay_of_le hf
    rw [exec_eject_of hs htag hm hf]
    simp [State.ejectCommand, he, hn, Config.ejectTagMax]
    rfl
  · obtain ⟨m, hm⟩ := twoWay_of_le hm
    rw [exec_eject_of hs htag hm (hf ▸ rfl : twoWay force = some false)]
    simp [State.ejectCommand, he, hst, hn]
    rfl
  · obtain ⟨m, hm⟩ := twoWay_of_le hm
    obtain ⟨hf, hfree⟩ := force_or_free hf
    exact eject_seated (calm_iff.mp hcalm) hst hfree (exec_eject_of hs htag hm hf)
  · obtain ⟨m, hm⟩ := twoWay_of_le hm
    exact eject_ready (calm_iff.mp hcalm) hready hclean hp (by simp [hn])
      (exec_eject_of hs htag hm (hf ▸ rfl : twoWay force = some false))
  · have hquiet := quiet_of_settled hset
    have hl := supplyLow_of_listens hs
    have hexec {m f : Bool} (hm : twoWay mode = some m) (hf : twoWay force = some f) := exec_eject_of hs htag hm hf
    refine ⟨fun hst hph => ?_, fun hst hph => ?_⟩
    · obtain ⟨m, hm⟩ := twoWay_of_le hm
      obtain ⟨f, hf⟩ := twoWay_of_le hf
      rw [hexec hm hf, merge_ejecting hquiet hl he hst hph hroom]
    · rcases bit_of_le hm with rfl | rfl <;> rcases bit_of_le hf with rfl | rfl <;>
        rw [hexec rfl rfl, merge_pending hquiet hl he hst hph hroom] <;> rfl
  · obtain ⟨hf, hfree⟩ := force_or_free hf
    obtain ⟨t, ht, hres⟩ := cut_waits hs (quiet_of_settled hset) hst hq hx hrest hj hw hd ho hr hown tag (force == 1)
    refine ⟨t, ?_, hres⟩
    rw [exec_eject_of hs htag hone hf, ejectCommand_begins he (by rw [hst]; nofun) hfree]
    exact congrArg _ ht
  · obtain ⟨hf, hfree⟩ := force_or_free hf
    obtain ⟨t, ht, hres⟩ := cut_unloads hs hst hq hx hrest hj hw hd ho hr hfl hspeed htrack hp hclean tag (force == 1)
    refine ⟨t, ?_, hres⟩
    rw [exec_eject_of hs htag hone hf, ejectCommand_begins he (by rw [hst]; nofun) hfree]
    exact congrArg _ ht
  · obtain ⟨hf, hfree⟩ := force_or_free hf
    have hends := eject_ends_standby hs (quiet_of_settled hset) hst hd hspeed hpos hq hj hend hx hw hwait hlatched hcmd tag
      (force == 1)
    have hexec := exec_eject_of hs htag (rfl : twoWay (0 : Byte) = some false) hf
    rw [ejectCommand_begins he (by rw [hst]; nofun) hfree] at hexec
    refine ⟨_, hexec.trans (congrArg _ hends), ?_⟩
    have hp : (((s.withReply tag .queued .empty).ejectPends .drain (force == 1) [tag]).leaving x rest .heads).pos.state =
        .unloading := hpos
    simp only [State.loadByWork, hp]
    refine ⟨?_, rfl, rfl, rfl, rfl, rfl, rfl, rfl, rfl, rfl, rfl, rfl, rfl, rfl⟩
    change s.downs.leaveStandby = _
    rw [hd]
    rfl

end Sys2Proof.Machine
end

section
/-! What no reaction of the blocks changes (95_what_each_step_holds.md): the clock of the revolutions while the disk is not
STOPPED, the lines of the drive bus, the holds, the table store's flags and snapshots, what is masked and in service, the
requests made, the LATCHED records; and with an empty queue the record and the slots that nobody uses. `Remains b s t` says it
of two states once, in the manner of `Evolves`; `b` says whether the disk may start on the way. -/

namespace Sys2Proof.Machine

/-! ## The relation -/

/-- The clock of the revolutions (R33). -/
def State.clock (s : State) := (s.spc.revCount, s.spc.revTimer, s.spc.indexSeen, s.spc.lastPeriod)

/-- The parts of the state that the relation is about. -/
def State.still (s : State) := (s.ledger, s.ccu.buttonRefused, s.atc, s.spc.state, s.clock)

/-- The first record of a kind is LATCHED. -/
def State.firstLatched (k : FaultKind) (s : State) : Bool := (s.recordOf k).any fun r => r.state == .latched

/-- No slot belongs to a command, and none is used but those of a set that holds the sector in flight's, and a record
operation's (R104, R118). -/
def State.Spare (P : Nat → Prop) (s : State) : Prop :=
  (∀ x ∈ s.slots, x.tag = none) ∧ (∀ i, s.eng.flight.bind Flight.slot = some i → P i) ∧
  ∀ j x, s.slots[j]? = some x → ¬ P j → s.record.op.slot ≠ some j → x = Slot.none

structure Remains (b : Bool) (s t : State) : Prop where
  lines : (t.dbi.stb, t.dbi.ack) = (s.dbi.stb, s.dbi.ack)
  out : s.dbi.out = .none → t.dbi.out = .none
  holds : (t.ccu.holdCount, t.ccu.buttonRefused) = (s.ccu.holdCount, s.ccu.buttonRefused)
  tables : (t.tbs.hold, t.tbs.resetCause, t.tbs.snapSpindle, t.tbs.snapPosition, t.tbs.snapCounters) =
    (s.tbs.hold, s.tbs.resetCause, s.tbs.snapSpindle, s.tbs.snapPosition, s.tbs.snapCounters)
  attention : (t.atc.inService, t.atc.mask) = (s.atc.inService, s.atc.mask)
  requests : ∀ x ∈ s.atc.requests, x ∈ t.atc.requests
  clock : (b = true → s.spc.state ≠ .stopped) → t.clock = s.clock ∧ (s.spc.state ≠ .stopped → t.spc.state ≠ .stopped)
  latched : ∀ k, s.firstLatched k = true → t.firstLatched k = true
  unqueued : s.queue = [] → t.queue = [] ∧ (t.record.state, t.record.image) = (s.record.state, s.record.image) ∧
    ∀ P, s.Spare P → t.Spare P

theorem Remains.refl (s : State) : Remains b s s :=
  ⟨rfl, id, rfl, rfl, rfl, fun _ => id, fun _ => ⟨rfl, id⟩, fun _ => id, fun h => ⟨h, rfl, fun _ => id⟩⟩

theorem Remains.trans {b : Bool} {s t u : State} (h : Remains b s t) (g : Remains b t u) : Remains b s u where
  lines := g.lines.trans h.lines
  out := g.out ∘ h.out
  holds := g.holds.trans h.holds
  tables := g.tables.trans h.tables
  attention := g.attention.trans h.attention
  requests x := g.requests x ∘ h.requests x
  clock hs := by
    obtain ⟨hc, ht⟩ := h.clock hs
    obtain ⟨hd, hu⟩ := g.clock fun hb => ht (hs hb)
    exact ⟨hd.trans hc, hu ∘ ht⟩
  latched k := g.latched k ∘ h.latched k
  unqueued hs := by
    obtain ⟨ht, hr, hp⟩ := h.unqueued hs
    obtain ⟨hu, hr', hp'⟩ := g.unqueued ht
    exact ⟨hu, hr'.trans hr, fun P => hp' P ∘ hp P⟩

theorem Spare.of_ledger {P : Nat → Prop} {t u : State} (e : u.ledger = t.ledger) (h : t.Spare P) : u.Spare P := by
  have hs : u.slots = t.slots := congrArg Ledger.slots e
  have hf : u.eng.flight = t.eng.flight := congrArg Ledger.flight e
  have ho : u.record.op = t.record.op := congrArg Ledger.op e
  unfold State.Spare
  rw [hs, hf, ho]
  exact h

/-- An operation that leaves the parts as they are goes on from any state. -/
theorem Remains.quiet {b : Bool} {s t u : State} (h : Remains b s t) (e : u.still = t.still) : Remains b s u := by
  simp only [State.still, Prod.mk.injEq] at e
  obtain ⟨el, eb, ea, es, ec⟩ := e
  have hdbi : u.dbi = t.dbi := congrArg Ledger.dbi el
  have htbs : u.tbs = t.tbs := congrArg Ledger.tbs el
  have hhold : u.ccu.holdCount = t.ccu.holdCount := congrArg Ledger.hold el
  have hrec : u.fsv.records = t.fsv.records := congrArg Ledger.records el
  have hq : u.queue = t.queue := congrArg Ledger.queue el
  have hst : u.record.state = t.record.state := congrArg Ledger.recordState el
  have him : u.record.image = t.record.image := congrArg Ledger.image el
  refine h.trans ⟨by rw [hdbi], by rw [hdbi]; exact id, by rw [hhold, eb], by rw [htbs], by rw [ea],
    by rw [ea]; exact fun _ => id, fun _ => ⟨ec, fun h => es ▸ h⟩, fun k => ?_,
    fun h => ⟨hq.trans h, by rw [hst, him], fun P => Spare.of_ledger el⟩⟩
  simp only [State.firstLatched, State.recordOf, hrec]
  exact id

theorem Remains.foldl {b : Bool} {α : Type} {f : State → α → State} (hf : ∀ s a, Remains b s (f s a)) (l : List α) {s t : State}
    (h : Remains b s t) : Remains b s (l.foldl f t) := by
  induction l generalizing t with
  | nil => exact h
  | cons a l ih => exact ih (h.trans (hf t a))

theorem Remains.ite {b : Bool} {c : Prop} [Decidable c] {s t u : State} (ht : c → Remains b s t) (hu : ¬ c → Remains b s u) :
    Remains b s (if c then t else u) := by
  split
  · exact ht ‹_›
  · exact hu ‹_›

/-! ## Operations that leave the parts as they are -/

@[simp] theorem State.onPos_still (f : Positioner → Positioner) (s : State) : (s.onPos f).still = s.still := rfl
@[simp] theorem State.onDowns_still (f : Downs → Downs) (s : State) : (s.onDowns f).still = s.still := rfl
@[simp] theorem State.setJob_still (j : Job) (s : State) : (s.setJob j).still = s.still := rfl
@[simp] theorem State.setEnd_still (st : Option Status) (s : State) : (s.setEnd st).still = s.still := rfl
@[simp] theorem State.setWork_still (w : Option SpinUpWork) (s : State) : (s.setWork w).still = s.still := rfl
@[simp] theorem State.onKind_still (k : FaultKind) (f : KindStatus → KindStatus) (s : State) :
    (s.onKind k f).still = s.still := rfl
@[simp] theorem State.absent_still (k : FaultKind) (s : State) : (s.absent k).still = s.still := rfl
@[simp] theorem State.nowPresent_still (k : FaultKind) (s : State) : (s.nowPresent k).still = s.still := rfl
@[simp] theorem State.cancelRestarts_still (s : State) : s.cancelRestarts.still = s.still := rfl
@[simp] theorem State.withdrawLoads_still (s : State) : s.withdrawLoads.still = s.still := rfl
@[simp] theorem State.withdrawWork_still (s : State) : s.withdrawWork.still = s.still := rfl
@[simp] theorem State.abandonStandby_still (s : State) : s.abandonStandby.still = s.still := rfl
@[simp] theorem State.leaveSeekLaw_still (s : State) : s.leaveSeekLaw.still = s.still := rfl
@[simp] theorem State.enterLoading_still (s : State) : s.enterLoading.still = s.still := rfl
@[simp] theorem State.beginToRamp_still (s : State) : s.beginToRamp.still = s.still := rfl
@[simp] theorem State.startDelay_still (k : FaultKind) (r : FaultRow) (s : State) : (s.startDelay k r).still = s.still := rfl
@[simp] theorem State.endRetry_still (k : FaultKind) (s : State) : (s.endRetry k).still = s.still := rfl
@[simp] theorem State.restart_still (k : FaultKind) (r : FaultRow) (s : State) : (s.restart k r).still = s.still := rfl
@[simp] theorem State.startSeekTimer_still (s : State) : s.startSeekTimer.still = s.still := rfl
@[simp] theorem State.enterSettling_still (s : State) : s.enterSettling.still = s.still := rfl
@[simp] theorem State.workAt_still (w : SpinUpWork) (x : WorkStep) (s : State) : (s.workAt w x).still = s.still := rfl

theorem foldl_still {α : Type} {f : State → α → State} (h : ∀ s a, (f s a).still = s.still) (l : List α) (s : State) :
    (l.foldl f s).still = s.still := by
  induction l generalizing s with
  | nil => rfl
  | cons a l ih => rw [List.foldl_cons, ih, h]

@[simp] theorem State.absents_still (l : List FaultKind) (s : State) : (s.absents l).still = s.still :=
  foldl_still (fun s k => s.absent_still k) l s

@[simp] theorem State.beginWatch_still (k : FaultKind) (s : State) : (s.beginWatch k).still = s.still := by
  unfold State.beginWatch
  dsimp only
  split <;> rfl

@[simp] theorem State.startByWork_still (s : State) : s.startByWork.still = s.still := by
  unfold State.startByWork
  split <;> rfl

@[simp] theorem State.leaveWork_still (who : Who) (s : State) : (s.leaveWork who).still = s.still := by
  unfold State.leaveWork
  split
  · rfl
  · split <;> rfl

@[simp] theorem State.joinWork_still (who : Who) (s : State) : (s.joinWork who).still = s.still := by
  unfold State.joinWork
  split <;> rfl

@[simp] theorem State.enterUnloaded_still (s : State) : s.enterUnloaded.still = s.still := by
  unfold State.enterUnloaded
  exact (State.absents_still _ _)

@[simp] theorem State.rampReached_still (s : State) : s.rampReached.still = s.still := by
  unfold State.rampReached
  split <;> simp

@[simp] theorem State.enterToRamp_still (s : State) : s.enterToRamp.still = s.still := by
  simp [State.enterToRamp]

@[simp] theorem State.enterToCylinder0_still (s : State) : s.enterToCylinder0.still = s.still := by
  unfold State.enterToCylinder0
  dsimp only
  split <;> simp

@[simp] theorem State.enterRetracting_still (cause : Option FaultKind) (s : State) :
    (s.enterRetracting cause).still = s.still := by
  unfold State.enterRetracting
  dsimp only
  split <;> simp

@[simp] theorem State.loadByWork_still (s : State) : s.loadByWork.still = s.still := by
  unfold State.loadByWork
  split <;> rfl

@[simp] theorem State.delayExpires_still (k : FaultKind) (s : State) : (s.delayExpires k).still = s.still := by
  unfold State.delayExpires
  dsimp only
  repeat' split
  all_goals simp

@[simp] theorem State.countDelay_still (s : State) (k : FaultKind) : (s.countDelay k).still = s.still := by
  unfold State.countDelay
  repeat' split
  all_goals simp

@[simp] theorem State.countDelays_still (s : State) : s.countDelays.still = s.still :=
  foldl_still State.countDelay_still _ s

@[simp] theorem State.headSwitch_still (head : Nat) (s : State) : (s.headSwitch head).still = s.still := by
  unfold State.headSwitch
  repeat' split
  all_goals rfl

@[simp] theorem State.joinSeek_still (req : Requester) (head : Nat) (s : State) :
    (s.joinSeek req head).still = s.still := by
  simp [State.joinSeek]

/-- A change of the eject record that keeps its tags. -/
theorem onCcu_eject_still {f : EjectRecord → EjectRecord} (hf : ∀ e, (f e).tags = e.tags) (s : State) :
    (s.onCcu fun c => { c with eject := c.eject.map f }).still = s.still := by
  simp only [State.still, onCcu_eject_ledger hf]
  rfl

@[simp] theorem State.ejectUnloads_still (s : State) : s.ejectUnloads.still = s.still :=
  onCcu_eject_still (f := fun e => { e with phase := some .unloading }) (fun _ => rfl) s

theorem onCcu_setEject_still {s : State} {e f : EjectRecord} (he : s.ccu.eject = some e) (hf : f.tags = e.tags) :
    (s.onCcu fun c => { c with eject := some f }).still = s.still := by
  simp only [State.still, onCcu_setEject_ledger he hf]
  rfl

@[simp] theorem State.enterEjecting_still (s : State) : s.enterEjecting.still = s.still := by
  have hw : s.workAwaitsEject.still = s.still := by
    unfold State.workAwaitsEject
    split <;> rfl
  simp only [State.still, Prod.mk.injEq] at hw ⊢
  obtain ⟨-, hb, ha, hs, hc⟩ := hw
  exact ⟨State.enterEjecting_ledger s, hb, ha, hs, hc⟩

/-! ## Operations on the parts -/

section

variable {b : Bool} {s t : State} (h : Remains b s t)
include h

theorem Remains.request (x : Source) : Remains b s (t.request x) :=
  h.trans { Remains.refl (b := b) t with
    requests := fun y hy => List.mem_filter.mpr ⟨by cases y <;> simp [Source.all], by simp [hy]⟩ }

theorem Remains.onCounters (f : Counters → Counters) : Remains b s (t.onCounters f) :=
  h.trans { Remains.refl (b := b) t with }

/-- The spindle changes its state while it turns, and leaves its clock. -/
theorem Remains.onSpc {f : Spindle → Spindle} (hc : (t.onSpc f).clock = t.clock)
    (hst : t.spc.state ≠ .stopped → (f t.spc).state ≠ .stopped) : Remains b s (t.onSpc f) :=
  h.trans { Remains.refl (b := b) t with
    clock := fun _ => ⟨hc, hst⟩ }

theorem Remains.leavePowered {st : SpindleState} (hst : st ≠ .stopped) (brake : Bool) (d : StopDemand) :
    Remains b s (t.leavePowered st brake d) := by
  unfold State.leavePowered
  dsimp only
  exact Remains.quiet (h.onSpc rfl fun _ => hst) (State.absents_still _ _)

theorem Remains.stopRequest (d : StopDemand) : Remains b s (t.stopRequest d) := by
  unfold State.stopRequest
  dsimp only
  split
  · exact h.onSpc rfl id
  · exact h.onSpc rfl id
  · exact .ite (fun _ => h.onSpc rfl fun _ => nofun) fun _ => h.onSpc rfl id
  · exact .ite (fun _ => h.leavePowered (st := .coasting) nofun _ _) fun _ =>
      .ite (fun _ => h.leavePowered (st := .braking) nofun _ _) fun _ => h.leavePowered (st := .coasting) nofun _ _

/-! ### Commands and works that end -/

theorem Remains.place (p : Packet) : Remains b s (t.place p) := h.trans { Remains.refl (b := b) t with }

theorem Remains.setQueue (hq : t.queue ≠ []) (q : List Entry) : Remains b s (t.setQueue q) :=
  h.trans { Remains.refl (b := b) t with unqueued := fun h => absurd h hq }

theorem Remains.releaseCommand (hq : t.queue ≠ []) (tag : Byte) : Remains b s (t.releaseCommand tag) :=
  h.trans { Remains.refl (b := b) t with
    out := fun ho => by
      change t.dbi.out.leave tag = _
      rw [ho]
      rfl
    unqueued := fun h => absurd h hq }

theorem Remains.completeHead (st : Status) : Remains b s (t.completeHead st) := by
  cases hq : t.queue with
  | nil =>
    have : t.completeHead st = t := by unfold State.completeHead; rw [hq]
    rwa [this]
  | cons e rest =>
    have hdone : Remains b s (t.placeDone e.tag st t.eng) := by
      unfold State.placeDone
      exact ((h.place _).request _).onSpc rfl id
    have hne : t.queue ≠ [] := by rw [hq]; nofun
    have hleft := (hdone.releaseCommand hne e.tag).setQueue hne rest
    unfold State.completeHead
    rw [hq]
    exact hleft.quiet (by simp)

theorem Remains.endTransfer (st : Status) : Remains b s (t.endTransfer st) := by
  unfold State.endTransfer
  split
  · next hx =>
    have hne : t.queue ≠ [] := fun hq => by simp [State.executing, hq] at hx
    exact h.trans { Remains.refl (b := b) t with unqueued := fun h => absurd h hne }
  · exact h.completeHead st

theorem Remains.onCcu {f : Cartridge → Cartridge}
    (hf : ((f t.ccu).holdCount, (f t.ccu).buttonRefused) = (t.ccu.holdCount, t.ccu.buttonRefused)) :
    Remains b s (t.onCcu f) :=
  h.trans { Remains.refl (b := b) t with holds := hf }

theorem Remains.endEject (st : Status) : Remains b s (t.endEject st) := by
  have hdone : Remains b s (((t.ccu.eject.map EjectRecord.tags).getD []).foldl (fun v g => v.placeEjectDone g st) t) :=
    Remains.foldl (fun s g => by
      unfold State.placeEjectDone
      exact ((Remains.refl s).place _).request _) _ h
  unfold State.endEject
  exact hdone.onCcu rfl

theorem Remains.failEject (st : Status) (next : CartState) : Remains b s (t.failEject st next) := by
  unfold State.failEject
  exact ((h.endEject st).onCcu rfl).request _

theorem Remains.workEndsHead (st : Status) : Remains b s (t.workEndsHead st) := by
  unfold State.workEndsHead
  split
  · exact h.completeHead _
  · split
    · exact h.completeHead _
    · exact .ite (fun _ => h.quiet rfl) fun _ => h.completeHead _
    · exact .ite (fun _ => h.quiet rfl) fun _ => h.completeHead _
    · exact .ite (fun _ => h.quiet rfl) fun _ => h.completeHead _
    · exact h

theorem Remains.workEndsFor (who : Who) (st : Status) : Remains b s (t.workEndsFor who st) := by
  cases who with
  | cmd => exact h.workEndsHead st
  | standby => exact .ite (fun _ => h.quiet rfl) fun _ => h.quiet rfl
  | orphan => exact h.quiet rfl
  | eject =>
    refine .ite (fun _ => h.quiet ?_) fun _ => .ite (fun _ => h.failEject _ _) fun _ => h
    exact onCcu_eject_still (f := fun e => { e with flush := .undecided }) (fun _ => rfl) t
  | lost => exact h

theorem Remains.endWork (st : Status) : Remains b s (t.endWork st) := by
  unfold State.endWork
  split
  · exact h
  · next w _ =>
    have h0 : Remains b s (t.setWork none).withdrawWork := h.quiet rfl
    have h1 := Remains.ite (c := w.forCmd = true) (fun _ => h0.workEndsFor .cmd st) fun _ => h0
    have h2 := Remains.ite (c := w.forStandby = true) (fun _ => h1.workEndsFor .standby st) fun _ => h1
    have h3 := Remains.ite (c := w.forOrphan = true) (fun _ => h2.workEndsFor .orphan st) fun _ => h2
    exact .ite (fun _ => h3.workEndsFor .eject st) fun _ => h3

/-! ### The sector buffer and record operations -/

omit h in
/-- Slots that come to rest EMPTY are spare; a sector in flight may go. -/
theorem Spare.emptied {P : Nat → Prop} {t u : State} {i j : Option Nat} (hu : u.slots = emptied i j t.slots)
    (hf : ∀ g, u.eng.flight = some g → t.eng.flight = some g)
    (ho : ∀ k, t.record.op.slot = some k → u.record.op.slot = some k ∨ i = some k ∨ j = some k) (h : t.Spare P) :
    u.Spare P := by
  obtain ⟨htag, hflight, hempty⟩ := h
  refine ⟨fun x hx => ?_, fun k hk => ?_, fun k x hx hk hop => ?_⟩
  · obtain ⟨k, hk⟩ := List.mem_iff_getElem?.mp hx
    rw [hu, getElem?_emptied] at hk
    obtain ⟨y, hy, rfl⟩ := Option.map_eq_some_iff.mp hk
    split
    · rfl
    · exact htag y (List.mem_of_getElem? hy)
  · obtain ⟨g, hg, hs⟩ := Option.bind_eq_some_iff.mp hk
    exact hflight k (Option.bind_eq_some_iff.mpr ⟨g, hf g hg, hs⟩)
  · rw [hu, getElem?_emptied] at hx
    obtain ⟨y, hy, rfl⟩ := Option.map_eq_some_iff.mp hx
    split
    · rfl
    · next hno =>
      refine hempty k y hy hk fun ht => ?_
      rcases ho k ht with h | h
      · exact hop h
      · exact hno h

theorem Remains.dropRecordOp : Remains b s t.dropRecordOp := by
  have hl := t.dropRecordOp_ledger
  obtain ⟨u, hu⟩ : ∃ u, u = t.dropRecordOp := ⟨_, rfl⟩
  have hside : u.ccu = t.ccu ∧ u.atc = t.atc ∧ u.spc = t.spc ∧ u.dbi = t.dbi ∧ u.tbs = t.tbs ∧ u.fsv = t.fsv ∧
      u.queue = t.queue := by
    rw [hu]
    simp only [State.dropRecordOp, State.emptySlotOpt_eq, State.setSlots_eng]
    cases t.eng.flight with
    | none => exact ⟨rfl, rfl, rfl, rfl, rfl, rfl, rfl⟩
    | some f => cases hf : f.isHost <;> simp [hf, State.setSlots]
  rw [← hu] at hl ⊢
  obtain ⟨hc, ha, hs, hd, ht, hv, hq⟩ := hside
  refine h.trans ⟨by rw [hd], by rw [hd]; exact id, by rw [hc], by rw [ht], by rw [ha], by rw [ha]; exact fun _ => id,
    fun _ => ⟨by rw [State.clock, hs]; rfl, by rw [hs]; exact id⟩, fun k => by
      simp only [State.firstLatched, State.recordOf, hv]
      exact id, fun h => ⟨hq.trans h, ?_, fun P => Spare.emptied (congrArg Ledger.slots hl) (fun g hg => ?_) fun k hk =>
        .inr (.inl hk)⟩⟩
  · exact Prod.ext (congrArg Ledger.recordState hl) (congrArg Ledger.image hl)
  · have := congrArg Ledger.flight hl
    rw [State.ledger_flight, hg] at this
    exact (Option.filter_eq_some_iff.mp this.symm).1

theorem Remains.cutWrite : Remains b s t.cutWrite := by
  unfold State.cutWrite
  split
  · next i sp hfl =>
    refine h.trans { Remains.refl (b := b) t with
      unqueued := fun hq => ⟨hq, rfl, fun P => Spare.emptied (t := t) (i := some i) (j := none) ?_ nofun fun k hk => .inl hk⟩ }
    exact congrArg State.slots (State.emptySlotOpt_eq (some i) t)
  · exact h

theorem Remains.writeBackEnds (owner : Who) (good : Bool) : Remains b s (t.writeBackEnds owner good) := by
  unfold State.writeBackEnds
  dsimp only
  split
  · refine .ite (fun _ => h.completeHead _) fun _ => ?_
    split
    · exact h.completeHead _
    · exact h.quiet rfl
    · exact h.completeHead _
  · exact .ite (fun _ => h.quiet rfl) fun _ => h.quiet rfl
  · exact h.quiet rfl
  · exact .ite (fun _ => h) fun _ => .ite (fun _ => h.quiet t.ejectUnloads_still) fun _ => h.failEject _ _
  · exact h

theorem Remains.failWriteBack : Remains b s t.failWriteBack := by
  unfold State.failWriteBack
  split
  · exact h.dropRecordOp.writeBackEnds _ _
  · exact h

theorem Remains.loseRecordOp : Remains b s t.loseRecordOp := by
  unfold State.loseRecordOp
  split
  · exact h.dropRecordOp
  · exact h.failWriteBack
  · exact h

/-- A record operation goes on with its slot, or takes one that is FULL of its own. -/
theorem Remains.setOp {op : RecordOp} (ho : ∀ k, t.record.op.slot = some k → op.slot = some k) :
    Remains b s (t.onRec fun r => { r with op := op }) :=
  h.trans { Remains.refl (b := b) t with
    unqueued := fun hq => ⟨hq, rfl, fun _ ⟨htag, hflight, hempty⟩ =>
      ⟨htag, hflight, fun j x hx hj hop => hempty j x hx hj fun hk => hop (ho j hk)⟩⟩ }

theorem Remains.orphanWriteBack (who heir : Who) : Remains b s (t.orphanWriteBack who heir) := by
  unfold State.orphanWriteBack
  split
  · next w hw => exact .ite (fun _ => h.setOp (by rw [hw]; exact fun _ => id)) fun _ => h
  · exact h

theorem Remains.waiterSeekFailed (readHeld : Bool) : Remains b s (t.waiterSeekFailed readHeld) := by
  unfold State.waiterSeekFailed
  dsimp only
  refine .ite (fun _ => ?_) fun _ => h
  split
  · exact h.completeHead _
  · exact .ite (fun _ => h.completeHead _) fun _ => h

theorem Remains.seekFailed (byHold : Bool) : Remains b s (t.seekFailed byHold) := by
  have h0 : Remains b s (t.onPos fun p => { p with requester := .none }) := h.quiet rfl
  unfold State.seekFailed
  dsimp only
  split
  · exact h0
  · exact .ite (fun _ => h0.completeHead _) fun _ => h0
  · split
    · exact Remains.waiterSeekFailed (.ite (fun _ => h0.dropRecordOp.endWork _) fun _ => h0.dropRecordOp) _
    · exact h0.failWriteBack.waiterSeekFailed _
    · exact .ite (fun _ => h0.endTransfer _) fun _ => h0

/-! ### A fault meets the queue -/

theorem Remains.transferMeetsFault : Remains b s t.transferMeetsFault := by
  unfold State.transferMeetsFault
  split
  · exact .ite (fun _ => .ite (fun _ => h.cutWrite.completeHead _) fun _ => h.quiet rfl) fun _ => h.endTransfer _
  · exact h.endTransfer _

theorem Remains.headMeetsFault : Remains b s t.headMeetsFault := by
  unfold State.headMeetsFault
  split
  · exact h.transferMeetsFault
  · exact .ite (fun _ => h.quiet rfl) fun _ => h.completeHead _
  · exact .ite (fun _ => h.quiet rfl) fun _ => h.completeHead _
  · split
    · exact h.quiet rfl
    · exact h
    · exact h.completeHead _
  · exact h.quiet rfl
  · exact h

theorem Remains.workMeetsFault : Remains b s t.workMeetsFault := by
  unfold State.workMeetsFault
  split
  · exact h
  · exact .ite (fun _ => h.quiet rfl) fun _ => h.endWork _

theorem Remains.downsMeetFault (reaches : Bool) : Remains b s (t.downsMeetFault reaches) := by
  unfold State.downsMeetFault
  dsimp only
  have h1 : Remains b s (if (reaches && t.downs.standby.isSome) = true then
      ((t.onDowns Downs.endStandby).leaveWork .standby).orphanWriteBack .standby .lost else t) :=
    .ite (fun _ => Remains.orphanWriteBack (h.quiet (by simp)) _ _) fun _ => h
  exact .ite (fun _ => Remains.orphanWriteBack (h1.quiet (by simp)) _ _) fun _ => h1

theorem Remains.meetFault (reaches : Bool) : Remains b s (t.meetFault reaches) := by
  unfold State.meetFault
  refine .ite (fun _ => h) fun _ => ?_
  have h1 : Remains b s (if t.recordOpLost = true then t.loseRecordOp else t) :=
    .ite (fun _ => h.loseRecordOp) fun _ => h
  exact h1.workMeetsFault.headMeetsFault.downsMeetFault _

end

end Sys2Proof.Machine
end

section
/-! The requests of the blocks to one another, and every reaction, leave what `Remains` names. -/

namespace Sys2Proof.Machine

/-! ## The records -/

/-- A change of the records of one kind, seen from the first record of any. -/
theorem recordOf_onRecord (j k : FaultKind) {f : FaultRecord → FaultRecord} (hf : ∀ r, (f r).kind = r.kind) (s : State) :
    (s.onRecord j f).recordOf k = (s.recordOf k).map fun r => if r.kind == j then f r else r := by
  have hkind : ((fun r => r.kind == k) ∘ fun r => if r.kind == j then f r else r) = fun r : FaultRecord => r.kind == k := by
    funext r
    simp only [Function.comp]
    split <;> simp [hf]
  simp only [State.recordOf, State.onRecord, State.onFsv_fsv, List.find?_map, hkind]

theorem firstLatched_onRecord {j k : FaultKind} {f : FaultRecord → FaultRecord} (hf : ∀ r, (f r).kind = r.kind) {s : State}
    (hl : ∀ r, s.recordOf j = some r → r.state = .latched → (f r).state = .latched) (h : s.firstLatched k = true) :
    (s.onRecord j f).firstLatched k = true := by
  rw [State.firstLatched, recordOf_onRecord j k hf]
  cases hr : s.recordOf k with
  | none =>
    rw [State.firstLatched, hr] at h
    cases h
  | some r =>
    rw [State.firstLatched, hr] at h
    have hst : r.state = .latched := by simpa using h
    have hk : r.kind = k := by simpa using List.find?_some hr
    simp only [Option.map_some, Option.any_some, beq_iff_eq]
    split
    · next hj =>
      have hj : r.kind = j := by simpa using hj
      exact hl r (by rw [← hj, hk]; exact hr) hst
    · exact hst

section
variable {b : Bool} {s t : State} (h : Remains b s t)
include h

theorem Remains.onRecord (k : FaultKind) {f : FaultRecord → FaultRecord} (hf : ∀ r, (f r).kind = r.kind)
    (hl : ∀ r, t.recordOf k = some r → r.state = .latched → (f r).state = .latched) : Remains b s (t.onRecord k f) :=
  h.trans { Remains.refl (b := b) t with latched := fun _ => firstLatched_onRecord hf hl }

/-- A recognition leaves a LATCHED record LATCHED. -/
theorem Remains.putRecord (k : FaultKind) (sub : Option SubCause) {st : FaultState} (retries : Nat)
    (kept : Option FaultRow) (hst : ∀ r, t.recordOf k = some r → r.state = .latched → st = .latched) :
    Remains b s (t.putRecord k sub st retries kept) := by
  unfold State.putRecord
  split
  · refine h.trans { Remains.refl (b := b) t with latched := fun j hj => ?_ }
    simp only [State.firstLatched, State.recordOf, State.onFsv_fsv, List.find?_append] at hj ⊢
    cases hr : t.fsv.records.find? fun r => r.kind == j with
    | none =>
      rw [hr] at hj
      cases hj
    | some r =>
      rw [hr] at hj
      exact hj
  · exact h.onRecord k (fun _ => rfl) hst

/-! ## The Positioner's requests -/

theorem Remains.beginUnload : Remains b s t.beginUnload := by
  unfold State.beginUnload
  split
  · exact h.quiet (by simp)
  · exact (h.seekFailed false).quiet (by simp)
  · exact (h.seekFailed false).quiet (by simp)
  · exact (h.seekFailed false).quiet (by simp)
  · exact h

theorem Remains.unloadRequest : Remains b s t.unloadRequest :=
  Remains.beginUnload (h.quiet (by simp))

theorem Remains.retractRequest (cause : FaultKind) : Remains b s (t.retractRequest cause) := by
  have h0 : Remains b s t.withdrawLoads := h.quiet (by simp)
  unfold State.retractRequest
  dsimp only
  split
  · exact h0
  · exact h0
  · exact (h0.seekFailed false).quiet (by simp)

theorem Remains.holdRequest : Remains b s t.holdRequest := by
  have h0 : Remains b s (t.onPos fun p => { p with hold := true }) := h.quiet rfl
  unfold State.holdRequest
  exact .ite (fun _ => h) fun _ => .ite (fun _ => (h0.seekFailed true).quiet rfl) fun _ => h0

/-! ## Recognition -/

theorem Remains.act (k : FaultKind) (r : FaultRow) (latched : Bool) : Remains b s (t.act k r latched) := by
  have h0 : Remains b s (if r.reaches = true then t.cancelRestarts else t) := .ite (fun _ => h.quiet (by simp)) fun _ => h
  obtain ⟨u, hu⟩ : ∃ u, u = if r.reaches = true then t.cancelRestarts else t := ⟨_, rfl⟩
  rw [← hu] at h0
  have h1 : Remains b s (u.spindleAction r) := .ite (fun _ => h0) fun _ => h0.stopRequest _
  have h2 : Remains b s ((u.spindleAction r).positionerAction k r) := by
    unfold State.positionerAction
    dsimp only
    split
    · exact .ite (fun _ => h1.unloadRequest) fun _ => h1
    · exact .ite (fun _ => h1.holdRequest.unloadRequest) fun _ => h1.holdRequest
    · exact h1.unloadRequest
    · exact h1.retractRequest k
  have h3 : Remains b s (((u.spindleAction r).positionerAction k r).ejectRetracts k) :=
    .ite (fun _ => h2.retractRequest _) fun _ => h2
  unfold State.act
  dsimp only
  rw [← hu]
  exact .ite (fun _ => h3.meetFault _) fun _ => h3

theorem Remains.latchFault (k : FaultKind) (sub : Option SubCause) (retries : Nat) (r : FaultRow) :
    Remains b s (t.latchFault k sub retries r) :=
  Remains.act ((h.putRecord k sub retries (some r) fun _ _ _ => rfl).quiet (by simp)) k r true

theorem Remains.retryFault (k : FaultKind) (sub : Option SubCause) (retries : Nat) (r : FaultRow)
    (hst : ∀ x, t.recordOf k = some x → x.state ≠ .latched) : Remains b s (t.retryFault k sub retries r) := by
  have hput := h.putRecord k sub (st := .retrying) retries (some r) fun x hx hl => absurd hl (hst x hx)
  exact ((hput.quiet (State.startDelay_still k r _)).request .faultReported).act k r false

theorem Remains.recognise (k : FaultKind) (sub : Option SubCause) : Remains b s (t.recognise k sub) := by
  have h0 : Remains b s (t.nowPresent k) := h.quiet (by simp)
  have hfresh (hst : ∀ x, t.recordOf k = some x → x.state ≠ .latched) : Remains b s (match (t.activeRow k).mode with
      | .off => t.nowPresent k
      | .report => ((t.nowPresent k).putRecord k sub .reported 0 none).request .faultReported
      | .retry => (t.nowPresent k).retryFault k sub 0 (t.activeRow k)
      | .latch => (t.nowPresent k).latchFault k sub 0 (t.activeRow k)) := by
    split
    · exact h0
    · exact (h0.putRecord k sub (st := .reported) 0 none fun x hx hl => absurd hl (hst x hx)).request _
    · exact h0.retryFault _ _ _ _ hst
    · exact h0.latchFault ..
  unfold State.recognise
  dsimp only
  split
  · next hn => exact hfresh fun x hx => by rw [show t.recordOf k = none from hn] at hx; cases hx
  next r hr =>
    have hr : t.recordOf k = some r := hr
    have hne (hs : r.state ≠ .latched) : ∀ x, t.recordOf k = some x → x.state ≠ .latched := fun x hx => by
      rw [hr] at hx
      cases hx
      exact hs
    split
    · next hs => exact hfresh (hne (by rw [hs]; nofun))
    · next hs => exact hfresh (hne (by rw [hs]; nofun))
    · exact Remains.act ((h0.putRecord k sub r.retries (some (r.kept.getD (t.activeRow k))) fun _ _ _ => rfl).quiet
        (by simp)) k _ false
    · next hs =>
      exact .ite (fun _ => h0.retryFault _ _ _ _ (hne (by rw [hs]; nofun))) fun _ => h0.latchFault ..

/-! ## Seeks -/

theorem Remains.seekCompute : Remains b s t.seekCompute := by
  unfold State.seekCompute
  split
  · dsimp only
    exact .ite (fun _ => .ite (fun _ => Remains.recognise (by exact h.quiet rfl) _ _) fun _ => h.quiet rfl)
      fun _ => h.quiet rfl
  · exact h

theorem Remains.startSeek (req : Requester) (cylinder head : Nat) : Remains b s (t.startSeek req cylinder head) :=
  .ite (fun _ => h.quiet (by simp)) fun _ => Remains.seekCompute (by exact h.quiet rfl)

theorem Remains.replaceSeek (req : Requester) : Remains b s (t.replaceSeek req) :=
  .ite (fun _ => h) fun _ => h.seekFailed false

theorem Remains.seekRequest {req : Requester} {cylinder head : Nat} {u : State}
    (hu : t.seekRequest req cylinder head = some u) : Remains b s u := by
  unfold State.seekRequest at hu
  dsimp only at hu
  split at hu
  · cases hu
  · split at hu
    · cases hu
      exact .ite (fun _ => h.quiet (by simp)) fun _ => h.startSeek ..
    · cases hu
      exact .ite (fun _ => h.quiet (by simp)) fun _ => (h.replaceSeek req).startSeek ..
    · cases hu
      exact .ite (fun _ => h.quiet (by simp)) fun _ => (h.replaceSeek req).quiet rfl
    · cases hu

theorem Remains.engineSeek : Remains b s t.engineSeek := by
  unfold State.engineSeek
  split
  · exact h
  · have h0 : Remains b s (t.onEng fun e => { e with state := .seekWait }) := h.quiet rfl
    dsimp only
    split
    · next hu =>
      unfold State.approach at hu
      split at hu
      · cases hu; exact h0
      · split at hu
        · cases hu; exact h0.quiet (by simp)
        · exact h0.seekRequest hu
    · exact h0.endTransfer _

theorem Remains.takeBlock : Remains b s t.takeBlock := by
  unfold State.takeBlock
  split
  · exact Remains.engineSeek (by exact h.quiet rfl)
  · exact h.endTransfer _

theorem Remains.endPending (st : Status) : Remains b s (t.endPending st) :=
  .ite (fun _ => h.endTransfer _) fun _ => h.completeHead _

theorem Remains.recordSeek : Remains b s t.recordSeek := by
  unfold State.recordSeek
  split
  · next hu => exact h.seekRequest hu
  · unfold State.recordSeekFails
    split
    · exact .ite (fun _ => h.dropRecordOp.endWork _) fun _ => h.dropRecordOp
    · exact h.failWriteBack
    · exact h

/-- A record read starts with no operation in flight. -/
theorem Remains.startRecordRead (ho : t.record.op = .idle) : Remains b s t.startRecordRead := by
  refine Remains.recordSeek (h.trans { Remains.refl (b := b) t with
    unqueued := fun hq => ⟨hq, rfl, fun _ ⟨htag, hflight, hempty⟩ =>
      ⟨htag, hflight, fun j x hx hj _ => hempty j x hx hj fun hk => ?_⟩⟩ })
  rw [ho] at hk
  cases hk

theorem Remains.startWriteBack (ho : t.record.op = .idle) (who : Who) : Remains b s (t.startWriteBack who) := by
  unfold State.startWriteBack
  split
  · exact h
  · refine Remains.recordSeek (h.setOp fun k hk => ?_)
    rw [ho] at hk
    cases hk

end

/-! ## The reactions -/

/-- A rule leaves what `Remains` names. -/
def LeavesAlone (r : State → Option State) : Prop := ∀ s t, r s = some t → Remains true s t

theorem leavesAlone_guarded {g : State → Bool} {f : State → State} (hf : ∀ s, g s = true → Remains true s (f s)) :
    LeavesAlone fun s => guarded (g s) (f s) := by
  intro s t h
  obtain ⟨hg, rfl⟩ := guarded_eq_some h
  exact hf s hg

theorem engineFree_op {s : State} (h : s.engineFree = true) : s.record.op = .idle := by
  simp only [State.engineFree, Bool.and_eq_true, beq_iff_eq] at h
  exact h.2

theorem reactOwnUnload_leaves : LeavesAlone reactOwnUnload := leavesAlone_guarded fun s _ => (Remains.refl s).beginUnload

/-- A sector being written is cut: its slot is EMPTY or FULL again, in a set that holds it. -/
theorem cutFlight_remains {s : State} {f : Flight} (hf : s.eng.flight = some f) : Remains true s (s.cutFlight f) := by
  unfold State.cutFlight
  refine .ite (fun _ => (Remains.refl s).cutWrite) fun _ => .ite (fun _ => ?_) fun _ => ?_
  · rw [State.emptySlotOpt_eq]
    exact { Remains.refl (b := true) s with
      unqueued := fun hq => ⟨hq, rfl, fun P => Spare.emptied (t := s) (i := f.slot) (j := none) rfl nofun fun _ => .inl⟩ }
  · cases hs : f.slot with
    | none =>
      exact { Remains.refl (b := true) s with
        unqueued := fun hq => ⟨hq, rfl, fun P ⟨htag, _, hempty⟩ => ⟨htag, nofun, hempty⟩⟩ }
    | some i =>
      refine { Remains.refl (b := true) s with unqueued := fun hq => ⟨hq, rfl, fun P ⟨htag, hflight, hempty⟩ =>
        ⟨fun x hx => ?_, nofun, fun j x hx hj hop => ?_⟩⟩ }
      · obtain ⟨j, hj⟩ := List.mem_iff_getElem?.mp hx
        change (s.slots.modify i _)[j]? = some x at hj
        rw [List.getElem?_modify] at hj
        obtain ⟨y, hy, rfl⟩ := Option.map_eq_some_iff.mp hj
        have := htag y (List.mem_of_getElem? hy)
        split <;> exact this
      · have hi : P i := hflight i (by rw [hf]; exact hs)
        have hne : i ≠ j := fun e => hj (e ▸ hi)
        change (s.slots.modify i _)[j]? = some x at hx
        rw [List.getElem?_modify_ne _ _ hne] at hx
        exact hempty j x hx hj hop

theorem reactFlight_leaves : LeavesAlone reactFlight := by
  intro s t h
  unfold reactFlight at h
  split at h
  · cases h
  · next f hf =>
    split at h
    · obtain ⟨-, rfl⟩ := guarded_eq_some h
      exact cutFlight_remains hf
    · obtain ⟨-, rfl⟩ := guarded_eq_some h
      exact { Remains.refl (b := true) s with
        unqueued := fun hq => ⟨hq, rfl, fun P ⟨htag, hflight, hempty⟩ => ⟨htag, by rw [hf] at hflight; exact hflight, hempty⟩⟩ }

theorem reactRecordLost_leaves : LeavesAlone reactRecordLost :=
  leavesAlone_guarded fun s _ => (Remains.refl s).loseRecordOp

/-! ### Cartridge and spindle -/

theorem reactStopCheck_leaves : LeavesAlone reactStopCheck :=
  leavesAlone_guarded fun s _ => ((Remains.refl s).onCcu (by rfl)).quiet (State.absent_still _ _)

theorem reactRelease_leaves : LeavesAlone reactRelease :=
  leavesAlone_guarded fun s _ => ((Remains.refl s).onCcu (by rfl)).quiet (State.absent_still _ _)

theorem reactEjecting_leaves : LeavesAlone reactEjecting :=
  leavesAlone_guarded fun s _ => (Remains.refl s).quiet (by simp)

theorem reactStopped_leaves : LeavesAlone reactStopped := by
  intro s t h
  unfold reactStopped at h
  repeat' split at h
  all_goals cases h
  · exact (Remains.refl s).completeHead _
  · exact (Remains.refl s).quiet rfl
  · exact (Remains.refl s).quiet rfl

theorem reactParked_leaves : LeavesAlone reactParked := by
  intro s t h
  have hstop (who : Who) : Remains true s ((s.onDowns fun d => d.at (some .stop) who).stopRequest s.brakeDemand) :=
    Remains.stopRequest ((Remains.refl s).quiet (s.onDowns_still _)) _
  unfold reactParked at h
  dsimp only at h
  repeat' split at h
  all_goals cases h
  all_goals exact hstop _

theorem reactEjectParked_leaves : LeavesAlone reactEjectParked :=
  leavesAlone_guarded fun s _ => .ite (fun _ => (Remains.refl s).failEject _ _) fun _ =>
    ((Remains.refl s).onCcu rfl).stopRequest _

theorem reactBrake_leaves : LeavesAlone reactBrake :=
  leavesAlone_guarded fun s _ => { Remains.refl (b := true) s with clock := fun _ => ⟨rfl, fun _ => nofun⟩ }

/-- A start is taken in STOPPED only. -/
theorem reactStart_leaves : LeavesAlone reactStart := by
  refine leavesAlone_guarded fun s hg => ?_
  have hst : s.spc.state = .stopped := by
    simp only [State.atRest, Bool.and_eq_true, beq_iff_eq] at hg
    exact hg.1.1
  exact { Remains.refl (b := true) s with clock := fun hs => absurd hst (hs rfl) }

theorem reactLoad_leaves : LeavesAlone reactLoad := leavesAlone_guarded fun s _ => (Remains.refl s).quiet rfl

/-! ### Works of SPIN UP -/

theorem reactWorkCut_leaves : LeavesAlone reactWorkCut := by
  intro s t h
  unfold reactWorkCut at h
  split at h
  · obtain ⟨-, rfl⟩ := guarded_eq_some h
    exact (Remains.refl s).endWork _
  · cases h

theorem reactEnd_leaves : LeavesAlone reactEnd := by
  intro s t h
  unfold reactEnd at h
  split at h
  · obtain ⟨-, rfl⟩ := guarded_eq_some h
    exact .ite (fun _ => (Remains.refl s).endPending _) fun _ => (Remains.refl s).completeHead _
  · cases h

theorem stepWork_leaves (w : SpinUpWork) : LeavesAlone (stepWork w) := by
  intro s t h
  unfold stepWork at h
  split at h
  · unfold workCartridge at h
    split at h <;> cases h
    · exact ((Remains.refl s).onCcu (by rfl)).quiet (State.workAt_still ..)
    · exact (Remains.refl s).quiet rfl
    · exact (Remains.refl s).quiet rfl
  · unfold workSpindle at h
    split at h
    · cases h; exact (Remains.refl s).quiet rfl
    · obtain ⟨-, rfl⟩ := guarded_eq_some h
      exact (Remains.refl s).quiet (by simp)
  · unfold workHeads at h
    split at h
    · cases h; exact (Remains.refl s).quiet rfl
    · split at h
      · cases h; exact (Remains.refl s).quiet rfl
      · obtain ⟨-, rfl⟩ := guarded_eq_some h
        exact (Remains.refl s).quiet (by simp)
  · unfold workRecord at h
    split at h
    · split at h
      · cases h
      · split at h
        · cases h; exact (Remains.refl s).quiet rfl
        · obtain ⟨hg, rfl⟩ := guarded_eq_some h
          exact (Remains.refl s).startRecordRead (engineFree_op hg)
    · cases h; exact (Remains.refl s).endWork _
    · cases h; exact (Remains.refl s).endWork _

theorem reactWork_leaves : LeavesAlone reactWork := by
  intro s t h
  unfold reactWork at h
  split at h
  · cases h
  · next w _ =>
    split at h
    · cases h; exact (Remains.refl s).endWork _
    · exact stepWork_leaves w s t h

/-! ### Record operations -/

theorem reactReadDue_leaves : LeavesAlone reactReadDue := by
  refine leavesAlone_guarded fun s hg => .ite (fun _ => ?_) fun _ => (Remains.refl s).quiet rfl
  simp only [Bool.and_eq_true] at hg
  exact (Remains.refl s).startRecordRead (engineFree_op hg.2)

theorem reactReached_leaves : LeavesAlone reactReached := by
  intro s t h
  unfold reactReached at h
  split at h
  · next w hw =>
    obtain ⟨-, rfl⟩ := guarded_eq_some h
    exact (Remains.refl s).setOp (by rw [hw]; exact fun _ => id)
  · cases h

theorem reactRecordSeek_leaves : LeavesAlone reactRecordSeek := leavesAlone_guarded fun s _ => (Remains.refl s).recordSeek

theorem reactRecordSlot_leaves : LeavesAlone reactRecordSlot := by
  intro s t h
  unfold reactRecordSlot at h
  split at h
  · next w i hw hi =>
    obtain ⟨hnone, rfl⟩ := guarded_eq_some h
    have hslot : s.record.op.slot = none := by
      rw [hw]
      exact Option.isNone_iff_eq_none.mp hnone
    refine { Remains.refl (b := true) s with unqueued := fun hq => ⟨hq, rfl, fun P ⟨htag, hflight, hempty⟩ =>
      ⟨fun x hx => ?_, hflight, fun j x hx hj hop => ?_⟩⟩ }
    · obtain ⟨j, hj⟩ := List.mem_iff_getElem?.mp hx
      change (s.slots.modify i _)[j]? = some x at hj
      rw [List.getElem?_modify] at hj
      obtain ⟨y, hy, rfl⟩ := Option.map_eq_some_iff.mp hj
      split
      · rfl
      · exact htag y (List.mem_of_getElem? hy)
    · have hne : i ≠ j := fun e => hop (congrArg some e)
      change (s.slots.modify i _)[j]? = some x at hx
      rw [List.getElem?_modify_ne _ _ hne] at hx
      exact hempty j x hx hj (by rw [hslot]; nofun)
  · cases h

/-! ### Transfer Engine, works of SPIN DOWN, eject -/

theorem reactEngine_leaves : LeavesAlone reactEngine := by
  intro s t h
  unfold reactEngine at h
  split at h
  · cases h
  · split at h
    · cases h
    · split at h
      · split at h
        · cases h; exact (Remains.refl s).quiet rfl
        · obtain ⟨-, rfl⟩ := guarded_eq_some h
          exact (Remains.refl s).engineSeek
      · obtain ⟨-, rfl⟩ := guarded_eq_some h
        exact (Remains.refl s).quiet rfl

theorem reactDrain_leaves : LeavesAlone reactDrain := by
  intro s t h
  unfold reactDrain at h
  split at h
  · obtain ⟨-, rfl⟩ := guarded_eq_some h
    exact (Remains.refl s).completeHead _
  · cases h

theorem reactDown_leaves (who : Who) : LeavesAlone (reactDown who) := by
  intro s t h
  unfold reactDown at h
  dsimp only at h
  split at h
  · split at h
    · cases h; exact (Remains.refl s).quiet rfl
    · split at h
      · obtain ⟨hg, rfl⟩ := guarded_eq_some h
        simp only [Bool.and_eq_true] at hg
        exact Remains.startWriteBack ((Remains.refl s).quiet (State.onDowns_still _ _)) (engineFree_op hg.1) who
      · cases h; exact (Remains.refl s).quiet (by simp)
  · cases h
    exact .ite (fun _ => (Remains.refl s).quiet rfl) fun _ =>
      Remains.unloadRequest ((Remains.refl s).quiet (State.onDowns_still _ _))
  · cases h

theorem reactEject_leaves : LeavesAlone reactEject := by
  intro s t h
  unfold reactEject at h
  split at h
  · cases h
  · next e he =>
    split at h
    · obtain ⟨-, rfl⟩ := guarded_eq_some h
      exact (Remains.refl s).quiet (onCcu_setEject_still he rfl)
    · unfold ejectFlush at h
      dsimp only at h
      split at h
      · split at h
        · cases h; exact (Remains.refl s).quiet (by simp)
        · split at h
          · cases h; exact (Remains.refl s).failEject _ _
          · split at h
            · obtain ⟨hg, rfl⟩ := guarded_eq_some h
              exact Remains.startWriteBack ((Remains.refl s).onCcu rfl) (engineFree_op hg) _
            · cases h
              exact ((Remains.refl s).onCcu (by rfl)).quiet (State.joinWork_still _ _)
      · cases h
    · obtain ⟨-, rfl⟩ := guarded_eq_some h
      exact (Remains.refl s).unloadRequest
    · cases h

/-! ### The head entry -/

theorem Remains.beginEntry {s t : State} (h : Remains true s t) (c : MediumCmd) : Remains true s (t.beginEntry c) := by
  unfold State.beginEntry
  split
  · exact h.quiet (by simp)
  · exact h.quiet rfl
  · exact .ite (fun _ => .ite (fun _ => h.quiet rfl) fun _ => .ite (fun _ => h.quiet (by simp))
      fun _ => h.completeHead _) fun _ => h.completeHead _

theorem reactBegin_leaves : LeavesAlone reactBegin := by
  intro s t h
  unfold reactBegin at h
  split at h
  · cases h
  · next e rest hq =>
    obtain ⟨-, rfl⟩ := guarded_eq_some h
    have h0 := (Remains.refl (b := true) s).setQueue (by rw [hq]; nofun) ({ e with executing := true } :: rest)
    exact .ite (fun _ => h0.completeHead _) fun _ => h0.beginEntry _

theorem reactStranded_leaves : LeavesAlone reactStranded := by
  intro s t h
  unfold reactStranded at h
  split at h
  · cases h
  · obtain ⟨-, rfl⟩ := guarded_eq_some h
    exact (Remains.refl s).beginEntry _

theorem reactReady_leaves : LeavesAlone reactReady := by
  intro s t h
  unfold reactReady at h
  split at h
  · cases h
  · next e hx =>
    have hne : s.queue ≠ [] := fun hq => by simp [State.executing, hq] at hx
    obtain ⟨hg, rfl⟩ := guarded_eq_some h
    split
    · split
      · exact (Remains.refl s).completeHead _
      · exact (Remains.refl s).quiet rfl
    · have h0 : Remains true s (s.setJob .seeking) := (Remains.refl s).quiet rfl
      unfold State.runSeek
      dsimp only
      refine .ite (fun _ => h0.completeHead _) fun _ => ?_
      split
      · next hu => exact h0.seekRequest hu
      · exact h0.completeHead _
    · next l _ =>
      unfold State.runReassign
      split
      · exact (Remains.refl s).completeHead _
      · have h0 : Remains true s (s.onRec fun r => { r with state := .dirty, image := r.image.map (Image.reassign l) }) :=
          { Remains.refl (b := true) s with unqueued := fun hq => absurd hq hne }
        exact h0.completeHead _
    · have hop : s.record.op = .idle := by
        simp only [Bool.and_eq_true, beq_iff_eq] at hg
        exact hg.1.1.2
      exact .ite (fun _ => Remains.startWriteBack ((Remains.refl s).quiet (s.setJob_still .flush)) hop _) fun _ =>
        (Remains.refl s).completeHead _
    · exact (Remains.refl s).completeHead _

theorem reactTransfer_leaves : LeavesAlone reactTransfer :=
  leavesAlone_guarded fun s hg => by
    have hf : s.eng.flight = none := by simp [State.engineFree] at hg; exact hg.1.2.1.2
    refine Remains.takeBlock ((Remains.refl s).quiet ?_)
    simp [State.still, State.clock, State.ledger, State.onEng, State.setJob, hf, Engine.none]

theorem leavesAlone_of_mem_rules : ∀ r ∈ rules, LeavesAlone r := by
  simp only [rules, List.forall_mem_cons]
  exact ⟨reactOwnUnload_leaves, reactFlight_leaves, reactRecordLost_leaves, reactStopCheck_leaves, reactRelease_leaves,
    reactEjecting_leaves, reactStopped_leaves, reactParked_leaves, reactEjectParked_leaves, reactBrake_leaves,
    reactStart_leaves, reactLoad_leaves, reactWorkCut_leaves, reactEnd_leaves, reactWork_leaves, reactReadDue_leaves,
    reactReached_leaves, reactRecordSeek_leaves, reactRecordSlot_leaves, reactEngine_leaves, reactDrain_leaves,
    reactDown_leaves .cmd, reactDown_leaves .standby, reactDown_leaves .orphan, reactEject_leaves, reactBegin_leaves,
    reactStranded_leaves, reactReady_leaves, reactTransfer_leaves, nofun⟩

theorem Remains.settle {s t : State} (h : Remains true s t) : Remains true s t.settle :=
  h.trans (settle_of_rules (P := Remains true) .refl (fun _ _ _ => .trans)
    (fun r hr s t _ hst => leavesAlone_of_mem_rules r hr s t hst) t)

end Sys2Proof.Machine
end

section
/-! BUS_RESET and its release (R118, R140, R173, R183, R194). -/

namespace Sys2Proof.Machine

/-! ## In every state -/

theorem exec_busReset {s : State} (hb : s.dbi.busReset = false) (hl : s.supplyLow = false) :
    exec .busReset s = .next s.busCleared.event := by
  have hexec : exec .busReset s = .next (if s.dbi.busReset then s
    else if s.supplyLow then s.onDbi fun d => { d with busReset := true, out := .none } else s.busCleared.event) := rfl
  rw [hexec, hb, hl]
  rfl

/-- The bus stays silent while BUS_RESET is asserted. -/
theorem commit_of_reset {s : State} (hb : s.dbi.busReset = true) (hi : s.dbi.inb = .idle) : s.commit = s := by
  rw [commit_of_idle hi]
  simp [State.startOutbound, hb]

/-- A take leaves the flags of the table store (R166). -/
theorem takeTables_flags (s : State) :
    (s.takeTables.tbs.hold, s.takeTables.tbs.resetCause, s.takeTables.tbs.snapSpindle, s.takeTables.tbs.snapPosition,
      s.takeTables.tbs.snapCounters) =
    (s.tbs.hold, s.tbs.resetCause, s.tbs.snapSpindle, s.tbs.snapPosition, s.tbs.snapCounters) := by
  rcases takeTables_cases s with h | ⟨-, -, -, h⟩ <;> rw [h]
  rfl

/-- What BUS_RESET itself sets, in the parts that the reactions leave alone. -/
theorem busCleared_parts (s : State) :
    s.busCleared.queue = [] ∧ s.busCleared.places = 0 ∧
    s.busCleared.dbi.busReset = true ∧ s.busCleared.dbi.inb = .idle ∧ s.busCleared.dbi.out = .none ∧
    (s.busCleared.dbi.stb, s.busCleared.dbi.ack) = (false, false) ∧
    (s.busCleared.ccu.holdCount, s.busCleared.ccu.buttonRefused) = (0, false) ∧
    (s.busCleared.tbs.hold, s.busCleared.tbs.resetCause, s.busCleared.tbs.snapSpindle, s.busCleared.tbs.snapPosition,
      s.busCleared.tbs.snapCounters) = (false, .busReset, none, none, none) ∧
    s.busCleared.atc = ⟨[.partReset], [], []⟩ := by
  obtain ⟨x, -, hl⟩ := s.busCleared_ledger
  have htake (u : State) : (u.takeTables.ccu, u.takeTables.queue) = (u.ccu, u.queue) := by
    rcases takeTables_cases u with h | ⟨-, -, -, h⟩ <;> rw [h]
    rfl
  refine ⟨congrArg Ledger.queue hl, ?_, congrArg (fun l => l.dbi.busReset) hl, congrArg (fun l => l.dbi.inb) hl,
    congrArg (fun l => l.dbi.out) hl, congrArg (fun l => (l.dbi.stb, l.dbi.ack)) hl, ?_, ?_, rfl⟩
  · rw [places_eq, hl]
    cases h : s.orphanWorks.ccu.eject <;> simp [Ledger.places, State.ledger, h]
  · change (s.orphanWorks.dropQueue.resetHolds.resetTables.ccu.holdCount,
      s.orphanWorks.dropQueue.resetHolds.resetTables.ccu.buttonRefused) = _
    generalize hu : s.orphanWorks.dropQueue.resetHolds = u
    have hc : u.ccu.holdCount = 0 ∧ u.ccu.buttonRefused = false := by
      rw [← hu]
      exact ⟨rfl, rfl⟩
    unfold State.resetTables
    dsimp only
    split
    · have := congrArg Prod.fst (htake (u.onTbs fun t => { t with
        hold := false, snapSpindle := none, snapPosition := none, snapCounters := none, resetCause := .busReset }))
      dsimp only at this
      rw [this]
      exact Prod.ext hc.1 hc.2
    · exact Prod.ext hc.1 hc.2
  · have hbt : s.busCleared.tbs = s.orphanWorks.dropQueue.resetHolds.resetTables.tbs := rfl
    rw [hbt]
    generalize s.orphanWorks.dropQueue.resetHolds = u
    unfold State.resetTables
    dsimp only
    split
    · rw [takeTables_flags]
      rfl
    · rfl

/-- Every slot but those of the sector in flight and of a record operation is EMPTY, and none belongs to a command. -/
theorem busCleared_spare (s : State) :
    s.busCleared.Spare fun j => s.eng.flight.bind Flight.slot = some j ∨ s.record.op.slot = some j := by
  obtain ⟨x, -, hl⟩ := s.busCleared_ledger
  have horphan : s.orphanWorks.eng.flight = s.eng.flight ∧ s.orphanWorks.record.op.slot = s.record.op.slot := by
    unfold State.orphanWorks
    split <;>
    · refine ⟨?_, State.orphanWriteBack_op _ _ s⟩
      change (State.orphanWriteBack _ _ s).eng.flight = _
      unfold State.orphanWriteBack
      repeat' split
      all_goals rfl
  have hslots : s.busCleared.slots = _ := congrArg Ledger.slots hl
  have hflight : s.busCleared.eng.flight = _ := congrArg Ledger.flight hl
  rw [horphan.1, horphan.2] at hslots
  rw [horphan.1] at hflight
  have hslot : s.busCleared.eng.flight.bind Flight.slot = s.eng.flight.bind Flight.slot := by
    rw [hflight]
    cases s.eng.flight <;> rfl
  refine ⟨fun y hy => ?_, fun i hi => .inl (hslot ▸ hi), fun j y hy hj _ => ?_⟩
  · obtain ⟨j, hj⟩ := List.mem_iff_getElem?.mp hy
    rw [hslots, List.getElem?_mapIdx] at hj
    obtain ⟨z, -, rfl⟩ := Option.map_eq_some_iff.mp hj
    unfold Slot.reset
    split <;> rfl
  · rw [hslots, List.getElem?_mapIdx] at hy
    obtain ⟨z, -, rfl⟩ := Option.map_eq_some_iff.mp hy
    have hno : [s.eng.flight.bind Flight.slot, s.record.op.slot].contains (some j) = false := by
      obtain ⟨hf, ho⟩ := not_or.mp hj
      simp only [List.contains_cons, List.contains_nil, beq_false_of_ne (Ne.symm hf), beq_false_of_ne (Ne.symm ho)]
      rfl
    rw [Slot.reset, hno]
    rfl

/-- In every state BUS_RESET clears the queue, the replies, the tags, the lines, the holds and the snapshots, and leaves no slot to a command (R118, R183). -/
theorem busReset_everywhere {s : State} (hb : s.dbi.busReset = false) (hl : s.supplyLow = false) :
    s.completes .busReset fun t =>
      t.queue = [] ∧ t.dbi.replies = [] ∧ (∀ e ∈ t.ccu.eject, e.tags = []) ∧ t.reserved = 0 ∧
      t.dbi.busReset = true ∧ t.dbi.inb = .idle ∧ t.dbi.out = .none ∧ t.dbi.stb = false ∧
      t.dbi.ack = false ∧ (∀ x ∈ t.slots, x.tag = none) ∧
      (∀ j x, t.slots[j]? = some x → s.eng.flight.bind Flight.slot ≠ some j →
        s.record.op.slot ≠ some j → t.record.op.slot ≠ some j → x = Slot.none) ∧
      t.ccu.holdCount = 0 ∧ t.ccu.buttonRefused = false ∧ t.tbs.hold = false ∧ t.tbs.resetCause = .busReset ∧
      t.tbs.snapSpindle = none ∧ t.tbs.snapPosition = none ∧ t.tbs.snapCounters = none ∧
      t.requested .partReset = true ∧ t.atc.inService = [] ∧ t.atc.mask = [] := by
  obtain ⟨hq, hplaces, hreset, hinb, hout, hlines, hholds, htables, hatc⟩ := busCleared_parts s
  have hspare := busCleared_spare s
  have hexec := exec_busReset hb hl
  generalize s.busCleared = u at hq hplaces hreset hinb hout hlines hholds htables hatc hspare hexec
  have hev : Evolves u u.settle := (Evolves.refl u).settle
  have hrem : Remains true u u.settle := (Remains.refl u).settle
  have htreset : u.settle.dbi.busReset = true := hev.busReset.trans hreset
  have htinb : u.settle.dbi.inb = .idle := hev.inb.trans hinb
  rw [State.event, commit_of_reset htreset htinb] at hexec
  generalize u.settle = t at *
  have htplaces : t.places = 0 := by
    have := hev.places
    rw [← places_eq, ← places_eq] at this
    omega
  have hreplies : t.dbi.replies = [] ∧ t.reserved = 0 := by
    simp only [State.places] at htplaces
    exact ⟨List.eq_nil_of_length_eq_zero (by omega), by omega⟩
  have htags : ∀ e ∈ t.ccu.eject, e.tags = [] := fun e he => by
    have h := hreplies.2
    rw [State.reserved, Option.mem_def.mp he] at h
    simp only [Option.map_some, Option.getD_some] at h
    exact List.eq_nil_of_length_eq_zero (by omega)
  obtain ⟨htq, -, htspare⟩ := hrem.unqueued hq
  obtain ⟨huntagged, -, hempty⟩ := htspare _ hspare
  have hl := hrem.lines.trans hlines
  have hh := hrem.holds.trans hholds
  have ht := hrem.tables.trans htables
  have ha := hrem.attention
  rw [hatc] at ha
  simp only [Prod.mk.injEq] at hl hh ht ha
  have hpart : Source.partReset ∈ t.atc.requests := hrem.requests _ (by rw [hatc]; exact List.mem_singleton_self _)
  exact ⟨t, hexec, htq, hreplies.1, htags, hreplies.2, htreset, htinb, hrem.out hout, hl.1, hl.2, huntagged,
    fun j x hx hf ho hop => hempty j x hx (by simp [hf, ho]) hop, hh.1, hh.2, ht.1, ht.2.1, ht.2.2.1, ht.2.2.2.1,
    ht.2.2.2.2, by simpa [State.requested] using hpart, ha.1, ha.2⟩

/-! ## In a calm drive -/

/-- What BUS_RESET leaves of a calm drive before the table store clears. -/
theorem orphanWorks_of_calm {s : State} (h : s.Calm) : s.orphanWorks = s := by
  have ho : s.orphanWriteBack .cmd .lost = s := by simp only [State.orphanWriteBack, h.op]
  have hw : s.setWork (s.work.map fun w => if w.forCmd then { w with forCmd := false, forLost := true } else w) = s := by
    rw [h.work, Option.map_none, ← h.work]
    rfl
  simp only [State.orphanWorks, h.downs, ho]
  exact hw

/-- What the queue, the slots and the Positioner of a calm drive lose. -/
theorem dropQueue_of_calm {s : State} (h : s.Calm) : s.dropQueue = { s with
    slots := s.slots.map fun _ => Slot.none
    pos := { s.pos with requester := .none } } := by
  have hslots : s.dropQueue.slots = s.slots.map fun _ => Slot.none := by
    have hl := congrArg Ledger.slots s.dropQueue_ledger
    have hf : s.eng.flight = none := by rw [h.eng]; rfl
    have ho : s.record.op.slot = none := by rw [h.op]; rfl
    rw [hf, ho] at hl
    refine Eq.trans hl (List.ext_getElem? fun j => ?_)
    rw [List.getElem?_mapIdx, List.getElem?_map]
    rfl
  have hafter : s.eng.afterCommand = s.eng := by rw [h.eng]; rfl
  have hdrop : s.dropQueue = { s with
      slots := s.dropQueue.slots
      queue := []
      job := .idle
      endWith := none
      eng := s.eng.afterCommand
      pos := { s.pos with requester := if s.record.op == .idle || s.pos.requester == .seekCommand then .none
        else s.pos.requester } } := rfl
  rw [hdrop, hslots, hafter, h.op, ← h.queue, ← h.job, ← h.endWith]
  rfl

theorem resetHolds_of_calm {s : State} (h : s.ccu.eject = none) : s.resetHolds = s.onCcu fun c => { c with
    holdCount := 0
    buttonRefused := false } := by
  have heject : s.ccu.eject.map (fun e => { e with tags := [] }) = s.ccu.eject := by rw [h]; rfl
  have hreset : s.resetHolds = s.onCcu fun c => { c with
      holdCount := 0
      buttonRefused := false
      eject := s.ccu.eject.map fun e => { e with tags := [] } } := rfl
  rw [hreset, heject]
  rfl

theorem busReset_calm {s : State} (hb : s.dbi.busReset = false) (hc : s.Calm) :
    s.completes .busReset fun t =>
      t.atc = ⟨[.partReset], [], []⟩ ∧ t.spc = s.spc ∧ t.fsv = s.fsv ∧ t.record = s.record ∧
      t.counters = s.counters ∧ t.slots = s.slots.map (fun _ => Slot.none) ∧
      t.ccu = { s.ccu with holdCount := 0, buttonRefused := false } ∧
      let cleared := { s.tbs with hold := false, snapSpindle := none, snapPosition := none,
                                  snapCounters := none, resetCause := .busReset }
      ((s.anyStaged = false ∨ s.spc.state.powered = true) → t.tbs = cleared ∧
        t.pos = { s.pos with requester := .none }) ∧
      (s.anyStaged = true → s.spc.state.powered = false → t.anyStaged = false ∧
        t.tbs.profile = s.tbs.stagedProfile.getD s.tbs.profile ∧
        t.tbs.actions = s.tbs.stagedActions.getD s.tbs.actions ∧
        t.tbs.params = s.tbs.stagedParams.getD s.tbs.params) := by
  have hexec := exec_busReset hb hc.supplied
  obtain ⟨v, hv⟩ : ∃ v, v = s.dropQueue.resetHolds.onTbs fun t => { t with
      hold := false, snapSpindle := none, snapPosition := none, snapCounters := none, resetCause := .busReset } := ⟨_, rfl⟩
  have hframe : v.spc = s.spc ∧ v.fsv = s.fsv ∧ v.record = s.record ∧ v.counters = s.counters ∧
      v.slots = s.slots.map (fun _ => Slot.none) ∧ v.ccu = { s.ccu with
        holdCount := 0
        buttonRefused := false } ∧
      v.pos = { s.pos with requester := .none } ∧ v.tbs = { s.tbs with
        hold := false
        snapSpindle := none
        snapPosition := none
        snapCounters := none
        resetCause := .busReset } ∧ v.affairs = s.affairs ∧ v.motion = s.motion ∧ v.supplyLow = false := by
    rw [hv, dropQueue_of_calm hc, resetHolds_of_calm (s := { s with
      slots := s.slots.map fun _ => Slot.none
      pos := { s.pos with requester := .none } }) hc.eject]
    exact ⟨rfl, rfl, rfl, rfl, rfl, rfl, rfl, rfl, rfl, rfl, hc.supplied⟩
  obtain ⟨hspc, hfsv, hrec, hcount, hslots, hccu, hpos, htbs, haff, hmot, hvl⟩ := hframe
  obtain ⟨w, hw⟩ : ∃ w, w = if s.spc.state.idle then v.takeTables else v := ⟨_, rfl⟩
  have hclear : s.busCleared = w.resetAttention.resetBus := by
    rw [State.busCleared, orphanWorks_of_calm hc, hw, hv]
    rfl
  have hwkeep : w.spc = v.spc ∧ w.fsv = v.fsv ∧ w.record = v.record ∧ w.counters = v.counters ∧ w.slots = v.slots ∧
      w.ccu = v.ccu ∧ w.affairs = v.affairs ∧ w.motion = v.motion := by
    rw [hw]
    split
    · rcases takeTables_cases v with h | ⟨-, -, -, h⟩ <;> rw [h] <;>
        exact ⟨rfl, rfl, rfl, rfl, rfl, rfl, rfl, rfl⟩
    · exact ⟨rfl, rfl, rfl, rfl, rfl, rfl, rfl, rfl⟩
  obtain ⟨kspc, kfsv, krec, kcount, kslots, kccu, kaff, kmot⟩ := hwkeep
  have hcalm : s.busCleared.Calm := by
    rw [hclear]
    refine hc.of_motion ?_ (kmot.trans hmot)
    have h := kaff.trans haff
    simp only [State.affairs, Prod.mk.injEq] at h ⊢
    obtain ⟨h1, h2, h3, ⟨hturn, -⟩, h5⟩ := h
    exact ⟨h1, h2, h3, ⟨hturn, hc.inb.symm⟩, h5⟩
  have hstaged : v.anyStaged = s.anyStaged := by
    rw [State.anyStaged, htbs]
    rfl
  refine completes_of_calm hexec hcalm ?_
  rw [hclear]
  refine ⟨rfl, kspc.trans hspc, kfsv.trans hfsv, krec.trans hrec, kcount.trans hcount, kslots.trans hslots,
    kccu.trans hccu, fun h => ?_, fun hany hpow => ?_⟩
  · have hwv : w = v := by
      rw [hw]
      split
      · next hidle =>
        have hany : s.anyStaged = false := by
          rcases h with h | h
          · exact h
          · rw [idle_eq_not_powered, h] at hidle
            cases hidle
        rw [State.takeTables, hstaged, hany]
        rfl
      · rfl
    rw [hwv]
    exact ⟨htbs, hpos⟩
  · have hidle : s.spc.state.idle = true := by rw [idle_eq_not_powered, hpow]; rfl
    have hhold : v.tbs.hold = false := by rw [htbs]
    rcases takeTables_cases v with h | ⟨-, -, -, h⟩
    · rw [State.takeTables, hstaged, hany, hhold, hvl] at h
      have hnone := (congrArg State.anyStaged h).trans (hstaged.trans hany)
      cases show false = true from hnone
    · have hwt : w = v.takeTables := by rw [hw, hidle]; rfl
      rw [hwt, h]
      refine ⟨rfl, ?_, ?_, ?_⟩
      · change v.tbs.stagedProfile.getD v.tbs.profile = _
        rw [htbs]
      · change v.tbs.stagedActions.getD v.tbs.actions = _
        rw [htbs]
      · change v.tbs.stagedParams.getD v.tbs.params = _
        rw [htbs]

/-! ## The release -/

/-- Settles O60: BUS_RESET in every state and in a calm drive, and its release. -/
theorem busResets : Obligations.BusResets := by
  refine ⟨fun s => ⟨fun hb => ?_, busReset_everywhere⟩, fun s hb hcalm => busReset_calm hb (calm_iff.mp hcalm),
    fun s => ⟨fun hb => ?_, fun hb hi hs => ?_⟩⟩
  · have hexec : exec .busReset s = .next (if s.dbi.busReset then s
      else if s.supplyLow then s.onDbi fun d => { d with busReset := true, out := .none } else s.busCleared.event) := rfl
    rw [hexec, hb]
    rfl
  all_goals
    have hexec : exec .busResetRelease s =
      .next (if s.dbi.busReset then (s.onDbi fun d => { d with busReset := false }).commit else s) := rfl
    rw [hexec, hb]
  · rfl
  · rw [if_pos rfl, commit_of_idle (s := s.onDbi fun d => { d with busReset := false }) hi]
    refine congrArg _ ?_
    have hdrain : (s.onDbi fun d => { d with busReset := false }).drainSlot = s.drainSlot := rfl
    rcases hs with ht | ⟨hr, hd⟩
    · exact startOutbound_of_turn (s := s.onDbi fun d => { d with busReset := false }) ht
    · unfold State.startOutbound
      rw [hdrain, hd]
      simp [hr, State.onDbi]

end Sys2Proof.Machine
end

section
/-! The clock of the revolutions at an index (R33), in every state, through all that the event brings about. -/

namespace Sys2Proof.Machine

/-! ## Operations of an index that leave what `Remains` names -/

@[simp] theorem State.successPoint_still (spindle : Bool) (s : State) : (s.successPoint spindle).still = s.still :=
  foldl_still (fun s k => s.beginWatch_still k) _ s

section

variable {b : Bool} {s t : State} (h : Remains b s t)
include h

theorem Remains.enterAtSpeed : Remains b s t.enterAtSpeed := by
  have h0 : Remains b s (t.onSpc fun p => { p with state := .atSpeed, standbyElapsed := 0 }) :=
    h.onSpc rfl fun _ => (by decide : SpindleState.atSpeed ≠ .stopped)
  exact (h0.request _).quiet (State.successPoint_still true _)

theorem Remains.observe (k : FaultKind) (n : Nat) {put : Nat → Spindle → Spindle}
    (hput : ∀ m, (t.onSpc (put m)).clock = t.clock ∧ (put m t.spc).state = t.spc.state) :
    Remains b s (t.observe k n put) := by
  have hon (m : Nat) : Remains b s (t.onSpc (put m)) := h.onSpc (hput m).1 fun hs => (hput m).2 ▸ hs
  exact .ite (fun _ => (hon 0).recognise k none) fun _ => hon _

theorem Remains.enterPurging : Remains b s t.enterPurging := by
  have h0 := (h.onSpc (f := fun p => { p with
    state := .purging, driveAtLimit := false, lockCount := 0, purgeCount := 0, spinUpTimer := none,
    spinUpTimeoutCount := 0, lostIndexWatch := freshLostWatch }) rfl
      fun _ => (by decide : SpindleState.purging ≠ .stopped)).quiet (State.absent_still .spinUpTimeout _)
  exact .ite (fun _ => h0.enterAtSpeed) fun _ => h0

theorem Remains.lockIndex (measured : Bool) : Remains b s (t.lockIndex measured) :=
  .ite (fun _ => .ite (fun _ => .ite (fun _ => h.enterPurging) fun _ => h.onSpc rfl id) fun _ => h.onSpc rfl id)
    fun _ => h

theorem Remains.rangeIndex (measured : Bool) : Remains b s (t.rangeIndex measured) := by
  have h0 : Remains b s (t.onSpc fun p => { p with lostIndexWatch := freshLostWatch }) := h.onSpc rfl id
  exact .ite (fun _ => .ite (fun _ => (h0.onSpc rfl id).quiet (State.absent_still _ _))
    fun _ => h0.observe _ _ fun _ => ⟨rfl, rfl⟩) fun _ => h0

theorem Remains.purgeIndex : Remains b s t.purgeIndex := by
  have h0 : Remains b s (t.onSpc fun p => { p with purgeCount := p.purgeCount + 1 }) := h.onSpc rfl id
  exact .ite (fun _ => .ite (fun _ => h0.enterAtSpeed) fun _ => h0) fun _ => h

theorem Remains.brakeIndex (measured : Bool) : Remains b s (t.brakeIndex measured) :=
  .ite (fun _ => h.onSpc rfl id) fun _ => h

theorem Remains.armStopWindow : Remains b s t.armStopWindow :=
  h.onSpc (f := fun p => { p with stopWindow := t.freshStopWindow }) rfl id

theorem Remains.sampleWarning (warning : Bool) : Remains b s (t.sampleWarning warning) :=
  .ite (fun _ => .ite (fun _ => Remains.recognise (by exact h.quiet rfl) _ _) fun _ => h.quiet rfl) fun _ =>
    h.quiet rfl

theorem Remains.seekTimerExpires : Remains b s t.seekTimerExpires := by
  unfold State.seekTimerExpires
  extract_lets unloading n raise u v
  have hu : Remains b s u := h.quiet rfl
  have hv : Remains b s v := .ite (fun _ => hu.recognise _ _) fun _ => hu
  exact .ite (fun _ => hv.quiet (by simp)) fun _ => hv

theorem Remains.countSeekTimer : Remains b s t.countSeekTimer :=
  .ite (fun _ => .ite (fun _ => h.seekTimerExpires) fun _ => h.quiet rfl) fun _ => h

end

/-- An index meets each state of the disk; after it the disk is not STOPPED (R37, R48). -/
theorem indexByState_clock (measured : Bool) (s : State) :
    (s.indexByState measured).clock = s.clock ∧ (s.indexByState measured).spc.state ≠ .stopped := by
  have hkeep {t : State} (hs : s.spc.state ≠ .stopped) (h : Remains false s t) :
      t.clock = s.clock ∧ t.spc.state ≠ .stopped := (h.clock nofun).imp_right fun f => f hs
  have hr := Remains.refl (b := false) s
  unfold State.indexByState
  split
  · exact ⟨rfl, nofun⟩
  · exact ⟨rfl, nofun⟩
  · next hs => exact hkeep (by rw [hs]; nofun) (hr.lockIndex _)
  · next hs => exact hkeep (by rw [hs]; nofun) (hr.rangeIndex _).purgeIndex
  · next hs => exact hkeep (by rw [hs]; nofun) (hr.rangeIndex _)
  · next hs => exact hkeep (by rw [hs]; nofun) hr.armStopWindow
  · next hs => exact hkeep (by rw [hs]; nofun) (hr.brakeIndex _).armStopWindow

/-! ## The interface after the event -/

/-- The interface changes its own registers and the slots. -/
theorem startOutbound_parts (s : State) : s.startOutbound = { s with
    dbi := s.startOutbound.dbi
    slots := s.startOutbound.slots } := by
  unfold State.startOutbound
  repeat' split
  all_goals rfl

theorem headerStep_parts (h : Header) (s : State) : s.headerStep h = { s with dbi := (s.headerStep h).dbi } := by
  unfold State.headerStep
  split <;> rfl

theorem commit_parts (s : State) : s.commit = { s with dbi := s.commit.dbi, slots := s.commit.slots } := by
  have hr : s.releaseWaiting = { s with dbi := s.releaseWaiting.dbi } := by
    unfold State.releaseWaiting
    split
    · split
      · exact headerStep_parts _ s
      · rfl
    · rfl
  have hs := startOutbound_parts s.releaseWaiting
  unfold State.commit
  rw [hs, hr]

/-! ## The clock -/

/-- The drive at an index, before it counts (R33). -/
def State.indexed (timer : Nat) (s : State) : State := (s.elapse (timer - s.spc.revTimer)).measureIndex

/-- The reading of the revolution timer is the row's, or the ticks counted before where those are more (log 5). -/
theorem revTimer_elapse (timer : Nat) (s : State) :
    (s.elapse (timer - s.spc.revTimer)).spc.revTimer = max timer s.spc.revTimer := by
  change s.spc.revTimer + (timer - s.spc.revTimer) = _
  omega

theorem indexed_spc (timer : Nat) (s : State) : (s.indexed timer).spc = { (s.elapse (timer - s.spc.revTimer)).spc with
    revCount := s.spc.revCount + 1, revTimer := 0, indexSeen := true, wedgeWait := 0,
    lastPeriod := if s.spc.indexSeen then min 1048575 (max timer s.spc.revTimer) else s.spc.lastPeriod } := by
  rw [← revTimer_elapse timer s]
  rfl

/-- The tables taken at the index, unless a seek is in progress (R166). -/
def State.indexTakes (s : State) : State := if s.pos.state == .seeking then s else s.takeTables

theorem indexTakes_spc (s : State) : s.indexTakes.spc = s.spc := by
  unfold State.indexTakes
  split
  · rfl
  · exact (takeTables_frame s).1

theorem indexArrives_eq (timer : Nat) (warning : Bool) (s : State) : s.indexArrives timer warning =
    (((s.indexed timer).indexTakes.boundaryCounts.indexResets.indexByState s.spc.indexSeen).sampleWarning
      warning).countWatches s.watched := rfl

theorem indexArrives_clock (timer : Nat) (warning : Bool) (s : State) :
    (s.indexArrives timer warning).clock = (s.indexed timer).clock ∧
    (s.indexArrives timer warning).spc.state ≠ .stopped := by
  rw [indexArrives_eq]
  generalize s.spc.indexSeen = measured
  have htake : (s.indexed timer).indexTakes.clock = (s.indexed timer).clock := by
    rw [State.clock, indexTakes_spc]
    rfl
  rw [← htake]
  generalize (s.indexed timer).indexTakes = u
  have hcount : u.boundaryCounts.clock = u.clock :=
    ((Remains.countSeekTimer (b := false) ((Remains.refl u).quiet u.countDelays_still)).clock nofun).1
  have hreset : u.boundaryCounts.indexResets.clock = u.boundaryCounts.clock := by
    have := State.absents_still [.noRotation, .lostIndex]
      (u.boundaryCounts.onSpc fun p => { p with noRotationCount := 0, lostIndexCount := 0 })
    exact congrArg (fun x => x.2.2.2.2) this
  obtain ⟨hclock, hstate⟩ := indexByState_clock measured u.boundaryCounts.indexResets
  rw [← hcount, ← hreset, ← hclock]
  generalize u.boundaryCounts.indexResets.indexByState measured = v at *
  obtain ⟨hwarn, hturns⟩ := ((Remains.refl (b := false) v).sampleWarning warning).clock nofun
  have hspc := (countWatches_onlyReports s.watched (v.sampleWarning warning)).spc
  rw [State.clock, hspc]
  exact ⟨hwarn, hturns hstate⟩

/-- The clock after an index, whatever else its event brings about (R33). -/
theorem index_measures (s : State) (timer : Nat) (warning : Bool) :
    s.completes (.indexArrival timer warning) fun t =>
      t.spc.revCount = s.spc.revCount + 1 ∧ t.spc.revTimer = 0 ∧ t.spc.indexSeen = true ∧
      t.spc.lastPeriod = (if s.spc.indexSeen then min 1048575 (max timer s.spc.revTimer) else s.spc.lastPeriod) := by
  obtain ⟨hclock, hstate⟩ := indexArrives_clock timer warning s
  have hexec : exec (.indexArrival timer warning) s = .next (s.indexArrives timer warning).settle.commit := rfl
  refine ⟨_, hexec, ?_⟩
  generalize s.indexArrives timer warning = m at *
  have hsettle := ((Remains.refl (b := true) m).settle.clock fun _ => hstate).1
  have hspc : m.settle.commit.spc = m.settle.spc := by rw [commit_parts]
  rw [hspc]
  have hall := hsettle.trans hclock
  simp only [State.clock, indexed_spc, Prod.mk.injEq] at hall
  exact hall

end Sys2Proof.Machine
end

section
/-! What the disk, the heads and the latch of an idle drive leave alone, in a recognition and in every reaction: the
host's side, the counters and, once the record is made, the fault list with its retry delays. -/

namespace Sys2Proof.Machine

/-! ## The relation -/

/-- The times that run for a kind (R150, R152). -/
def KindStatus.clocks (x : KindStatus) := (x.delay, x.watch)

/-- The drive stays idle, what only commands, samples and recognitions change stands, and no excursion is counted
where none was. -/
structure State.Mechanical (s t : State) : Prop where
  idle : t.Idle
  hostSide : t.hostSide = s.hostSide
  counters : t.counters = s.counters
  records : t.fsv.records = s.fsv.records
  clocks : ∀ k, (t.fsv.kinds.get k).clocks = (s.fsv.kinds.get k).clocks
  excursion : s.spc.excursionCount = 0 → t.spc.excursionCount = 0

theorem State.Mechanical.refl {s : State} (hi : s.Idle) : s.Mechanical s := ⟨hi, rfl, rfl, rfl, fun _ => rfl, id⟩

theorem State.Mechanical.trans {s t u : State} (h : s.Mechanical t) (g : t.Mechanical u) : s.Mechanical u :=
  ⟨g.idle, g.hostSide.trans h.hostSide, g.counters.trans h.counters, g.records.trans h.records,
    fun k => (g.clocks k).trans (h.clocks k), g.excursion ∘ h.excursion⟩

theorem State.Mechanical.recordOf {s t : State} (h : s.Mechanical t) (k : FaultKind) : t.recordOf k = s.recordOf k := by
  rw [State.recordOf, h.records]
  rfl

theorem State.Mechanical.ite {c : Prop} [Decidable c] {s t u : State} (ht : c → s.Mechanical t)
    (hu : ¬ c → s.Mechanical u) : s.Mechanical (if c then t else u) := by
  split
  · exact ht ‹_›
  · exact hu ‹_›

/-- The disk winds down. -/
def State.Winding (s : State) : Prop := s.spc.state = .coasting ∨ s.spc.state = .braking

/-! ## The heads alone -/

/-- The heads alone move: the disk, the records and the delays stand. -/
structure State.Rides (s t : State) : Prop where
  heads : s.OnlyHeads t
  records : t.fsv.records = s.fsv.records
  clocks : ∀ k, (t.fsv.kinds.get k).clocks = (s.fsv.kinds.get k).clocks

theorem State.Rides.refl (s : State) : s.Rides s := ⟨.refl s, rfl, fun _ => rfl⟩

theorem State.Rides.mechanical {s t : State} (h : s.Rides t) (hi : s.Idle) : s.Mechanical t :=
  ⟨h.heads.idle hi, h.heads.hostSide, h.heads.counters, h.records, h.clocks, fun he => by rw [h.heads.spc]; exact he⟩

theorem State.Rides.idle {s t : State} (h : s.Rides t) (hi : s.Idle) : t.Idle := h.heads.idle hi

section

variable {s t : State} (h : s.Rides t)
include h

theorem State.Rides.trans {u : State} (g : t.Rides u) : s.Rides u :=
  ⟨h.heads.trans g.heads, g.records.trans h.records, fun k => (g.clocks k).trans (h.clocks k)⟩

theorem State.Rides.onPos (f : Positioner → Positioner) : s.Rides (t.onPos f) :=
  h.trans ⟨onPos_onlyHeads f t, rfl, fun _ => rfl⟩

theorem State.Rides.absent (k : FaultKind) : s.Rides (t.absent k) :=
  h.trans ⟨absent_onlyHeads k t, rfl, fun j => by rw [absent_get]; rfl⟩

theorem State.Rides.absents (l : List FaultKind) : s.Rides (t.absents l) := by
  unfold State.absents
  induction l generalizing t with
  | nil => exact h
  | cons k l ih => exact ih (h.absent k)

theorem State.Rides.withdrawLoads : s.Rides t.withdrawLoads :=
  h.trans ⟨withdrawLoads_onlyHeads t, rfl, fun k => by simp [State.withdrawLoads, KindStatus.clocks]⟩

theorem State.Rides.leaveSeekLaw : s.Rides t.leaveSeekLaw := (h.onPos _).absent _

theorem State.Rides.enterLoading : s.Rides t.enterLoading := (h.onPos _).absent _

theorem State.Rides.beginToRamp : s.Rides t.beginToRamp := (h.onPos _).leaveSeekLaw

variable (hi : t.Idle)
include hi

theorem State.Rides.enterUnloaded : s.Rides t.enterUnloaded := by
  rw [enterUnloaded_eq hi.supplied hi.readWanted]
  exact (h.onPos _).absents _

theorem State.Rides.enterToRamp : s.Rides t.enterToRamp := by
  have h0 := h.beginToRamp
  have hi0 := ((State.Rides.refl t).beginToRamp).idle hi
  unfold State.enterToRamp State.rampReached
  split
  · exact h0.enterUnloaded hi0
  · exact h0

theorem State.Rides.enterToCylinder0 : s.Rides t.enterToCylinder0 := by
  unfold State.enterToCylinder0
  extract_lets len u
  have hu : s.Rides u := h.onPos _
  have hui : u.Idle := hi.onPos _
  clear_value u
  split
  · exact hu.enterToRamp hui
  · exact hu

theorem State.Rides.seekFailed (byHold : Bool) : s.Rides (t.seekFailed byHold) := by
  rw [seekFailed_of_idle hi.job hi.op]
  exact h.onPos _

theorem State.Rides.beginUnload : s.Rides t.beginUnload := by
  have hfail := h.seekFailed hi false
  have hfaili := ((State.Rides.refl t).seekFailed hi false).idle hi
  unfold State.beginUnload
  split
  · exact h.enterToRamp hi
  · exact hfail.enterToCylinder0 hfaili
  · exact hfail.enterToCylinder0 hfaili
  · exact hfail.enterToCylinder0 hfaili
  · exact h

theorem State.Rides.unloadRequest : s.Rides t.unloadRequest := h.withdrawLoads.beginUnload hi.withdrawLoads

theorem State.Rides.enterRetracting (cause : Option FaultKind) : s.Rides (t.enterRetracting cause) := by
  unfold State.enterRetracting
  extract_lets i u
  have hu : s.Rides u := (h.onPos _).leaveSeekLaw.absents _
  have hui : u.Idle := (((State.Rides.refl t).onPos _).leaveSeekLaw.absents _).idle hi
  clear_value u
  split
  · exact (hu.enterUnloaded hui).onPos _
  · exact hu

theorem State.Rides.retractRequest (cause : FaultKind) : s.Rides (t.retractRequest cause) := by
  have h0 := h.withdrawLoads
  have hi0 := hi.withdrawLoads
  unfold State.retractRequest
  extract_lets u
  split
  · exact h0
  · exact h0
  · exact (h0.seekFailed hi0 false).enterRetracting (((State.Rides.refl u).seekFailed hi0 false).idle hi0) _

theorem State.Rides.holdRequest : s.Rides t.holdRequest := by
  unfold State.holdRequest
  split
  · exact h
  · extract_lets u
    have hu : s.Rides u := h.onPos _
    have hui : u.Idle := hi.onPos _
    split
    · exact ((hu.seekFailed hui true).onPos _).leaveSeekLaw
    · exact hu

theorem State.Rides.positionerAction (k : FaultKind) (r : FaultRow) : s.Rides (t.positionerAction k r) := by
  unfold State.positionerAction
  extract_lets unload
  split
  · split
    · exact h.unloadRequest hi
    · exact h
  · split
    · exact (h.holdRequest hi).unloadRequest (((State.Rides.refl t).holdRequest hi).idle hi)
    · exact h.holdRequest hi
  · exact h.unloadRequest hi
  · exact h.retractRequest hi k

end

/-! ## The action of a row -/

section

variable {s t : State} (h : s.Mechanical t)
include h

theorem State.Mechanical.onSpc {f : Spindle → Spindle}
    (hf : t.spc.excursionCount = 0 → (f t.spc).excursionCount = 0) : s.Mechanical (t.onSpc f) :=
  h.trans ⟨h.idle.onSpc f, rfl, rfl, rfl, fun _ => rfl, hf⟩

theorem State.Mechanical.absents (l : List FaultKind) : s.Mechanical (t.absents l) :=
  h.trans (((State.Rides.refl t).absents l).mechanical h.idle)

theorem State.Mechanical.leavePowered (st : SpindleState) (brake : Bool) (d : StopDemand) :
    s.Mechanical (t.leavePowered st brake d) := by
  unfold State.leavePowered
  exact State.Mechanical.absents (h.onSpc fun _ => rfl) _

theorem State.Mechanical.cancelRestarts : s.Mechanical t.cancelRestarts :=
  h.trans ⟨h.idle.cancelRestarts, rfl, rfl, rfl, fun k => by simp [State.cancelRestarts, KindStatus.clocks], id⟩

theorem State.Mechanical.stopRequest (d : StopDemand) : s.Mechanical (t.stopRequest d) := by
  unfold State.stopRequest
  extract_lets d'
  split
  · exact h.onSpc id
  · exact h.onSpc id
  · exact .ite (fun _ => h.onSpc id) fun _ => h.onSpc id
  · exact .ite (fun _ => h.leavePowered _ _ _) fun _ => .ite (fun _ => h.leavePowered _ _ _) fun _ => h.leavePowered _ _ _

theorem State.Mechanical.spindleAction (r : FaultRow) : s.Mechanical (t.spindleAction r) :=
  .ite (fun _ => h) fun _ => h.stopRequest _

end

/-- A fault that an idle drive meets finds nothing to end: its row alone acts (R147). -/
theorem act_of_idle {s : State} (hi : s.Idle) (k : FaultKind) (r : FaultRow) (latched : Bool) : s.act k r latched =
    ((if r.reaches = true then s.cancelRestarts else s).spindleAction r).positionerAction k r := by
  have hu : (if r.reaches = true then s.cancelRestarts else s).Idle := by
    split
    · exact hi.cancelRestarts
    · exact hi
  unfold State.act
  dsimp only
  generalize (if r.reaches = true then s.cancelRestarts else s) = u at *
  have hspin := ((State.Mechanical.refl hu).spindleAction r).idle
  have hmove := ((State.Rides.refl (u.spindleAction r)).positionerAction hspin k r).idle hspin
  have heject : ((u.spindleAction r).positionerAction k r).ejectRetracts k = (u.spindleAction r).positionerAction k r := by
    simp [State.ejectRetracts, hmove.eject]
  rw [heject, meetFault_of_idle hmove, ite_self]

theorem act_mechanical {s : State} (hi : s.Idle) (k : FaultKind) (r : FaultRow) (latched : Bool) :
    s.Mechanical (s.act k r latched) := by
  rw [act_of_idle hi]
  have h0 : s.Mechanical (if r.reaches = true then s.cancelRestarts else s) :=
    .ite (fun _ => (State.Mechanical.refl hi).cancelRestarts) fun _ => .refl hi
  have h1 := h0.spindleAction r
  exact h1.trans (((State.Rides.refl _).positionerAction h1.idle k r).mechanical h1.idle)

/-- A row with a spindle action stops a disk that is driven. -/
theorem act_winds {s : State} (hi : s.Idle) (hp : s.spc.state.powered = true) (k : FaultKind) {r : FaultRow}
    (hr : r.spindle ≠ .none) (latched : Bool) : (s.act k r latched).Winding := by
  rw [act_of_idle hi]
  have hu : (if r.reaches = true then s.cancelRestarts else s).Idle := by
    split
    · exact hi.cancelRestarts
    · exact hi
  have hup : (if r.reaches = true then s.cancelRestarts else s).spc = s.spc := by split <;> rfl
  generalize (if r.reaches = true then s.cancelRestarts else s) = u at *
  have hwind : (u.spindleAction r).Winding := by
    have hne : (r.spindle == .none) = false := by simp [hr]
    rw [State.spindleAction, hne, if_neg (by decide), stopRequest_of_powered (by rw [hup]; exact hp)]
    split
    · exact .inl rfl
    · split
      · exact .inr rfl
      · exact .inl rfl
  have hspin := ((State.Mechanical.refl hu).spindleAction r).idle
  unfold State.Winding
  rw [((State.Rides.refl (u.spindleAction r)).positionerAction hspin k r).heads.spc]
  exact hwind

/-! ## Recognition -/

/-- As `Mechanical`, but that the Fault Supervisor's own may change. -/
structure State.Bystands (s t : State) : Prop where
  idle : t.Idle
  hostSide : t.hostSide = s.hostSide
  counters : t.counters = s.counters
  excursion : s.spc.excursionCount = 0 → t.spc.excursionCount = 0

theorem State.Mechanical.bystands {s t : State} (h : s.Mechanical t) : s.Bystands t := { h with }

theorem State.Bystands.trans {s t u : State} (h : s.Bystands t) (g : t.Bystands u) : s.Bystands u :=
  ⟨g.idle, g.hostSide.trans h.hostSide, g.counters.trans h.counters, g.excursion ∘ h.excursion⟩

theorem State.OnlyFsv.bystands {s t : State} (h : s.OnlyFsv t) (hi : s.Idle) : s.Bystands t :=
  ⟨h.onlyHeads.idle hi, h.hostSide, h.counters, fun he => by rw [h.spc]; exact he⟩

theorem putRecord_onlyFsv (k : FaultKind) (sub : Option SubCause) (st : FaultState) (retries : Nat)
    (kept : Option FaultRow) (s : State) : s.OnlyFsv (s.putRecord k sub st retries kept) := by
  unfold State.putRecord
  split
  · rfl
  · rfl

theorem onKind_onlyFsv (k : FaultKind) (f : KindStatus → KindStatus) (s : State) : s.OnlyFsv (s.onKind k f) := rfl

theorem State.Bystands.onAtc {s t : State} (h : s.Bystands t) (f : Attention → Attention) : s.Bystands (t.onAtc f) :=
  ⟨h.idle.onAtc f, h.hostSide, h.counters, h.excursion⟩

theorem latchFault_bystands {s : State} (hi : s.Idle) (k : FaultKind) (sub : Option SubCause) (retries : Nat)
    (r : FaultRow) : s.Bystands (s.latchFault k sub retries r) := by
  have h0 : s.Bystands ((s.putRecord k sub .latched retries (some r)).endRetry k) :=
    ((putRecord_onlyFsv ..).trans (onKind_onlyFsv k _ _)).bystands hi
  exact h0.trans (act_mechanical h0.idle ..).bystands

theorem retryFault_bystands {s : State} (hi : s.Idle) (k : FaultKind) (sub : Option SubCause) (retries : Nat)
    (r : FaultRow) : s.Bystands (s.retryFault k sub retries r) := by
  have h0 : s.Bystands (((s.putRecord k sub .retrying retries (some r)).startDelay k r).request .faultReported) :=
    State.Bystands.onAtc (((putRecord_onlyFsv ..).trans (onKind_onlyFsv k _ _)).bystands hi) _
  exact h0.trans (act_mechanical h0.idle ..).bystands

/-- A recognition in an idle drive leaves the host's side and the counters. -/
theorem recognise_bystands {s : State} (hi : s.Idle) (k : FaultKind) (sub : Option SubCause) :
    s.Bystands (s.recognise k sub) := by
  have hpres : s.Bystands (s.nowPresent k) := (onKind_onlyFsv k _ s).bystands hi
  unfold State.recognise
  extract_lets row u fresh
  have hu : s.Bystands u := hpres
  clear_value u
  have hfresh : s.Bystands fresh := by
    change s.Bystands (match row.mode with
      | .off => u
      | .report => (u.putRecord k sub .reported 0 none).request .faultReported
      | .retry => u.retryFault k sub 0 row
      | .latch => u.latchFault k sub 0 row)
    split
    · exact hu
    · exact hu.trans (((putRecord_onlyFsv ..).bystands hu.idle).onAtc _)
    · exact hu.trans (retryFault_bystands hu.idle ..)
    · exact hu.trans (latchFault_bystands hu.idle ..)
  split
  · exact hfresh
  · split
    · exact hfresh
    · exact hfresh
    · have h0 : s.Bystands ((u.putRecord k sub .latched ‹FaultRecord›.retries
          (some (‹FaultRecord›.kept.getD row))).endRetry k) :=
        hu.trans (((putRecord_onlyFsv ..).trans (onKind_onlyFsv k _ _)).bystands hu.idle)
      exact h0.trans (act_mechanical h0.idle ..).bystands
    · extract_lets kept
      split
      · exact hu.trans (retryFault_bystands hu.idle ..)
      · exact hu.trans (latchFault_bystands hu.idle ..)

/-! ## The reactions -/

theorem enterStarting_mechanical {s : State} (hi : s.Idle) : s.Mechanical s.enterStarting :=
  ⟨hi.enterStarting, rfl, rfl, rfl, fun k => by simp [State.enterStarting, State.clearStarts, KindStatus.clocks], id⟩

/-- Each reaction of an idle drive is mechanical, and a disk that winds down goes on winding down. -/
theorem react_mechanical {s t : State} (hi : s.Idle) (h : react s = some t) :
    s.Mechanical t ∧ (s.Winding → t.Winding) := by
  rw [react_of_idle hi] at h
  obtain ⟨r, hr, hrt⟩ := List.exists_of_findSome?_eq_some h
  have hm := State.Mechanical.refl hi
  simp only [mechanical, List.mem_cons, List.not_mem_nil, or_false] at hr
  rcases hr with rfl | rfl | rfl | rfl | rfl | rfl <;> obtain ⟨hg, rfl⟩ := guarded_eq_some hrt
  · have hride := (State.Rides.refl s).beginUnload hi
    exact ⟨hride.mechanical hi, fun hw => by rw [State.Winding, hride.heads.spc]; exact hw⟩
  · exact ⟨⟨{ hi with }, rfl, rfl, rfl, fun k => by rw [absent_get]; rfl, id⟩, id⟩
  · exact ⟨⟨{ hi with }, rfl, rfl, rfl, fun k => by rw [absent_get]; rfl, id⟩, id⟩
  · exact ⟨by unfold State.applyBrake; exact hm.onSpc id, fun _ => .inr rfl⟩
  · refine ⟨enterStarting_mechanical hi, fun hw => ?_⟩
    simp only [State.atRest, Bool.and_eq_true, beq_iff_eq] at hg
    rw [State.Winding, hg.1.1] at hw
    exact absurd hw (by decide)
  · exact ⟨((State.Rides.refl s).enterLoading).mechanical hi, id⟩

theorem settleN_mechanical : ∀ (n : Nat) {s : State}, s.Idle →
    s.Mechanical (settleN n s) ∧ (s.Winding → (settleN n s).Winding)
  | 0, _, hi => ⟨.refl hi, id⟩
  | n + 1, s, hi => by
    unfold settleN
    split
    · next t ht =>
      obtain ⟨hm, hw⟩ := react_mechanical hi ht
      obtain ⟨hm', hw'⟩ := settleN_mechanical n hm.idle
      exact ⟨hm.trans hm', hw' ∘ hw⟩
    · exact ⟨.refl hi, id⟩

theorem State.Hosted.of_hostSide {s t : State} (h : s.Hosted) (e : t.hostSide = s.hostSide) : t.Hosted := by
  have hd := (keepsHost_of_hostSide e).1
  exact ⟨hd ▸ h.turn, hd ▸ h.inb⟩

/-- The event of an idle drive that the host lets be. -/
theorem event_mechanical {s : State} (hi : s.Idle) (hh : s.Hosted) :
    s.event = s.settle ∧ s.Mechanical s.settle ∧ (s.Winding → s.settle.Winding) := by
  obtain ⟨hm, hw⟩ := settleN_mechanical 200 hi
  exact ⟨commit_of_hosted (hh.of_hostSide hm.hostSide), hm, hw⟩

end Sys2Proof.Machine
end

section
/-! An index in a calm drive: what each state of the disk makes of it, and what the rest of the event adds (R33 to R43). -/

namespace Sys2Proof.Machine

/-! ## The disk alone turns -/

/-- The disk's own registers change, and what is kept for the kinds. -/
structure State.Turns (s t : State) : Prop where
  affairs : t.affairs = s.affairs
  hostSide : t.hostSide = s.hostSide
  counters : t.counters = s.counters
  pos : t.pos = s.pos

theorem State.Turns.refl (s : State) : s.Turns s := ⟨rfl, rfl, rfl, rfl⟩

section

variable {s t : State} (h : s.Turns t)
include h

theorem State.Turns.trans {u : State} (g : t.Turns u) : s.Turns u :=
  ⟨g.affairs.trans h.affairs, g.hostSide.trans h.hostSide, g.counters.trans h.counters, g.pos.trans h.pos⟩

theorem State.Turns.onSpc {f : Spindle → Spindle} (hb : (f t.spc).brakePending = t.spc.brakePending)
    (hw : (f t.spc).startByWork = t.spc.startByWork) : s.Turns (t.onSpc f) :=
  h.trans ⟨t.onSpc_affairs hb hw, rfl, rfl, rfl⟩

theorem State.Turns.absent (k : FaultKind) : s.Turns (t.absent k) := h.trans ⟨t.absent_affairs k, rfl, rfl, rfl⟩

theorem State.Turns.enterAtSpeed : s.Turns t.enterAtSpeed :=
  (h.onSpc (f := fun p => { p with state := .atSpeed, standbyElapsed := 0 }) rfl rfl).trans
    ⟨State.successPoint_affairs _ true, (State.successPoint_hostSide _ true),
      (enterAtSpeed_onlyFsv t).counters, (enterAtSpeed_onlyFsv t).pos⟩

theorem State.Turns.sampleWarning {warning : Bool}
    (hw : warning = true → t.fsv.otwCount + 1 < t.deglitch .overTempWarn) : s.Turns (t.sampleWarning warning) := by
  obtain ⟨hf, -, -, ha⟩ := sampleWarning_below hw
  exact h.trans ⟨ha, hf.hostSide, hf.counters, hf.pos⟩

theorem State.Turns.countWatches (l : List FaultKind) : s.Turns (t.countWatches l) :=
  have hr := countWatches_onlyReports l t
  h.trans ⟨t.countWatches_affairs l, hr.hostSide, hr.counters, hr.pos⟩

theorem State.Turns.restful (hs : s.Restful)
    (hg : t.spc.state = .atSpeed ∨ ¬(s.pos.state = .loading ∨ s.pos.state.flying = true)) : t.Restful where
  toIdle := hs.toIdle.of_affairs h.affairs
  toHosted := hs.toHosted.of_hostSide h.hostSide
  noBrake := by
    have := congrArg (fun x => x.2.2.2.2.2.2) h.affairs
    exact this.trans hs.noBrake
  noCheck := by
    have := congrArg (fun x => x.2.1.2.1) h.affairs
    exact fun hc => hs.noCheck (this.symm.trans hc)
  noRelease := by
    have := congrArg (fun x => x.2.1.2.2) h.affairs
    exact this.trans hs.noRelease
  grounded := by
    rw [h.pos]
    exact hg

end

/-! ## The counts before the disk meets the index -/

/-- The drive at an index whose delays have counted it, before the disk's state meets it. -/
def State.reckoned (timer : Nat) (s : State) : State := (s.indexed timer).countDelays.indexResets

/-- Without a staged table and a seek timer an index takes nothing and counts the retry delays alone. -/
theorem indexArrives_unmoved {s : State} (ht : s.pos.timerOn = false) (ha : s.anyStaged = false) (timer : Nat)
    (warning : Bool) : s.indexArrives timer warning =
      (((s.reckoned timer).indexByState s.spc.indexSeen).sampleWarning warning).countWatches s.watched := by
  have htake : (s.indexed timer).indexTakes = s.indexed timer := by
    have hnone : (s.indexed timer).takeTables = s.indexed timer := takeTables_of_none (.inr ha)
    rw [State.indexTakes, hnone, ite_self]
  have hoff : (s.indexed timer).countDelays.pos.timerOn = false := (countDelays_onlyRestarts _).timerOn.trans ht
  have hcount : (s.indexed timer).boundaryCounts = (s.indexed timer).countDelays := by
    simp [State.boundaryCounts, State.countSeekTimer, hoff]
  rw [indexArrives_eq, htake, hcount]
  rfl

theorem State.Calm.indexed {s : State} (h : s.Calm) (timer : Nat) : (s.indexed timer).Calm := by
  have he := h.elapse (timer - s.spc.revTimer)
  unfold State.indexed State.measureIndex
  exact he.onSpc he.noBrake rfl he.grounded

theorem indexResets_turns (s : State) : s.Turns s.indexResets :=
  ((State.Turns.refl s).onSpc rfl rfl).absent _ |>.absent _

theorem indexResets_spc (s : State) : s.indexResets.spc = { s.spc with noRotationCount := 0, lostIndexCount := 0 } := rfl

theorem reckoned_spc (timer : Nat) (s : State) : (s.reckoned timer).spc =
    { (s.indexed timer).spc with noRotationCount := 0, lostIndexCount := 0 } := by
  rw [State.reckoned, indexResets_spc, (countDelays_onlyRestarts _).spc]

theorem indexed_frame (timer : Nat) (s : State) :
    (s.indexed timer).hostSide = s.hostSide ∧ (s.indexed timer).counters = s.counters ∧
    (s.indexed timer).pos.state = s.pos.state ∧ (s.indexed timer).fsv.records = s.fsv.records := by
  unfold State.indexed State.measureIndex
  simp [State.elapse_heads]

/-- What the counts of an index leave of a calm drive. -/
theorem reckoned_keeps {s : State} (h : s.Calm) (timer : Nat) :
    (s.reckoned timer).Restful ∧ (s.reckoned timer).hostSide = s.hostSide ∧
    (s.reckoned timer).counters = s.counters ∧ (s.reckoned timer).pos.state = s.pos.state ∧
    (s.reckoned timer).fsv.records = s.fsv.records := by
  have hd := countDelays_onlyRestarts (s.indexed timer)
  have hr := indexResets_turns (s.indexed timer).countDelays
  have hrest := (h.indexed timer).restful.of_onlyRestarts hd
  have hrecs : (s.indexed timer).countDelays.indexResets.fsv.records = (s.indexed timer).countDelays.fsv.records := by
    generalize (s.indexed timer).countDelays = u
    rfl
  unfold State.reckoned
  rw [hr.hostSide, hr.counters, hr.pos, hrecs, hd.hostSide, hd.counters, hd.posState, hd.records]
  exact ⟨hr.restful hrest (by rw [indexResets_spc]; exact hrest.grounded), indexed_frame timer s⟩

/-! ## Whatever the disk makes of the index -/

/-- The drive stays idle, and the host's side and the counters stand. -/
structure State.Apart (s t : State) : Prop where
  idle : t.Idle
  hostSide : t.hostSide = s.hostSide
  counters : t.counters = s.counters

theorem State.Apart.trans {s t u : State} (h : s.Apart t) (g : t.Apart u) : s.Apart u :=
  ⟨g.idle, g.hostSide.trans h.hostSide, g.counters.trans h.counters⟩

theorem State.Turns.apart {s t : State} (h : s.Turns t) (hi : s.Idle) : s.Apart t :=
  ⟨hi.of_affairs h.affairs, h.hostSide, h.counters⟩

theorem State.Mechanical.apart {s t : State} (h : s.Mechanical t) : s.Apart t := { h with }

theorem State.Bystands.apart {s t : State} (h : s.Bystands t) : s.Apart t := { h with }

/-- The disk at an index in PURGING or AT_SPEED, before the range window (R43). -/
def State.rearmed (s : State) : State := s.onSpc fun p => { p with lostIndexWatch := freshLostWatch }

theorem rearmed_turns (s : State) : s.Turns s.rearmed := (State.Turns.refl s).onSpc rfl rfl

/-- What the range window makes of an index (R42, R43). -/
theorem rangeIndex_eq (measured : Bool) (s : State) : s.rangeIndex measured =
    if measured = true then
      if inRange s.spc.lastPeriod = true then
        (s.rearmed.onSpc fun p => { p with excursionCount := 0 }).absent .speedOutOfRange
      else if s.deglitch .speedOutOfRange ≤ s.spc.excursionCount + 1 then
        (s.rearmed.onSpc fun p => { p with excursionCount := 0 }).recognise .speedOutOfRange none
      else s.rearmed.onSpc fun p => { p with excursionCount := s.spc.excursionCount + 1 }
    else s.rearmed := rfl

/-- Below the deglitch count the range window recognizes nothing. -/
theorem rangeIndex_turns {measured : Bool} {s : State} (hd : measured = true → inRange s.spc.lastPeriod = false →
    s.spc.excursionCount + 1 < s.deglitch .speedOutOfRange) : s.Turns (s.rangeIndex measured) := by
  have h := rearmed_turns s
  rw [rangeIndex_eq]
  split
  · next hm =>
    split
    · exact State.Turns.absent (h.onSpc rfl rfl) _
    · next hr =>
      rw [if_neg (Nat.not_le_of_lt (hd hm (by simpa using hr)))]
      exact h.onSpc rfl rfl
  · exact h

theorem rangeIndex_apart {s : State} (hi : s.Idle) (measured : Bool) : s.Apart (s.rangeIndex measured) := by
  by_cases hd : measured = true → inRange s.spc.lastPeriod = false →
      s.spc.excursionCount + 1 < s.deglitch .speedOutOfRange
  · exact (rangeIndex_turns hd).apart hi
  · simp only [Classical.not_imp, Nat.not_lt] at hd
    obtain ⟨hm, hr, hd⟩ := hd
    have h0 : s.Apart (s.rearmed.onSpc fun p => { p with excursionCount := 0 }) :=
      State.Turns.apart ((rearmed_turns s).onSpc rfl rfl) hi
    rw [rangeIndex_eq, if_pos hm, hr, if_neg (by decide), if_pos hd]
    exact h0.trans (recognise_bystands h0.idle ..).apart

theorem purgeIndex_turns (s : State) : s.Turns s.purgeIndex := by
  have h0 : s.Turns (s.onSpc fun p => { p with purgeCount := p.purgeCount + 1 }) := (State.Turns.refl s).onSpc rfl rfl
  unfold State.purgeIndex
  split
  · extract_lets u
    split
    · exact h0.enterAtSpeed
    · exact h0
  · exact .refl s

/-- The disk in PURGING, before a purge of no revolutions ends at once (R38 to R40). -/
def State.purged (s : State) : State := (s.onSpc fun p => { p with
  state := .purging, driveAtLimit := false, lockCount := 0, purgeCount := 0, spinUpTimer := none,
  spinUpTimeoutCount := 0, lostIndexWatch := freshLostWatch }).absent .spinUpTimeout

theorem enterPurging_eq (s : State) : s.enterPurging =
    if s.tbs.params.purgeRevs = 0 then s.purged.enterAtSpeed else s.purged := rfl

theorem lockIndex_turns (measured : Bool) (s : State) : s.Turns (s.lockIndex measured) := by
  have h := State.Turns.refl s
  have hp : s.Turns s.purged := State.Turns.absent (h.onSpc rfl rfl) _
  unfold State.lockIndex
  rw [enterPurging_eq]
  split
  · split
    · split
      · split
        · exact hp.enterAtSpeed
        · exact hp
      · exact h.onSpc rfl rfl
    · exact h.onSpc rfl rfl
  · exact h

theorem armStopWindow_turns (s : State) : s.Turns s.armStopWindow := by
  unfold State.armStopWindow
  exact (State.Turns.refl s).onSpc rfl rfl

theorem brakeIndex_turns (measured : Bool) (s : State) : s.Turns (s.brakeIndex measured) := by
  unfold State.brakeIndex
  split
  · exact (State.Turns.refl s).onSpc rfl rfl
  · exact .refl s

/-- Where the speed is not supervised, or the range window recognizes nothing, the disk alone turns. -/
theorem indexByState_turns {measured : Bool} {s : State} (hd : s.spc.state.supervised = true → measured = true →
    inRange s.spc.lastPeriod = false → s.spc.excursionCount + 1 < s.deglitch .speedOutOfRange) :
    s.Turns (s.indexByState measured) := by
  have h := State.Turns.refl s
  unfold State.indexByState
  split
  · exact State.Turns.trans (h.onSpc rfl rfl) (armStopWindow_turns _)
  · exact State.Turns.absent (h.onSpc rfl rfl) _
  · exact lockIndex_turns measured s
  · next hs => exact (rangeIndex_turns (hd (by rw [hs]; rfl))).trans (purgeIndex_turns _)
  · next hs => exact rangeIndex_turns (hd (by rw [hs]; rfl))
  · exact armStopWindow_turns s
  · exact (brakeIndex_turns measured s).trans (armStopWindow_turns _)

theorem indexByState_apart {s : State} (hi : s.Idle) (measured : Bool) : s.Apart (s.indexByState measured) := by
  by_cases hs : s.spc.state.supervised = true
  · have hr := rangeIndex_apart hi measured
    unfold State.indexByState
    rcases supervised_iff.mp hs with h | h <;> simp only [h]
    · exact hr.trans ((purgeIndex_turns _).apart hr.idle)
    · exact hr
  · exact (indexByState_turns fun h => absurd h hs).apart hi

/-! ## The whole event -/

/-- The host's side and the counters stand at every index of a calm drive without a seek timer. -/
theorem index_frame {s : State} (h : s.Calm) (ht : s.pos.timerOn = false) (ha : s.anyStaged = false) (timer : Nat) :
    (s.indexArrives timer false).event.hostSide = s.hostSide ∧
    (s.indexArrives timer false).event.counters = s.counters := by
  obtain ⟨hrest, hhost, hcount, -, -⟩ := reckoned_keeps h timer
  have h0 : s.Apart (s.reckoned timer) := ⟨hrest.toIdle, hhost, hcount⟩
  have h1 := h0.trans (indexByState_apart hrest.toIdle s.spc.indexSeen)
  rw [indexArrives_unmoved ht ha]
  generalize (s.reckoned timer).indexByState s.spc.indexSeen = u at *
  have h2 := h1.trans (((State.Turns.refl u).sampleWarning (warning := false) nofun |>.countWatches s.watched).apart h1.idle)
  generalize (u.sampleWarning false).countWatches s.watched = v at *
  obtain ⟨he, hm, -⟩ := event_mechanical h2.idle (h.toHosted.of_hostSide h2.hostSide)
  rw [he]
  have h3 := h2.trans hm.apart
  exact ⟨h3.hostSide, h3.counters⟩

/-- A restart that falls due leaves the registers of a disk that is not STOPPED. -/
theorem State.Restful.event_spc {s : State} (h : s.Restful) (hs : s.spc.state ≠ .stopped) : s.event.spc = s.spc := by
  have hrest : s.atRest = false := by simp [State.atRest, hs]
  rw [h.event, hrest, if_neg (by simp)]
  split <;> rfl

/-- The disk's registers after an index that recognizes nothing are those that its state makes of it. -/
theorem index_spc {s : State} (h : s.Calm) (ht : s.pos.timerOn = false) (ha : s.anyStaged = false) {timer : Nat}
    {u : State} (hu : (s.reckoned timer).indexByState s.spc.indexSeen = u) (hturn : (s.reckoned timer).Turns u)
    (hg : s.spc.state = .atSpeed → u.spc.state = .atSpeed) : (s.indexArrives timer false).event.spc = u.spc := by
  obtain ⟨hrest, -, -, hpos, -⟩ := reckoned_keeps h timer
  have hne : u.spc.state ≠ .stopped := hu ▸ (indexByState_clock _ _).2
  have hland : u.spc.state = .atSpeed ∨ ¬((s.reckoned timer).pos.state = .loading ∨
      (s.reckoned timer).pos.state.flying = true) := by
    rw [hpos]
    exact h.grounded.imp_left hg
  obtain ⟨hf, -, -, -⟩ := sampleWarning_below (s := u) (warning := false) nofun
  have hspc : ((u.sampleWarning false).countWatches s.watched).spc = u.spc :=
    (countWatches_onlyReports _ _).spc.trans hf.spc
  have hall := (hturn.sampleWarning (warning := false) nofun).countWatches s.watched
  rw [indexArrives_unmoved ht ha, hu]
  generalize (u.sampleWarning false).countWatches s.watched = v at *
  rw [(hall.restful hrest (by rw [hspc]; exact hland)).event_spc (by rw [hspc]; exact hne), hspc]

/-! ## What each state of the disk makes of the index -/

/-- The period that a measured index gives (R33). -/
def State.period (timer : Nat) (s : State) : Nat := min 1048575 (max timer s.spc.revTimer)

/-- The registers of the disk that its state's rule reads, as the counts of the index leave them. -/
theorem reckoned_registers {s : State} (h : s.Calm) (timer : Nat) :
    (s.reckoned timer).spc.state = s.spc.state ∧ (s.reckoned timer).spc.lockCount = s.spc.lockCount ∧
    (s.reckoned timer).spc.purgeCount = s.spc.purgeCount ∧
    (s.reckoned timer).spc.excursionCount = s.spc.excursionCount ∧
    (s.reckoned timer).spc.lostIndexCount = 0 ∧ (s.reckoned timer).spc.noRotationCount = 0 ∧
    (s.reckoned timer).spc.brakeMode = s.spc.brakeMode ∧ (s.reckoned timer).tbs = s.tbs ∧
    (s.spc.indexSeen = true → (s.reckoned timer).spc.lastPeriod = s.period timer) := by
  rw [tbs_of_hostSide (reckoned_keeps h timer).2.1]
  rw [reckoned_spc, indexed_spc]
  exact ⟨rfl, rfl, rfl, rfl, rfl, rfl, rfl, rfl, fun hm => by rw [if_pos hm]; rfl⟩

theorem enterAtSpeed_spc (s : State) :
    s.enterAtSpeed.spc = { s.spc with state := .atSpeed, standbyElapsed := 0 } := (enterAtSpeed_onlyFsv s).spc

theorem enterPurging_spc (s : State) :
    s.enterPurging.spc.state = (if s.tbs.params.purgeRevs = 0 then .atSpeed else .purging) ∧
    s.enterPurging.spc.lockCount = 0 ∧ s.enterPurging.spc.purgeCount = 0 ∧ s.enterPurging.spc.spinUpTimer = none ∧
    s.enterPurging.spc.driveAtLimit = false := by
  rw [enterPurging_eq]
  split
  · rw [enterAtSpeed_spc]
    exact ⟨rfl, rfl, rfl, rfl, rfl⟩
  · exact ⟨rfl, rfl, rfl, rfl, rfl⟩

theorem armStopWindow_spc (s : State) :
    s.armStopWindow.spc = { s.spc with stopWindow := some ⟨0, s.tbs.params.stopWindow * 250000⟩ } := rfl

/-- The range window on a measured revolution in range, or out of it below the deglitch count. -/
theorem rangeIndex_spc {s : State} (hd : inRange s.spc.lastPeriod = false →
      s.spc.excursionCount + 1 < s.deglitch .speedOutOfRange) :
    (s.rangeIndex true).spc = { s.spc with
      lostIndexWatch := some ⟨0, 33334⟩
      excursionCount := if inRange s.spc.lastPeriod = true then 0 else s.spc.excursionCount + 1 } := by
  rw [rangeIndex_eq, if_pos rfl]
  split
  · rfl
  · next hr =>
    rw [if_neg (Nat.not_le_of_lt (hd (by simpa using hr)))]
    rfl

theorem purgeIndex_spc {s : State} (hs : s.spc.state = .purging) :
    s.purgeIndex.spc.state = (if s.tbs.params.purgeRevs ≤ s.spc.purgeCount + 1 then .atSpeed else .purging) ∧
    s.purgeIndex.spc.purgeCount = s.spc.purgeCount + 1 ∧
    s.purgeIndex.spc.excursionCount = s.spc.excursionCount ∧
    s.purgeIndex.spc.lostIndexWatch = s.spc.lostIndexWatch ∧
    s.purgeIndex.spc.lostIndexCount = s.spc.lostIndexCount := by
  have hp : (s.spc.state == .purging) = true := by simp [hs]
  unfold State.purgeIndex
  rw [if_pos hp]
  dsimp only
  split
  · rw [enterAtSpeed_spc]
    exact ⟨rfl, rfl, rfl, rfl, rfl⟩
  · exact ⟨hs, rfl, rfl, rfl, rfl⟩

theorem purgeIndex_of_atSpeed {s : State} (hs : s.spc.state = .atSpeed) : s.purgeIndex = s := by
  simp [State.purgeIndex, hs]

/-- A supervised disk meets the range window, and in PURGING its purge count (R40, R42). -/
theorem indexByState_supervised {s : State} (hs : s.spc.state.supervised = true) (measured : Bool) :
    s.indexByState measured =
      if s.spc.state = .purging then (s.rangeIndex measured).purgeIndex else s.rangeIndex measured := by
  unfold State.indexByState
  rcases supervised_iff.mp hs with h | h <;> simp [h]

section

variable {s : State} (h : s.Calm) (ht : s.pos.timerOn = false) (ha : s.anyStaged = false) (timer : Nat)
include h ht ha

/-- Where the speed is not supervised, the disk's registers are those that its state's rule leaves. -/
theorem index_unsupervised (hn : s.spc.state.supervised = false) :
    (s.indexArrives timer false).event.spc = ((s.reckoned timer).indexByState s.spc.indexSeen).spc := by
  obtain ⟨hstate, -⟩ := reckoned_registers h timer
  refine index_spc h ht ha rfl (indexByState_turns fun hs => ?_) fun hs => ?_
  · rw [hstate, hn] at hs
    cases hs
  · rw [hs] at hn
    cases hn

/-- A measured index in ACCELERATING meets the lock window (R38). -/
theorem index_accelerating (hs : s.spc.state = .accelerating) (hm : s.spc.indexSeen = true) :
    (s.indexArrives timer false).event.spc =
      (if inLock (s.period timer) = true then
        if 8 ≤ s.spc.lockCount + 1 then (s.reckoned timer).enterPurging
        else (s.reckoned timer).onSpc fun p => { p with lockCount := p.lockCount + 1 }
      else (s.reckoned timer).onSpc fun p => { p with lockCount := 0 }).spc := by
  obtain ⟨hstate, hlock, -, -, -, -, -, -, hperiod⟩ := reckoned_registers h timer
  rw [index_unsupervised h ht ha timer (by rw [hs]; rfl), hm, State.indexByState, hstate, hs]
  simp only [State.lockIndex, if_true, hperiod hm, hlock]
  rfl

/-- A measured index in PURGING or AT_SPEED meets the range window, which recognizes nothing (R42, R43). -/
theorem index_supervised (hs : s.spc.state.supervised = true) (hm : s.spc.indexSeen = true)
    (hd : inRange (s.period timer) = false →
      s.spc.excursionCount + 1 < s.tbs.actions.speedOutOfRange.deglitch) :
    (s.indexArrives timer false).event.spc =
      (if s.spc.state = .purging then ((s.reckoned timer).rangeIndex true).purgeIndex
        else (s.reckoned timer).rangeIndex true).spc ∧
    ((s.reckoned timer).rangeIndex true).spc = { (s.reckoned timer).spc with
      lostIndexWatch := some ⟨0, 33334⟩
      excursionCount := if inRange (s.period timer) = true then 0
        else s.spc.excursionCount + 1 } := by
  obtain ⟨hstate, -, -, hexc, -, -, -, htbs, hperiod⟩ := reckoned_registers h timer
  have hd' : inRange (s.reckoned timer).spc.lastPeriod = false →
      (s.reckoned timer).spc.excursionCount + 1 < (s.reckoned timer).deglitch .speedOutOfRange := by
    rw [hperiod hm, hexc, State.deglitch, State.activeRow, htbs]
    exact hd
  have hr := rangeIndex_spc hd'
  rw [hperiod hm, hexc] at hr
  have hby := indexByState_supervised (s := s.reckoned timer) (by rw [hstate]; exact hs) s.spc.indexSeen
  rw [hstate, hm] at hby
  refine ⟨?_, hr⟩
  rw [index_spc h ht ha (by rw [hm]) (indexByState_turns fun _ _ => hd') fun hat => ?_, hby]
  rw [hby, hat, if_neg (by decide), hr]
  exact hstate.trans hat

/-! ### One state after another -/

omit h ht ha in
theorem inLock_iff {p : Nat} : inLock p = true ↔ 16584 ≤ p ∧ p ≤ 16750 := by
  unfold inLock
  rw [Bool.and_eq_true, decide_eq_true_iff, decide_eq_true_iff]
  exact Iff.rfl

theorem index_stopped (hs : s.spc.state = .stopped) :
    (s.indexArrives timer false).event.spc.state = .coasting ∧
    (s.indexArrives timer false).event.spc.demand = .coast ∧
    (s.indexArrives timer false).event.spc.stopWindow = some ⟨0, s.tbs.params.stopWindow * 250000⟩ := by
  obtain ⟨hstate, -, -, -, -, -, -, htbs, -⟩ := reckoned_registers h timer
  rw [index_unsupervised h ht ha timer (by rw [hs]; rfl), State.indexByState, hstate, hs, ← htbs]
  exact ⟨rfl, rfl, rfl⟩

theorem index_coasting (hs : s.spc.state = .coasting) :
    (s.indexArrives timer false).event.spc.state = .coasting ∧
    (s.indexArrives timer false).event.spc.stopWindow = some ⟨0, s.tbs.params.stopWindow * 250000⟩ := by
  obtain ⟨hstate, -, -, -, -, -, -, htbs, -⟩ := reckoned_registers h timer
  rw [index_unsupervised h ht ha timer (by rw [hs]; rfl), State.indexByState, hstate, hs, ← htbs]
  exact ⟨hstate.trans hs, rfl⟩

theorem index_braking (hs : s.spc.state = .braking) :
    (s.indexArrives timer false).event.spc.state = .braking ∧
    (s.indexArrives timer false).event.spc.stopWindow = some ⟨0, s.tbs.params.stopWindow * 250000⟩ ∧
    (s.indexArrives timer false).event.spc.brakeMode =
      if s.spc.indexSeen = true ∧ 66668 < s.period timer then .dynamic else s.spc.brakeMode := by
  obtain ⟨hstate, -, -, -, -, -, hbrake, htbs, hperiod⟩ := reckoned_registers h timer
  rw [index_unsupervised h ht ha timer (by rw [hs]; rfl), State.indexByState, hstate, hs, ← htbs]
  simp only [armStopWindow_spc, State.brakeIndex]
  cases hm : s.spc.indexSeen with
  | false => simpa [hbrake] using hstate.trans hs
  | true =>
    simp only [hperiod hm, Config.reverseEnd, Bool.true_and, decide_eq_true_eq, true_and]
    split
    · exact ⟨hstate.trans hs, rfl, rfl⟩
    · exact ⟨hstate.trans hs, rfl, hbrake⟩

theorem index_starting (hs : s.spc.state = .starting) :
    (s.indexArrives timer false).event.spc.state = .accelerating ∧
    (s.indexArrives timer false).event.spc.firstIndexWatch = none ∧
    (s.indexArrives timer false).event.spc.noRotationCount = 0 := by
  obtain ⟨hstate, -, -, -, -, hnorot, -, -, -⟩ := reckoned_registers h timer
  rw [index_unsupervised h ht ha timer (by rw [hs]; rfl), State.indexByState, hstate, hs]
  exact ⟨rfl, rfl, hnorot⟩

theorem index_locked (hs : s.spc.state = .accelerating) (hm : s.spc.indexSeen = true) (h1 : 16584 ≤ s.period timer)
    (h2 : s.period timer ≤ 16750) (h8 : 8 ≤ s.spc.lockCount + 1) :
    (s.indexArrives timer false).event.spc.state = (if s.tbs.params.purgeRevs = 0 then .atSpeed else .purging) ∧
    (s.indexArrives timer false).event.spc.lockCount = 0 ∧ (s.indexArrives timer false).event.spc.purgeCount = 0 ∧
    (s.indexArrives timer false).event.spc.spinUpTimer = none ∧
    (s.indexArrives timer false).event.spc.driveAtLimit = false := by
  obtain ⟨-, -, -, -, -, -, -, htbs, -⟩ := reckoned_registers h timer
  have hin : inLock (s.period timer) = true := inLock_iff.mpr ⟨h1, h2⟩
  rw [index_accelerating h ht ha timer hs hm, if_pos hin, if_pos h8, ← htbs]
  exact enterPurging_spc _

theorem index_locking (hs : s.spc.state = .accelerating) (hm : s.spc.indexSeen = true) (h1 : 16584 ≤ s.period timer)
    (h2 : s.period timer ≤ 16750) (h8 : s.spc.lockCount + 1 < 8) :
    (s.indexArrives timer false).event.spc.state = .accelerating ∧
    (s.indexArrives timer false).event.spc.lockCount = s.spc.lockCount + 1 := by
  obtain ⟨hstate, hlock, -⟩ := reckoned_registers h timer
  have hin : inLock (s.period timer) = true := inLock_iff.mpr ⟨h1, h2⟩
  rw [index_accelerating h ht ha timer hs hm, if_pos hin, if_neg (Nat.not_le_of_lt h8), ← hlock]
  exact ⟨hstate.trans hs, rfl⟩

theorem index_unlocked (hs : s.spc.state = .accelerating) (hm : s.spc.indexSeen = true)
    (hp : s.period timer < 16584 ∨ 16750 < s.period timer) :
    (s.indexArrives timer false).event.spc.state = .accelerating ∧
    (s.indexArrives timer false).event.spc.lockCount = 0 := by
  obtain ⟨hstate, -⟩ := reckoned_registers h timer
  have hin : ¬ inLock (s.period timer) = true := by
    rw [inLock_iff]
    omega
  rw [index_accelerating h ht ha timer hs hm, if_neg hin]
  exact ⟨hstate.trans hs, rfl⟩

/-- The excursion count and the lost-index watch after an index that recognizes nothing. -/
theorem index_excursion (hs : s.spc.state.supervised = true) (hm : s.spc.indexSeen = true)
    (hd : inRange (s.period timer) = false → s.spc.excursionCount + 1 < s.tbs.actions.speedOutOfRange.deglitch) :
    (s.indexArrives timer false).event.spc.excursionCount =
      (if inRange (s.period timer) = true then 0 else s.spc.excursionCount + 1) ∧
    (s.indexArrives timer false).event.spc.lostIndexWatch = some ⟨0, 33334⟩ ∧
    (s.indexArrives timer false).event.spc.lostIndexCount = 0 := by
  obtain ⟨hstate, -, -, -, hlost, -⟩ := reckoned_registers h timer
  obtain ⟨hspc, hrange⟩ := index_supervised h ht ha timer hs hm hd
  rw [hspc]
  split
  · next hp =>
    obtain ⟨-, -, hx, hw, hl⟩ := purgeIndex_spc (s := (s.reckoned timer).rangeIndex true)
      (by rw [hrange]; exact hstate.trans hp)
    rw [hx, hw, hl, hrange]
    exact ⟨rfl, rfl, hlost⟩
  · rw [hrange]
    exact ⟨rfl, rfl, hlost⟩

theorem index_purging (hs : s.spc.state = .purging) (hm : s.spc.indexSeen = true)
    (hin : inRange (s.period timer) = true) :
    (s.indexArrives timer false).event.spc.state =
      (if s.tbs.params.purgeRevs ≤ s.spc.purgeCount + 1 then .atSpeed else .purging) ∧
    (s.indexArrives timer false).event.spc.purgeCount = s.spc.purgeCount + 1 := by
  obtain ⟨hstate, -, hpurge, -, -, -, -, htbs, -⟩ := reckoned_registers h timer
  obtain ⟨hspc, hrange⟩ := index_supervised h ht ha timer (by rw [hs]; rfl) hm (by rw [hin]; nofun)
  have htbs' : ((s.reckoned timer).rangeIndex true).tbs = s.tbs := by
    rw [← htbs]
    refine tbs_of_hostSide (rangeIndex_turns fun _ hr => ?_).hostSide
    rw [(reckoned_registers h timer).2.2.2.2.2.2.2.2 hm, hin] at hr
    cases hr
  obtain ⟨hst, hcount, -⟩ := purgeIndex_spc (s := (s.reckoned timer).rangeIndex true)
    (by rw [hrange]; exact hstate.trans hs)
  rw [hspc, if_pos hs, hst, hcount, hrange, htbs', ← hpurge]
  exact ⟨rfl, rfl⟩

theorem index_atSpeed (hs : s.spc.state = .atSpeed) (hm : s.spc.indexSeen = true)
    (hin : inRange (s.period timer) = true) : (s.indexArrives timer false).event.spc.state = .atSpeed := by
  obtain ⟨hstate, -⟩ := reckoned_registers h timer
  obtain ⟨hspc, hrange⟩ := index_supervised h ht ha timer (by rw [hs]; rfl) hm (by rw [hin]; nofun)
  rw [hspc, hs, if_neg (by decide), hrange]
  exact hstate.trans hs

end

end Sys2Proof.Machine
end

section
/-! What an index counts beside the speed: seek timers, retry delays and recovery watches (R89, R150 to R152), and an
excursion of the speed that is recognized under RETRY (R145, R153). -/

namespace Sys2Proof.Machine

/-! ## One kind among all -/

/-- An operation for each kind of a list, seen from one of them: the others go before it or after it. -/
theorem foldl_pivot {f : State → FaultKind → State} {R : State → State → Prop} (refl : ∀ s, R s s)
    (trans : ∀ s t u, R s t → R t u → R s u) {k : FaultKind} (hf : ∀ s j, j ≠ k → R s (f s j)) {l : List FaultKind}
    (hn : l.Nodup) (hk : k ∈ l) (s : State) : ∃ u, R s u ∧ R (f u k) (l.foldl f s) := by
  have hothers : ∀ (m : List FaultKind) (s : State), k ∉ m → R s (m.foldl f s) := by
    intro m
    induction m with
    | nil => exact fun s _ => refl s
    | cons j m ih =>
      intro s hm
      rw [List.mem_cons, not_or] at hm
      exact trans _ _ _ (hf s j fun e => hm.1 e.symm) (ih _ hm.2)
  obtain ⟨a, b, rfl⟩ := List.append_of_mem hk
  have hab := List.nodup_append.mp hn
  have hka : k ∉ a := fun h => hab.2.2 k h k List.mem_cons_self rfl
  have hkb : k ∉ b := (List.nodup_cons.mp hab.2.1).1
  rw [List.foldl_append, List.foldl_cons]
  exact ⟨_, hothers a s hka, hothers b _ hkb⟩

/-- What is kept for a kind and its record stand, and no request is taken back. -/
structure State.Spares (k : FaultKind) (s t : State) : Prop where
  kind : t.fsv.kinds.get k = s.fsv.kinds.get k
  record : t.recordOf k = s.recordOf k
  requests : ∀ x ∈ s.atc.requests, x ∈ t.atc.requests

theorem State.Spares.refl {k : FaultKind} (s : State) : s.Spares k s := ⟨rfl, rfl, fun _ => id⟩

theorem State.Spares.trans {k : FaultKind} {s t u : State} (h : s.Spares k t) (g : t.Spares k u) : s.Spares k u :=
  ⟨g.kind.trans h.kind, g.record.trans h.record, fun x => g.requests x ∘ h.requests x⟩

/-! ## Recovery watches -/

theorem recovers_requests (s : State) (k : FaultKind) {x : Source} (h : x ∈ s.atc.requests) :
    x ∈ (s.recovers k).atc.requests := mem_request.mpr (.inl h)

theorem countWatch_spares {j k : FaultKind} (h : j ≠ k) (s : State) : s.Spares k (s.countWatch j) := by
  refine ⟨countWatch_get_ne h.symm s, ?_, ?_⟩ <;> unfold State.countWatch <;> dsimp only <;> split
  · rfl
  · split
    · rfl
    · split
      · have hr := recordOf_onRecord j k (f := fun r => { r with state := .recovered, retries := 0, kept := none })
          (fun _ => rfl) s
        have hmap : (s.recordOf k).map (fun r => if r.kind == j then
            ({ r with state := .recovered, retries := 0, kept := none } : FaultRecord) else r) = s.recordOf k := by
          cases hs : s.recordOf k with
          | none => rfl
          | some r =>
            have hk : r.kind = k := by simpa using List.find?_some hs
            simp [hk, Ne.symm h]
        exact hr.trans hmap
      · rfl
  · exact fun _ => id
  · split
    · exact fun _ => id
    · split
      · exact fun _ => recovers_requests s j
      · exact fun _ => id

/-- A kind whose watch does not run is passed over. -/
theorem countWatches_spares {k : FaultKind} {s : State} (h : (s.fsv.kinds.get k).watch = none) (l : List FaultKind) :
    s.Spares k (s.countWatches l) := by
  unfold State.countWatches
  induction l generalizing s with
  | nil => exact .refl s
  | cons j l ih =>
    have hj : s.Spares k (s.countWatch j) := by
      by_cases e : j = k
      · have : s.countWatch j = s := by
          rw [e]
          unfold State.countWatch
          simp only [h]
        rw [this]
        exact .refl s
      · exact countWatch_spares e s
    exact hj.trans (ih (by rw [hj.kind]; exact h))

/-- The watch of a kind that is absent takes the boundary, or ends (R152). -/
theorem countWatch_of_absent {k : FaultKind} {s : State} {n : Nat} (h : (s.fsv.kinds.get k).watch = some n)
    (hp : (s.fsv.kinds.get k).present = false) :
    s.countWatch k = if 64 ≤ n + 1 then s.recovers k else s.onKind k fun y => { y with watch := some (n + 1) } := by
  unfold State.countWatch
  simp only [h, hp]
  rfl

/-- A kind's record as its recovery leaves it (R152). -/
def FaultRecord.recovered (r : FaultRecord) : FaultRecord := { r with state := .recovered, retries := 0, kept := none }

theorem recordOf_recovers (k : FaultKind) (s : State) :
    (s.recovers k).recordOf k = (s.recordOf k).map FaultRecord.recovered := by
  have hr : (s.recovers k).recordOf k = _ := recordOf_onRecord k k (f := FaultRecord.recovered) (fun _ => rfl) s
  rw [hr]
  cases hs : s.recordOf k with
  | none => rfl
  | some r =>
    have hk : r.kind = k := by simpa using List.find?_some hs
    simp [hk]

theorem recovers_watch (k : FaultKind) (s : State) : ((s.recovers k).fsv.kinds.get k).watch = none := by
  simp [State.recovers, State.request, onKind_get]

/-- An index that finds the watch of an absent kind running. -/
theorem countWatches_counts {k : FaultKind} {s : State} {n : Nat} (h : (s.fsv.kinds.get k).watch = some n)
    (hp : (s.fsv.kinds.get k).present = false) {l : List FaultKind} (hn : l.Nodup) (hk : k ∈ l) :
    (n + 1 < 64 → ((s.countWatches l).fsv.kinds.get k).watch = some (n + 1) ∧
      (s.countWatches l).recordOf k = s.recordOf k) ∧
    (64 ≤ n + 1 → ((s.countWatches l).fsv.kinds.get k).watch = none ∧
      (s.countWatches l).requested .faultReported = true ∧
      (s.countWatches l).recordOf k = (s.recordOf k).map FaultRecord.recovered) := by
  obtain ⟨u, hu, ht⟩ := foldl_pivot (f := State.countWatch) (R := State.Spares k) .refl (fun _ _ _ => .trans)
    (fun s j h => countWatch_spares h s) hn hk s
  change (u.countWatch k).Spares k (s.countWatches l) at ht
  rw [countWatch_of_absent (by rw [hu.kind]; exact h) (by rw [hu.kind]; exact hp)] at ht
  constructor
  · intro hlt
    rw [if_neg (Nat.not_le_of_lt hlt)] at ht
    rw [ht.kind, ht.record, onKind_get]
    exact ⟨rfl, hu.record⟩
  · intro hle
    rw [if_pos hle] at ht
    refine ⟨?_, ?_, ?_⟩
    · rw [ht.kind, recovers_watch]
    · simpa [State.requested] using ht.requests _ (mem_request.mpr (.inr rfl))
    · rw [ht.record, recordOf_recovers, hu.record]

theorem mem_watched {k : FaultKind} {s : State} {n : Nat} (h : (s.fsv.kinds.get k).watch = some n) : k ∈ s.watched :=
  List.mem_filter.mpr ⟨mem_all k, by rw [h]; rfl⟩

theorem watched_nodup (s : State) : s.watched.Nodup := nodup_all.filter _

/-! ## Conditions that become absent -/

/-- The records and the times of the kinds stand, and no condition becomes present. -/
structure State.Calms (s t : State) : Prop where
  records : t.fsv.records = s.fsv.records
  kinds : ∀ k, t.fsv.kinds.get k = { s.fsv.kinds.get k with present := (t.fsv.kinds.get k).present }
  present : ∀ k, (s.fsv.kinds.get k).present = false → (t.fsv.kinds.get k).present = false

theorem State.Calms.refl (s : State) : s.Calms s := ⟨rfl, fun _ => rfl, fun _ => id⟩

theorem State.Calms.recordOf {s t : State} (h : s.Calms t) (k : FaultKind) : t.recordOf k = s.recordOf k := by
  rw [State.recordOf, h.records]
  rfl

section

variable {s t : State} (h : s.Calms t)
include h

theorem State.Calms.trans {u : State} (g : t.Calms u) : s.Calms u :=
  ⟨g.records.trans h.records, fun k => by rw [g.kinds, h.kinds], fun k => g.present k ∘ h.present k⟩

theorem State.Calms.onSpc (f : Spindle → Spindle) : s.Calms (t.onSpc f) := h.trans ⟨rfl, fun _ => rfl, fun _ => id⟩

theorem State.Calms.absent (k : FaultKind) : s.Calms (t.absent k) :=
  h.trans ⟨rfl, fun j => by rw [absent_get], fun j hj => by
    rw [absent_get]
    dsimp only
    rw [hj, ite_self]⟩

theorem State.Calms.sampleWarning : s.Calms (t.sampleWarning false) :=
  (h.trans (⟨rfl, fun _ => rfl, fun _ => id⟩ : t.Calms (t.onFsv fun v => { v with otwCount := 0 }))).absent _

theorem State.Calms.indexResets : s.Calms t.indexResets := ((h.onSpc _).absent _).absent _

theorem State.Calms.armStopWindow : s.Calms t.armStopWindow := by
  unfold State.armStopWindow
  exact h.onSpc _

theorem State.Calms.rangeIndex {measured : Bool} (hin : measured = true → inRange t.spc.lastPeriod = true) :
    s.Calms (t.rangeIndex measured) := by
  have h0 : s.Calms t.rearmed := h.onSpc _
  rw [rangeIndex_eq]
  split
  · next hm =>
    rw [if_pos (hin hm)]
    exact (h0.onSpc _).absent _
  · exact h0

end

/-! ## An index at speed -/

theorem countDelays_of_none {s : State} (h : s.retryWait = false) : s.countDelays = s := by
  have hnone : FaultKind.all.filter (fun k => (s.fsv.kinds.get k).delay.isSome) = [] := by
    rw [List.filter_eq_nil_iff]
    intro k _
    simpa using PerKind.any_eq_false.mp h k
  rw [State.countDelays, hnone]
  rfl

/-- Without a staged table and a retry delay an index takes nothing and counts the seek timer alone. -/
theorem indexArrives_unretried {s : State} (ha : s.anyStaged = false) (hr : s.retryWait = false) (timer : Nat)
    (warning : Bool) : s.indexArrives timer warning =
      (((s.indexed timer).countSeekTimer.indexResets.indexByState s.spc.indexSeen).sampleWarning
        warning).countWatches s.watched := by
  have hnone : (s.indexed timer).takeTables = s.indexed timer := takeTables_of_none (.inr ha)
  have hdelays : (s.indexed timer).countDelays = s.indexed timer := countDelays_of_none hr
  rw [indexArrives_eq, State.indexTakes, hnone, ite_self, State.boundaryCounts, hdelays]

/-- A seek timer that is counted below the deglitch count of its kind changes its own registers (R89). -/
theorem countSeekTimer_below {s : State} (hp : s.pos.state ≠ .unloading)
    (hn : s.pos.timerOn = true → s.pos.timerLength ≤ s.pos.timerCount + 1 →
      s.pos.seekTimeoutCount + 1 < s.deglitch .seekTimeout) :
    s.countSeekTimer = s.onPos fun p =>
      if s.pos.timerOn = true then
        if s.pos.timerLength ≤ s.pos.timerCount + 1 then
          { p with timerCount := 0, seekTimeoutCount := s.pos.seekTimeoutCount + 1 }
        else { p with timerCount := s.pos.timerCount + 1 }
      else p := by
  unfold State.countSeekTimer
  split
  · next ht =>
    split
    · next hl => rw [seekTimerExpires_below hp ht (hn ht hl)]
    · rfl
  · rfl

theorem inRange_iff {p : Nat} : inRange p = true ↔ 16334 ≤ p ∧ p ≤ 17000 := by
  unfold inRange
  rw [Bool.and_eq_true, decide_eq_true_iff, decide_eq_true_iff]
  exact Iff.rfl

theorem period_of_le {s : State} {timer : Nat} (h : max timer s.spc.revTimer ≤ 17000) :
    s.period timer = max timer s.spc.revTimer := Nat.min_eq_right (by omega)

theorem indexed_measures {s : State} (timer : Nat) (hm : s.spc.indexSeen = true) :
    (s.indexed timer).spc.lastPeriod = s.period timer := by
  rw [indexed_spc]
  exact if_pos hm

theorem indexed_calms (timer : Nat) (s : State) : s.Calms (s.indexed timer) := by
  have h : s.Calms (s.elapse (timer - s.spc.revTimer)) := ⟨rfl, fun _ => rfl, fun _ => id⟩
  unfold State.indexed State.measureIndex
  exact h.onSpc _

/-- An index in range, at speed: the seek timer and the recovery watches alone count it. -/
theorem index_in_range {s : State} (h : s.Calm) (hs : s.spc.state = .atSpeed) (hp : s.pos.state ≠ .unloading)
    (ha : s.anyStaged = false) (hr : s.retryWait = false) {timer : Nat} (hlow : 16334 ≤ max timer s.spc.revTimer)
    (hhigh : max timer s.spc.revTimer ≤ 17000)
    (hn : s.pos.timerOn = true → s.pos.timerLength ≤ s.pos.timerCount + 1 →
      s.pos.seekTimeoutCount + 1 < s.deglitch .seekTimeout) :
    ∃ v, (s.indexArrives timer false).event = v.countWatches s.watched ∧ s.Calms v ∧
      v.pos = (s.indexed timer).countSeekTimer.pos := by
  have hix := h.indexed timer
  have hspc : (s.indexed timer).spc.state = .atSpeed := by
    rw [indexed_spc]
    exact hs
  have hcount := countSeekTimer_below (s := s.indexed timer) hp hn
  have hcalms := indexed_calms timer s
  have hperiod := indexed_measures (s := s) timer
  rw [period_of_le hhigh] at hperiod
  rw [indexArrives_unretried ha hr]
  generalize s.indexed timer = m at *
  obtain ⟨c, hc⟩ : ∃ c, c = m.countSeekTimer := ⟨_, rfl⟩
  rw [← hc]
  rw [← hc] at hcount
  have hcspc : c.spc = m.spc := by rw [hcount]; rfl
  have hccalms : s.Calms c := hcalms.trans (by rw [hcount]; exact ⟨rfl, fun _ => rfl, fun _ => id⟩)
  have hcc : c.Calm := by
    rw [hcount]
    refine hix.onPos ?_ (.inl hspc)
    split
    · split <;> rfl
    · rfl
  have hreset := indexResets_turns c
  have hrspc : c.indexResets.spc = { m.spc with noRotationCount := 0, lostIndexCount := 0 } := by
    rw [indexResets_spc, hcspc]
  have hrcalms := hccalms.indexResets
  generalize c.indexResets = x at *
  have hat : x.spc.state = .atSpeed := by rw [hrspc]; exact hspc
  have hin (hm : s.spc.indexSeen = true) : inRange x.spc.lastPeriod = true := by
    rw [hrspc]
    change inRange m.spc.lastPeriod = true
    rw [hperiod hm]
    exact inRange_iff.mpr ⟨hlow, hhigh⟩
  have hby : x.indexByState s.spc.indexSeen = x.rangeIndex s.spc.indexSeen := by simp [State.indexByState, hat]
  have hturn := rangeIndex_turns (s := x) (measured := s.spc.indexSeen) fun hm hr => by
    rw [hin hm] at hr
    cases hr
  have hcal := hrcalms.rangeIndex (measured := s.spc.indexSeen) hin
  have hyspc : (x.rangeIndex s.spc.indexSeen).spc.state = .atSpeed := by
    rw [rangeIndex_eq]
    split
    · next hm => rw [if_pos (hin hm)]; exact hat
    · exact hat
  rw [hby]
  generalize x.rangeIndex s.spc.indexSeen = y at *
  have hwarn := (hreset.trans hturn).sampleWarning (warning := false) nofun
  have hfsv := (sampleWarning_below (s := y) (warning := false) nofun).1
  have hlast := hwarn.countWatches s.watched
  have hlspc : ((y.sampleWarning false).countWatches s.watched).spc.state = .atSpeed := by
    rw [(countWatches_onlyReports _ _).spc, hfsv.spc]
    exact hyspc
  refine ⟨y.sampleWarning false, ?_, hcal.sampleWarning, hwarn.pos⟩
  exact event_of_calm (hcc.of_affairs hlast.affairs (.inl hlspc))

/-- What an index counts for a seek in flight and for a kind that recovers (R89, R152). -/
theorem index_counts {s : State} (timer n : Nat) (k : FaultKind) (h : s.Calm) (hs : s.spc.state = .atSpeed)
    (hp : s.pos.state.flying = true) (ha : s.anyStaged = false) (hr : s.retryWait = false)
    (hlow : 16334 ≤ max timer s.spc.revTimer) (hhigh : max timer s.spc.revTimer ≤ 17000) :
    s.completes (.indexArrival timer false) fun t =>
      (s.pos.timerOn = true → s.pos.timerCount + 1 < s.pos.timerLength →
        t.pos.timerOn = true ∧ t.pos.timerCount = s.pos.timerCount + 1 ∧
        t.pos.state = s.pos.state ∧ t.pos.target = s.pos.target ∧
        t.pos.seekTimeoutCount = s.pos.seekTimeoutCount) ∧
      (s.pos.timerOn = true → s.pos.timerLength ≤ s.pos.timerCount + 1 →
        s.pos.seekTimeoutCount + 1 < s.tbs.actions.seekTimeout.deglitch →
        t.pos.timerOn = true ∧ t.pos.timerCount = 0 ∧ t.pos.timerLength = s.pos.timerLength ∧
        t.pos.state = s.pos.state ∧ t.pos.target = s.pos.target ∧
        t.pos.seekTimeoutCount = s.pos.seekTimeoutCount + 1) ∧
      (s.pos.timerOn = false → (s.fsv.kinds.get k).watch = some n → (s.fsv.kinds.get k).present = false →
        (n + 1 < 64 → (t.fsv.kinds.get k).watch = some (n + 1) ∧ t.recordOf k = s.recordOf k) ∧
        (64 ≤ n + 1 → (t.fsv.kinds.get k).watch = none ∧ t.requested .faultReported = true ∧
          t.recordOf k = (s.recordOf k).map fun r => { r with state := .recovered, retries := 0, kept := none })) := by
  have hland : s.pos.state ≠ .unloading := fun e => by rw [e] at hp; cases hp
  have hexec : exec (.indexArrival timer false) s = .next (s.indexArrives timer false).event := rfl
  have hmeet := index_in_range h hs hland ha hr hlow hhigh
  have hpos := countSeekTimer_below (s := s.indexed timer) hland
  refine ⟨_, hexec, fun ht hlt => ?_, fun ht hle hd => ?_, fun ht hw hpr => ?_⟩
  · have hno := Nat.not_le_of_lt hlt
    obtain ⟨v, hev, -, hv⟩ := hmeet fun _ hl => absurd hl hno
    have hif : (s.indexed timer).pos.timerOn = true := ht
    have hlen : ¬ (s.indexed timer).pos.timerLength ≤ (s.indexed timer).pos.timerCount + 1 := hno
    rw [hev, (countWatches_onlyReports _ _).pos, hv, hpos fun _ hl => absurd hl hno, State.onPos_pos, if_pos hif,
      if_neg hlen]
    exact ⟨ht, rfl, rfl, rfl, rfl⟩
  · obtain ⟨v, hev, -, hv⟩ := hmeet fun _ _ => hd
    have hif : (s.indexed timer).pos.timerOn = true := ht
    have hlen : (s.indexed timer).pos.timerLength ≤ (s.indexed timer).pos.timerCount + 1 := hle
    rw [hev, (countWatches_onlyReports _ _).pos, hv, hpos fun _ _ => hd, State.onPos_pos, if_pos hif, if_pos hlen]
    exact ⟨ht, rfl, rfl, rfl, rfl, rfl⟩
  · obtain ⟨v, hev, hcalms, -⟩ := hmeet fun hon => by rw [ht] at hon; cases hon
    have hvw : (v.fsv.kinds.get k).watch = some n := by rw [hcalms.kinds]; exact hw
    have hcount := countWatches_counts hvw (hcalms.present k hpr) (watched_nodup s) (mem_watched hw)
    rw [hcalms.recordOf k] at hcount
    rw [hev]
    exact hcount

/-! ## A retry delay that counts the index -/

/-- What is kept for a kind after its delay has ended with a restart (R150, R151). -/
theorem delayExpires_restarts {s : State} {k : FaultKind} {r : FaultRecord} {row : FaultRow} (hl : s.anyLatched = false)
    (hc : s.ccu.state = .latched) (hr : s.recordOf k = some r) (hk : r.kept = some row) (hsu : s.atSuccess k = false) :
    s.delayExpires k = (s.endRetry k).restart k row := by
  have hsu' : ((s.endRetry k).restart k row).atSuccess k = false := hsu
  have hr' : (s.endRetry k).recordOf k = some r := hr
  have hl' : (s.endRetry k).anyLatched = false := hl
  simp [State.delayExpires, hl', hc, hr', hk, hsu']

theorem delayExpires_suppressed {s : State} {k : FaultKind} (hno : s.anyLatched = true ∨ s.ccu.state ≠ .latched)
    (hsu : s.atSuccess k = false) : s.delayExpires k = s.endRetry k := by
  have hsu' : (s.endRetry k).atSuccess k = false := hsu
  have hg : ((s.endRetry k).ccu.state == .latched && !(s.endRetry k).anyLatched) = false := by
    rcases hno with h | h
    · have : (s.endRetry k).anyLatched = true := h
      simp [this]
    · simp [h]
  unfold State.delayExpires
  simp only [hg, Bool.false_eq_true, if_false]
  split <;> simp [hsu']

theorem PerKind.any_eq_true {α : Type} {p : α → Bool} {m : PerKind α} {k : FaultKind} (h : p (m.get k) = true) :
    m.any p = true := by
  by_cases ha : m.any p = false
  · rw [PerKind.any_eq_false.mp ha k] at h
    cases h
  · simpa using ha

/-- A delay that takes the index ends, or counts it, and the other kinds change only what is their own. -/
theorem countDelays_pivot {k : FaultKind} {s : State} {x : Timer} (h : (s.fsv.kinds.get k).delay = some x) :
    ∃ u, s.OnlyRestarts u ∧ u.fsv.kinds.get k = s.fsv.kinds.get k ∧
      s.countDelays.fsv.kinds.get k = (u.countDelay k).fsv.kinds.get k := by
  have hmem : k ∈ FaultKind.all.filter fun k => (s.fsv.kinds.get k).delay.isSome :=
    List.mem_filter.mpr ⟨mem_all k, by rw [h]; rfl⟩
  obtain ⟨u, ⟨honly, hk⟩, -, ht⟩ := foldl_pivot (f := State.countDelay)
    (R := fun s t => s.OnlyRestarts t ∧ t.fsv.kinds.get k = s.fsv.kinds.get k) (fun s => ⟨.refl s, rfl⟩)
    (fun _ _ _ h g => ⟨h.1.trans g.1, g.2.trans h.2⟩)
    (fun s j hj => ⟨countDelay_onlyRestarts s j, countDelay_get_ne hj.symm s⟩) (nodup_all.filter _) hmem s
  exact ⟨u, honly, hk, ht⟩

/-- What is kept for a kind whose delay ends at the index, while the disk coasts with the heads on the ramp. -/
theorem countDelays_due {s : State} {k : FaultKind} {x : Timer} {r : FaultRecord} {row : FaultRow}
    (hs : s.spc.state = .coasting) (hp : s.pos.state = .unloaded) (hx : (s.fsv.kinds.get k).delay = some x)
    (hr : s.recordOf k = some r) (hk : r.kept = some row) (hrow : row.spindle ≠ .none)
    (hdue : x.length ≤ x.elapsed + 1) :
    let y := s.countDelays.fsv.kinds.get k
    y.delay = none ∧ y.watch = none ∧
    (s.anyLatched = false → s.ccu.state = .latched →
      y.restarting = true ∧ y.wantsStart = true ∧ y.wantsLoad = true) ∧
    (s.anyLatched = true ∨ s.ccu.state ≠ .latched →
      y.restarting = false ∧ y.wantsStart = false ∧ y.wantsLoad = false) := by
  obtain ⟨u, honly, huk, hy⟩ := countDelays_pivot hx
  have hus : u.spc.state = .coasting := by rw [honly.spc]; exact hs
  have hup : u.pos.state = .unloaded := honly.posState.trans hp
  have hrecs : u.recordOf k = some r := by
    rw [State.recordOf, honly.records]
    exact hr
  have hlatched : u.anyLatched = s.anyLatched := by
    rw [State.anyLatched, honly.records]
    rfl
  have hsu : u.atSuccess k = false := by
    unfold State.atSuccess
    rw [hus, hup]
    split <;> rfl
  have hcount : u.countDelay k = u.delayExpires k := by
    unfold State.countDelay
    rw [huk, hx]
    exact if_pos hdue
  intro y
  have hy' : y = (u.delayExpires k).fsv.kinds.get k := hy.trans (by rw [hcount])
  by_cases hgo : s.anyLatched = false ∧ s.ccu.state = .latched
  · obtain ⟨hl, hc⟩ := hgo
    rw [delayExpires_restarts (hlatched.trans hl) (by rw [honly.ccu]; exact hc) hrecs hk hsu] at hy'
    have hget : ((u.endRetry k).restart k row).fsv.kinds.get k = { (u.endRetry k).fsv.kinds.get k with
        restarting := true, wantsStart := true, wantsLoad := true } := by
      have hst : row.asksStart = true := by simp [FaultRow.asksStart, hrow]
      have hld : row.asksLoad = true := by simp [FaultRow.asksLoad, hrow]
      have hopen : (u.endRetry k).restartOpen row = true := by simp [State.restartOpen, hst, hus]
      unfold State.restart
      simp only [hopen, hst, hld, State.onPos_fsv, onKind_get, State.endRetry_spc, State.endRetry_pos, hus, hup]
      rfl
    rw [hget, State.endRetry, onKind_get] at hy'
    rw [hy']
    refine ⟨rfl, rfl, fun _ _ => ⟨rfl, rfl, rfl⟩, fun hno => ?_⟩
    rcases hno with h | h
    · rw [hl] at h
      cases h
    · exact absurd hc h
  · have hno : s.anyLatched = true ∨ s.ccu.state ≠ .latched := by
      cases hl : s.anyLatched with
      | true => exact .inl rfl
      | false => exact .inr fun hc => hgo ⟨hl, hc⟩
    have hno' : u.anyLatched = true ∨ u.ccu.state ≠ .latched := by
      rw [hlatched, honly.ccu]
      exact hno
    rw [delayExpires_suppressed hno' hsu, State.endRetry, onKind_get] at hy'
    rw [hy']
    exact ⟨rfl, rfl, fun hl hc => absurd ⟨hl, hc⟩ hgo, fun _ => ⟨rfl, rfl, rfl⟩⟩

/-- An index of a coasting disk counts a retry delay, and the restart that falls due at its end (R150, R151). -/
theorem index_delays {s : State} (timer : Nat) {k : FaultKind} {x : Timer} {r : FaultRecord} {row : FaultRow}
    (h : s.Calm) (hs : s.spc.state = .coasting) (hp : s.pos.state = .unloaded) (ht : s.pos.timerOn = false)
    (ha : s.anyStaged = false) (hx : (s.fsv.kinds.get k).delay = some x) (hr : s.recordOf k = some r)
    (hk : r.kept = some row) (hrow : row.spindle ≠ .none) :
    s.completes (.indexArrival timer false) fun t =>
      (x.elapsed + 1 < x.length →
        (t.fsv.kinds.get k).delay = some ⟨x.elapsed + 1, x.length⟩ ∧ t.retryWait = true) ∧
      (x.length ≤ x.elapsed + 1 → (t.fsv.kinds.get k).delay = none ∧ t.spc.state = .coasting ∧
        t.recordOf k = some r ∧
        (s.anyLatched = false → s.ccu.state = .latched →
          (t.fsv.kinds.get k).restarting = true ∧ (t.fsv.kinds.get k).wantsStart = true ∧
          (t.fsv.kinds.get k).wantsLoad = true ∧ t.pendingStart = true ∧ t.pendingLoad = true) ∧
        (s.anyLatched = true ∨ s.ccu.state ≠ .latched →
          (t.fsv.kinds.get k).restarting = false ∧ (t.fsv.kinds.get k).wantsStart = false ∧
          (t.fsv.kinds.get k).wantsLoad = false)) := by
  have hexec : exec (.indexArrival timer false) s = .next (s.indexArrives timer false).event := rfl
  obtain ⟨hstate, -⟩ := reckoned_registers h timer
  obtain ⟨hrest, -⟩ := reckoned_keeps h timer
  have hspc := index_coasting h ht ha timer hs
  have hm : (s.reckoned timer).spc.state = .coasting := hstate.trans hs
  have hcalms := (((State.Calms.refl (s.indexed timer).countDelays).indexResets).armStopWindow).sampleWarning
  have hturns := ((armStopWindow_turns (s.reckoned timer)).sampleWarning (warning := false) nofun)
  have hby : (s.reckoned timer).indexByState s.spc.indexSeen = (s.reckoned timer).armStopWindow := by
    simp [State.indexByState, hm]
  have hvspc := (sampleWarning_below (s := (s.reckoned timer).armStopWindow) (warning := false) nofun).1.spc
  have heq := indexArrives_unmoved ht ha timer false
  rw [hby] at heq
  change (s.indexed timer).countDelays.Calms ((s.reckoned timer).armStopWindow.sampleWarning false) at hcalms
  generalize (s.reckoned timer).armStopWindow.sampleWarning false = v at *
  have hvs : v.spc.state = .coasting := by rw [hvspc]; exact hm
  have hvc : (v.countWatches s.watched).spc.state = .coasting := by
    rw [(countWatches_onlyReports _ _).spc]
    exact hvs
  have hfrest : (v.countWatches s.watched).Restful :=
    (hturns.countWatches s.watched).restful hrest (.inr (by
      rw [(reckoned_keeps h timer).2.2.2.1, hp]
      simp [PosState.flying]))
  have hevent : (s.indexArrives timer false).event = v.countWatches s.watched := by
    rw [heq, hfrest.event]
    simp [State.atRest, State.loadAllowed, hvc]
  have hbefore := indexed_calms timer s
  have hxi : ((s.indexed timer).fsv.kinds.get k).delay = some x := by rw [hbefore.kinds]; exact hx
  refine ⟨_, hexec, fun hlt => ?_, fun hle => ?_⟩
  · have hdelay : ((v.countWatches s.watched).fsv.kinds.get k).delay = some ⟨x.elapsed + 1, x.length⟩ := by
      rw [countWatches_delay, hcalms.kinds k]
      change ((s.indexed timer).countDelays.fsv.kinds.get k).delay = _
      rw [countDelays_delay, hxi]
      exact if_neg (Nat.not_le_of_lt hlt)
    rw [hevent]
    exact ⟨hdelay, PerKind.any_eq_true (k := k) (by rw [hdelay]; rfl)⟩
  · have hlatched : (s.indexed timer).anyLatched = s.anyLatched := by
      rw [State.anyLatched, hbefore.records]
      rfl
    have hccu : (s.indexed timer).ccu.state = s.ccu.state := rfl
    obtain ⟨hdel, hwat, hgo, hno⟩ := countDelays_due (s := s.indexed timer) (by rw [indexed_spc]; exact hs) hp hxi
      ((hbefore.recordOf k).trans hr) hk hrow hle
    rw [hlatched, hccu] at hgo hno
    have hvk := hcalms.kinds k
    have hspare := countWatches_spares (k := k) (s := v) (by rw [hvk]; exact hwat) s.watched
    have hrec : (v.countWatches s.watched).recordOf k = some r := by
      rw [hspare.record, hcalms.recordOf k, State.recordOf, (countDelays_onlyRestarts _).records]
      exact (hbefore.recordOf k).trans hr
    rw [hevent]
    unfold State.pendingStart State.pendingLoad
    rw [hspare.kind, hvk]
    refine ⟨hdel, hvc, hrec, fun hl hc => ?_, hno⟩
    obtain ⟨h1, h2, h3⟩ := hgo hl hc
    refine ⟨h1, h2, h3, ?_, ?_⟩
    · rw [PerKind.any_eq_true (k := k) (by rw [hspare.kind, hvk]; exact h2), Bool.or_true]
    · rw [PerKind.any_eq_true (k := k) (by rw [hspare.kind, hvk]; exact h3), Bool.or_true]

/-! ## An excursion under RETRY -/

/-- What a recognition puts in the place of a kind's record (R145). -/
theorem recordOf_putRecord (k : FaultKind) (sub : Option SubCause) (st : FaultState) (n : Nat) (kept : Option FaultRow)
    (s : State) : (s.putRecord k sub st n kept).recordOf k = some (match s.recordOf k with
      | none => s.newRecord k sub st kept
      | some r => s.updatedRecord sub st n kept r) := by
  unfold State.putRecord
  cases hr : s.recordOf k with
  | none =>
    have hn : s.fsv.records.find? (fun r => r.kind == k) = none := hr
    simp [State.recordOf, List.find?_append, hn, State.newRecord]
  | some r =>
    have hk : r.kind = k := by simpa using List.find?_some hr
    dsimp only
    rw [recordOf_onRecord k k (f := s.updatedRecord sub st n kept) (fun _ => rfl), hr]
    simp [hk]

/-- A recognition under RETRY, or past its budget, made in an idle drive whose disk is driven: the record, the delay, the
request and the stop of the disk, as the event leaves them (R145, R147, R150, R153). -/
structure State.Retried (k : FaultKind) (delay : Option Timer) (rec : FaultRecord) (s : State) : Prop where
  idle : s.Idle
  record : s.recordOf k = some rec
  clocks : (s.fsv.kinds.get k).clocks = (delay, none)
  winding : s.Winding

theorem retryFault_retried {s : State} (hi : s.Idle) (hp : s.spc.state.powered = true) (k : FaultKind)
    (sub : Option SubCause) (n : Nat) {r : FaultRow} (hr : r.spindle ≠ .none) {rec : FaultRecord}
    (hrec : (s.putRecord k sub .retrying n (some r)).recordOf k = some rec) :
    (s.retryFault k sub n r).Retried k (some ⟨0, r.delay⟩) rec ∧
    .faultReported ∈ (s.retryFault k sub n r).atc.requests := by
  obtain ⟨u, hu⟩ : ∃ u, u = ((s.putRecord k sub .retrying n (some r)).startDelay k r).request .faultReported := ⟨_, rfl⟩
  have hui : u.Idle := by
    rw [hu]
    exact State.Idle.onAtc (((putRecord_onlyFsv ..).trans (onKind_onlyFsv k _ _)).onlyHeads.idle hi) _
  have hurec : u.recordOf k = some rec := by rw [hu]; exact hrec
  have huk : (u.fsv.kinds.get k).clocks = (some ⟨0, r.delay⟩, none) := by
    rw [hu]
    change (((s.putRecord k sub .retrying n (some r)).startDelay k r).fsv.kinds.get k).clocks = _
    rw [State.startDelay, onKind_get]
    rfl
  have hup : u.spc.state.powered = true := by
    have : u.spc = s.spc := by
      rw [hu]
      exact (putRecord_onlyFsv k sub .retrying n (some r) s).spc
    rw [this]
    exact hp
  have hreq : .faultReported ∈ u.atc.requests := by rw [hu]; exact mem_request.mpr (.inr rfl)
  have hm := act_mechanical hui k r false
  rw [State.retryFault, ← hu]
  exact ⟨⟨hm.idle, (hm.recordOf k).trans hurec, (hm.clocks k).trans huk, act_winds hui hup k hr false⟩,
    ((Remains.refl (b := false) u).act k r false).requests _ hreq⟩

theorem latchFault_retried {s : State} (hi : s.Idle) (hp : s.spc.state.powered = true) (k : FaultKind)
    (sub : Option SubCause) (n : Nat) {r : FaultRow} (hr : r.spindle ≠ .none) {rec : FaultRecord}
    (hrec : (s.putRecord k sub .latched n (some r)).recordOf k = some rec) :
    (s.latchFault k sub n r).Retried k none rec := by
  obtain ⟨u, hu⟩ : ∃ u, u = (s.putRecord k sub .latched n (some r)).endRetry k := ⟨_, rfl⟩
  have hui : u.Idle := by
    rw [hu]
    exact ((putRecord_onlyFsv ..).trans (onKind_onlyFsv k _ _)).onlyHeads.idle hi
  have hurec : u.recordOf k = some rec := by rw [hu]; exact hrec
  have huk : (u.fsv.kinds.get k).clocks = (none, none) := by
    rw [hu, State.endRetry, onKind_get]
    rfl
  have hup : u.spc.state.powered = true := by
    have : u.spc = s.spc := by
      rw [hu]
      exact (putRecord_onlyFsv k sub .latched n (some r) s).spc
    rw [this]
    exact hp
  have hm := act_mechanical hui k r true
  rw [State.latchFault, ← hu]
  exact ⟨hm.idle, (hm.recordOf k).trans hurec, (hm.clocks k).trans huk, act_winds hui hup k hr true⟩

/-- The rest of the event leaves what the recognition has made. -/
theorem State.Retried.event {s : State} {k : FaultKind} {d : Option Timer} {rec : FaultRecord} (h : s.Retried k d rec)
    (hh : s.Hosted) (l : List FaultKind) :
    ((s.sampleWarning false).countWatches l).event.Retried k d rec ∧
    ∀ x ∈ s.atc.requests, x ∈ ((s.sampleWarning false).countWatches l).event.atc.requests := by
  obtain ⟨hf, -, -, haff⟩ := sampleWarning_below (s := s) (warning := false) nofun
  have hc := (State.Calms.refl s).sampleWarning
  generalize s.sampleWarning false = u at *
  have hkind : (u.fsv.kinds.get k).clocks = (d, none) := by rw [hc.kinds]; exact h.clocks
  have hspare := countWatches_spares (k := k) (s := u) (congrArg Prod.snd hkind) l
  have honly := countWatches_onlyReports l u
  have hidle : (u.countWatches l).Idle := (h.idle.of_affairs haff).of_affairs (u.countWatches_affairs l)
  generalize u.countWatches l = v at *
  have hwind : v.Winding := by
    rw [State.Winding, honly.spc, hf.spc]
    exact h.winding
  have hhost : v.Hosted := hh.of_hostSide (honly.hostSide.trans hf.hostSide)
  obtain ⟨he, hm, hw⟩ := event_mechanical hidle hhost
  rw [he]
  refine ⟨⟨hm.idle, ?_, ?_, hw hwind⟩, fun x hx => ?_⟩
  · rw [hm.recordOf, hspare.record, hc.recordOf, h.record]
  · rw [hm.clocks, hspare.kind, hkind]
  · refine (Remains.refl (b := true) v).settle.requests x (hspare.requests x ?_)
    rw [hf.atc]
    exact hx

/-- A recognition of a kind without a record under RETRY (R145). -/
theorem recognise_retry {s : State} {k : FaultKind} (h : s.recordOf k = none) (hm : (s.activeRow k).mode = .retry)
    (sub : Option SubCause) : s.recognise k sub = (s.nowPresent k).retryFault k sub 0 (s.activeRow k) := by
  have h' : (s.nowPresent k).recordOf k = none := h
  simp [State.recognise, h', hm]

/-- A recognition of a kind that is RETRYING, within its budget and past it (R153). -/
theorem recognise_again {s : State} {k : FaultKind} {r : FaultRecord} {row : FaultRow} (h : s.recordOf k = some r)
    (hs : r.state = .retrying) (hk : r.kept = some row) (sub : Option SubCause) : s.recognise k sub =
      if r.retries + 1 ≤ row.budget then (s.nowPresent k).retryFault k sub (r.retries + 1) row
      else (s.nowPresent k).latchFault k sub (r.retries + 1) row := by
  have h' : (s.nowPresent k).recordOf k = some r := h
  simp [State.recognise, h', hs, hk]

/-- The drive at an index out of range, where the excursion is recognized (R42). -/
def State.strayed (timer : Nat) (s : State) : State :=
  (s.indexed timer).indexResets.rearmed.onSpc fun p => { p with excursionCount := 0 }

theorem strayed_keeps {s : State} (h : s.Calm) (timer : Nat) :
    (s.strayed timer).Idle ∧ (s.strayed timer).Hosted ∧ (s.strayed timer).fsv.records = s.fsv.records ∧
    (s.strayed timer).spc.state = s.spc.state ∧ (s.strayed timer).spc.revCount = s.spc.revCount + 1 ∧
    (s.strayed timer).pos.fix = s.pos.fix ∧ (s.strayed timer).pos.state = s.pos.state ∧
    (s.strayed timer).tbs = s.tbs ∧ (s.strayed timer).spc.excursionCount = 0 := by
  have hix := h.indexed timer
  have hturn : (s.indexed timer).Turns (s.strayed timer) :=
    ((indexResets_turns _).trans (rearmed_turns _)).onSpc rfl rfl
  have hhost := hturn.hostSide.trans (indexed_frame timer s).1
  refine ⟨hix.toIdle.of_affairs hturn.affairs, h.toHosted.of_hostSide hhost, ?_, ?_, ?_, ?_, ?_, tbs_of_hostSide hhost, rfl⟩
  · exact (indexed_frame timer s).2.2.2
  · change (s.indexed timer).spc.state = _
    rw [indexed_spc]
    rfl
  · change (s.indexed timer).spc.revCount = _
    rw [indexed_spc]
  · rw [hturn.pos]
    rfl
  · rw [hturn.pos]
    rfl

theorem indexArrives_strayed {s : State} (hs : s.spc.state = .atSpeed) (hm : s.spc.indexSeen = true)
    (ht : s.pos.timerOn = false) (ha : s.anyStaged = false) (hr : s.retryWait = false) {timer : Nat}
    (hout : max timer s.spc.revTimer < 16334 ∨ 17000 < max timer s.spc.revTimer)
    (hd : s.tbs.actions.speedOutOfRange.deglitch ≤ s.spc.excursionCount + 1) :
    s.indexArrives timer false =
      (((s.strayed timer).recognise .speedOutOfRange none).sampleWarning false).countWatches s.watched := by
  have hoff : (s.indexed timer).countSeekTimer = s.indexed timer := by
    have : (s.indexed timer).pos.timerOn = false := ht
    simp [State.countSeekTimer, this]
  have hspc : (s.indexed timer).indexResets.spc.state = .atSpeed := by
    rw [indexResets_spc, indexed_spc]
    exact hs
  have hperiod : inRange (s.indexed timer).indexResets.spc.lastPeriod = false := by
    rw [indexResets_spc]
    change inRange (s.indexed timer).spc.lastPeriod = false
    rw [indexed_measures timer hm]
    refine Bool.eq_false_iff.mpr fun hin => ?_
    have := inRange_iff.mp hin
    unfold State.period at this
    omega
  have hdeg : (s.indexed timer).indexResets.deglitch .speedOutOfRange ≤
      (s.indexed timer).indexResets.spc.excursionCount + 1 := by
    rw [indexResets_spc]
    change (s.indexed timer).deglitch _ ≤ (s.indexed timer).spc.excursionCount + 1
    rw [indexed_spc]
    exact hd
  have hby : (s.indexed timer).indexResets.indexByState true = (s.strayed timer).recognise .speedOutOfRange none := by
    unfold State.strayed
    generalize (s.indexed timer).indexResets = m at *
    have h0 : m.indexByState true = m.rangeIndex true := by simp [State.indexByState, hspc]
    rw [h0, rangeIndex_eq, if_pos rfl, hperiod, if_neg (by decide), if_pos hdeg]
  rw [indexArrives_unretried ha hr, hoff, hm, hby]

/-- SPEED_OUT_OF_RANGE recognized under RETRY at speed (R145, R150, R153). -/
theorem index_retries {s : State} (timer : Nat) (r : FaultRecord) (kept : FaultRow) (h : s.Calm)
    (hs : s.spc.state = .atSpeed) (hm : s.spc.indexSeen = true) (ht : s.pos.timerOn = false)
    (ha : s.anyStaged = false) (hr : s.retryWait = false)
    (hout : max timer s.spc.revTimer < 16334 ∨ 17000 < max timer s.spc.revTimer)
    (hd : s.tbs.actions.speedOutOfRange.deglitch ≤ s.spc.excursionCount + 1) {now : FaultRecord}
    (hnow : now = { r with
      occurrences := min 255 (r.occurrences + 1), last := s.spc.revCount + 1, sub := none,
      cylinder := s.pos.fix.map Fix.cylinder, spindle := .atSpeed, positioner := s.pos.state,
      retries := r.retries + 1 }) :
    s.completes (.indexArrival timer false) fun t =>
      t.spc.excursionCount = 0 ∧
      (s.recordOf .speedOutOfRange = none → s.tbs.actions.speedOutOfRange.mode = .retry →
        s.tbs.actions.speedOutOfRange.spindle ≠ .none →
        t.recordOf .speedOutOfRange = some ⟨.speedOutOfRange, .retrying, none, 1, s.spc.revCount + 1, s.spc.revCount + 1,
          s.pos.fix.map Fix.cylinder, .atSpeed, s.pos.state, 0, some s.tbs.actions.speedOutOfRange⟩ ∧
        (t.fsv.kinds.get .speedOutOfRange).delay = some ⟨0, s.tbs.actions.speedOutOfRange.delay⟩ ∧
        t.retryWait = true ∧ t.requested .faultReported = true ∧ t.drive = false) ∧
      (s.recordOf .speedOutOfRange = some r → r.state = .retrying → r.kept = some kept →
        kept.spindle ≠ .none → r.retries + 1 ≤ kept.budget →
        t.recordOf .speedOutOfRange = some now ∧
        (t.fsv.kinds.get .speedOutOfRange).delay = some ⟨0, kept.delay⟩ ∧
        t.requested .faultReported = true ∧ t.drive = false) ∧
      (s.recordOf .speedOutOfRange = some r → r.state = .retrying → r.kept = some kept →
        kept.spindle ≠ .none → kept.budget < r.retries + 1 →
        t.recordOf .speedOutOfRange = some { now with state := .latched } ∧
        (t.fsv.kinds.get .speedOutOfRange).delay = none ∧ t.requested .faultLatched = true ∧ t.drive = false) := by
  have hexec : exec (.indexArrival timer false) s = .next (s.indexArrives timer false).event := rfl
  have heq := indexArrives_strayed hs hm ht ha hr hout hd
  obtain ⟨hidle, hhost, hrecs, hspc, hrev, hfix, hpos, htbs, hexc⟩ := strayed_keeps h timer
  obtain ⟨t, htt⟩ : ∃ t, t = (s.indexArrives timer false).event := ⟨_, rfl⟩
  rw [heq] at htt
  generalize s.strayed timer = w at *
  have hrec : w.recordOf .speedOutOfRange = s.recordOf .speedOutOfRange := by rw [State.recordOf, hrecs]; rfl
  have hrow : w.activeRow .speedOutOfRange = s.tbs.actions.speedOutOfRange := by
    rw [State.activeRow, htbs]
    rfl
  have hpow : w.spc.state.powered = true := by rw [hspc, hs]; rfl
  have hpres : (w.nowPresent .speedOutOfRange).Idle := hidle.onKind _ _
  have hby := recognise_bystands hidle .speedOutOfRange none
  have hend {d : Option Timer} {rec : FaultRecord}
      (hrt : (w.recognise .speedOutOfRange none).Retried .speedOutOfRange d rec) :
      t.Retried .speedOutOfRange d rec ∧ ∀ x ∈ (w.recognise .speedOutOfRange none).atc.requests, x ∈ t.atc.requests := by
    rw [htt]
    exact hrt.event (hhost.of_hostSide hby.hostSide) s.watched
  have hdrive (hw : t.Winding) : t.drive = false := by
    unfold State.drive
    rcases hw with hw | hw <;> rw [hw] <;> rfl
  have hrequested (hx : .faultReported ∈ t.atc.requests) : t.requested .faultReported = true := by
    simpa [State.requested] using hx
  rw [heq, ← htt] at hexec
  refine ⟨t, hexec, ?_, fun hn hmode hsp => ?_, fun hsome hst hkept hsp hbud => ?_, fun hsome hst hkept hsp hbud => ?_⟩
  · have hf := (sampleWarning_below (s := w.recognise .speedOutOfRange none) (warning := false) nofun)
    have hby' := hby.trans (hf.1.bystands hby.idle)
    have honly := countWatches_onlyReports s.watched ((w.recognise .speedOutOfRange none).sampleWarning false)
    have hidle' := hby'.idle.of_affairs (State.countWatches_affairs _ s.watched)
    have hev := event_mechanical hidle' (hhost.of_hostSide (honly.hostSide.trans hby'.hostSide))
    rw [htt, hev.1]
    exact hev.2.1.excursion (by rw [honly.spc]; exact hby'.excursion hexc)
  · have hput : ((w.nowPresent .speedOutOfRange).putRecord .speedOutOfRange none .retrying 0
        (some s.tbs.actions.speedOutOfRange)).recordOf .speedOutOfRange = _ := recordOf_putRecord ..
    have hn' : (w.nowPresent .speedOutOfRange).recordOf .speedOutOfRange = none := hrec.trans hn
    rw [hn'] at hput
    obtain ⟨hrt, hreq⟩ := retryFault_retried hpres hpow .speedOutOfRange none 0 hsp hput
    rw [← hrow, ← recognise_retry (hrec.trans hn) (by rw [hrow]; exact hmode) none] at hrt hreq
    obtain ⟨hrt', hreqs⟩ := hend hrt
    have hdel := congrArg Prod.fst hrt'.clocks
    refine ⟨hrt'.record.trans ?_, ?_, PerKind.any_eq_true (k := .speedOutOfRange) ?_, hrequested (hreqs _ hreq),
      hdrive hrt'.winding⟩
    · change some (w.newRecord .speedOutOfRange none .retrying _) = _
      simp only [State.newRecord, hrev, hfix, hspc, hs, hpos, hrow]
    · exact hdel.trans (by rw [hrow])
    · rw [show (t.fsv.kinds.get .speedOutOfRange).delay = _ from hdel]
      rfl
  · have hput : ((w.nowPresent .speedOutOfRange).putRecord .speedOutOfRange none .retrying (r.retries + 1)
        (some kept)).recordOf .speedOutOfRange = _ := recordOf_putRecord ..
    have hn' : (w.nowPresent .speedOutOfRange).recordOf .speedOutOfRange = some r := hrec.trans hsome
    rw [hn'] at hput
    obtain ⟨hrt, hreq⟩ := retryFault_retried hpres hpow .speedOutOfRange none _ hsp hput
    have hagain := recognise_again (hrec.trans hsome) hst hkept none
    rw [if_pos hbud] at hagain
    rw [← hagain] at hrt hreq
    obtain ⟨hrt', hreqs⟩ := hend hrt
    refine ⟨hrt'.record.trans ?_, congrArg Prod.fst hrt'.clocks, hrequested (hreqs _ hreq), hdrive hrt'.winding⟩
    change some (w.updatedRecord none .retrying (r.retries + 1) (some kept) r) = _
    simp only [State.updatedRecord, hrev, hfix, hspc, hs, hpos, hnow, hst, hkept, satAdd]
  · have hput : ((w.nowPresent .speedOutOfRange).putRecord .speedOutOfRange none .latched (r.retries + 1)
        (some kept)).recordOf .speedOutOfRange = _ := recordOf_putRecord ..
    have hn' : (w.nowPresent .speedOutOfRange).recordOf .speedOutOfRange = some r := hrec.trans hsome
    rw [hn'] at hput
    have hrt := latchFault_retried hpres hpow .speedOutOfRange none _ hsp hput
    have hagain := recognise_again (hrec.trans hsome) hst hkept none
    rw [if_neg (Nat.not_le_of_lt hbud)] at hagain
    rw [← hagain] at hrt
    obtain ⟨hrt', -⟩ := hend hrt
    have hrec' : t.recordOf .speedOutOfRange = some { now with state := .latched } := by
      refine hrt'.record.trans ?_
      change some (w.updatedRecord none .latched (r.retries + 1) (some kept) r) = _
      simp only [State.updatedRecord, hrev, hfix, hspc, hs, hpos, hnow, hkept, satAdd]
    refine ⟨hrec', congrArg Prod.fst hrt'.clocks, ?_, hdrive hrt'.winding⟩
    change t.anyLatched = true
    exact List.any_eq_true.mpr ⟨_, List.mem_of_find?_eq_some hrec', rfl⟩

/-! ## The obligation -/

/-- Settles O24. -/
theorem indexArrives : Obligations.IndexArrives := by
  refine ⟨index_measures, fun s timer hcalm ht ha => ?_, fun s timer n k hcalm hs hp ha hr hlow hhigh => ?_,
    fun s timer k x r row hcalm hs hp ht ha hx hr hk hrow => ?_, fun s timer r kept hcalm hs hm ht ha hr hout hd => ?_⟩
  · have h := calm_iff.mp hcalm
    have hexec : exec (.indexArrival timer false) s = .next (s.indexArrives timer false).event := rfl
    obtain ⟨hhost, hcount⟩ := index_frame h ht ha timer
    obtain ⟨hdbi, hqueue, -, -, hslots, htbs, -⟩ := keepsHost_of_hostSide hhost
    have hin {p : Nat} (ho : (!(decide (16334 ≤ p) && decide (p ≤ 17000))) = false) : inRange p = true := by
      change (!inRange p) = false at ho
      simpa using ho
    have hout {p : Nat} (ho : (!(decide (16334 ≤ p) && decide (p ≤ 17000))) = true) : inRange p = false := by
      change (!inRange p) = true at ho
      simpa using ho
    refine ⟨_, hexec, hdbi, hqueue, hslots, htbs, hcount, index_stopped h ht ha timer, index_coasting h ht ha timer,
      index_braking h ht ha timer, index_starting h ht ha timer, index_locked h ht ha timer, index_locking h ht ha timer,
      index_unlocked h ht ha timer, fun hs hm ho => ?_, fun hs hm ho hd => ?_,
      fun hs hm ho => index_purging h ht ha timer hs hm (hin ho), fun hs hm ho => index_atSpeed h ht ha timer hs hm (hin ho)⟩
    · have hr : inRange (s.period timer) = true := hin ho
      have hx := index_excursion h ht ha timer hs hm (by rw [hr]; nofun)
      rw [if_pos hr] at hx
      exact hx
    · have hr : inRange (s.period timer) = false := hout ho
      obtain ⟨hx, hw, -⟩ := index_excursion h ht ha timer hs hm fun _ => hd
      rw [hr, if_neg (by decide)] at hx
      exact ⟨hx, hw⟩
  · exact index_counts timer n k (calm_iff.mp hcalm) hs hp ha hr hlow hhigh
  · exact index_delays timer (calm_iff.mp hcalm) hs hp ht ha hx hr hk hrow
  · exact index_retries timer r kept (calm_iff.mp hcalm) hs hm ht ha hr hout hd rfl

end Sys2Proof.Machine
end

section
/-! SUPPLY_LOW in every state (R13, R55, R77, R154, R184): what it leaves of the drive, and the fault list that can
still be read and cleared after it. -/

namespace Sys2Proof.Machine

/-! ## The heads leave the disk without the supply -/

/-- The registers of the Positioner that a supply-low leaves until the power-on reset (R77, R94; assumption log 46). -/
def Positioner.kept (p : Positioner) := ((p.fix, p.head, p.hold, p.settleCount), (p.dropCount, p.unloadFailedCount,
  p.seekTimeoutCount, p.loadByWork))

/-- The heads move, conditions become absent, and a record read is wanted no more. -/
structure State.Ebbs (s t : State) : Prop where
  rest : t = { s with
    pos := t.pos
    fsv := { s.fsv with kinds := t.fsv.kinds }
    record := { s.record with readWanted := t.record.readWanted } }
  heads : t.pos.kept = s.pos.kept
  kinds : ∀ k, t.fsv.kinds.get k = { s.fsv.kinds.get k with present := (t.fsv.kinds.get k).present }
  low : (t.fsv.kinds.get .supplyLow).present = (s.fsv.kinds.get .supplyLow).present

theorem State.Ebbs.refl (s : State) : s.Ebbs s := ⟨rfl, rfl, fun _ => rfl, rfl⟩

section

variable {s t : State} (h : s.Ebbs t)
include h

theorem State.Ebbs.trans {u : State} (g : t.Ebbs u) : s.Ebbs u :=
  ⟨by rw [g.rest, h.rest], g.heads.trans h.heads, fun k => by rw [g.kinds, h.kinds], g.low.trans h.low⟩

theorem State.Ebbs.onPos {f : Positioner → Positioner} (hf : (f t.pos).kept = t.pos.kept) : s.Ebbs (t.onPos f) :=
  h.trans ⟨rfl, hf, fun _ => rfl, rfl⟩

theorem State.Ebbs.absent {k : FaultKind} (hk : k ≠ .supplyLow) : s.Ebbs (t.absent k) :=
  h.trans ⟨rfl, rfl, fun j => by rw [absent_get], by rw [absent_get, if_neg hk.symm]⟩

theorem State.Ebbs.absents {l : List FaultKind} (hl : .supplyLow ∉ l) : s.Ebbs (t.absents l) := by
  unfold State.absents
  induction l generalizing t with
  | nil => exact h
  | cons k l ih =>
    rw [List.mem_cons, not_or] at hl
    exact ih (h.absent fun e => hl.1 e.symm) hl.2

theorem State.Ebbs.enterUnloaded (hl : t.supplyLow = true) : s.Ebbs t.enterUnloaded := by
  have h0 : s.Ebbs (t.onPos fun p => { p with
      state := .unloaded, current := 0, target := none, fix := t.clearedTo none p.fix,
      settleCount := t.clearedTo 0 p.settleCount, dropCount := t.clearedTo 0 p.dropCount,
      window := .closed, unloadWatch := none, unloadFailedCount := t.clearedTo 0 p.unloadFailedCount,
      retractWindow := none, causing := none, timerOn := false, timerCount := 0, restartLoad := false,
      seekTimeoutCount := t.clearedTo 0 p.seekTimeoutCount, clampCount := 0 }) :=
    h.onPos (by simp [State.clearedTo, hl, Positioner.kept])
  have h1 := h0.absents (l := [.servoLost, .seekTimeout, .unloadFailed, .actuatorSaturation]) (by decide)
  exact h1.trans ⟨rfl, rfl, fun _ => rfl, rfl⟩

theorem State.Ebbs.enterRetracting (hl : t.supplyLow = true) (cause : Option FaultKind) :
    s.Ebbs (t.enterRetracting cause) := by
  unfold State.enterRetracting
  extract_lets i u
  have h0 : t.Ebbs (t.onPos fun p => { p with
      state := .retracting, current := i, target := none, settleCount := t.clearedTo 0 p.settleCount,
      dropCount := t.clearedTo 0 p.dropCount, window := .closed, timerOn := false, unloadWatch := none,
      unloadFailedCount := t.clearedTo 0 p.unloadFailedCount,
      retractWindow := some ⟨0, Config.retractTicks⟩, causing := cause, requester := .none }) :=
    (State.Ebbs.refl t).onPos (by simp [State.clearedTo, hl, Positioner.kept])
  have hu : t.Ebbs u := ((h0.onPos rfl).absent (by decide)).absents (by decide)
  have hul : u.supplyLow = true := by rw [hu.rest]; exact hl
  clear_value u
  split
  · exact h.trans ((hu.enterUnloaded hul).onPos rfl)
  · exact h.trans hu

end

/-- A retract request after the supply is low (R75, R77): nobody waits for the heads, and no load is left. -/
theorem retractRequest_low {s : State} (hl : s.supplyLow = true) (hr : s.pos.requester = .none) (cause : FaultKind) :
    s.withdrawLoads.Ebbs (s.retractRequest cause) ∧
    (s.pos.state ≠ .unloaded → s.pos.state ≠ .retracting → s.pos.parkSensor = false →
      (s.retractRequest cause).pos.state = .retracting ∧ (s.retractRequest cause).pos.causing = some cause ∧
      (s.retractRequest cause).pos.current = clampTo s.tbs.profile.ilim (-2047)) ∧
    (s.pos.state = .unloaded → (s.retractRequest cause).pos.state = .unloaded) := by
  have hfail : s.withdrawLoads.seekFailed false = s.withdrawLoads.onPos fun p => { p with requester := .none } := by
    have : s.withdrawLoads.pos.requester = .none := hr
    simp [State.seekFailed, this]
  have hp : s.withdrawLoads.pos.state = s.pos.state := rfl
  have h0 := State.Ebbs.refl s.withdrawLoads
  unfold State.retractRequest
  dsimp only
  rw [hp]
  split
  · next hs => exact ⟨h0, fun hn => absurd hs hn, fun _ => hs⟩
  · next hs => exact ⟨h0, fun _ hn => absurd hs hn, fun hu => hu⟩
  · next hu _ =>
    have hu0 : s.withdrawLoads.Ebbs (s.withdrawLoads.onPos fun p => { p with requester := .none }) := h0.onPos rfl
    rw [hfail]
    refine ⟨hu0.enterRetracting hl _, fun _ _ hpark => ?_,
      fun hs => absurd hs hu⟩
    have hpark' : (s.withdrawLoads.onPos fun p => { p with requester := .none }).pos.parkSensor = false := hpark
    unfold State.enterRetracting
    rw [hpark', if_neg (by decide)]
    exact ⟨rfl, rfl, rfl⟩

/-! ## The supply is low -/

/-- The drive that a supply-low leaves (R55, R77, R154). -/
def State.darkened (s : State) : State := (s.supplyRecord.cutOff.retractRequest .supplyLow).coastDown

theorem supplyRecord_onlyFsv (s : State) : s.OnlyFsv s.supplyRecord := by
  have h : s.OnlyFsv (s.nowPresent .supplyLow) := onKind_onlyFsv _ _ s
  have h' := h.trans (putRecord_onlyFsv .supplyLow none .latched 0 (some (fixedRow .supplyLow)) _)
  unfold State.supplyRecord State.endRetries
  exact h'.trans (onFsv_onlyFsv _ _)

theorem exec_supplyLow {s : State} (hl : s.supplyLow = false) : exec .supplyLow s = .next s.darkened := by
  have hexec : exec .supplyLow s = .next (if s.supplyRecord.supplyLow then s.supplyRecord else s.darkened) := rfl
  have hsr : s.supplyRecord.supplyLow = false := by rw [supplyRecord_onlyFsv s]; exact hl
  rw [hexec, hsr, if_neg (by decide)]

/-- The record of SUPPLY_LOW is made at the end of the list, its condition is present, and no retry goes on. -/
theorem supplyRecord_fsv {s : State} (h : s.recordOf .supplyLow = none) :
    s.supplyRecord.fsv.records =
      s.fsv.records ++ [s.newRecord .supplyLow none .latched (some (fixedRow .supplyLow))] ∧
    (s.supplyRecord.fsv.kinds.get .supplyLow).present = true ∧
    ∀ k, (s.supplyRecord.fsv.kinds.get k).delay = none ∧ (s.supplyRecord.fsv.kinds.get k).wantsStart = false ∧
      (s.supplyRecord.fsv.kinds.get k).wantsLoad = false := by
  have h' : (s.nowPresent .supplyLow).recordOf .supplyLow = none := h
  have hput := putRecord_of_none h' none .latched 0 (some (fixedRow .supplyLow))
  unfold State.supplyRecord
  dsimp only
  rw [hput]
  refine ⟨rfl, ?_, fun k => ?_⟩
  · simp [State.endRetries, State.nowPresent, onKind_get]
  · simp [State.endRetries]

/-! ### The disk coasts down -/

/-- The disk's registers and what is kept for the kinds differ. -/
def State.OnlyDisk (s t : State) : Prop := t = { s with
  spc := t.spc
  fsv := { s.fsv with kinds := t.fsv.kinds } }

theorem State.OnlyDisk.trans {s t u : State} (h : s.OnlyDisk t) (g : t.OnlyDisk u) : s.OnlyDisk u := by
  unfold State.OnlyDisk at *
  rw [g, h]

theorem onSpc_onlyDisk (f : Spindle → Spindle) (s : State) : s.OnlyDisk (s.onSpc f) := rfl

theorem absents_onlyDisk (l : List FaultKind) (s : State) : s.OnlyDisk (s.absents l) := by
  unfold State.absents
  induction l generalizing s with
  | nil => rfl
  | cons k l ih =>
    have hk : s.OnlyDisk (s.absent k) := rfl
    exact hk.trans (ih _)

theorem leavePowered_onlyDisk (st : SpindleState) (brake : Bool) (d : StopDemand) (s : State) :
    s.OnlyDisk (s.leavePowered st brake d) := by
  unfold State.leavePowered
  exact (onSpc_onlyDisk _ s).trans (absents_onlyDisk _ _)

theorem clearStarts_onlyDisk (s : State) : s.OnlyDisk s.clearStarts := rfl

theorem coastDown_onlyDisk (s : State) : s.OnlyDisk s.coastDown :=
  ((leavePowered_onlyDisk _ _ _ s).trans (onSpc_onlyDisk _ _)).trans (clearStarts_onlyDisk _)

theorem coastDown_spc (s : State) : s.coastDown.spc = { s.spc with
    state := .coasting, demand := .coast, brakePending := false, driveAtLimit := false, firstIndexWatch := none,
    spinUpTimer := none, lostIndexWatch := none, stopWindow := s.freshStopWindow, startByWork := false } := by
  simp only [State.coastDown, State.clearStarts, State.onFsv_spc, State.onSpc_spc, leavePowered_spc]
  rfl

theorem coastDown_kinds (s : State) : (∀ k, s.coastDown.fsv.kinds.get k = { s.fsv.kinds.get k with
      present := (s.coastDown.fsv.kinds.get k).present
      wantsStart := false }) ∧
    (s.coastDown.fsv.kinds.get .supplyLow).present = (s.fsv.kinds.get .supplyLow).present := by
  have hget (k : FaultKind) : s.coastDown.fsv.kinds.get k =
      { (s.leavePowered .coasting false .coast).fsv.kinds.get k with wantsStart := false } := by
    simp [State.coastDown, State.clearStarts]
  have hon : ∀ l : List FaultKind, ∀ t : State, ∀ k, (t.absents l).fsv.kinds.get k =
      { t.fsv.kinds.get k with present := ((t.absents l).fsv.kinds.get k).present } := by
    intro l
    induction l with
    | nil => exact fun _ _ => rfl
    | cons j l ih =>
      intro t k
      have := ih (t.absent j) k
      rw [absent_get] at this
      exact this
  refine ⟨fun k => ?_, ?_⟩
  · rw [hget, State.leavePowered, hon]
    rfl
  · rw [hget, State.leavePowered, absents_get_of_not_mem (by decide)]
    rfl

/-! ### What is left -/

theorem cutOff_parts (s : State) :
    (s.cutOff.queue, s.cutOff.slots, s.cutOff.tbs, s.cutOff.counters, s.cutOff.fsv) =
      (s.queue, s.slots, s.tbs, s.counters, s.fsv) ∧
    s.cutOff.dbi = { s.dbi with inb := .idle, out := .none, answers := 0 } ∧ s.cutOff.eng.flight = none ∧
    s.cutOff.record = { s.record with op := .idle } ∧ s.cutOff.ccu = { s.ccu with ejector := false } ∧
    s.cutOff.spc = { s.spc with startByWork := false } ∧
    s.cutOff.pos = { s.pos with loadByWork := false, requester := .none } ∧ s.cutOff.supplyLow = true := by
  simp [State.cutOff, State.stopTransfers, State.abandonPackets, State.withdrawWork]

/-- The drive with the supply record and every part cut off, before the heads retract. -/
theorem retracted_parts (s : State) (r : State) (hr : r = s.supplyRecord.cutOff.retractRequest .supplyLow) :
    s.supplyRecord.cutOff.withdrawLoads.Ebbs r ∧
    (s.pos.state ≠ .unloaded → s.pos.state ≠ .retracting → s.pos.parkSensor = false →
      r.pos.state = .retracting ∧ r.pos.causing = some .supplyLow ∧
      r.pos.current = clampTo s.tbs.profile.ilim (-2047)) ∧
    (s.pos.state = .unloaded → r.pos.state = .unloaded) := by
  obtain ⟨hsame, -, -, -, -, -, hpos, hlow⟩ := cutOff_parts s.supplyRecord
  simp only [Prod.mk.injEq] at hsame
  have hpos' : s.supplyRecord.cutOff.pos = { s.pos with loadByWork := false, requester := .none } := by
    rw [hpos, (supplyRecord_onlyFsv s).pos]
  have hilim : s.supplyRecord.cutOff.tbs = s.tbs := by
    rw [hsame.2.2.1, supplyRecord_onlyFsv s]
  have := retractRequest_low hlow (by rw [hpos]) .supplyLow
  rw [hpos', hilim, ← hr] at this
  exact this

/-- What stands after a supply-low: the queue, the slots, the tables, the counters, the replies, the latch and the
record (R13, R119, R140, R154, R184). -/
theorem darkened_stands (s : State) :
    (s.darkened.queue, s.darkened.slots, s.darkened.tbs, s.darkened.counters) =
      (s.queue, s.slots, s.tbs, s.counters) ∧
    s.darkened.dbi = { s.dbi with inb := .idle, out := .none, answers := 0 } ∧ s.darkened.eng.flight = none ∧
    (s.darkened.record.op, s.darkened.record.state, s.darkened.record.image) =
      (.idle, s.record.state, s.record.image) ∧
    s.darkened.ccu = { s.ccu with ejector := false } ∧ s.darkened.supplyLow = true ∧
    s.darkened.fsv.records = s.supplyRecord.fsv.records := by
  obtain ⟨r, hr⟩ : ∃ r, r = s.supplyRecord.cutOff.retractRequest .supplyLow := ⟨_, rfl⟩
  obtain ⟨hebb, -, -⟩ := retracted_parts s r hr
  obtain ⟨hsame, hdbi, hflight, hrec, hccu, -, -, hlow⟩ := cutOff_parts s.supplyRecord
  have hd : s.darkened = r.coastDown := by rw [hr]; rfl
  have hrest := hebb.rest
  have hdisk := coastDown_onlyDisk r
  have hsr := supplyRecord_onlyFsv s
  unfold State.OnlyFsv at hsr
  unfold State.OnlyDisk at hdisk
  simp only [Prod.mk.injEq] at hsame
  obtain ⟨hq, hsl, htb, hcn, hfs⟩ := hsame
  rw [hd, hdisk, hrest]
  generalize s.supplyRecord.cutOff = b at *
  simp only [State.withdrawLoads, State.onPos, State.onFsv, hq, hsl, htb, hcn, hfs, hdbi, hflight, hrec, hccu, hlow]
  rw [hsr]
  exact ⟨rfl, rfl, trivial, rfl, rfl, trivial, trivial⟩

/-- The disk coasts with its output off, and its counts stand (R55). -/
theorem darkened_spc (s : State) : s.darkened.spc = { s.spc with
    state := .coasting, demand := .coast, brakePending := false, driveAtLimit := false, firstIndexWatch := none,
    spinUpTimer := none, lostIndexWatch := none, stopWindow := s.freshStopWindow, startByWork := false } := by
  obtain ⟨r, hr⟩ : ∃ r, r = s.supplyRecord.cutOff.retractRequest .supplyLow := ⟨_, rfl⟩
  obtain ⟨hebb, -, -⟩ := retracted_parts s r hr
  obtain ⟨hsame, -, -, -, -, hspc, -, -⟩ := cutOff_parts s.supplyRecord
  have hd : s.darkened = r.coastDown := by rw [hr]; rfl
  have hrspc : r.spc = { s.spc with startByWork := false } := by
    rw [hebb.rest]
    change s.supplyRecord.cutOff.spc = _
    rw [hspc, (supplyRecord_onlyFsv s).spc]
  have htbs : r.tbs = s.tbs := by
    rw [hebb.rest]
    change s.supplyRecord.cutOff.tbs = _
    simp only [Prod.mk.injEq] at hsame
    rw [hsame.2.2.1, supplyRecord_onlyFsv s]
  rw [hd, coastDown_spc, hrspc, State.freshStopWindow, htbs]
  rfl

/-- The heads retract, or stand where they were, and their fix and counts stand (R77, R94). -/
theorem darkened_pos (s : State) :
    s.darkened.pos.kept = { s.pos with loadByWork := false }.kept ∧
    (s.pos.state ≠ .unloaded → s.pos.state ≠ .retracting → s.pos.parkSensor = false →
      s.darkened.pos.state = .retracting ∧ s.darkened.pos.causing = some .supplyLow ∧
      s.darkened.pos.current = clampTo s.tbs.profile.ilim (-2047)) ∧
    (s.pos.state = .unloaded → s.darkened.pos.state = .unloaded) := by
  obtain ⟨r, hr⟩ : ∃ r, r = s.supplyRecord.cutOff.retractRequest .supplyLow := ⟨_, rfl⟩
  obtain ⟨hebb, hretract, hland⟩ := retracted_parts s r hr
  obtain ⟨-, -, -, -, -, -, hpos, -⟩ := cutOff_parts s.supplyRecord
  have hd : s.darkened.pos = r.pos := by
    have : s.darkened = r.coastDown := by rw [hr]; rfl
    rw [this, coastDown_onlyDisk r]
  rw [hd]
  refine ⟨?_, hretract, hland⟩
  rw [hebb.heads]
  change { s.supplyRecord.cutOff.pos with loadByWork := false }.kept = _
  rw [hpos, (supplyRecord_onlyFsv s).pos]
  rfl

/-- No retry, no start and no load is left, and the condition of SUPPLY_LOW is present (R154). -/
theorem darkened_kinds {s : State} (h : s.recordOf .supplyLow = none) :
    (s.darkened.fsv.kinds.get .supplyLow).present = true ∧
    ∀ k, (s.darkened.fsv.kinds.get k).delay = none ∧ (s.darkened.fsv.kinds.get k).wantsStart = false ∧
      (s.darkened.fsv.kinds.get k).wantsLoad = false := by
  obtain ⟨r, hr⟩ : ∃ r, r = s.supplyRecord.cutOff.retractRequest .supplyLow := ⟨_, rfl⟩
  obtain ⟨hebb, -, -⟩ := retracted_parts s r hr
  obtain ⟨hsame, -⟩ := cutOff_parts s.supplyRecord
  obtain ⟨-, hpres, hkinds⟩ := supplyRecord_fsv h
  have hd : s.darkened = r.coastDown := by rw [hr]; rfl
  obtain ⟨hcoast, hlow⟩ := coastDown_kinds r
  have hbase (k : FaultKind) : s.supplyRecord.cutOff.withdrawLoads.fsv.kinds.get k =
      { s.supplyRecord.fsv.kinds.get k with wantsLoad := false } := by
    simp only [Prod.mk.injEq] at hsame
    simp [State.withdrawLoads, hsame.2.2.2.2]
  rw [hd]
  refine ⟨?_, fun k => ?_⟩
  · rw [hlow, hebb.low, hbase]
    exact hpres
  · rw [hcoast, hebb.kinds, hbase]
    obtain ⟨hdel, -, -⟩ := hkinds k
    exact ⟨hdel, rfl, rfl⟩

/-! ## The interface after a supply-low -/

theorem exec_command {i : Instr} (h : commandPayload i ≠ none) : ∃ act, ∀ s, exec i s = .next (s.command i act) := by
  cases i
  case read | write | verify | seek | spinUp | spinDown | flushRecord | reassignBlock | abort | eject | holdEject
      | releaseEject | clearFaults | readFaults | loadTable | readTable | tableHold | latch | readLatched | status
      | attentionAck | endAttention | setAttentionMask =>
    exact ⟨_, fun _ => rfl⟩
  all_goals exact absurd rfl h

/-- After a supply-low no COMMAND packet is taken (R184). -/
theorem command_low {s : State} (hl : s.supplyLow = true) {i : Instr} (hi : readsFaultList i = false)
    (act : State → State) : s.command i act = s := by
  unfold State.command
  split
  · rfl
  · simp [State.canReceive, State.takesLate, hl, hi]

/-- The interface as a supply-low leaves it, the host holding the turn. -/
structure State.Dark (s : State) : Prop where
  low : s.supplyLow = true
  turn : s.dbi.turn = true
  reset : s.dbi.busReset = false
  out : s.dbi.out = .none
  inb : s.dbi.inb = .idle
  answers : s.dbi.answers = 0
  room : s.replyFull = false

/-- Where the fault list can be read, its commands meet their owner, and the answer is sent first (R154). -/
theorem command_dark {s : State} (h : s.Dark) {i : Instr} (hi : readsFaultList i = true)
    (hf : packetFramed i = true) (act : State → State) :
    s.command i act =
      if Config.faultListReadable = true then (act s).answersFirst s.dbi.replies.length else s := by
  unfold State.command
  cases hp : commandPayload i with
  | none => simp [packetFramed, hp] at hf
  | some tp =>
    have hg : headerRefused (commandHeader tp.1 tp.2) = false := by simpa [packetFramed, hp] using hf
    have hhost : s.hostSends = true := by simp [State.hostSends, h.turn, h.reset, h.out]
    simp [State.canReceive, State.takesLate, State.wholePacket, h.low, h.inb, h.room, hi, hhost, hg]

theorem faultCommands_framed {tag : Byte} (h : tag ≠ 0) :
    packetFramed (.readFaults tag) = true ∧ packetFramed (.clearFaults tag) = true := by
  have hframe (c : Byte) (hc : commandLength [c] = some 1) : headerRefused (commandHeader tag [c]) = false :=
    headerRefused_commandHeader h (by simp) (by simp) hc
  exact ⟨congrArg not (hframe 0x49 rfl), congrArg not (hframe 0x48 rfl)⟩

/-- An answer goes before the kept replies, and is the only one that waits. -/
theorem reply_answersFirst {s : State} (h : s.dbi.answers = 0) (tag : Byte) (st : Status) (b : ReplyBody) :
    (s.reply tag st b).answersFirst s.dbi.replies.length = { s with dbi := { s.dbi with
      replies := .reply tag st b :: s.dbi.replies
      answers := 1 } } := by
  simp [State.answersFirst, State.reply, State.place, State.onDbi, h]

/-! ### Its answer is sent -/

theorem exec_turnNegated_low {s : State} (hl : s.supplyLow = true) (ht : s.dbi.turn = true) (cut : HeaderPart) :
    exec (.turnNegated cut) s = .next s.yielded.commit := by
  have hexec : exec (.turnNegated cut) s = .next (if s.dbi.turn then
      (((if s.supplyLow || s.dbi.busReset then s else s.cutPacket cut).setInb .idle).onDbi fun d =>
        { d with turn := false }).commit else s) := rfl
  rw [hexec, ht, if_pos rfl, hl, Bool.true_or, if_pos rfl]
  rfl

/-- After a supply-low an answer that waits is sent, and nothing else (R154, R184). -/
theorem startOutbound_low {s : State} (hl : s.supplyLow = true) (ht : s.dbi.turn = false) (hb : s.dbi.busReset = false)
    (ho : s.dbi.out = .none) (hi : s.dbi.inb = .idle) : s.startOutbound =
      if s.answersWait = true then (s.onDbi fun d => { d with out := .queued }).driveStb true else s := by
  unfold State.startOutbound
  cases ha : s.answersWait with
  | false => simp [hl, ht, hb, ho, hi]
  | true =>
    have hr : s.dbi.replies.isEmpty = false := by
      simp only [State.answersWait, Bool.and_eq_true, Bool.not_eq_true'] at ha
      exact ha.2
    simp [hl, ht, hb, ho, hi, hr]

/-- The turn goes to the part, which sends the answer that waits; acknowledged, it leaves the kept replies (R154). -/
theorem answer_sent {s : State} (h : s.Dark) (p : Packet) (hf : Config.faultListReadable = true) :
    let u : State := { s with dbi := { s.dbi with replies := p :: s.dbi.replies, answers := 1 } }
    ∃ v w, exec (.turnNegated .nothing) u = .next v ∧ v.dbi.out = .queued ∧
      exec .outboundPacketAcked v = .next w ∧ w.dbi.out = .none ∧ w.dbi.replies = s.dbi.replies := by
  intro u
  have hwait : u.yielded.answersWait = true := by simp [State.answersWait, hf, u, State.yielded, State.setInb, State.onDbi]
  have hv : u.yielded.commit = (u.yielded.onDbi fun d => { d with out := .queued }).driveStb true := by
    rw [commit_of_idle rfl, startOutbound_low (s := u.yielded) h.low rfl h.reset h.out rfl, if_pos hwait]
  obtain ⟨w, hw⟩ : ∃ w, w = ((u.yielded.onDbi fun d => { d with out := .queued }).driveStb true).packetSent := ⟨_, rfl⟩
  have hwd : w.dbi = { s.dbi with turn := false, inb := .idle, out := .none, stb := false, answers := 0 } := by
    rw [hw]
    simp [State.packetSent, State.driveStb, State.onDbi, u, State.yielded, State.setInb, h.low]
  have hwl : w.supplyLow = true := by
    rw [hw]
    exact h.low
  have hevent : w.event = w := by
    rw [State.event, settle_supplyLow hwl, commit_of_idle (by rw [hwd]),
      startOutbound_low hwl (by rw [hwd]) (by rw [hwd]; exact h.reset) (by rw [hwd]) (by rw [hwd])]
    simp [State.answersWait, hwd]
  have hexec : exec .outboundPacketAcked ((u.yielded.onDbi fun d => { d with out := .queued }).driveStb true) =
      .next w.event := by rw [hw]; rfl
  refine ⟨_, w, ?_, rfl, hexec.trans (by rw [hevent]), by rw [hwd], by rw [hwd]⟩
  rw [exec_turnNegated_low (s := u) h.low h.turn, hv]

/-- Where the fault list cannot be read, the turn brings nothing. -/
theorem nothing_sent {s : State} (h : s.Dark) (hf : Config.faultListReadable = false) :
    ∃ v w, exec (.turnNegated .nothing) s = .next v ∧ v.dbi.out = .none ∧
      exec .outboundPacketAcked v = .next w ∧ w.dbi.out = .none ∧ w.dbi.replies = s.dbi.replies := by
  have hquiet {w : State} (hl : w.supplyLow = true) (ht : w.dbi.turn = false) (hb : w.dbi.busReset = false)
      (ho : w.dbi.out = .none) (hi : w.dbi.inb = .idle) : w.commit = w := by
    rw [commit_of_idle hi, startOutbound_low hl ht hb ho hi]
    simp [State.answersWait, hf]
  have hv : s.yielded.commit = s.yielded := hquiet h.low rfl h.reset h.out rfl
  have hsent : s.yielded.packetSent = s.yielded := by
    have : s.yielded.dbi.out = .none := h.out
    simp [State.packetSent, this]
  have hexec : exec .outboundPacketAcked s.yielded = .next s.yielded.packetSent.event := rfl
  refine ⟨s.yielded, s.yielded, ?_, h.out, ?_, h.out, rfl⟩
  · rw [exec_turnNegated_low h.low h.turn, hv]
  · rw [hexec, hsent, State.event, settle_supplyLow (s := s.yielded) h.low, hv]

/-! ### The fault list -/

theorem exec_readFaults_dark {s : State} (h : s.Dark) {tag : Byte} (htag : tag ≠ 0) :
    exec (.readFaults tag) s = .next (if Config.faultListReadable = true then { s with dbi := { s.dbi with
      replies := .reply tag .ok (.faults s.fsv.records) :: s.dbi.replies
      answers := 1 } } else s) := by
  have hexec : exec (.readFaults tag) s = .next (s.command (.readFaults tag) fun u => u.readFaults tag) := rfl
  rw [hexec, command_dark h rfl (faultCommands_framed htag).1, State.readFaults, reply_answersFirst h.answers]

/-- What is found in a list and kept by a filter is found in what the filter leaves. -/
theorem find?_filter_of_found {α : Type} {l : List α} {p q : α → Bool} {a : α} (h : l.find? q = some a)
    (hp : p a = true) : (l.filter p).find? q = some a := by
  rw [List.find?_filter]
  induction l with
  | nil => cases h
  | cons x l ih =>
    rw [List.find?_cons] at h ⊢
    cases hq : q x with
    | true =>
      rw [hq] at h
      cases h
      simp [hp]
    | false =>
      rw [hq] at h
      simpa using ih h

/-- CLEAR FAULTS after a supply-low leaves the record of SUPPLY_LOW, whose condition is present (R154). -/
theorem clearFaults_dark {s : State} (h : s.Dark) {tag : Byte} (htag : tag ≠ 0)
    (hp : (s.fsv.kinds.get .supplyLow).present = true) {r : FaultRecord} (hr : s.recordOf .supplyLow = some r)
    (hst : r.state = .latched) :
    s.completes (.clearFaults tag) fun u =>
      u.recordOf .supplyLow = s.recordOf .supplyLow ∧ u.requested .faultLatched = true ∧
      (Config.faultListReadable = false → u = s) := by
  have hexec : exec (.clearFaults tag) s = .next (s.command (.clearFaults tag) fun u => u.clearFaults tag) := rfl
  rw [command_dark h rfl (faultCommands_framed htag).2] at hexec
  have hk : r.kind = .supplyLow := by simpa using List.find?_some hr
  have hlatched {u : State} (hu : u.recordOf .supplyLow = some r) : u.requested .faultLatched = true :=
    List.any_eq_true.mpr ⟨r, List.mem_of_find?_eq_some hu, by simp [hst]⟩
  refine ⟨_, hexec, ?_⟩
  split
  · next hf =>
    have hrec : ((s.clearFaults tag).answersFirst s.dbi.replies.length).recordOf .supplyLow = some r := by
      have hsettle : s.clearFaults tag = _ := settle_supplyLow h.low
      rw [hsettle]
      change (s.fsv.records.filter s.keepsRecord).find? (fun r => r.kind == .supplyLow) = some r
      refine find?_filter_of_found hr ?_
      simp only [State.keepsRecord, hst, hk, hp]
    exact ⟨hrec.trans hr.symm, hlatched hrec, fun hno => absurd hf (by rw [hno]; decide)⟩
  · exact ⟨rfl, hlatched hr, fun _ => rfl⟩

/-! ## The whole of a supply-low -/

theorem darkened_dark {s : State} (ht : s.dbi.turn = true) (hb : s.dbi.busReset = false) (hf : s.replyFull = false) :
    s.darkened.Dark := by
  obtain ⟨hsame, hdbi, -, -, hccu, hlow, -⟩ := darkened_stands s
  simp only [Prod.mk.injEq] at hsame
  refine ⟨hlow, by rw [hdbi]; exact ht, by rw [hdbi]; exact hb, by rw [hdbi], by rw [hdbi], by rw [hdbi], ?_⟩
  unfold State.replyFull State.reserved
  rw [hdbi, hsame.1, hccu]
  exact hf

theorem darkened_record {s : State} (h : s.recordOf .supplyLow = none) : s.darkened.recordOf .supplyLow =
    some (s.newRecord .supplyLow none .latched (some (fixedRow .supplyLow))) := by
  obtain ⟨-, -, -, -, -, -, hrecs⟩ := darkened_stands s
  have hn : s.fsv.records.find? (fun r => r.kind == .supplyLow) = none := h
  rw [State.recordOf, hrecs, (supplyRecord_fsv h).1, List.find?_append, hn]
  rfl

/-- What a supply-low leaves, in every state (R13, R55, R77, R154, R184). -/
theorem supplyLow_completes (s : State) (hl : s.supplyLow = false) (hr : s.recordOf .supplyLow = none) :
    s.completes .supplyLow fun t =>
      t.supplyLow = true ∧ t.spc.state = .coasting ∧ t.spc.demand = .coast ∧ t.drive = false ∧
      t.pendingStart = false ∧ t.pendingLoad = false ∧
      (s.pos.state ≠ .unloaded → s.pos.state ≠ .retracting → s.pos.parkSensor = false →
        t.pos.state = .retracting ∧ t.pos.causing = some .supplyLow ∧
        t.pos.current = clampTo s.tbs.profile.ilim (-2047)) ∧
      (s.pos.state = .unloaded → t.pos.state = .unloaded) ∧
      t.latchedKind .supplyLow = true ∧ t.requested .faultLatched = true ∧
      t.retryWait = false ∧ t.queue = s.queue ∧ t.dbi.replies = s.dbi.replies ∧
      t.dbi.inb = .idle ∧ t.dbi.out = .none ∧ t.record.op = .idle ∧
      t.record.state = s.record.state ∧ t.record.image = s.record.image ∧
      t.eng.flight = none ∧ t.slots = s.slots ∧ t.ccu.ejector = false ∧
      t.ccu.state = s.ccu.state ∧ t.ccu.latch = s.ccu.latch ∧ t.tbs = s.tbs ∧
      t.counters = s.counters ∧ t.spc.revCount = s.spc.revCount ∧
      t.spc.lastPeriod = s.spc.lastPeriod ∧ t.spc.lockCount = s.spc.lockCount ∧
      t.spc.purgeCount = s.spc.purgeCount ∧ t.spc.excursionCount = s.spc.excursionCount ∧
      t.spc.overcurrentCount = s.spc.overcurrentCount ∧
      t.spc.noRotationCount = s.spc.noRotationCount ∧
      t.spc.spinUpTimeoutCount = s.spc.spinUpTimeoutCount ∧
      t.spc.lostIndexCount = s.spc.lostIndexCount ∧ t.pos.fix = s.pos.fix ∧
      t.pos.head = s.pos.head ∧ t.pos.hold = s.pos.hold ∧
      t.pos.settleCount = s.pos.settleCount ∧ t.pos.dropCount = s.pos.dropCount ∧
      t.pos.unloadFailedCount = s.pos.unloadFailedCount ∧
      t.pos.seekTimeoutCount = s.pos.seekTimeoutCount ∧
      (∀ i : Instr, commandPayload i ≠ none → readsFaultList i = false → exec i t = .next t) ∧
      ∀ tag : Byte, tag ≠ 0 → s.dbi.turn = true → s.dbi.busReset = false → s.replyFull = false →
        (let u := if Config.faultListReadable then { t with dbi := { t.dbi with
            replies := .reply tag .ok (.faults t.fsv.records) :: s.dbi.replies, answers := 1 } } else t
         exec (.readFaults tag) t = .next u ∧
         ∃ v w, exec (.turnNegated .nothing) u = .next v ∧
           v.dbi.out = (if Config.faultListReadable then .queued else .none) ∧
           exec .outboundPacketAcked v = .next w ∧ w.dbi.out = .none ∧
           w.dbi.replies = s.dbi.replies) ∧
        t.completes (.clearFaults tag) fun u =>
          u.recordOf .supplyLow = t.recordOf .supplyLow ∧ u.requested .faultLatched = true ∧
          (Config.faultListReadable = false → u = t) := by
  obtain ⟨hsame, hdbi, hflight, hrec, hccu, hlow, -⟩ := darkened_stands s
  have hspc := darkened_spc s
  obtain ⟨hkept, hretract, hland⟩ := darkened_pos s
  obtain ⟨hpres, hkinds⟩ := darkened_kinds hr
  have hfound := darkened_record hr
  have hdark := darkened_dark (s := s)
  refine ⟨_, exec_supplyLow hl, ?_⟩
  generalize s.darkened = t at *
  simp only [Prod.mk.injEq] at hsame hrec
  obtain ⟨hq, hsl, htb, hcn⟩ := hsame
  obtain ⟨hop, hrst, him⟩ := hrec
  simp only [Positioner.kept, Prod.mk.injEq] at hkept
  obtain ⟨⟨hfix, hhead, hhold, hsettle⟩, hdrop, huf, hst, hload⟩ := hkept
  have hmem := List.mem_of_find?_eq_some hfound
  have hstart : t.pendingStart = false := by
    rw [State.pendingStart, hspc, PerKind.any_eq_false.mpr fun k => (hkinds k).2.1]
    rfl
  have hloads : t.pendingLoad = false := by
    rw [State.pendingLoad, hload, PerKind.any_eq_false.mpr fun k => (hkinds k).2.2]
    rfl
  have hwait : t.retryWait = false := PerKind.any_eq_false.mpr fun k => by rw [(hkinds k).1]; rfl
  refine ⟨hlow, by rw [hspc], by rw [hspc], by rw [State.drive, hspc]; rfl, hstart, hloads, hretract, hland,
    List.any_eq_true.mpr ⟨_, hmem, rfl⟩, List.any_eq_true.mpr ⟨_, hmem, rfl⟩, hwait, hq, by rw [hdbi], by rw [hdbi],
    by rw [hdbi], hop, hrst, him, hflight, hsl, by rw [hccu], by rw [hccu], by rw [hccu], htb, hcn, by rw [hspc],
    by rw [hspc], by rw [hspc], by rw [hspc], by rw [hspc], by rw [hspc], by rw [hspc], by rw [hspc], by rw [hspc],
    hfix, hhead, hhold, hsettle, hdrop, huf, hst, fun i hi hno => ?_, fun tag htag ht hb hf => ⟨?_, ?_⟩⟩
  · obtain ⟨act, hact⟩ := exec_command hi
    rw [hact, command_low hlow hno]
  · have h := hdark ht hb hf
    have hreplies : t.dbi.replies = s.dbi.replies := by rw [hdbi]
    have hread := exec_readFaults_dark h htag
    rw [hreplies] at hread
    refine ⟨hread, ?_⟩
    rw [← hreplies]
    split
    · next hrd => exact answer_sent h _ hrd
    · next hrd => exact nothing_sent h (by simpa using hrd)
  · exact clearFaults_dark (hdark ht hb hf) htag hpres hfound rfl

end Sys2Proof.Machine
end

section
/-! OVER_TEMP_SHUTDOWN and its end (R143, R155): in a calm drive, and where it ends the work of SPIN UP that a FLUSH
RECORD waits for (R99). -/

namespace Sys2Proof.Machine

/-! ## The shutdown in a calm drive -/

theorem exec_overTempShutdown (s : State) :
    exec .overTempShutdown s = .next (s.recognise .overTempShutdown none).event := rfl

/-- The record of the shutdown is made, and its row acts (R155). -/
theorem recognise_overTemp {s : State} (h : s.recordOf .overTempShutdown = none) :
    s.recognise .overTempShutdown none =
      (((s.nowPresent .overTempShutdown).onFsv fun v => { v with
        records := v.records ++ [s.newRecord .overTempShutdown none .latched (some (fixedRow .overTempShutdown))] }).endRetry
          .overTempShutdown).act .overTempShutdown (fixedRow .overTempShutdown) true := by
  have h' : (s.nowPresent .overTempShutdown).recordOf .overTempShutdown = none := h
  rw [recognise_latch h rfl, State.latchFault, putRecord_of_none h']
  rfl

/-- The way off the disk leaves the condition of the shutdown. -/
theorem unloadRequest_overTemp {s : State} (hj : s.job ≠ .seeking ∧ s.job ≠ .transfer) (ho : s.record.op = .idle)
    (ht : s.pos.state = .tracking) (hp : s.pos.parkSensor = false) :
    (s.unloadRequest.fsv.kinds.get .overTempShutdown).present = (s.fsv.kinds.get .overTempShutdown).present := by
  have he : s.unloadRequest = (s.withdrawLoads.onPos fun p => { p with requester := .none }).enterToCylinder0 := by
    have ht' : s.withdrawLoads.pos.state = .tracking := ht
    have hf := seekFailed_of_unsought (s := s.withdrawLoads) hj ho false
    simp [State.unloadRequest, State.beginUnload, ht', hf]
  have hw : ((s.withdrawLoads.onPos fun p => { p with requester := .none }).fsv.kinds.get .overTempShutdown).present =
      (s.fsv.kinds.get .overTempShutdown).present := by simp [State.withdrawLoads]
  have hpark : (s.withdrawLoads.onPos fun p => { p with requester := .none }).pos.parkSensor = false := hp
  rw [he, ← hw]
  generalize (s.withdrawLoads.onPos fun p => { p with requester := .none }) = u at *
  unfold State.enterToCylinder0
  extract_lets len t
  have htp : t.pos.parkSensor = false := hpark
  have htk : t.fsv = u.fsv := rfl
  clear_value t
  split
  · rw [enterToRamp_of_away htp, State.beginToRamp, State.leaveSeekLaw, absent_get]
    exact congrArg (fun v => (v.kinds.get .overTempShutdown).present) htk
  · rw [htk]

theorem overTemp_completes {s : State} (h : s.Calm) (hs : s.spc.state = .atSpeed) (ht : s.pos.state = .tracking)
    (hp : s.pos.parkSensor = false) (hd : s.spc.demand = .none) (hr : s.recordOf .overTempShutdown = none) :
    s.completes .overTempShutdown fun t =>
      t.latchedKind .overTempShutdown = true ∧ t.requested .faultLatched = true ∧
      (t.fsv.kinds.get .overTempShutdown).present = true ∧ t.spc.state = .coasting ∧
      t.spc.demand = .dynamic ∧ t.spc.brakePending = true ∧ t.pos.state = .unloading ∧
      t.ccu = s.ccu ∧ t.dbi = s.dbi ∧ t.queue = s.queue ∧ t.slots = s.slots ∧ t.tbs = s.tbs ∧
      t.record.state = s.record.state ∧ t.record.image = s.record.image := by
  obtain ⟨m, hm⟩ : ∃ m, m = ((s.nowPresent .overTempShutdown).onFsv fun v => { v with
      records := v.records ++ [s.newRecord .overTempShutdown none .latched (some (fixedRow .overTempShutdown))] }).endRetry
        .overTempShutdown := ⟨_, rfl⟩
  have hmf : s.OnlyFsv m := by rw [hm]; rfl
  have hmi : m.Idle := hmf.onlyHeads.idle h.toIdle
  have hmrec : s.newRecord .overTempShutdown none .latched (some (fixedRow .overTempShutdown)) ∈ m.fsv.records := by
    rw [hm]
    simp
  have hmpres : (m.fsv.kinds.get .overTempShutdown).present = true := by
    rw [hm, State.endRetry, onKind_get]
    simp [State.nowPresent, onKind_get]
  have hexec := exec_overTempShutdown s
  rw [recognise_overTemp hr, ← hm] at hexec
  -- the row's requests: a braking that waits for the heads, and their unload
  obtain ⟨c, hc⟩ : ∃ c, c = m.cancelRestarts.leavePowered .coasting true .dynamic := ⟨_, rfl⟩
  have hact : m.act .overTempShutdown (fixedRow .overTempShutdown) true = c.unloadRequest := by
    have hpow : m.cancelRestarts.spc.state.powered = true := by
      rw [State.cancelRestarts_spc, hmf.spc, hs]
      rfl
    have hcomb : m.cancelRestarts.spc.demand.combine .dynamic = .dynamic := by
      rw [State.cancelRestarts_spc, hmf.spc, hd]
      rfl
    have hoff : m.cancelRestarts.pos.state ≠ .unloaded := by
      rw [State.cancelRestarts_pos, hmf.pos, ht]
      decide
    have hstop : m.cancelRestarts.stopRequest .dynamic = c := by
      rw [stopRequest_of_powered hpow, hcomb, if_neg (by decide), if_neg hoff, hc]
    rw [act_of_idle hmi]
    change (m.cancelRestarts.stopRequest .dynamic).unloadRequest = _
    rw [hstop]
  have hmech := (act_mechanical hmi .overTempShutdown (fixedRow .overTempShutdown) true)
  have hcpos : c.pos = s.pos := by
    rw [hc, leavePowered_onlyDisk]
    exact hmf.pos
  have hcdisk : m.cancelRestarts.OnlyDisk c := by rw [hc]; exact leavePowered_onlyDisk ..
  have hcccu : c.ccu = s.ccu := by
    rw [hcdisk]
    exact hmf.ccu
  have hcspc : c.spc.state = .coasting ∧ c.spc.demand = .dynamic ∧ c.spc.brakePending = true := by
    rw [hc, leavePowered_spc]
    exact ⟨rfl, rfl, rfl⟩
  have hcpres : (c.fsv.kinds.get .overTempShutdown).present = true := by
    rw [hc, State.leavePowered, absents_get_of_not_mem (by decide)]
    change ((m.cancelRestarts).fsv.kinds.get .overTempShutdown).present = true
    simpa [State.cancelRestarts] using hmpres
  have hci : c.Idle := by
    rw [hc]
    exact hmi.cancelRestarts.leavePowered _ _ _
  have hjob : c.job ≠ .seeking ∧ c.job ≠ .transfer := by simp [hci.job]
  obtain ⟨hheads, hland⟩ := unloadRequest_of_tracking hjob hci.op (by rw [hcpos]; exact ht) (by rw [hcpos]; exact hp)
  have hpres := unloadRequest_overTemp hjob hci.op (by rw [hcpos]; exact ht) (by rw [hcpos]; exact hp)
  rw [hact] at hexec hmech
  generalize c.unloadRequest = t at *
  have hquiet : react t = none := by
    have hst : t.spc.state = .coasting := by rw [hheads.spc]; exact hcspc.1
    have hccu : t.ccu = s.ccu := hheads.ccu.trans hcccu
    simp [react_of_idle hmech.idle, mechanical, reactOwnUnload, reactStopCheck, reactRelease, reactBrake, reactStart,
      reactLoad, guarded, State.atRest, State.loadAllowed, hst, hland, hccu, h.noCheck, h.noRelease, PosState.flying]
  have hhost := hmech.hostSide.trans hmf.hostSide
  obtain ⟨hdbi, hqueue, -, -, hslots, htbs, hrecord, -⟩ := keepsHost_of_hostSide hhost
  rw [event_of_quiet hquiet (h.toHosted.of_hostSide hhost)] at hexec
  have hmem : s.newRecord .overTempShutdown none .latched (some (fixedRow .overTempShutdown)) ∈ t.fsv.records := by
    rw [hmech.records]
    exact hmrec
  refine ⟨t, hexec, List.any_eq_true.mpr ⟨_, hmem, rfl⟩, List.any_eq_true.mpr ⟨_, hmem, rfl⟩, hpres.trans hcpres, ?_, ?_, ?_,
    hland, hheads.ccu.trans hcccu, hdbi, hqueue, hslots, htbs, by rw [hrecord], by rw [hrecord]⟩
  · rw [hheads.spc]
    exact hcspc.1
  · rw [hheads.spc]
    exact hcspc.2.1
  · rw [hheads.spc]
    exact hcspc.2.2

/-- The end of the report makes the condition absent, and nothing else (R143). -/
theorem overTempCeases_completes (s : State) (k : FaultKind) : s.completes .overTempShutdownCeases fun t =>
    (t.fsv.kinds.get .overTempShutdown).present = false ∧
    (k ≠ .overTempShutdown → t.fsv.kinds.get k = s.fsv.kinds.get k) ∧
    t = { s with fsv := { s.fsv with kinds := t.fsv.kinds } } := by
  refine ⟨s.absent .overTempShutdown, rfl, ?_, fun hk => ?_, rfl⟩
  · rw [absent_get]
    rfl
  · rw [absent_get, if_neg hk]

/-! ## A work of SPIN UP that the shutdown ends -/

/-- The head entry's own: its job, its pending ending, its work; and the parts of `ledger`. -/
def State.desk (s : State) := (s.ledger, s.job, s.endWith, s.work)

@[simp] theorem State.onPos_desk (f : Positioner → Positioner) (s : State) : (s.onPos f).desk = s.desk := rfl
@[simp] theorem State.onSpc_desk (f : Spindle → Spindle) (s : State) : (s.onSpc f).desk = s.desk := rfl
@[simp] theorem State.absent_desk (k : FaultKind) (s : State) : (s.absent k).desk = s.desk := rfl
@[simp] theorem State.cancelRestarts_desk (s : State) : s.cancelRestarts.desk = s.desk := rfl
@[simp] theorem State.withdrawLoads_desk (s : State) : s.withdrawLoads.desk = s.desk := rfl
@[simp] theorem State.leaveSeekLaw_desk (s : State) : s.leaveSeekLaw.desk = s.desk := rfl
@[simp] theorem State.beginToRamp_desk (s : State) : s.beginToRamp.desk = s.desk := rfl

@[simp] theorem State.absents_desk (l : List FaultKind) (s : State) : (s.absents l).desk = s.desk := by
  unfold State.absents
  induction l generalizing s with
  | nil => rfl
  | cons k l ih => exact (ih _).trans (s.absent_desk k)

@[simp] theorem State.leavePowered_desk (st : SpindleState) (brake : Bool) (d : StopDemand) (s : State) :
    (s.leavePowered st brake d).desk = s.desk := by
  simp [State.leavePowered]

@[simp] theorem State.stopRequest_desk (d : StopDemand) (s : State) : (s.stopRequest d).desk = s.desk := by
  unfold State.stopRequest
  dsimp only
  repeat' split
  all_goals simp

@[simp] theorem State.enterUnloaded_desk (s : State) : s.enterUnloaded.desk = s.desk := by
  unfold State.enterUnloaded
  exact (State.absents_desk _ _)

@[simp] theorem State.enterToRamp_desk (s : State) : s.enterToRamp.desk = s.desk := by
  unfold State.enterToRamp State.rampReached
  split <;> simp

@[simp] theorem State.enterToCylinder0_desk (s : State) : s.enterToCylinder0.desk = s.desk := by
  unfold State.enterToCylinder0
  dsimp only
  split <;> simp

/-- An unload that nobody waits for with a seek leaves the head entry alone. -/
theorem unloadRequest_desk {s : State} (hj : s.job ≠ .seeking ∧ s.job ≠ .transfer) (ho : s.record.op = .idle) :
    s.unloadRequest.desk = s.desk := by
  have hfail := seekFailed_of_unsought (s := s.withdrawLoads) hj ho false
  unfold State.unloadRequest State.beginUnload
  rw [hfail]
  split <;> simp

/-- A work of SPIN UP that a fault ends for a FLUSH RECORD completes it (R49, R99). -/
theorem workMeetsFault_flush {s : State} {e : Entry} {w : SpinUpWork} (hq : s.queue = [e]) (hc : e.cmd = .flush)
    (hx : e.executing = true) (he : s.endWith = none) (hw : s.work = some w) (hf : w.forCmd = true)
    (ho : s.record.op = .idle) : ∃ c, c = ((s.setWork none).withdrawWork).completeHead (flushCode .faulted) ∧
      Remains false c s.workMeetsFault ∧ Evolves c s.workMeetsFault := by
  obtain ⟨c, hcdef⟩ : ∃ c, c = ((s.setWork none).withdrawWork).completeHead (flushCode .faulted) := ⟨_, rfl⟩
  have hreading : s.recordReading = false := by simp [State.recordReading, ho]
  have hhead : ((s.setWork none).withdrawWork).workEndsHead .faulted = c := by
    have he' : ((s.setWork none).withdrawWork).endWith = none := he
    have hex : ((s.setWork none).withdrawWork).executing = some e := by
      have hq' : ((s.setWork none).withdrawWork).queue = [e] := hq
      simp [State.executing, hq', hx]
    rw [hcdef]
    simp [State.workEndsHead, he', hex, hc]
  have hwork : s.workMeetsFault =
      let t := if w.forStandby then c.workEndsFor .standby .faulted else c
      let u := if w.forOrphan then t.workEndsFor .orphan .faulted else t
      if w.forEject then u.workEndsFor .eject .faulted else u := by
    have hcmd : ((s.setWork none).withdrawWork).workEndsFor .cmd .faulted = c := hhead
    simp only [State.workMeetsFault, hw, hreading, State.endWork, hf, if_true, Bool.false_eq_true, if_false, hcmd]
  refine ⟨c, hcdef, ?_, ?_⟩ <;> rw [hwork]
  · have h0 := Remains.refl (b := false) c
    have h1 := Remains.ite (c := w.forStandby = true) (fun _ => h0.workEndsFor .standby .faulted) fun _ => h0
    have h2 := Remains.ite (c := w.forOrphan = true) (fun _ => h1.workEndsFor .orphan .faulted) fun _ => h1
    exact .ite (fun _ => h2.workEndsFor .eject .faulted) fun _ => h2
  · have h0 := Evolves.refl c
    have h1 := Evolves.ite (c := w.forStandby = true) (fun _ => h0.workEndsFor .standby .faulted) fun _ => h0
    have h2 := Evolves.ite (c := w.forOrphan = true) (fun _ => h1.workEndsFor .orphan .faulted) fun _ => h1
    exact .ite (fun _ => h2.workEndsFor .eject .faulted) fun _ => h2

theorem hasDone_of_prefix {s t : State} {tag : Byte} {st : Status} (h : s.dbi.replies <+: t.dbi.replies)
    (hd : s.hasDone tag st = true) : t.hasDone tag st = true := by
  obtain ⟨l, hl⟩ := h
  rw [State.hasDone, ← hl, List.any_append]
  rw [State.hasDone] at hd
  rw [hd, Bool.true_or]

/-- The interface after an event takes no reply back. -/
theorem commit_replies (s : State) : s.dbi.replies <+: s.commit.dbi.replies := by
  have hstart (t : State) : t.startOutbound.dbi.replies = t.dbi.replies := by
    unfold State.startOutbound
    repeat' split
    all_goals rfl
  rw [State.commit, hstart]
  unfold State.releaseWaiting
  split
  · split
    · unfold State.headerStep
      split
      · exact List.prefix_append _ _
      · exact List.prefix_rfl
    · exact List.prefix_rfl
  · exact List.prefix_rfl

theorem latchedKind_of_first {s : State} {k : FaultKind} (h : s.firstLatched k = true) : s.latchedKind k = true := by
  rw [State.firstLatched, Option.any_eq_true] at h
  obtain ⟨r, hr, hst⟩ := h
  have hk := List.find?_some hr
  exact List.any_eq_true.mpr ⟨r, List.mem_of_find?_eq_some hr, by rw [hk, hst]; rfl⟩

/-- A FLUSH RECORD whose work of SPIN UP the shutdown ends completes, and the record stays DIRTY (R99, R11). -/
theorem overTemp_flush {s : State} {e : Entry} {w : SpinUpWork} (hl : s.supplyLow = false)
    (hr : s.recordOf .overTempShutdown = none) (hq : s.queue = [e]) (hc : e.cmd = .flush) (hx : e.executing = true)
    (hj : s.job = .work) (he : s.endWith = none) (hw : s.work = some w) (hf : w.forCmd = true)
    (ho : s.record.op = .idle) (hn : s.needsWriteBack = true) (hej : s.ccu.eject = none) :
    s.completes .overTempShutdown fun t =>
      t.queue = [] ∧ t.latchedKind .overTempShutdown = true ∧ t.record.state = .dirty ∧
      t.record.image = s.record.image ∧
      t.hasDone e.tag (if Config.flushTakesWorkCode then .faulted else .recordWriteFailed) = true := by
  have hexec := exec_overTempShutdown s
  rw [recognise_overTemp hr] at hexec
  obtain ⟨m, hm⟩ : ∃ m, m = ((s.nowPresent .overTempShutdown).onFsv fun v => { v with
      records := v.records ++ [s.newRecord .overTempShutdown none .latched (some (fixedRow .overTempShutdown))] }).endRetry
        .overTempShutdown := ⟨_, rfl⟩
  rw [← hm] at hexec
  have hmf : s.OnlyFsv m := by rw [hm]; rfl
  have hfirst : m.firstLatched .overTempShutdown = true := by
    have hnone : s.fsv.records.find? (fun r => r.kind == .overTempShutdown) = none := hr
    have hrecs : m.fsv.records =
        s.fsv.records ++ [s.newRecord .overTempShutdown none .latched (some (fixedRow .overTempShutdown))] := by
      rw [hm]
      rfl
    rw [State.firstLatched, State.recordOf, hrecs, List.find?_append, hnone]
    rfl
  -- the requests of the row leave the head entry
  obtain ⟨v, hv⟩ : ∃ v, v = (m.cancelRestarts.stopRequest .dynamic).unloadRequest := ⟨_, rfl⟩
  have hmjob : m.job = .work := by rw [hmf]; exact hj
  have hmop : m.record.op = .idle := by rw [hmf]; exact ho
  have hdesk : v.desk = m.desk := by
    have hstop : (m.cancelRestarts.stopRequest .dynamic).desk = m.desk := by simp
    have hsj : (m.cancelRestarts.stopRequest .dynamic).job = .work := (congrArg (fun x => x.2.1) hstop).trans hmjob
    have hso : (m.cancelRestarts.stopRequest .dynamic).record.op = .idle :=
      (congrArg (fun x => x.1.op) hstop).trans hmop
    rw [hv, unloadRequest_desk (by simp [hsj]) hso, hstop]
  simp only [State.desk, Prod.mk.injEq] at hdesk
  obtain ⟨hled, -, hvend, hvwork⟩ := hdesk
  have hvq : v.queue = [e] := by
    have := congrArg Ledger.queue hled
    rw [State.ledger_queue, State.ledger_queue, hmf] at this
    exact this.trans hq
  have hvop : v.record.op = .idle := (congrArg Ledger.op hled).trans hmop
  have hvlow : v.supplyLow = false := by
    have : v.supplyLow = m.supplyLow := congrArg Ledger.supplyLow hled
    rw [this, hmf]
    exact hl
  have hvrec : v.record.state = s.record.state ∧ v.record.image = s.record.image := by
    have h1 : v.record.state = m.record.state := congrArg Ledger.recordState hled
    have h2 : v.record.image = m.record.image := congrArg Ledger.image hled
    rw [h1, h2, hmf]
    exact ⟨rfl, rfl⟩
  have hveject : v.ccu.eject = none := by
    have : v.ccu.eject.map EjectRecord.tags = m.ccu.eject.map EjectRecord.tags := congrArg Ledger.tags hled
    rw [hmf.ccu, hej] at this
    exact Option.map_eq_none_iff.mp this
  have hact : m.act .overTempShutdown (fixedRow .overTempShutdown) true =
      v.workMeetsFault.headMeetsFault.downsMeetFault true := by
    have heject : v.ejectRetracts .overTempShutdown = v := by simp [State.ejectRetracts, hveject]
    have hlost : v.recordOpLost = false := by simp [State.recordOpLost, hvop]
    change (((m.cancelRestarts.stopRequest .dynamic).unloadRequest).ejectRetracts .overTempShutdown).meetFault true = _
    rw [← hv, heject, State.meetFault, hvlow, if_neg (by decide), hlost]
    rfl
  -- the work ends, and with it the entry
  obtain ⟨c, hcdef, hrem, hevo⟩ := workMeetsFault_flush hvq hc hx (by rw [hvend, hmf]; exact he)
    (by rw [hvwork, hmf]; exact hw) hf hvop
  obtain ⟨hcq, hcr, -, -, -, -, -, hcrec, -⟩ := completeHead_frame (u := (v.setWork none).withdrawWork) hvq rfl (flushCode .faulted)
  rw [← hcdef] at hcq hcr hcrec
  have hrem' := (hrem.headMeetsFault.downsMeetFault true)
  have hevo' := (hevo.headMeetsFault.downsMeetFault true)
  have hlatch := (Remains.refl (b := false) m).act .overTempShutdown (fixedRow .overTempShutdown) true |>.latched _ hfirst
  rw [hact] at hexec hlatch
  generalize v.workMeetsFault.headMeetsFault.downsMeetFault true = x at *
  obtain ⟨hxq, hxrec, -⟩ := hrem'.unqueued hcq
  have hset := (Remains.refl (b := true) x).settle
  obtain ⟨htq, htrec, -⟩ := hset.unqueued hxq
  have hparts := commit_parts x.settle
  simp only [Prod.mk.injEq] at hxrec htrec
  refine ⟨_, hexec, ?_, ?_, ?_, ?_, ?_⟩
  · change x.settle.commit.queue = []
    rw [hparts]
    exact htq
  · change x.settle.commit.latchedKind .overTempShutdown = true
    rw [hparts]
    exact latchedKind_of_first (hset.latched _ hlatch)
  · change x.settle.commit.record.state = .dirty
    rw [hparts]
    simp only [State.needsWriteBack, Bool.and_eq_true, beq_iff_eq] at hn
    have hrest : c.record.state = v.record.state := by rw [hcrec]; rfl
    rw [htrec.1, hxrec.1, hrest, hvrec.1, hn.1]
  · change x.settle.commit.record.image = s.record.image
    rw [hparts]
    have hrest : c.record.image = v.record.image := by rw [hcrec]; rfl
    rw [htrec.2, hxrec.2, hrest, hvrec.2]
  · change x.settle.commit.hasDone e.tag (flushCode .faulted) = true
    refine hasDone_of_prefix (commit_replies _) (hasDone_of_prefix (Evolves.settle (.refl x)).replies
      (hasDone_of_prefix hevo'.replies ?_))
    rw [State.hasDone, hcr]
    simp

/-! ## The obligation -/

/-- Settles O59. -/
theorem comparators : Obligations.Comparators := by
  refine ⟨supplyLow_completes, fun s k => ⟨fun hcalm hs ht hp hd hr => ?_, overTempCeases_completes s k⟩,
    fun s e w hl hr hq hc hx hj he hw hf ho hn hej => ?_⟩
  · exact overTemp_completes (calm_iff.mp hcalm) hs ht hp hd hr
  · exact overTemp_flush hl hr hq hc hx hj he hw hf ho hn hej

end Sys2Proof.Machine
end

section
/-! The servo samples on the way of the heads to a block: the first one of a load, an overshoot, a drop that is
recognized, and a clamped computation (R60, R63, R66, R84, R145). -/

namespace Sys2Proof.Machine

/-! ## The first sample of a load -/

/-- The heads have met their first valid sample in LOADING, and settle on its cylinder (R63, R65). -/
def State.landedOn (c : Nat) (pes : Int) (s : State) : State := (s.sampled c pes).onPos fun p => { p with
  state := .settling, target := some c, loadWindows := 0,
  settleCount := if pes.natAbs ≤ s.tbs.params.settleWindow then 1 else 0
  current := clampTo s.tbs.profile.ilim (-Int.tdiv (s.tbs.profile.kp * pes) 16) }

theorem landedOn_steers (c : Nat) (pes : Int) (s : State) : s.Steers (s.landedOn c pes) :=
  (sampled_steers c pes s).onPos rfl

theorem landedOn_pos (c : Nat) (pes : Int) (s : State) : (s.landedOn c pes).pos = { s.pos with
    window := .taken, fix := some (Fix.next s.pos.fix c pes), dropCount := 0, state := .settling, target := some c,
    loadWindows := 0, settleCount := if pes.natAbs ≤ s.tbs.params.settleWindow then 1 else 0
    current := clampTo s.tbs.profile.ilim (-Int.tdiv (s.tbs.profile.kp * pes) 16) } := rfl

theorem takeSample_loading {s : State} {c h : Nat} {pes : Int} (hp : s.pos.state = .loading)
    (hw : s.pos.window = .waiting) (hh : s.pos.head = h) (hlow : -128 ≤ pes) (hhigh : pes ≤ 127)
    (hn : 1 < s.tbs.params.settleCount) : s.takeSample true c h pes = s.landedOn c pes := by
  have htakes : s.takesSamples = true := by simp [State.takesSamples, hp]
  have hwithin : withinHalfTrack (Fix.next s.pos.fix c pes).cylinder (Fix.next s.pos.fix c pes).position = true := by
    rw [next_cylinder, next_position]
    exact withinHalfTrack_on hlow hhigh
  rw [takeSample_valid htakes hw hh, validSample_eq, hp]
  dsimp only
  rw [settleSample_on (by rw [next_cylinder]; rfl) hwithin, next_cylinder, followCurrent_on, next_pes, State.settleStep]
  have hcount : (((s.sampled c pes).onPos fun p => { p with
      state := .settling, target := some c, settleCount := 0, loadWindows := 0 }).goodCount pes) =
      if pes.natAbs ≤ s.tbs.params.settleWindow then 1 else 0 := rfl
  rw [hcount, if_neg]
  · rfl
  · change ¬ s.tbs.params.settleCount ≤ _
    split <;> omega

theorem firstSample_completes {s : State} {c h : Nat} {pes : Int} (hc : s.Calm) (hs : s.spc.state = .atSpeed)
    (hw : s.pos.window = .waiting) (hh : s.pos.head = h) (hlow : -128 ≤ pes) (hhigh : pes ≤ 127)
    (hp : s.pos.state = .loading) (hf : s.pos.fix = none) (hn : 1 < s.tbs.params.settleCount) :
    s.completes (.servoSample true c h pes) fun t =>
      t.pos.state = .settling ∧ t.pos.target = some c ∧ t.pos.timerOn = s.pos.timerOn ∧
      t.pos.settleCount = (if pes.natAbs ≤ s.tbs.params.settleWindow then 1 else 0) ∧
      t.pos.fix = some ⟨c, pes, c * 256 + pes, c * 256 + pes, 0, 1⟩ ∧
      t.pos.current = clampTo s.tbs.profile.ilim (-Int.tdiv (s.tbs.profile.kp * pes) 16) ∧
      s.keepsHost t ∧ t.spc = s.spc ∧ t.ccu = s.ccu ∧ t.counters = s.counters := by
  have hexec := exec_servoSample true c h pes s
  have hsteers := landedOn_steers c pes s
  have hheads := hsteers.heads
  rw [takeSample_loading hp hw hh hlow hhigh hn] at hexec
  refine completes_of_calm hexec (hc.steers hs hsteers) ?_
  rw [landedOn_pos, hf]
  exact ⟨rfl, rfl, rfl, rfl, rfl, rfl, keepsHost_of_hostSide hheads.hostSide, hheads.spc, hheads.ccu, hheads.counters⟩

/-! ## An overshoot -/

/-- A sample in SETTLING half a track away from the target seeks again, under the timer that runs (R66). -/
def State.overshot (s : State) : State :=
  if s.pos.timerOn then s.onPos fun p => { p with state := .seeking, settleCount := 0 }
  else (s.onPos fun p => { p with state := .seeking, settleCount := 0 }).startSeekTimer

theorem overshot_steers (s : State) : s.Steers s.overshot := by
  have h : s.Steers (s.onPos fun p => { p with state := .seeking, settleCount := 0 }) := (State.Steers.refl s).onPos rfl
  unfold State.overshot
  split
  · exact h
  · exact h.trans (startSeekTimer_steers _)

theorem overshot_pos (s : State) : s.overshot.pos.state = .seeking ∧ s.overshot.pos.target = s.pos.target ∧
    s.overshot.pos.timerOn = true ∧ s.overshot.pos.timerCount = (if s.pos.timerOn then s.pos.timerCount else 0) ∧
    s.overshot.pos.clampCount = s.pos.clampCount := by
  unfold State.overshot
  split
  · next h => exact ⟨rfl, rfl, h, rfl, rfl⟩
  · exact ⟨rfl, rfl, rfl, rfl, rfl⟩

theorem settleSample_overshoot {s : State} {f : Fix} {t : Nat} (ht : s.pos.target = some t)
    (hw : withinHalfTrack t f.position = false) (hh : s.pos.hold = false) :
    s.settleSample f = s.overshot.seekCompute := by
  simp only [State.settleSample, ht, hw, hh, Bool.false_eq_true, if_false]
  rfl

theorem overshoot_completes {s : State} {c h target : Nat} {pes : Int} (hc : s.Calm) (hs : s.spc.state = .atSpeed)
    (hw : s.pos.window = .waiting) (hh : s.pos.head = h) (hp : s.pos.state = .settling) (hhold : s.pos.hold = false)
    (ht : s.pos.target = some target) (hfar : 128 < ((target : Int) * 256 - (c * 256 + pes)).natAbs)
    (hclamp : s.pos.clampCount = 0) (hd : 1 < s.tbs.actions.actuatorSaturation.deglitch) :
    s.completes (.servoSample true c h pes) fun t =>
      t.pos.state = .seeking ∧ t.pos.target = some target ∧ t.pos.timerOn = true ∧
      t.pos.timerCount = (if s.pos.timerOn then s.pos.timerCount else 0) ∧
      s.keepsHost t ∧ t.spc = s.spc ∧ t.ccu = s.ccu ∧ t.counters = s.counters := by
  have htakes : s.takesSamples = true := by simp [State.takesSamples, hp]
  have hsteers := sampled_steers c pes s
  have hpos := sampled_pos c pes s
  have hexec := exec_servoSample true c h pes s
  have hnot : withinHalfTrack target (Fix.next s.pos.fix c pes).position = false := by
    rw [next_position]
    exact decide_eq_false (Nat.not_le_of_lt hfar)
  rw [takeSample_valid htakes hw hh, validSample_eq, hp] at hexec
  dsimp only at hexec
  rw [settleSample_overshoot (by rw [hpos]; exact ht) hnot (by rw [hpos]; exact hhold)] at hexec
  generalize s.sampled c pes = u at *
  obtain ⟨hstate, htarget, hon, hcount, hzero⟩ := overshot_pos u
  have hall := hsteers.trans (overshot_steers u)
  obtain ⟨hlast, i, n, hlpos⟩ := seekCompute_steers (s := u.overshot) (by rw [hzero, hpos]; exact hclamp)
    (by rw [tbs_of_hostSide hall.heads.hostSide]; exact hd)
  have hend := hall.trans hlast
  refine completes_of_calm hexec (hc.steers hs hend) ?_
  rw [hlpos]
  refine ⟨hstate, ?_, hon, ?_, keepsHost_of_hostSide hend.heads.hostSide, hend.heads.spc, hend.heads.ccu,
    hend.heads.counters⟩
  · rw [← ht]
    exact htarget.trans (by rw [hpos])
  · refine hcount.trans ?_
    rw [hpos]

/-! ## A recognition while the heads follow or seek -/

/-- A kind recognized under REPORT, with no record before: a REPORTED record at the end of the list (R145). -/
def State.reported (k : FaultKind) (sub : Option SubCause) (s : State) : State :=
  ((s.nowPresent k).onFsv fun v => { v with
    records := v.records ++ [s.newRecord k sub .reported none] }).request .faultReported

theorem State.Calm.reported {s : State} (h : s.Calm) (k : FaultKind) (sub : Option SubCause) :
    (s.reported k sub).Calm := by
  have hp := h.nowPresent k
  have hlist : ((s.nowPresent k).onFsv fun v => { v with
      records := v.records ++ [s.newRecord k sub .reported none] }).Calm := hp.onFsv hp.wants
  exact hlist.of_motion (State.request_affairs _ _) rfl

theorem reported_shows (k : FaultKind) (sub : Option SubCause) (s : State) :
    (s.reported k sub).fsv.records = s.fsv.records ++ [s.newRecord k sub .reported none] ∧
    ((s.reported k sub).fsv.kinds.get k).present = true ∧ (s.reported k sub).requested .faultReported = true := by
  refine ⟨rfl, ?_, by simp [State.reported, State.requested]⟩
  change ((s.fsv.kinds.set k _).get k).present = true
  rw [PerKind.get_set]

/-- The heads after a dropped sample that is recognized (R60). -/
def State.lost (s : State) : State := (s.onPos fun p => { p with
  fix := p.fix.map Fix.drop, dropCount := 0, settleCount := if p.state = .settling then 0 else p.settleCount }).countDrop

/-- Drops that reach the deglitch count are SERVO_LOST, but in LOADING (R60, R86). -/
theorem dropSample_lost {s : State} (hp : s.pos.state ≠ .loading)
    (hd : s.deglitch .servoLost ≤ satAdd 255 s.pos.dropCount 1) : s.dropSample = s.lost.recognise .servoLost none := by
  have hraise : (!(s.pos.state == .loading) && decide (s.deglitch .servoLost ≤ satAdd 255 s.pos.dropCount 1)) =
      true := by simp [hp, hd]
  unfold State.dropSample
  simp only [hraise, if_true, beq_iff_eq]
  rfl

theorem lost_completes {s : State} {f : Fix} (c h : Nat) (pes : Int) (hc : s.Calm) (hs : s.spc.state = .atSpeed)
    (hw : s.pos.window = .waiting) (hp : s.pos.state = .tracking ∨ s.pos.state = .seeking) (hf : s.pos.fix = some f)
    (hd : s.tbs.actions.servoLost.deglitch ≤ min 255 (s.pos.dropCount + 1))
    (hm : s.tbs.actions.servoLost.mode = .report) (hr : s.recordOf .servoLost = none) :
    s.completes (.servoSample false c h pes) fun t =>
      t.fsv.records = s.fsv.records ++ [⟨.servoLost, .reported, none, 1, s.spc.revCount,
        s.spc.revCount, some f.cylinder, .atSpeed, s.pos.state, 0, none⟩] ∧
      t.requested .faultReported = true ∧ (t.fsv.kinds.get .servoLost).present = true ∧
      t.pos = { s.pos with
        fix := some { f with since := min 255 (f.since + 1) }, window := .taken, dropCount := 0 } ∧
      t.counters = { s.counters with sampleDrops := min 65535 (s.counters.sampleDrops + 1) } ∧
      s.keepsHost t ∧ t.spc = s.spc ∧ t.ccu = s.ccu := by
  obtain ⟨htakes, hnl, hns⟩ : s.takesSamples = true ∧ s.pos.state ≠ .loading ∧ s.pos.state ≠ .settling := by
    rcases hp with hp | hp <;> simp [State.takesSamples, hp]
  have hexec := exec_servoSample false c h pes s
  obtain ⟨v, hv⟩ : ∃ v, v = (s.onPos fun p => { p with window := .taken }).lost := ⟨_, rfl⟩
  have hvpos : v.pos = { s.pos with
      fix := some { f with since := min 255 (f.since + 1) }, window := .taken, dropCount := 0 } := by
    have hsettle : (if s.pos.state = .settling then 0 else s.pos.settleCount) = s.pos.settleCount := if_neg hns
    have hdrop : s.pos.fix.map Fix.drop = some { f with since := min 255 (f.since + 1) } := by
      rw [hf]
      rfl
    have hlast : (s.onPos fun p => { p with window := .taken }).lost.pos = { s.pos with
      fix := s.pos.fix.map Fix.drop, window := .taken, dropCount := 0,
      settleCount := if s.pos.state = .settling then 0 else s.pos.settleCount } := rfl
    rw [hv, hlast, hsettle, hdrop]
  obtain ⟨hvcnt, hvspc, hvccu, hvhost, hvrec⟩ : v.counters = { s.counters with
      sampleDrops := min 65535 (s.counters.sampleDrops + 1) } ∧ v.spc = s.spc ∧ v.ccu = s.ccu ∧
      v.hostSide = s.hostSide ∧ v.fsv = s.fsv := by
    rw [hv]
    exact ⟨rfl, rfl, rfl, rfl, rfl⟩
  have hvc : v.Calm := by
    rw [hv]
    exact hc.of_affairs rfl (.inl hs)
  have hrow : (v.activeRow .servoLost).mode = .report := by
    rw [State.activeRow, tbs_of_hostSide hvhost]
    exact hm
  have hrec : v.recordOf .servoLost = none := by
    rw [State.recordOf, hvrec]
    exact hr
  rw [takeSample_invalid htakes hw, dropSample_lost (s := s.onPos fun p => { p with window := .taken }) hnl hd, ← hv,
    recognise_report hrec hrow] at hexec
  have hrep : ((v.nowPresent .servoLost).onFsv fun w => { w with
      records := w.records ++ [v.newRecord .servoLost none .reported none] }).request .faultReported =
      v.reported .servoLost none := rfl
  rw [hrep] at hexec
  obtain ⟨hrecs, hpresent, hreq⟩ := reported_shows .servoLost none v
  refine completes_of_calm hexec (hvc.reported _ _) ⟨?_, hreq, hpresent, hvpos, hvcnt, keepsHost_of_hostSide hvhost, hvspc,
    hvccu⟩
  rw [hrecs, hvrec]
  simp [State.newRecord, hvpos, hvspc, hs]

/-! ## A clamped computation -/

theorem clampTo_clamped {m : Nat} {x : Int} (h : m < x.natAbs) : clampTo m x = if 0 < x then (m : Int) else -m := by
  unfold clampTo
  split
  · rw [if_pos (by omega)]
  · rw [if_pos (by omega), if_neg (by omega)]

/-- The heads with the current at its limit (R84). -/
def State.limited (raw : Int) (n : Nat) (s : State) : State := s.onPos fun p => { p with
  current := if 0 < raw then (s.tbs.profile.ilim : Int) else -s.tbs.profile.ilim, clampCount := n }

/-- A clamped computation holds the current at its limit and counts, or is recognized at the deglitch count (R84). -/
theorem seekCompute_clamped {s : State} {f : Fix} {target : Nat} (hf : s.pos.fix = some f)
    (ht : s.pos.target = some target)
    (hr : s.tbs.profile.ilim < (seekRaw s.tbs.profile target f.position f.velocity).natAbs) :
    s.seekCompute = if s.deglitch .actuatorSaturation ≤ s.pos.clampCount + 1 then
        (s.limited (seekRaw s.tbs.profile target f.position f.velocity) 0).recognise .actuatorSaturation none
      else s.limited (seekRaw s.tbs.profile target f.position f.velocity) (s.pos.clampCount + 1) := by
  have hc : isClamped s.tbs.profile (seekRaw s.tbs.profile target f.position f.velocity) = true := decide_eq_true hr
  simp only [State.seekCompute, hf, ht, hc, if_true, clampTo_clamped hr, State.limited]

theorem clamped_completes {s : State} {c h target : Nat} {pes : Int} {f : Fix} (hc : s.Calm)
    (hs : s.spc.state = .atSpeed) (hw : s.pos.window = .waiting) (hh : s.pos.head = h) (hp : s.pos.state = .seeking)
    (ht : s.pos.target = some target) (hf : s.pos.fix = some f)
    (hfar : 128 < ((target : Int) * 256 - (c * 256 + pes)).natAbs) :
    let p : Int := c * 256 + pes
    let raw := seekRaw s.tbs.profile target p (Int.tdiv (p - f.previous) f.since)
    s.tbs.profile.ilim < raw.natAbs →
    s.completes (.servoSample true c h pes) fun t =>
      let limit := if 0 < raw then (s.tbs.profile.ilim : Int) else -s.tbs.profile.ilim
      (s.pos.clampCount + 1 < s.tbs.actions.actuatorSaturation.deglitch →
        t.pos.current = limit ∧ t.pos.clampCount = s.pos.clampCount + 1 ∧
        t.pos.state = .seeking ∧ t.fsv.records = s.fsv.records) ∧
      (s.tbs.actions.actuatorSaturation.deglitch ≤ s.pos.clampCount + 1 →
        s.tbs.actions.actuatorSaturation.mode = .report →
        s.recordOf .actuatorSaturation = none →
        t.pos.current = limit ∧ t.pos.clampCount = 0 ∧ t.pos.state = .seeking ∧
        (t.fsv.kinds.get .actuatorSaturation).present = true ∧
        t.fsv.records = s.fsv.records ++ [⟨.actuatorSaturation, .reported, none, 1,
          s.spc.revCount, s.spc.revCount, some c, .atSpeed, .seeking, 0, none⟩] ∧
        t.requested .faultReported = true) := by
  intro p raw hraw
  have htakes : s.takesSamples = true := by simp [State.takesSamples, hp]
  have hsteers := sampled_steers c pes s
  have hpos := sampled_pos c pes s
  have hrecs := sampled_records c pes s
  have hexec := exec_servoSample true c h pes s
  rw [takeSample_valid htakes hw hh, validSample_eq, hp] at hexec
  dsimp only at hexec
  generalize s.sampled c pes = u at *
  have htbs : u.tbs = s.tbs := tbs_of_hostSide hsteers.heads.hostSide
  have hfix : u.pos.fix = some ⟨c, pes, p, p, Int.tdiv (p - f.previous) f.since, 1⟩ := by
    rw [hpos, hf, next_of_some]
  have htarget : u.pos.target = some target := by rw [hpos, ht]
  have hnot : u.withinWindow = false := by
    simp only [State.withinWindow, hfix, htarget]
    exact decide_eq_false (Nat.not_le_of_lt hfar)
  have hcompute := seekCompute_clamped hfix htarget (by rw [htbs]; exact hraw)
  have hfold : seekRaw u.tbs.profile target p (Int.tdiv (p - f.previous) f.since) = raw := by rw [htbs]
  rw [hfold] at hcompute
  generalize raw = r at *
  have hdeg : u.deglitch .actuatorSaturation = s.tbs.actions.actuatorSaturation.deglitch := by
    rw [State.deglitch, State.activeRow, htbs]
    rfl
  have hcl : u.pos.clampCount = s.pos.clampCount := by rw [hpos]
  rw [hdeg, hcl] at hcompute
  have hstep : u.seekSample (Fix.next s.pos.fix c pes) = u.seekCompute := by
    simp only [State.seekSample, hnot, Bool.false_eq_true, if_false]
  rw [hstep, hcompute] at hexec
  have hlim (n : Nat) : s.Steers (u.limited r n) := hsteers.onPos rfl
  have hcur (n : Nat) : (u.limited r n).pos.current = if 0 < r then (s.tbs.profile.ilim : Int) else -s.tbs.profile.ilim := by
    rw [← htbs]
    rfl
  have hst (n : Nat) : (u.limited r n).pos.state = .seeking := by
    change u.pos.state = _
    rw [hpos, hp]
  by_cases hlt : s.pos.clampCount + 1 < s.tbs.actions.actuatorSaturation.deglitch
  · rw [if_neg (Nat.not_le_of_lt hlt)] at hexec
    exact completes_of_calm hexec (hc.steers hs (hlim _))
      ⟨fun _ => ⟨hcur _, rfl, hst _, hrecs⟩, fun hge => absurd hlt (Nat.not_lt_of_le hge)⟩
  · have hge : s.tbs.actions.actuatorSaturation.deglitch ≤ s.pos.clampCount + 1 := Nat.le_of_not_lt hlt
    rw [if_pos hge] at hexec
    by_cases hm : s.tbs.actions.actuatorSaturation.mode = .report ∧ s.recordOf .actuatorSaturation = none
    · obtain ⟨hm, hr⟩ := hm
      have hrep : (u.limited r 0).recognise .actuatorSaturation none =
          (u.limited r 0).reported .actuatorSaturation none := by
        refine recognise_report ?_ ?_ none
        · rw [State.recordOf, show (u.limited r 0).fsv.records = s.fsv.records from hrecs]
          exact hr
        · rw [State.activeRow, tbs_of_hostSide (hlim 0).heads.hostSide]
          exact hm
      rw [hrep] at hexec
      obtain ⟨hlast, hpresent, hreq⟩ := reported_shows .actuatorSaturation none (u.limited r 0)
      refine completes_of_calm hexec ((hc.steers hs (hlim 0)).reported _ _)
        ⟨fun hlt' => absurd hlt' hlt, fun _ _ _ => ⟨hcur 0, rfl, hst 0, hpresent, ?_, hreq⟩⟩
      have hold : (u.limited r 0).fsv.records = s.fsv.records := hrecs
      have hseen : (u.limited r 0).pos.fix = u.pos.fix := rfl
      rw [hlast, hold]
      simp [State.newRecord, hst, hseen, hfix, (hlim 0).heads.spc, hs]
    · exact ⟨_, hexec, fun hlt' => absurd hlt' hlt, fun _ hm' hr' => absurd ⟨hm', hr'⟩ hm⟩

end Sys2Proof.Machine
end

section
/-! A work of SPIN UP for the head entry alone, from its load on (R49, R50, R62 to R64). -/

namespace Sys2Proof.Machine

/-! ## The work and its reactions -/

/-- A work of SPIN UP stands at a step for the head entry alone, over a disk at speed. -/
structure State.Climbs (tag : Byte) (x : WorkStep) (s : State) : Prop extends s.Hosted where
  work : s.work = some ⟨x, true, false, false, false, false, none⟩
  queue : s.queue = [⟨tag, .spinUp, true⟩]
  job : s.job = .work
  speed : s.spc.state = .atSpeed
  cart : s.ccu.state = .latched
  endWith : s.endWith = none
  downs : s.downs = ⟨none, none, none, false⟩
  eject : s.ccu.eject = none
  eng : s.eng = Engine.none
  supplied : s.supplyLow = false

theorem State.Climbs.of_affairs {tag : Byte} {x : WorkStep} {s t : State} (h : s.Climbs tag x)
    (e : t.affairs = s.affairs) (hs : t.spc.state = .atSpeed) : t.Climbs tag x := by
  simp only [State.affairs, Prod.mk.injEq] at e
  obtain ⟨⟨hq, hj, he, hw, hd⟩, ⟨hx, hc, -⟩, ⟨-, -, hg, hl⟩, ⟨ht, hi⟩, -⟩ := e
  exact ⟨⟨ht.trans h.turn, hi.trans h.inb⟩, hw.trans h.work, hq.trans h.queue, hj.trans h.job, hs, hc.trans h.cart,
    he.trans h.endWith, hd.trans h.downs, hx.trans h.eject, hg.trans h.eng, hl.trans h.supplied⟩

/-- The record is at rest. -/
def State.recordRests (s : State) : Prop := s.record.op = .idle ∧ s.record.readWanted = false

theorem State.recordRests.of_affairs {s t : State} (h : s.recordRests) (e : t.affairs = s.affairs) : t.recordRests := by
  simp only [State.affairs, Prod.mk.injEq] at e
  obtain ⟨-, -, ⟨ho, hr, -⟩, -⟩ := e
  exact ⟨ho.trans h.1, hr.trans h.2⟩

section

variable {tag : Byte} {x : WorkStep} {s : State} (h : s.Climbs tag x) (hu : s.pos.state ≠ .unloaded)
include h hu

/-- With its heads off the ramp nothing comes before the work's own step. -/
theorem react_of_climb (ho : s.record.op = .idle) {t : State} (ht : stepWork ⟨x, true, false, false, false, false, none⟩ s =
    some t) : react s = some t := by
  have hm := mechanical_moving h.speed hu
  rw [List.findSome?_eq_none_iff] at hm
  simp only [mechanical, List.forall_mem_cons] at hm
  obtain ⟨m1, m2, m3, m4, m5, m6, -⟩ := hm
  have hwork := (reactWork_of h.work h.cart).trans ht
  have hflight : s.eng.flight = none := by rw [h.eng]; rfl
  simp [react, rules, h.supplied, m1, m2, m3, m4, m5, m6, reactFlight, reactRecordLost, State.recordOpLost,
    reactEjecting, reactStopped, reactParked, reactEjectParked, reactWorkCut, reactEnd, guarded, hflight, h.eject,
    h.endWith, h.work, h.downs, ho, hwork]

/-- A work that waits lets the drive rest with its record. -/
theorem climb_rests (hr : s.recordRests) (hw : stepWork ⟨x, true, false, false, false, false, none⟩ s = none) :
    react s = none := by
  have hwork := (reactWork_of h.work h.cart).trans hw
  have hplace : s.eng.place = none := by rw [h.eng]; rfl
  have hex : s.executing = some ⟨tag, .spinUp, true⟩ := by simp [State.executing, h.queue]
  have hsolo : s.Solo := ⟨h.endWith, by rw [h.work]; rfl, by rw [h.downs], by rw [h.downs], by rw [h.downs], h.eject,
    hr.1, hr.2, by rw [h.eng]; rfl, h.supplied⟩
  rw [react_of_solo hsolo (mechanical_moving h.speed hu)]
  simp [soloRules, reactStopped, reactParked, h.downs, hwork, reactEngine, hplace, reactDrain, h.job, reactDown,
    Downs.stepOf, reactBegin, h.queue, reactReady, hex, reactTransfer, guarded]

/-- The work rests while its record read waits in its place (R5). -/
theorem climb_reads {r : RecordRead} (ho : s.record.op = .reading r) (hr : s.record.readWanted = false)
    (hp : s.inPlace 0 0 = true) (hw : stepWork ⟨x, true, false, false, false, false, none⟩ s = none) :
    react s = none := by
  have hm := mechanical_moving h.speed hu
  rw [List.findSome?_eq_none_iff] at hm
  simp only [mechanical, List.forall_mem_cons] at hm
  obtain ⟨m1, m2, m3, m4, m5, m6, -⟩ := hm
  have hwork := (reactWork_of h.work h.cart).trans hw
  have hflight : s.eng.flight = none := by rw [h.eng]; rfl
  have hplace : s.eng.place = none := by rw [h.eng]; rfl
  have hex : s.executing = some ⟨tag, .spinUp, true⟩ := by simp [State.executing, h.queue]
  have hready : s.spindleReady = true := by
    simp only [State.inPlace, Bool.and_eq_true] at hp
    simp [State.spindleReady, h.speed, hp.1.1]
  cases hempty : s.emptySlot <;>
  simp [react, rules, h.supplied, m1, m2, m3, m4, m5, m6, reactFlight, reactRecordLost, State.recordOpLost, hready,
    reactEjecting, reactStopped, reactParked, reactEjectParked, reactWorkCut, reactEnd, guarded, hflight, h.eject,
    h.endWith, h.work, h.downs, ho, hwork, reactReadDue, hr, reactReached, reactRecordSeek, hp, reactRecordSlot,
    reactEngine, hplace, reactDrain, h.job, reactDown, Downs.stepOf, reactEject, reactBegin, h.queue, reactStranded,
    reactReady, hex, reactTransfer]

end

/-! ## The load is on its way -/

/-- The work waits for a load that is in progress. -/
theorem stepWork_waits {s : State} (hs : s.spc.state = .atSpeed) (ht : s.pos.state ≠ .tracking)
    (hl : s.pos.loadByWork = true) : stepWork ⟨.heads, true, false, false, false, false, none⟩ s = none := by
  simp [stepWork, workHeads, hs, ht, hl, guarded]

section

variable {tag : Byte} {s t : State} (h : s.Climbs tag .heads) (hr : s.recordRests) (hl : s.pos.loadByWork = true)
include h hr hl

/-- What leaves the heads on their way leaves the work waiting. -/
theorem event_of_waiting (e : t.affairs = s.affairs) (hspc : t.spc = s.spc) (hload : t.pos.loadByWork = s.pos.loadByWork)
    (ht : t.pos.state ≠ .tracking) (hu : t.pos.state ≠ .unloaded) : t.event = t := by
  have hs : t.spc.state = .atSpeed := by rw [hspc]; exact h.speed
  have hc := h.of_affairs e hs
  exact event_of_quiet (climb_rests hc hu (hr.of_affairs e) (stepWork_waits hs ht (hload.trans hl))) hc.toHosted

theorem work_firstSample {c head : Nat} {pes : Int} (hp : s.pos.state = .loading) (hw : s.pos.window = .waiting)
    (hh : s.pos.head = head) (hlow : -128 ≤ pes) (hhigh : pes ≤ 127) (hn : 1 < s.tbs.params.settleCount) :
    exec (.servoSample true c head pes) s = .next (s.landedOn c pes) := by
  have hsteers := landedOn_steers c pes s
  rw [exec_servoSample, takeSample_loading hp hw hh hlow hhigh hn,
    event_of_waiting h hr hl hsteers.affairs hsteers.heads.spc rfl (by rw [landedOn_pos]; nofun)
      (by rw [landedOn_pos]; nofun)]

end

/-- The load timeout under REPORT (R64). -/
theorem loadTimesOut_reported {s : State} (hpark : s.pos.parkSensor = false) (hr : s.recordOf .servoLost = none)
    (hm : s.tbs.actions.servoLost.mode = .report) :
    s.loadTimesOut = s.beginToRamp.reported .servoLost (some .load) := by
  have htimes : s.loadTimesOut = (s.beginToRamp.recognise .servoLost (some .load)).rampReached := rfl
  have hrep := recognise_report (s := s.beginToRamp) (k := .servoLost) hr hm (some .load)
  have hpos : (s.beginToRamp.reported .servoLost (some .load)).pos = s.beginToRamp.pos := rfl
  rw [htimes, hrep]
  change (s.beginToRamp.reported .servoLost (some .load)).rampReached = _
  simp [State.rampReached, hpos, beginToRamp_pos, hpark]

theorem reported_affairs (k : FaultKind) (sub : Option SubCause) (s : State) :
    (s.reported k sub).affairs = s.affairs := by
  have hlist : ((s.nowPresent k).onFsv fun v => { v with
      records := v.records ++ [s.newRecord k sub .reported none] }).affairs = (s.nowPresent k).affairs :=
    State.onFsv_affairs _ rfl rfl
  exact (State.request_affairs _ _).trans (hlist.trans (s.nowPresent_affairs k))

theorem reported_frame (k : FaultKind) (sub : Option SubCause) (s : State) : (s.reported k sub).pos = s.pos ∧
    (s.reported k sub).spc = s.spc ∧ (s.reported k sub).ccu = s.ccu ∧ (s.reported k sub).hostSide = s.hostSide ∧
    (s.reported k sub).work = s.work := ⟨rfl, rfl, rfl, rfl, rfl⟩

section

variable {tag : Byte} {s : State} (h : s.Climbs tag .heads) (hr : s.recordRests) (hl : s.pos.loadByWork = true)
include h hr hl

theorem work_loadTimeout (hp : s.pos.state = .loading) (hn : 128 ≤ s.pos.loadWindows) (hpark : s.pos.parkSensor = false)
    (hrec : s.recordOf .servoLost = none) (hm : s.tbs.actions.servoLost.mode = .report) :
    exec .loadTimeout s = .next (s.beginToRamp.reported .servoLost (some .load)) := by
  have hsteers := beginToRamp_steers s
  have hramp := beginToRamp_pos s
  rw [exec_loadTimeout hp hn, loadTimesOut_reported hpark hrec hm]
  generalize s.beginToRamp = u at *
  have haffairs := reported_affairs .servoLost (some .load) u
  obtain ⟨hpos, hspc, -⟩ := reported_frame .servoLost (some .load) u
  generalize u.reported .servoLost (some .load) = v at *
  rw [event_of_waiting h hr hl (haffairs.trans hsteers.affairs) (hspc.trans hsteers.heads.spc)
    (by rw [hpos, hramp]) (by rw [hpos, hramp]; nofun) (by rw [hpos, hramp]; nofun)]

end

/-! ## The heads have arrived -/

/-- A work of SPIN UP alone in progress ends with its command (R50). -/
theorem endWork_alone {s : State} {tag : Byte} {x : WorkStep} (h : s.Climbs tag x) (st : Status) :
    s.endWork st = ((s.setWork none).withdrawWork).finished tag st := by
  obtain ⟨u, hu⟩ : ∃ u, u = (s.setWork none).withdrawWork := ⟨_, rfl⟩
  obtain ⟨hend, hq, hw⟩ : u.endWith = none ∧ u.queue = [⟨tag, .spinUp, true⟩] ∧ u.work = none := by
    rw [hu]
    exact ⟨h.endWith, h.queue, rfl⟩
  have hx : u.executing.map Entry.cmd = some .spinUp := by simp [State.executing, hq]
  have hhead : s.endWork st = u.workEndsHead st := by
    rw [hu]
    simp only [State.endWork, h.work]
    rfl
  rw [hhead, ← hu]
  simp only [State.workEndsHead, hend, hx]
  exact completeHead_last hq hw st

/-- What a work finds when its load has ended in TRACKING. -/
structure State.Arrived (tag : Byte) (c : Nat) (f : Fix) (s w : State) : Prop extends w.Climbs tag .heads where
  tracking : w.pos.state = .tracking
  target : w.pos.target = some c
  fix : w.pos.fix = some f
  hold : w.pos.hold = s.pos.hold
  clampCount : w.pos.clampCount = s.pos.clampCount
  noLoad : w.pendingLoad = false
  op : w.record.op = .idle
  record : { w.record with readWanted := false } = s.record
  undue : s.record.state ≠ .notRead → w.record = s.record
  dbi : w.dbi = s.dbi
  slots : w.slots = s.slots
  tbs : w.tbs = s.tbs

/-- The last good sample of the load enters TRACKING (R66). -/
theorem work_tracks {tag : Byte} {s : State} {c head : Nat} {pes : Int} (h : s.Climbs tag .heads) (hr : s.recordRests)
    (hp : s.pos.state = .settling) (ht : s.pos.target = some c) (hw : s.pos.window = .waiting) (hh : s.pos.head = head)
    (hlow : -128 ≤ pes) (hhigh : pes ≤ 127) (hcount : s.tbs.params.settleCount ≤ s.goodCount pes) :
    ∃ w, exec (.servoSample true c head pes) s = .next w.event ∧ s.Arrived tag c (Fix.next s.pos.fix c pes) w := by
  have hexec := exec_servoSample true c head pes s
  rw [takeSample_settling hp hw ht hh hlow hhigh] at hexec
  generalize clampTo s.tbs.profile.ilim (-Int.tdiv (s.tbs.profile.kp * pes) 16) = i at hexec
  have hsteers := sampled_steers c pes s
  have hpos := sampled_pos c pes s
  generalize s.sampled c pes = u at *
  obtain ⟨v, hv⟩ : ∃ v, v = u.onPos fun p => { p with current := i, settleCount := s.goodCount pes } := ⟨_, rfl⟩
  have hsv : s.Steers v := hv ▸ hsteers.onPos rfl
  have hvpos : v.pos = { s.pos with
      window := .taken, fix := some (Fix.next s.pos.fix c pes), dropCount := 0, current := i,
      settleCount := s.goodCount pes } := by
    rw [hv, State.onPos_pos, hpos]
  have hstep : u.settleStep i (s.goodCount pes) = v.enterTracking := by
    rw [State.settleStep, tbs_of_hostSide hsteers.heads.hostSide, if_pos hcount, hv]
  rw [hstep] at hexec
  obtain ⟨hdbi, hqueue, hjob, heng, hslots, htbs, hrecord, -, hsupply⟩ := keepsHost_of_hostSide hsv.heads.hostSide
  have hvc := h.of_affairs hsv.affairs (by rw [hsv.heads.spc]; exact h.speed)
  obtain ⟨hent, hload⟩ := enterTracking_eq (s := v) (by simp [hvc.job])
  generalize v.enterTracking = w at *
  have hwpos : w.pos = { v.pos.tracked with loadByWork := false } := by rw [hent]
  have hwrec : w.record = if v.readDue then { s.record with readWanted := true } else s.record := by
    rw [hent, ← hrecord]
  refine ⟨w, hexec, ⟨?_, ?_, ?_, ?_, ?_, ?_, hload, ?_, ?_, fun hn => ?_, ?_, ?_, ?_⟩⟩
  · rw [hent]
    exact { hvc with }
  · rw [hwpos]
    rfl
  · rw [hwpos, hvpos]
    exact ht
  · rw [hwpos, hvpos]
    rfl
  · rw [hwpos, hvpos]
    rfl
  · rw [hwpos, hvpos]
    rfl
  · rw [hwrec]
    split <;> exact hr.1
  · rw [hwrec]
    split
    · exact congrArg (fun b => { s.record with readWanted := b }) hr.2.symm
    · exact congrArg (fun b => { s.record with readWanted := b }) hr.2.symm
  · have hdue : v.readDue = false := by simp [State.readDue, hrecord, hn]
    rw [hwrec, hdue]
    rfl
  · rw [hent, ← hdbi]
  · rw [hent, ← hslots]
  · rw [hent, ← htbs]

section

variable {tag : Byte} {c : Nat} {f : Fix} {s w : State} (h : s.Arrived tag c f w)
include h

/-- The work goes on to its record step. -/
theorem react_arrived : react w = some (w.workAt ⟨.heads, true, false, false, false, false, none⟩ .record) := by
  refine react_of_climb h.toClimbs (by rw [h.tracking]; nofun) h.op ?_
  simp [stepWork, workHeads, h.speed, h.tracking]

theorem arrived_atRecord : (w.workAt ⟨.heads, true, false, false, false, false, none⟩ .record).Climbs tag .record :=
  { h.toClimbs with work := rfl }

/-- With the record read, or unreadable, the command is done (R50). -/
theorem arrived_done {st : Status} (hst : (s.record.state = .valid ∨ s.record.state = .dirty) ∧ st = .ok ∨
      s.record.state = .unreadable ∧ st = .recordUnreadable) (hr : s.recordRests) (hfree : ∀ x ∈ s.slots, x.tag ≠ some tag) :
    ∃ t, w.event = t ∧ t.dbi.replies = s.dbi.replies ++ [.done tag st 0 0 0 none none] ∧ t.queue = [] ∧
      t.work = none ∧ t.job = .idle ∧ t.pos.state = .tracking ∧ t.pos.target = some c ∧
      t.pendingLoad = false ∧ t.requested .commandDone = true ∧ t.record = s.record ∧
      t.slots = s.slots ∧ t.tbs = s.tbs := by
  obtain ⟨v, hv⟩ : ∃ v, v = w.workAt ⟨.heads, true, false, false, false, false, none⟩ .record := ⟨_, rfl⟩
  have hfirst := react_arrived h
  have hclimb := arrived_atRecord h
  have hrec : v.record = s.record := by
    rw [hv]
    exact h.undue (by rcases hst with ⟨hst | hst, -⟩ | ⟨hst, -⟩ <;> simp [hst])
  have hvpos : v.pos = w.pos ∧ v.fsv = w.fsv ∧ v.dbi = w.dbi ∧ v.slots = w.slots ∧ v.tbs = w.tbs := by
    rw [hv]
    exact ⟨rfl, rfl, rfl, rfl, rfl⟩
  rw [← hv] at hfirst hclimb
  obtain ⟨hvp, hvf, hvd, hvs, hvt⟩ := hvpos
  have hend := endWork_alone hclimb st
  have hsecond : react v = some (((v.setWork none).withdrawWork).finished tag st) := by
    rw [← hend]
    refine react_of_climb hclimb (by rw [hvp, h.tracking]; nofun) (by rw [hrec]; exact hr.1) ?_
    rcases hst with ⟨hst | hst, rfl⟩ | ⟨hst, rfl⟩ <;> simp only [stepWork, workRecord, hrec, hst]
  obtain ⟨z, hz⟩ : ∃ z, z = (v.setWork none).withdrawWork := ⟨_, rfl⟩
  rw [← hz] at hsecond
  obtain ⟨hzp, hzf, hzd, hzs, hzt, hzr, hze, hzw, hzspc, hzrest⟩ : z.pos = { w.pos with loadByWork := false } ∧
      z.fsv = w.fsv ∧ z.dbi = s.dbi ∧ z.slots = s.slots ∧ z.tbs = s.tbs ∧ z.record = s.record ∧ z.eng = v.eng ∧
      z.work = none ∧ z.spc.state = v.spc.state ∧
      (z.endWith = v.endWith ∧ z.downs = v.downs ∧ z.ccu = v.ccu ∧ z.supplyLow = v.supplyLow) := by
    rw [hz, ← hvp, ← hvf, ← h.dbi, ← hvd, ← h.slots, ← hvs, ← h.tbs, ← hvt, ← hrec]
    exact ⟨rfl, rfl, rfl, rfl, rfl, rfl, rfl, rfl, rfl, rfl, rfl, rfl, rfl⟩
  obtain ⟨hzend, hzdowns, hzccu, hzsup⟩ := hzrest
  have hbare : z.Bare := ⟨hzend.trans hclimb.endWith, hzw, hzdowns.trans hclimb.downs, by rw [hzccu]; exact hclimb.eject,
    by rw [hzr]; exact hr.1, by rw [hzr]; exact hr.2, by rw [hze, hclimb.eng]; rfl, hzsup.trans hclimb.supplied⟩
  have hlast := hbare.finished_quiet (mechanical_moving (hzspc.trans hclimb.speed)
    (by rw [hzp]; simp [h.tracking])) tag st
  have hhost : (z.finished tag st).Hosted := by
    obtain ⟨ht, hi⟩ : (z.finished tag st).dbi.turn = z.dbi.turn ∧ (z.finished tag st).dbi.inb = z.dbi.inb := ⟨rfl, rfl⟩
    refine ⟨ht.trans ?_, hi.trans ?_⟩
    · rw [hzd, ← h.dbi]
      exact h.turn
    · rw [hzd, ← h.dbi]
      exact h.inb
  refine ⟨_, event_of_reactsIn (k := 2) ⟨_, hfirst, _, hsecond, rfl⟩ (by decide) hlast hhost, ?_, rfl, hzw, rfl, ?_, ?_,
    ?_, finished_commandDone .., hzr, ?_, hzt⟩
  · change z.dbi.replies ++ [.done tag st z.eng.completed z.eng.errors z.eng.slips z.eng.firstError z.eng.damaged] = _
    rw [hzd, hze, hclimb.eng]
    rfl
  · change z.pos.state = _
    rw [hzp]
    exact h.tracking
  · change z.pos.target = _
    rw [hzp]
    exact h.target
  · have hload := h.noLoad
    simp only [State.pendingLoad, Bool.or_eq_false_iff] at hload
    have hl : (z.finished tag st).pendingLoad = z.pendingLoad := rfl
    rw [hl, State.pendingLoad, hzp, hzf, hload.2]
    rfl
  · change z.slots.map (Slot.release tag) = _
    rw [hzs]
    refine (List.map_congr_left fun x hx => ?_).trans (List.map_id _)
    simp [Slot.release, hfree x hx]

/-- With the record NOT_READ the record read begins in the same event (R5). -/
theorem arrived_reads (hr : s.recordRests) (hn : s.record.state = .notRead) (hhold : s.pos.hold = false)
    (hclamp : s.pos.clampCount = 0) (hd : 1 < s.tbs.actions.actuatorSaturation.deglitch) :
    ∃ t, w.event = t ∧ t.record = { s.record with op := .reading RecordRead.fresh } ∧
      t.pos.target = some 0 ∧ t.pos.head = 0 ∧ t.queue = [⟨tag, .spinUp, true⟩] ∧
      t.work = some ⟨.record, true, false, false, false, false, none⟩ ∧ t.dbi = s.dbi := by
  obtain ⟨v, hv⟩ : ∃ v, v = w.workAt ⟨.heads, true, false, false, false, false, none⟩ .record := ⟨_, rfl⟩
  have hfirst := react_arrived h
  have hclimb := arrived_atRecord h
  obtain ⟨hvp, hvr, hvd, hvt⟩ : v.pos = w.pos ∧ v.record = w.record ∧ v.dbi = w.dbi ∧ v.tbs = w.tbs := by
    rw [hv]
    exact ⟨rfl, rfl, rfl, rfl⟩
  rw [← hv] at hfirst hclimb
  have hwn : w.record.state = .notRead := by
    rw [← hn, ← h.record]
  have hvt' : v.pos.state = .tracking := by rw [hvp]; exact h.tracking
  have hnr : v.recordReading = false := by simp [State.recordReading, hvr, h.op]
  have hef : v.engineFree = true := by simp [State.engineFree, hvr, h.op, hclimb.eng, Engine.none]
  have hsecond : react v = some v.startRecordRead := by
    refine react_of_climb hclimb (by rw [hvt']; nofun) (by rw [hvr]; exact h.op) ?_
    simp [stepWork, workRecord, hvr, hwn, hnr, hvt', hclimb.speed, guarded, hef]
  obtain ⟨x, hx, hxs, hxt, hxh, -, hxf, -⟩ := startRecordRead_tracking (s := v) (f := f) (c := c) hvt'
    (by rw [hvp, h.hold]; exact hhold) (by rw [hvp, h.clampCount]; exact hclamp) (by rw [hvt, h.tbs]; exact hd)
    (by rw [hvp]; exact h.fix) (by rw [hvp]; exact h.target)
  rw [hx] at hsecond
  have hxrec : x.record = { s.record with op := .reading RecordRead.fresh } := by
    obtain ⟨-, -, -, -, -, -, hr', -⟩ := keepsHost_of_hostSide hxs.heads.hostSide
    rw [hr', ← h.record, ← hvr]
    rfl
  obtain ⟨hxd, hxq, -⟩ := keepsHost_of_hostSide hxs.heads.hostSide
  have hopen : (v.onRec fun r => { r with readWanted := false, op := .reading RecordRead.fresh }).Climbs tag .record :=
    { hclimb with }
  have hxc := hopen.of_affairs hxs.affairs (by rw [hxs.heads.spc]; exact hclimb.speed)
  have hxu : x.pos.state ≠ .unloaded := fun e => by simp [e, PosState.flying] at hxf
  have hlast := climb_reads (r := RecordRead.fresh) hxc hxu (by rw [hxrec]) (by rw [hxrec]; exact hr.2)
    (by simp [State.inPlace, hxf, hxt, hxh])
    (by simp [stepWork, workRecord, hxrec, hn, State.recordReading])
  exact ⟨x, event_of_reactsIn (k := 2) ⟨_, hfirst, _, hsecond, rfl⟩ (by decide) hlast hxc.toHosted, hxrec, hxt, hxh,
    hxc.queue, hxc.work, hxd.trans (hvd.trans h.dbi)⟩

end

/-! ## The events of the load -/

/-- A drive that is calm but for a work of SPIN UP at its heads step. -/
theorem climbs_of_calm {s : State} {tag : Byte}
    (hcalm : { s.withdrawLoads with work := none, queue := [], job := .idle }.calm = true)
    (hwork : s.work = some ⟨.heads, true, false, false, false, false, none⟩) (hq : s.queue = [⟨tag, .spinUp, true⟩])
    (hj : s.job = .work) (hs : s.spc.state = .atSpeed) (hc : s.ccu.state = .latched) :
    s.Climbs tag .heads ∧ s.recordRests := by
  have h := calm_iff.mp hcalm
  exact ⟨⟨⟨h.turn, h.inb⟩, hwork, hq, hj, hs, hc, h.endWith, h.downs, h.eject, h.eng, h.supplied⟩, h.op, h.readWanted⟩

/-- The load that a work of SPIN UP waits for, its command alone in the queue. -/
def State.onItsWay (tag : Byte) (s : State) : Prop :=
  s.Climbs tag .heads ∧ s.recordRests ∧ s.pos.loadByWork = true

/-- The work waits, and the host's side, the disk and the latch are left. -/
def State.workWaits (s t : State) : Prop :=
  t.work = s.work ∧ t.pos.loadByWork = true ∧ s.keepsHost t ∧ t.spc = s.spc ∧ t.ccu = s.ccu

theorem workWaits_of_affairs {s t : State} (hl : s.pos.loadByWork = true) (e : t.affairs = s.affairs)
    (hload : t.pos.loadByWork = s.pos.loadByWork) (hhost : t.hostSide = s.hostSide) (hspc : t.spc = s.spc)
    (hccu : t.ccu = s.ccu) : s.workWaits t := by
  simp only [State.affairs, Prod.mk.injEq] at e
  obtain ⟨⟨-, -, -, hw, -⟩, -⟩ := e
  exact ⟨hw, hload.trans hl, keepsHost_of_hostSide hhost, hspc, hccu⟩

section

variable {s : State} {tag : Byte} (h : s.onItsWay tag)
include h

theorem onItsWay_sample {c head : Nat} {pes : Int} (hp : s.pos.state = .loading) (hw : s.pos.window = .waiting)
    (hh : s.pos.head = head) (hlow : -128 ≤ pes) (hhigh : pes ≤ 127) (hn : 1 < s.tbs.params.settleCount) :
    s.completes (.servoSample true c head pes) fun t => t.pos.state = .settling ∧ t.pos.target = some c ∧
      t.pos.settleCount = (if pes.natAbs ≤ s.tbs.params.settleWindow then 1 else 0) ∧ s.workWaits t := by
  obtain ⟨hclimb, hr, hl⟩ := h
  have hsteers := landedOn_steers c pes s
  exact ⟨_, work_firstSample hclimb hr hl hp hw hh hlow hhigh hn, rfl, rfl, rfl,
    workWaits_of_affairs hl hsteers.affairs rfl hsteers.heads.hostSide hsteers.heads.spc hsteers.heads.ccu⟩

theorem onItsWay_timeout (hp : s.pos.state = .loading) (hn : 128 ≤ s.pos.loadWindows) (hpark : s.pos.parkSensor = false)
    (hrec : s.recordOf .servoLost = none) (hm : s.tbs.actions.servoLost.mode = .report) :
    s.completes .loadTimeout fun t => t.pos.state = .unloading ∧ t.pos.phase = .toRamp ∧ s.workWaits t := by
  obtain ⟨hclimb, hr, hl⟩ := h
  have hsteers := beginToRamp_steers s
  have hramp := beginToRamp_pos s
  have hexec := work_loadTimeout hclimb hr hl hp hn hpark hrec hm
  generalize s.beginToRamp = u at *
  have haffairs := reported_affairs .servoLost (some .load) u
  obtain ⟨hpos, hspc, hccu, hhost, -⟩ := reported_frame .servoLost (some .load) u
  generalize u.reported .servoLost (some .load) = v at *
  refine ⟨v, hexec, ?_, ?_, workWaits_of_affairs hl (haffairs.trans hsteers.affairs) ?_
    (hhost.trans hsteers.heads.hostSide) (hspc.trans hsteers.heads.spc) (hccu.trans hsteers.heads.ccu)⟩
  all_goals rw [hpos, hramp]

theorem onItsWay_arrives {c head : Nat} {pes : Int} (hfree : ∀ x ∈ s.slots, x.tag ≠ some tag)
    (hp : s.pos.state = .settling) (ht : s.pos.target = some c) (hw : s.pos.window = .waiting) (hh : s.pos.head = head)
    (hlow : -128 ≤ pes) (hhigh : pes ≤ 127) (hgood : pes.natAbs ≤ s.tbs.params.settleWindow)
    (hcount : s.tbs.params.settleCount ≤ s.pos.settleCount + 1) :
    let done := fun (st : Status) (t : State) =>
      t.dbi.replies = s.dbi.replies ++ [.done tag st 0 0 0 none none] ∧ t.queue = [] ∧
      t.work = none ∧ t.job = .idle ∧ t.pos.state = .tracking ∧ t.pos.target = some c ∧
      t.pendingLoad = false ∧ t.requested .commandDone = true ∧ t.record = s.record ∧
      t.slots = s.slots ∧ t.tbs = s.tbs
    s.completes (.servoSample true c head pes) fun t =>
      ((s.record.state = .valid ∨ s.record.state = .dirty) → done .ok t) ∧
      (s.record.state = .unreadable → done .recordUnreadable t) ∧
      (s.record.state = .notRead → s.pos.hold = false → s.pos.clampCount = 0 →
        1 < s.tbs.actions.actuatorSaturation.deglitch →
        t.record = { s.record with op := .reading RecordRead.fresh } ∧
        t.pos.target = some 0 ∧ t.pos.head = 0 ∧ t.queue = s.queue ∧
        t.work = some ⟨.record, true, false, false, false, false, none⟩ ∧ t.dbi = s.dbi) := by
  intro done
  obtain ⟨hclimb, hr, -⟩ := h
  have hgc : s.goodCount pes = s.pos.settleCount + 1 := if_pos hgood
  obtain ⟨w, hexec, harrived⟩ := work_tracks hclimb hr hp ht hw hh hlow hhigh (by rw [hgc]; exact hcount)
  refine ⟨w.event, hexec, fun hst => ?_, fun hst => ?_, fun hn hhold hclamp hd => ?_⟩
  · obtain ⟨t, rfl, hdone⟩ := arrived_done harrived (st := .ok) (.inl ⟨hst, rfl⟩) hr hfree
    exact hdone
  · obtain ⟨t, rfl, hdone⟩ := arrived_done harrived (st := .recordUnreadable) (.inr ⟨hst, rfl⟩) hr hfree
    exact hdone
  · obtain ⟨t, rfl, hrec, htarget, hhead, hq, hwork, hdbi⟩ := arrived_reads harrived hr hn hhold hclamp hd
    exact ⟨hrec, htarget, hhead, hq.trans hclimb.queue.symm, hwork, hdbi⟩

end

end Sys2Proof.Machine
end

section
/-! Works that begin in the event of their admission: a transfer, a spin-up of a disk at rest, and a write-back (R10, R12,
R49, R99, R102, R105). -/

namespace Sys2Proof.Machine

/-! ## The heads are sent to a place -/

section

variable {s : State} (ht : s.pos.state = .tracking) (hh : s.pos.hold = false) (hc : s.pos.clampCount = 0)
  (hd : 1 < s.tbs.actions.actuatorSaturation.deglitch)
include ht

theorem headSwitch_flies (head : Nat) : s.Steers (s.headSwitch head) ∧
    (s.headSwitch head).pos.target = s.pos.target ∧ (s.headSwitch head).pos.head = head ∧
    (s.headSwitch head).pos.state.flying = true := by
  by_cases hhead : s.pos.head = head
  · have hstay : s.headSwitch head = s := by simp [State.headSwitch, hhead]
    rw [hstay]
    exact ⟨.refl s, rfl, hhead, by simp [ht, PosState.flying]⟩
  · have hswitch : s.headSwitch head = s.onPos fun p =>
        { p with head := head, state := .settling, settleCount := 0 } := by
      simp [State.headSwitch, hhead, ht]
    rw [hswitch]
    exact ⟨(State.Steers.refl s).onPos rfl, rfl, rfl, rfl⟩

include hh hc hd

/-- A seek request of a TRACKING positioner is taken, wherever the heads are (R61, R67, R68, R79). -/
theorem seekRequest_flies (req : Requester) (cylinder head : Nat) :
    ∃ x, s.seekRequest req cylinder head = some x ∧ s.Steers x ∧ x.pos.target = some cylinder ∧
      x.pos.head = head ∧ x.pos.state.flying = true := by
  by_cases hsame : s.pos.target = some cylinder
  · obtain ⟨hsteers, htarget, hhead, hfly⟩ := headSwitch_flies ht head
    exact ⟨_, by simp [State.seekRequest, hh, ht, hsame], hsteers, htarget.trans hsame, hhead, hfly⟩
  · obtain ⟨u, hu⟩ : ∃ u, u = (s.onPos fun p => { p with
        state := .seeking, target := some cylinder, head := head, requester := req, settleCount := 0 }).startSeekTimer :=
      ⟨_, rfl⟩
    have hsu : s.Steers u := hu ▸ ((State.Steers.refl s).onPos rfl).trans (startSeekTimer_steers _)
    have heq : s.seekRequest req cylinder head = some (if u.withinWindow then u.enterSettling else u.seekCompute) := by
      have hne : (s.pos.target == some cylinder) = false := by simpa using hsame
      rw [hu]
      simp only [State.seekRequest, hh, ht, hne, Bool.false_eq_true, if_false]
      rfl
    obtain ⟨hut, huh, hus, huc⟩ : u.pos.target = some cylinder ∧ u.pos.head = head ∧ u.pos.state = .seeking ∧
        u.pos.clampCount = s.pos.clampCount := by
      rw [hu]
      exact ⟨rfl, rfl, rfl, rfl⟩
    refine ⟨_, heq, ?_⟩
    split
    · exact ⟨hsu.trans (enterSettling_steers u), hut, huh, rfl⟩
    · obtain ⟨hsteer, i, n, hlast⟩ := seekCompute_steers (s := u) (huc.trans hc)
        (by rw [tbs_of_hostSide hsu.heads.hostSide]; exact hd)
      rw [hlast]
      exact ⟨hsu.trans hsteer, hut, huh, by simp [hus, PosState.flying]⟩

/-- The engine's way to a block: the heads are in place, switch, or seek (R105). -/
theorem approach_flies (cylinder head : Nat) :
    ∃ x, s.approach cylinder head = some x ∧ s.Steers x ∧ x.pos.target = some cylinder ∧ x.pos.head = head ∧
      x.pos.state.flying = true := by
  have hfly : s.pos.state.flying = true := by simp [ht, PosState.flying]
  by_cases hp : s.inPlace cylinder head = true
  · have hp' := hp
    simp only [State.inPlace, Bool.and_eq_true, beq_iff_eq] at hp'
    obtain ⟨⟨-, htarget⟩, hhead⟩ := hp'
    exact ⟨s, by simp [State.approach, hp], .refl s, htarget, hhead, hfly⟩
  · by_cases hsame : s.pos.target = some cylinder
    · obtain ⟨hsteers, htarget, hhead, hflies⟩ := headSwitch_flies ht head
      exact ⟨s.joinSeek .engine head, by simp [State.approach, hp, hfly, hsame], hsteers.onPos rfl,
        htarget.trans hsame, hhead, hflies⟩
    · obtain ⟨x, hx, hrest⟩ := seekRequest_flies ht hh hc hd .engine cylinder head
      exact ⟨x, by simp [State.approach, hp, hsame, hx], hrest⟩

end

/-! ## A transfer -/

/-- The first address of a transfer within the capacity has a place (R17). -/
theorem first_place {img : Image} (h : img.sound) {b n : Nat} {rest : List Extent}
    (hbad : extentsBad (⟨b, n⟩ :: rest) = false) (hcap : pastCapacity (capacityOf img.zones) (⟨b, n⟩ :: rest) = false) :
    ∃ p, translation img b = some p := by
  have hl : b < capacityOf img.zones := by
    simp [extentsBad] at hbad
    simp [pastCapacity] at hcap
    omega
  rcases translation_cases h hl with ⟨e, -, -, hp⟩ | ⟨_, _, _, _, -, hp⟩ <;> exact ⟨_, hp⟩

theorem lbaAt_first {b n : Nat} {rest : List Extent} (h : extentsBad (⟨b, n⟩ :: rest) = false) :
    lbaAt (⟨b, n⟩ :: rest) 0 = some b := by
  have hn : 0 < n := by
    simp [extentsBad] at h
    omega
  simp [lbaAt, hn]

/-- A transfer alone in the queue stands at its first block. -/
structure State.AtBlock (tag : Byte) (k : XferKind) (go : Bool) (l : List Extent) (p : Placement) (st : EngineState)
    (s : State) : Prop extends s.Bare where
  queue : s.queue = [⟨tag, .xfer k go l, true⟩]
  job : s.job = .transfer
  eng : s.eng = { Engine.none with state := st, place := some p }
  speed : s.spc.state = .atSpeed
  flies : s.pos.state.flying = true
  inPlace : s.inPlace p.cylinder p.head = true


section

variable {tag : Byte} {k : XferKind} {go : Bool} {l : List Extent} {p : Placement} {st : EngineState} {s : State}
  (h : s.AtBlock tag k go l p st)
include h

/-- The engine follows the heads to the block, and nothing else reacts (R105). -/
theorem react_atBlock : react s = reactEngine s := by
  have hu : s.pos.state ≠ .unloaded := fun e => by
    have hf := h.flies
    simp [e, PosState.flying] at hf
  have hex : s.executing = some ⟨tag, .xfer k go l, true⟩ := by simp [State.executing, h.queue]
  rw [react_of_head h.toBare (mechanical_moving h.speed hu)]
  cases he : reactEngine s <;>
  simp [headRules, he, reactDrain, h.job, reactBegin, h.queue, reactReady, hex, reactTransfer, guarded]

/-- The heads arrive in the same event, or are waited for. -/
theorem atBlock_settles (hst : st = .seekWait) : ∃ st' i, (st' = .seekWait ∨ st' = .rotateWait) ∧ i ≤ 1 ∧
    ReactsIn i s (s.onEng fun e => { e with state := st' }) ∧ react (s.onEng fun e => { e with state := st' }) = none := by
  subst hst
  have hplace : s.eng.place = some p ∧ s.eng.state = .seekWait := by rw [h.eng]; exact ⟨rfl, rfl⟩
  by_cases ht : s.trackingOn p.cylinder p.head = true
  · refine ⟨.rotateWait, 1, .inr rfl, Nat.le_refl 1, ⟨_, ?_, rfl⟩, ?_⟩
    · rw [react_atBlock h]
      simp [reactEngine, hplace, h.job, ht]
    · have hnext : (s.onEng fun e => { e with state := .rotateWait }).AtBlock tag k go l p .rotateWait :=
        { h with
          flight := h.flight
          eng := congrArg (fun e => { e with state := EngineState.rotateWait }) h.eng }
      have ht' : (s.onEng fun e => { e with state := .rotateWait }).trackingOn p.cylinder p.head = true := ht
      rw [react_atBlock hnext]
      generalize (s.onEng fun e => { e with state := EngineState.rotateWait }) = t at *
      simp [reactEngine, hnext.eng, hnext.job, ht', guarded]
  · refine ⟨.seekWait, 0, .inl rfl, Nat.zero_le 1, ?_⟩
    have hsame : (s.onEng fun e => { e with state := .seekWait }) = s := by
      have he : { s.eng with state := EngineState.seekWait } = s.eng := by rw [← hplace.2]
      simp only [State.onEng, he]
    rw [hsame]
    refine ⟨rfl, ?_⟩
    rw [react_atBlock h]
    simp [reactEngine, hplace, h.job, ht, h.inPlace, guarded]

end

theorem transferRefused_none {s : State} {k : XferKind} {l : List Extent} {img : Image} (hc : s.ccu.state = .latched)
    (hp : s.ccu.protect = false) (himg : s.record.image = some img)
    (hcap : pastCapacity (capacityOf img.zones) l = false) : s.transferRefused k l = none := by
  simp [State.transferRefused, hc, hp, himg, hcap]

/-- A block of the transfer that has a place is approached (R103, R105). -/
theorem takeBlock_approaches {s x : State} {img : Image} {b : Nat} {p : Placement} (himg : s.record.image = some img)
    (hl : lbaAt s.extents s.eng.seq = some b) (hp : translation img b = some p)
    (hx : (s.onEng fun e => { e with place := some p, retry := 0, state := .seekWait }).approach p.cylinder p.head =
      some x) : s.takeBlock = x := by
  simp only [State.takeBlock, himg, hl, hp]
  have hplace : (s.onEng fun e => { e with place := some p, retry := 0 }).eng.place = some p := rfl
  have hseek : ((s.onEng fun e => { e with place := some p, retry := 0 }).onEng fun e =>
      { e with state := .seekWait }).approach p.cylinder p.head = some x := hx
  simp only [State.engineSeek, hplace, hseek]

/-- The transfer has the engine, and the first block is taken up (R102, R103). -/
def State.transferring (tag : Byte) (c : MediumCmd) (p : Placement) (s : State) : State :=
  ((s.begun tag c).setJob .transfer).onEng fun _ => { Engine.none with state := .seekWait, place := some p }

/-- The reactions to the admission of a transfer on a ready drive. -/
theorem transfer_begins {s : State} (h : s.Calm) (tag : Byte) {k : XferKind} {go : Bool} {b n : Nat}
    {rest : List Extent} {img : Image} {p : Placement} (hready : s.readyDrive = true) (hprot : s.ccu.protect = false)
    (hhold : s.pos.hold = false) (himg : s.record.image = some img) (hbad : extentsBad (⟨b, n⟩ :: rest) = false)
    (hcap : pastCapacity (capacityOf img.zones) (⟨b, n⟩ :: rest) = false) (hp : translation img b = some p)
    (hd : 1 < s.tbs.actions.actuatorSaturation.deglitch) (hclamp : s.pos.clampCount = 0) :
    ∃ x st, (s.transferring tag (.xfer k go (⟨b, n⟩ :: rest)) p).Steers x ∧ x.pos.target = some p.cylinder ∧
      x.pos.head = p.head ∧ (st = .seekWait ∨ st = .rotateWait) ∧
      (s.admitted tag (.xfer k go (⟨b, n⟩ :: rest))).settle = x.onEng fun e => { e with state := st } := by
  have hfirst := react_admitted_ready h tag (.xfer k go (⟨b, n⟩ :: rest)) hready rfl
  simp only [State.readyDrive, Bool.and_eq_true, beq_iff_eq] at hready
  obtain ⟨⟨⟨⟨⟨-, hspeed⟩, htrack⟩, hcart⟩, -⟩, -⟩ := hready
  have hlba := lbaAt_first hbad
  generalize hl : (⟨b, n⟩ :: rest : List Extent) = l at *
  have hnone : ((s.begun tag (.xfer k go l)).setJob .ready).transferRefused k l = none := by
    exact transferRefused_none hcart hprot himg hcap
  have hsecond := react_readied h tag _ ((reactReady_readied h tag (.xfer k go l)).2.2.2 k go l rfl hnone)
  obtain ⟨y, hy⟩ : ∃ y, y = ((s.begun tag (.xfer k go l)).setJob .ready).setJob .waitEngine := ⟨_, rfl⟩
  rw [← hy] at hsecond
  obtain ⟨x, hx, hxs, hxt, hxh, hxf⟩ := approach_flies (s := s.transferring tag (.xfer k go l) p) htrack hhold hclamp hd
    p.cylinder p.head
  have hthird : react y = some x := by
    have hybare : y.Bare := hy ▸ { readied_bare h tag (.xfer k go l) with }
    obtain ⟨hyj, hyq, hye, hyr⟩ : y.job = .waitEngine ∧ y.queue = [⟨tag, .xfer k go l, true⟩] ∧ y.eng = Engine.none ∧
        y.record = s.record := by
      rw [hy]
      exact ⟨rfl, rfl, h.eng, rfl⟩
    have hm : mechanical.findSome? (fun r => r y) = none :=
      hy ▸ mechanical_quiet (s := s) rfl h.mechanical
    have hfree : y.engineFree = true := by simp [State.engineFree, hye, Engine.none, hybare.op]
    have htake : ((y.setJob .transfer).onEng fun e => { Engine.none with nextIndex := e.nextIndex }).takeBlock = x := by
      refine takeBlock_approaches (b := b) (hyr ▸ himg) ?_ hp ?_
      · have hext : ((y.setJob .transfer).onEng fun e => { Engine.none with nextIndex := e.nextIndex }).extents = l := by
          rw [hy]
          rfl
        rw [hext]
        exact hlba
      · rw [← hx]
        refine congrArg (State.approach p.cylinder p.head) ?_
        simp only [State.onEng, State.setJob, hye]
        rw [hy]
        rfl
    have hplace : y.eng.place = none := by rw [hye]; rfl
    have hex : y.executing = some ⟨tag, .xfer k go l, true⟩ := by simp [State.executing, hyq]
    rw [react_of_head hybare hm, ← htake]
    simp [headRules, reactEngine, hplace, reactDrain, hyj, reactBegin, hyq, reactReady, hex, reactTransfer, guarded, hfree,
      hybare.endWith]
  have hat : x.AtBlock tag k go l p .seekWait := by
    have hbare : (s.transferring tag (.xfer k go l) p).Bare := { begun_bare h tag (.xfer k go l) with flight := rfl }
    have ha := hxs.affairs
    simp only [State.affairs, Prod.mk.injEq] at ha
    obtain ⟨⟨hq, hj, -⟩, -, ⟨-, -, hg, -⟩, -⟩ := ha
    exact { hbare.of_affairs hxs.affairs with
      queue := hq
      job := hj
      eng := hg
      speed := by rw [hxs.heads.spc]; exact hspeed
      flies := hxf
      inPlace := by simp [State.inPlace, hxf, hxt, hxh] }
  obtain ⟨st, i, hst, hi, hchain, hlast⟩ := atBlock_settles hat rfl
  exact ⟨x, st, hxs, hxt, hxh, hst, settle_of_reactsIn (k := i + 3) ⟨_, hfirst, _, hsecond, _, hthird, hchain⟩
    (by omega) hlast⟩

end Sys2Proof.Machine
end

section
/-! A write-back and a spin-up that begin in the event of their admission (R10, R12, R37, R39, R49, R123). -/

namespace Sys2Proof.Machine

/-! ## A write-back -/

/-- A FLUSH RECORD alone in the queue, its write-back at work with the heads sent to cylinder 0, head 0. -/
structure State.WritesBack (tag : Byte) (w : WriteBack) (s : State) : Prop where
  queue : s.queue = [⟨tag, .flush, true⟩]
  job : s.job = .flush
  endWith : s.endWith = none
  work : s.work = none
  downs : s.downs = ⟨none, none, none, false⟩
  eject : s.ccu.eject = none
  readWanted : s.record.readWanted = false
  eng : s.eng = Engine.none
  supplied : s.supplyLow = false
  speed : s.spc.state = .atSpeed
  flies : s.pos.state.flying = true
  inPlace : s.inPlace 0 0 = true
  op : s.record.op = .writing w

/-- The heads reach the record, or its next sector finds a slot: nothing else reacts (R10). -/
theorem react_of_writes {tag : Byte} {w : WriteBack} {s : State} (h : s.WritesBack tag w) :
    react s = (reactReached s).or (reactRecordSlot s) := by
  have hu : s.pos.state ≠ .unloaded := fun e => by
    have hf := h.flies
    simp [e, PosState.flying] at hf
  have hm := mechanical_moving h.speed hu
  rw [List.findSome?_eq_none_iff] at hm
  simp only [mechanical, List.forall_mem_cons] at hm
  obtain ⟨m1, m2, m3, m4, m5, m6, -⟩ := hm
  have hflight : s.eng.flight = none := by rw [h.eng]; rfl
  have hplace : s.eng.place = none := by rw [h.eng]; rfl
  have hex : s.executing = some ⟨tag, .flush, true⟩ := by simp [State.executing, h.queue]
  have hready : s.spindleReady = true := by simp [State.spindleReady, h.speed, h.flies]
  cases hreach : reactReached s <;> cases hslot : reactRecordSlot s <;>
  simp [react, rules, h.supplied, m1, m2, m3, m4, m5, m6, reactFlight, reactRecordLost, State.recordOpLost, hready,
    reactEjecting, reactStopped, reactParked, reactEjectParked, reactWorkCut, reactEnd, guarded, hflight, h.eject,
    h.endWith, h.work, h.downs, h.op, reactWork, reactReadDue, h.readWanted, hreach, reactRecordSeek, h.inPlace, hslot,
    reactEngine, hplace, reactDrain, h.job, reactDown, Downs.stepOf, reactEject, reactBegin, h.queue, reactStranded,
    reactReady, hex, reactTransfer]

/-- The rest of the drive while a write-back of its own gets under way. -/
def State.OnlyRecordOp (w : WriteBack) (s t : State) : Prop :=
  t = { s with slots := t.slots, record := { s.record with op := .writing w } }

section

variable {tag : Byte} {w : WriteBack} {s : State} (h : s.WritesBack tag w)
include h

theorem reactReached_of : reactReached s = guarded (!w.reached && s.trackingOn 0 0)
    (s.onRec fun r => { r with op := .writing { w with reached := true } }) := by
  simp only [reactReached, h.op]

theorem writesBack_onRecord (l : List Slot) (w' : WriteBack) :
    { s with slots := l, record := { s.record with op := .writing w' } }.WritesBack tag w' :=
  { h with op := rfl }

/-- The first record sector finds its slot, where one is EMPTY. -/
theorem recordSlot_settles (hslot : w.slot = none) (hr : reactReached s = none) : ∃ j i t, i ≤ 1 ∧ ReactsIn i s t ∧
    react t = none ∧ s.OnlyRecordOp { w with slot := j } t := by
  cases hempty : s.emptySlot with
  | none =>
    refine ⟨none, 0, s, Nat.zero_le 1, rfl, ?_, ?_⟩
    · rw [react_of_writes h, hr]
      simp [reactRecordSlot, hempty]
    · have hw : { w with slot := none } = w := by rw [← hslot]
      have hop : { s.record with op := .writing w } = s.record := by rw [← h.op]
      rw [hw, State.OnlyRecordOp, hop]
  | some j =>
    obtain ⟨t, ht⟩ : ∃ t, t = (s.onSlot j fun _ => ⟨.full, none, w.next, 0, 0, w.sectors.getD w.next []⟩).onRec
        fun r => { r with op := .writing { w with slot := some j } } := ⟨_, rfl⟩
    have honly : s.OnlyRecordOp { w with slot := some j } t := by
      rw [ht]
      rfl
    have hnext : t.WritesBack tag { w with slot := some j } := by
      rw [honly]
      exact writesBack_onRecord h _ _
    refine ⟨some j, 1, t, Nat.le_refl 1, ⟨t, ?_, rfl⟩, ?_, honly⟩
    · rw [react_of_writes h, hr, ht]
      simp [reactRecordSlot, h.op, hempty, hslot, guarded]
    · have htrack : t.trackingOn 0 0 = s.trackingOn 0 0 := by rw [honly]; rfl
      have hr' : reactReached t = none := by
        rw [reactReached_of h, ← Option.not_isSome_iff_eq_none, isSome_guarded] at hr
        rw [reactReached_of hnext, ← Option.not_isSome_iff_eq_none, isSome_guarded, htrack]
        exact hr
      rw [react_of_writes hnext, hr']
      cases he : t.emptySlot <;> simp [reactRecordSlot, hnext.op, he, guarded]

/-- The heads may be there at once, and the first sector finds its slot (R10). -/
theorem writeBack_settles (hslot : w.slot = none) (hreached : w.reached = false) : ∃ r j i t, i ≤ 2 ∧ ReactsIn i s t ∧
    react t = none ∧ s.OnlyRecordOp { w with reached := r, slot := j } t := by
  by_cases ht : s.trackingOn 0 0 = true
  · obtain ⟨u, hu⟩ : ∃ u, u = s.onRec fun r => { r with op := .writing { w with reached := true } } := ⟨_, rfl⟩
    have hfirst : react s = some u := by
      rw [react_of_writes h, reactReached_of h, hreached, ht, hu]
      rfl
    have hnext : u.WritesBack tag { w with reached := true } := hu ▸ writesBack_onRecord h _ _
    have hr : reactReached u = none := by simp [reactReached_of hnext, guarded]
    obtain ⟨j, i, t, hi, hchain, hlast, honly⟩ := recordSlot_settles hnext hslot hr
    refine ⟨true, j, i + 1, t, by omega, ⟨u, hfirst, hchain⟩, hlast, ?_⟩
    unfold State.OnlyRecordOp at honly ⊢
    rw [hu] at honly
    exact honly
  · have hr : reactReached s = none := by simp [reactReached_of h, ht, guarded]
    obtain ⟨j, i, t, hi, hchain, hlast, honly⟩ := recordSlot_settles h hslot hr
    exact ⟨w.reached, j, i, t, by omega, hchain, hlast, honly⟩

end

/-- The write-back that a FLUSH RECORD starts, its seek not yet asked for. -/
def State.flushing (tag : Byte) (w : WriteBack) (s : State) : State :=
  ((s.begun tag .flush).setJob .flush).onRec fun r => { r with op := .writing w }

/-- The FLUSH RECORD of a DIRTY record starts its write-back (R10, R12). -/
theorem flush_begins {s : State} (h : s.Calm) (tag : Byte) {img : Image} (hready : s.readyDrive = true)
    (hdirty : s.needsWriteBack = true) (himg : s.record.image = some img) (hhold : s.pos.hold = false)
    (hd : 1 < s.tbs.actions.actuatorSaturation.deglitch) (hclamp : s.pos.clampCount = 0) :
    let w : WriteBack := ⟨.cmd, sectorsOf 22 (recordBytes { img with generation := (img.generation + 1) % 65536 }),
      (img.generation + 1) % 65536, 0, 0, none, false⟩
    ∃ x r j t, (s.flushing tag w).Steers x ∧ x.pos.target = some 0 ∧ x.pos.head = 0 ∧
      x.OnlyRecordOp { w with reached := r, slot := j } t ∧ (s.admitted tag .flush).settle = t := by
  intro w
  have hfirst := react_admitted_ready h tag .flush hready hdirty
  have hsecond := react_readied h tag _ ((reactReady_readied h tag .flush).2.2.1 rfl)
  simp only [State.readyDrive, Bool.and_eq_true, beq_iff_eq] at hready
  obtain ⟨⟨⟨⟨⟨-, hspeed⟩, htrack⟩, -⟩, -⟩, -⟩ := hready
  obtain ⟨x, hx, hxs, hxt, hxh, hxf⟩ := seekRequest_flies (s := s.flushing tag w) htrack hhold hclamp hd .engine 0 0
  have hrun : ((s.begun tag .flush).setJob .ready).runFlush = x := by
    have hneeds : ((s.begun tag .flush).setJob .ready).needsWriteBack = true := hdirty
    have himg' : (((s.begun tag .flush).setJob .ready).setJob .flush).record.image = some img := himg
    have hseek : ((((s.begun tag .flush).setJob .ready).setJob .flush).onRec fun r =>
        { r with op := .writing w }).seekRequest .engine 0 0 = some x := hx
    rw [State.runFlush, if_pos hneeds]
    simp only [State.startWriteBack, himg']
    change (State.onRec (fun r => { r with op := .writing w }) _).recordSeek = x
    simp only [State.recordSeek, hseek]
  rw [hrun] at hsecond
  have hwrites : x.WritesBack tag w := by
    have ha := hxs.affairs
    simp only [State.affairs, Prod.mk.injEq] at ha
    obtain ⟨⟨hq, hj, he, hw, hdn⟩, ⟨hej, -⟩, ⟨ho, hrw, hg, hl⟩, -⟩ := ha
    exact ⟨hq, hj, he.trans h.endWith, hw.trans h.work, hdn.trans h.downs, hej.trans h.eject, hrw.trans h.readWanted,
      hg.trans h.eng, hl.trans h.supplied, by rw [hxs.heads.spc]; exact hspeed, hxf,
      by simp [State.inPlace, hxf, hxt, hxh], ho⟩
  obtain ⟨r, j, i, t, hi, hchain, hlast, honly⟩ := writeBack_settles hwrites rfl rfl
  exact ⟨x, r, j, t, hxs, hxt, hxh, honly, settle_of_reactsIn (k := i + 2) ⟨_, hfirst, _, hsecond, hchain⟩ (by omega)
    hlast⟩

/-! ## A spin-up -/

theorem PerKind.map_eq_self {α : Type} {f : α → α} {m : PerKind α} (h : ∀ k, f (m.get k) = m.get k) : m.map f = m := by
  have hall : f m.noRotation = m.noRotation ∧ f m.spinUpTimeout = m.spinUpTimeout ∧
      f m.speedOutOfRange = m.speedOutOfRange ∧ f m.lostIndex = m.lostIndex ∧
      f m.spindleOvercurrent = m.spindleOvercurrent ∧ f m.actuatorSaturation = m.actuatorSaturation ∧
      f m.servoLost = m.servoLost ∧ f m.seekTimeout = m.seekTimeout ∧ f m.unloadFailed = m.unloadFailed ∧
      f m.overTempWarn = m.overTempWarn ∧ f m.supplyLow = m.supplyLow ∧
      f m.overTempShutdown = m.overTempShutdown ∧ f m.doorForced = m.doorForced :=
    ⟨h .noRotation, h .spinUpTimeout, h .speedOutOfRange, h .lostIndex, h .spindleOvercurrent, h .actuatorSaturation,
      h .servoLost, h .seekTimeout, h .unloadFailed, h .overTempWarn, h .supplyLow, h .overTempShutdown, h .doorForced⟩
  simp only [PerKind.map, hall]

/-- The work of SPIN UP has latched the cartridge, and stands before the spindle (R49, R123). -/
def State.clasped (tag : Byte) (s : State) : State := { s.working tag .spindle with
  ccu := { s.ccu with state := .latched, latch := if s.ccu.state = .seated then true else s.ccu.latch } }

/-- A disk at rest under a latched cartridge takes a pending start, and reacts in no other way. -/
theorem mechanical_clasped {s : State} (hc : s.ccu.state = .latched) (hrest : s.atRest = true) :
    mechanical.findSome? (fun r => r s) = guarded s.pendingStart s.enterStarting := by
  have hrest' := hrest
  simp only [State.atRest, Bool.and_eq_true, beq_iff_eq] at hrest'
  obtain ⟨hs, hu⟩ := hrest'
  cases hp : s.pendingStart <;>
  simp [mechanical, reactOwnUnload, reactStopCheck, reactRelease, reactBrake, reactStart, reactLoad, State.loadAllowed,
    guarded, hc, hs, hu, hrest, hp, PosState.flying]

/-- A supplied drive takes the start that waits for its disk. -/
theorem react_takesStart {s : State} (hc : s.ccu.state = .latched) (hrest : s.atRest = true) (hp : s.pendingStart = true)
    (hsolo : s.Solo) (hd : s.downs = ⟨none, none, none, false⟩) : react s = some s.enterStarting := by
  have hrest' := hrest
  simp only [State.atRest, Bool.and_eq_true, beq_iff_eq] at hrest'
  obtain ⟨hs, hu⟩ := hrest'
  simp [react, rules, hsolo.supplied, reactOwnUnload, reactFlight, hsolo.flight, reactRecordLost, State.recordOpLost,
    hsolo.op, reactStopCheck, reactRelease, reactEjecting, hsolo.eject, reactStopped, reactParked, hd, reactEjectParked,
    reactBrake, reactStart, guarded, hc, hs, hu, hrest, hp, PosState.flying]

section

variable {s : State} (h : s.Calm) (tag : Byte) (hrest : s.atRest = true)
  (hcart : s.ccu.state = .seated ∨ s.ccu.state = .latched)
include h hcart

/-- The work's first step (R49, R123). -/
theorem react_clasps : react (s.working tag .cartridge) = some (s.clasped tag) := by
  refine react_working h tag ?_
  have hstep : workCartridge ⟨.cartridge, true, false, false, false, false, none⟩ (s.working tag .cartridge) =
      some (s.clasped tag) := by
    obtain ⟨hcc, hw⟩ : (s.working tag .cartridge).ccu = s.ccu ∧ (s.working tag .cartridge).work =
        some ⟨.cartridge, true, false, false, false, false, none⟩ := ⟨rfl, rfl⟩
    rcases hcart with hc | hc
    · simp only [workCartridge, hcc, hc, State.clasped, if_true]
      rfl
    · have hkeep : { s.ccu with state := CartState.latched, latch := s.ccu.latch } = s.ccu := by rw [← hc]
      simp only [workCartridge, hcc, hc, State.clasped, reduceCtorEq, if_false, hkeep]
      rfl
  have habsent : ((s.working tag .cartridge).ccu.state == .absent) = false := by
    change (s.ccu.state == .absent) = false
    rcases hcart with hc | hc <;> rw [hc] <;> rfl
  have hw : (s.working tag .cartridge).work = some ⟨.cartridge, true, false, false, false, false, none⟩ := rfl
  simp only [reactWork, hw, habsent, Bool.false_eq_true, if_false, hstep]

include hrest

omit hcart in
/-- The spindle starts (R35, R37). -/
theorem clasped_starts : ∃ t, ReactsIn 2 (s.clasped tag) t ∧ react t = none ∧ t = { s.clasped tag with
    spc := ((s.clasped tag).onSpc fun p => { p with startByWork := true }).enterStarting.spc } := by
  obtain ⟨hs, hu⟩ : s.spc.state = .stopped ∧ s.pos.state = .unloaded := by
    simpa only [State.atRest, Bool.and_eq_true, beq_iff_eq] using hrest
  have hstart : s.spc.startByWork = false ∧ s.fsv.kinds.any KindStatus.wantsStart = false := by
    simpa only [State.pendingStart, Bool.or_eq_false_iff] using h.noStart
  obtain ⟨u, hu'⟩ : ∃ u, u = s.clasped tag := ⟨_, rfl⟩
  rw [← hu']
  obtain ⟨hcc, hspc, hpos, hfsv, hwork, hq, hj, hd⟩ : u.ccu.state = .latched ∧ u.spc = s.spc ∧ u.pos = s.pos ∧
      u.fsv = s.fsv ∧ u.work = some ⟨.spindle, true, false, false, false, false, none⟩ ∧
      u.queue = [⟨tag, .spinUp, true⟩] ∧ u.job = .work ∧ u.downs = ⟨none, none, none, false⟩ := by
    rw [hu']
    exact ⟨rfl, rfl, rfl, rfl, rfl, rfl, rfl, h.downs⟩
  have hsolo : u.Solo := by
    rw [hu']
    exact { (begun_bare h tag .spinUp).solo with cut := rfl }
  have hplace : u.eng.place = none := by
    rw [hu']
    change s.eng.place = none
    rw [h.eng]
    rfl
  have hrest' : u.atRest = true := by simp [State.atRest, hspc, hpos, hs, hu]
  have hnostart : u.pendingStart = false := by
    simp [State.pendingStart, hspc, hfsv, hstart]
  obtain ⟨v, hv⟩ : ∃ v, v = u.onSpc fun p => { p with startByWork := true } := ⟨_, rfl⟩
  have hvsolo : v.Solo := hv ▸ { hsolo with }
  have hfirst : react u = some v := by
    have hstep : reactWork u = some v := by
      rw [reactWork_of hwork hcc]
      simp [stepWork, workSpindle, hspc, hs, SpindleState.idle, hstart, State.startByWork, guarded, hv]
    rw [react_of_solo hsolo (by rw [mechanical_clasped hcc hrest', hnostart]; rfl)]
    simp [soloRules, reactStopped, reactParked, hd, hstep]
  have hsecond : react v = some v.enterStarting := by
    refine react_takesStart (hv ▸ hcc) (hv ▸ hrest') (by rw [hv]; rfl) hvsolo (hv ▸ hd)
  obtain ⟨t, ht⟩ : ∃ t, t = v.enterStarting := ⟨_, rfl⟩
  have hframe : t = { u with spc := t.spc } := by
    have hkinds : t.fsv = u.fsv := by
      have hmap : (u.fsv.kinds.map fun x => { x with wantsStart := false }) = u.fsv.kinds :=
        PerKind.map_eq_self fun k => by
          have hk : (u.fsv.kinds.get k).wantsStart = false := by rw [hfsv]; exact (h.wants k).1
          rw [← hk]
      have hval : t.fsv = { u.fsv with kinds := u.fsv.kinds.map fun x => { x with wantsStart := false } } := by
        rw [ht, hv]
        rfl
      rw [hval, hmap]
    have hrest : t = { u with spc := t.spc, fsv := t.fsv } := by
      rw [ht, hv]
      rfl
    rw [hkinds] at hrest
    exact hrest
  have htspc : t.spc.state = .starting := by rw [ht]; rfl
  have hlast : react t = none := by
    have htsolo : t.Solo := by
      rw [hframe]
      exact { hsolo with }
    obtain ⟨tcc, tpos, twork, tq, tj, td, tplace⟩ : t.ccu.state = .latched ∧ t.pos.state = .unloaded ∧
        t.work = some ⟨.spindle, true, false, false, false, false, none⟩ ∧ t.queue = [⟨tag, .spinUp, true⟩] ∧
        t.job = .work ∧ t.downs = ⟨none, none, none, false⟩ ∧ t.eng.place = none := by
      rw [hframe]
      exact ⟨hcc, by rw [← hu, ← hpos], hwork, hq, hj, hd, hplace⟩
    have hm : mechanical.findSome? (fun r => r t) = none := by
      simp [mechanical, reactOwnUnload, reactStopCheck, reactRelease, reactBrake, reactStart, reactLoad, State.atRest,
        State.loadAllowed, guarded, tcc, htspc, tpos, PosState.flying]
    have hw : reactWork t = none := by
      rw [reactWork_of twork tcc]
      simp [stepWork, workSpindle, htspc, SpindleState.idle, guarded]
    have hex : t.executing = some ⟨tag, .spinUp, true⟩ := by simp [State.executing, tq]
    rw [react_of_solo htsolo hm]
    simp [soloRules, reactStopped, reactParked, td, hw, reactEngine, tplace, reactDrain, tj, reactDown,
      Downs.stepOf, reactBegin, tq, reactReady, hex, reactTransfer, guarded]
  refine ⟨t, ⟨v, hfirst, v.enterStarting, hsecond, ht⟩, hlast, ?_⟩
  rw [← hv, ← ht]
  exact hframe

/-- The SPIN UP of a drive at rest latches the cartridge and starts the disk (R37, R49, R123). -/
theorem spinUp_starts (hl : s.anyLatched = false) (hw : s.retryWait = false) :
    (s.admitted tag .spinUp).settle = { s.clasped tag with
      spc := ((s.clasped tag).onSpc fun p => { p with startByWork := true }).enterStarting.spc } := by
  have hbegin : react (s.admitted tag .spinUp) = some (s.working tag .cartridge) := by
    have hnone : (s.begun tag .spinUp).work = none := h.work
    rw [react_admitted h tag .spinUp hw, hl, if_neg Bool.false_ne_true]
    have hjoin : (s.begun tag .spinUp).beginEntry .spinUp = s.working tag .cartridge := by
      simp only [State.beginEntry, State.joinWork, State.setJob, hnone]
      rfl
    rw [hjoin]
  obtain ⟨t, hchain, hlast, ht⟩ := clasped_starts h tag hrest
  rw [← ht]
  exact settle_of_reactsIn (k := 4) ⟨_, hbegin, _, react_clasps h tag hcart, hchain⟩ (by decide) hlast

end

/-! ## The obligation -/

theorem transfer_completes {s : State} {i : Instr} {tag : Byte} {k : XferKind} {go : Bool} {img : Image} {b n : Nat}
    {rest : List Extent} (hm : mediumOf i = some (tag, .xfer k go (⟨b, n⟩ :: rest))) (hf : packetFramed i = true)
    (hs : s.listens = true) (h : s.Calm) (hready : s.readyDrive = true) (hp : s.ccu.protect = false)
    (hhold : s.pos.hold = false) (himg : s.record.image = some img) (hsound : img.sound)
    (hbad : extentsBad (⟨b, n⟩ :: rest) = false) (hcap : pastCapacity (capacityOf img.zones) (⟨b, n⟩ :: rest) = false)
    (hd : 1 < s.tbs.actions.actuatorSaturation.deglitch) (hclamp : s.pos.clampCount = 0) :
    s.completes i fun t =>
      t.queue = [⟨tag, .xfer k go (⟨b, n⟩ :: rest), true⟩] ∧ t.job = .transfer ∧
      (t.eng.state = .seekWait ∨ t.eng.state = .rotateWait) ∧
      t.eng.place = translation img b ∧ t.eng.extent = 0 ∧ t.eng.block = 0 ∧ t.eng.seq = 0 ∧
      t.eng.completed = 0 ∧ t.eng.errors = 0 ∧ t.eng.slips = 0 ∧ t.eng.retry = 0 ∧
      (∀ p, translation img b = some p → t.pos.target = some p.cylinder ∧ t.pos.head = p.head) ∧
      t.dbi.replies = s.dbi.replies ++ [.reply tag .queued .empty] ∧ t.slots = s.slots ∧
      t.spc = s.spc ∧ t.ccu = s.ccu ∧ t.record = s.record ∧ t.tbs = s.tbs ∧
      t.counters = s.counters := by
  obtain ⟨p, hplace⟩ := first_place hsound hbad hcap
  have hcart : s.ccu.state = .latched := by
    simp only [State.readyDrive, Bool.and_eq_true, beq_iff_eq] at hready
    obtain ⟨⟨⟨-, hcc⟩, -⟩, -⟩ := hready
    exact hcc
  have hadm : s.admissionRefused tag (.xfer k go (⟨b, n⟩ :: rest)) = none :=
    refused_none (by simp [hcart]) (by simp [h.queue]) (by simp [h.queue]) (by simp [hcart]) hp hbad
      (by simpa [State.outOfRange, State.capacity, himg] using hcap)
  obtain ⟨x, st, hxs, hxt, hxh, hst, hsettle⟩ := transfer_begins h tag (k := k) (go := go) hready hp hhold himg hbad hcap
    hplace hd hclamp
  have hexec := exec_medium_listens hm hf hs
  rw [enqueue_of_calm h hadm, hsettle] at hexec
  refine ⟨_, hexec, ?_⟩
  obtain ⟨hdbi, hqueue, hjob, heng, hslots, htbs, hrecord, -⟩ := keepsHost_of_hostSide hxs.heads.hostSide
  have hxe : (x.onEng fun e => { e with state := st }).eng = { Engine.none with state := st, place := some p } := by
    rw [State.onEng_eng, heng]
    rfl
  obtain ⟨hspc, hccu, hcount⟩ : x.spc = s.spc ∧ x.ccu = s.ccu ∧ x.counters = s.counters :=
    ⟨hxs.heads.spc, hxs.heads.ccu, hxs.heads.counters⟩
  rw [hxe, hplace]
  refine ⟨hqueue, hjob, hst, rfl, rfl, rfl, rfl, rfl, rfl, rfl, rfl, ?_, ?_, hslots, hspc, hccu, hrecord, htbs, hcount⟩
  · rintro q ⟨⟩
    exact ⟨hxt, hxh⟩
  · change x.dbi.replies = _
    rw [hdbi]
    rfl

theorem spinUp_completes {s : State} {tag : Byte} (hs : s.listens = true) (h : s.Calm) (htag : tag ≠ 0)
    (hl : s.anyLatched = false) (hw : s.retryWait = false) (hcart : s.ccu.state = .seated ∨ s.ccu.state = .latched)
    (hrest : s.atRest = true) : s.completes (.spinUp tag) fun t =>
      t.queue = [⟨tag, .spinUp, true⟩] ∧ t.ccu.state = .latched ∧
      (s.ccu.state = .seated → t.ccu.latch = true) ∧ t.spc.state = .starting ∧ t.drive = true ∧
      t.spc.demand = .none ∧ t.spc.revTimer = 0 ∧ t.spc.lastPeriod = 0 ∧ t.spc.lockCount = 0 ∧
      t.spc.firstIndexWatch = some ⟨0, 2000000⟩ ∧
      t.spc.spinUpTimer = some ⟨0, s.tbs.params.spinUpTimeout * 1000000⟩ ∧
      t.spc.revCount = s.spc.revCount ∧ t.pos.state = .unloaded ∧
      t.dbi.replies = s.dbi.replies ++ [.reply tag .queued .empty] ∧ t.slots = s.slots ∧
      t.record = s.record ∧ t.tbs = s.tbs ∧ t.fsv = s.fsv := by
  have hexec := exec_spinUp hs htag
  rw [enqueue_of_calm h (admitted_free h (.inl rfl) (by rcases hcart with hc | hc <;> simp [hc])),
    spinUp_starts h tag hrest hcart hl hw] at hexec
  have hunloaded : s.pos.state = .unloaded := by
    simp only [State.atRest, Bool.and_eq_true, beq_iff_eq] at hrest
    exact hrest.2
  exact ⟨_, hexec, rfl, rfl, fun hc => if_pos hc, rfl, rfl, rfl, rfl, rfl, rfl, rfl, rfl, rfl, hunloaded, rfl, rfl, rfl, rfl,
    rfl⟩

theorem flush_completes {s : State} {tag : Byte} {img : Image} (hs : s.listens = true) (h : s.Calm) (htag : tag ≠ 0)
    (hready : s.readyDrive = true) (hdirty : s.needsWriteBack = true) (himg : s.record.image = some img)
    (hhold : s.pos.hold = false) (hd : 1 < s.tbs.actions.actuatorSaturation.deglitch) (hclamp : s.pos.clampCount = 0) :
    let next := { img with generation := (img.generation + 1) % 65536 }
    s.completes (.flushRecord tag) fun t =>
      t.queue = [⟨tag, .flush, true⟩] ∧ t.job = .flush ∧
      (∃ w, t.record.op = .writing w ∧ w.owner = .cmd ∧ w.generation = next.generation ∧
        w.sectors = sectorsOf 22 (recordBytes next) ∧ w.next = 0 ∧ w.deferrals = 0) ∧
      t.record.state = .dirty ∧ t.record.image = some img ∧ t.pos.target = some 0 ∧
      t.pos.head = 0 ∧ t.dbi.replies = s.dbi.replies ++ [.reply tag .queued .empty] ∧
      t.spc = s.spc ∧ t.ccu = s.ccu ∧ t.tbs = s.tbs ∧ t.counters = s.counters := by
  have hcart : s.ccu.state = .latched := by
    simp only [State.readyDrive, Bool.and_eq_true, beq_iff_eq] at hready
    obtain ⟨⟨⟨-, hcc⟩, -⟩, -⟩ := hready
    exact hcc
  have hst : s.record.state = .dirty := by
    simp only [State.needsWriteBack, Bool.and_eq_true, beq_iff_eq] at hdirty
    exact hdirty.1
  obtain ⟨x, r, j, t, hxs, hxt, hxh, honly, hsettle⟩ := flush_begins h tag hready hdirty himg hhold hd hclamp
  have hexec := exec_flushRecord hs htag
  rw [enqueue_of_calm h (admitted_free h (.inr (.inr rfl)) (.inl hcart)), hsettle] at hexec
  obtain ⟨hdbi, hqueue, hjob, -, -, htbs, hrecord, -⟩ := keepsHost_of_hostSide hxs.heads.hostSide
  obtain ⟨hspc, hccu, hcount⟩ : x.spc = s.spc ∧ x.ccu = s.ccu ∧ x.counters = s.counters :=
    ⟨hxs.heads.spc, hxs.heads.ccu, hxs.heads.counters⟩
  refine ⟨t, hexec, ?_⟩
  rw [honly, hrecord]
  refine ⟨hqueue, hjob, ⟨_, rfl, rfl, rfl, rfl, rfl, rfl⟩, hst, himg, hxt, hxh, ?_, hspc, hccu, htbs, hcount⟩
  change x.dbi.replies = _
  rw [hdbi]
  rfl

/-- Settles O47: works that begin by the reactions to their admission, the servo samples on the way of the heads, and
the load that a work of SPIN UP waits for. -/
theorem worksBegin : Obligations.WorksBegin := by
  unfold Obligations.WorksBegin
  refine ⟨?_, fun s tag img hs hcalm htag hl hw => ?_, fun s c h target pes f hcalm hs hw hh hlow hhigh => ?_, ?_⟩
  · rintro s i tag k go l img b n rest hm hf hs hcalm hready hp hhold - himg hsound hbad hcap rfl hd hclamp
    exact transfer_completes hm hf hs (calm_iff.mp hcalm) hready hp hhold himg hsound hbad hcap hd hclamp
  · have h := calm_iff.mp hcalm
    exact ⟨spinUp_completes hs h htag hl hw,
      fun hready hdirty himg hhold => flush_completes hs h htag hready hdirty himg hhold⟩
  · have hc := calm_iff.mp hcalm
    exact ⟨firstSample_completes hc hs hw hh hlow hhigh,
      fun hp hhold ht _ hfar hclamp hd => overshoot_completes hc hs hw hh hp hhold ht hfar hclamp hd,
      lost_completes c h pes hc hs hw, clamped_completes hc hs hw hh⟩
  · intro s tag c h pes hcalm hwork hq hj hs hcart hl hlow hhigh hfree done waits
    obtain ⟨hclimb, hr⟩ := climbs_of_calm hcalm hwork hq hj hs hcart
    have hway : s.onItsWay tag := ⟨hclimb, hr, hl⟩
    exact ⟨fun hp _ hw hh hn => onItsWay_sample hway hp hw hh hlow hhigh hn, onItsWay_timeout hway,
      fun hp ht hw hh => onItsWay_arrives hway hfree hp ht hw hh hlow hhigh⟩

end Sys2Proof.Machine
end
